-- ==== Sys2Proof/Word.lean ====
section
/-!
DEFINITION. The words and keyed tables every other file is written over: bytes, key words and the sorted
association list that holds one entry per instance of a resource.
-/
namespace Sys2Proof

/-- One byte. -/
abbrev Byte := BitVec 8

/-- A table keyed by an instance number, its keys strictly rising; an instance that is not listed has the default of
its kind, so that a machine at reset lists nothing. -/
abbrev Table (α : Type) := List (Nat × α)

end Sys2Proof
end

