-- ==== Sys2Proof/Params.lean ====
section
/-!
DEFINITION. The operands of the block's commands: who issues one, the parameter blocks of the spec, and what an event
brings from outside the device (a reading, a received frame, the verdict of a comparison made on a signal). An
instance number is a `Fin` of the number of instances the spec gives (R3, Names); every other field is a number whose
range WellFormed.lean states.
-/
namespace Sys2Proof

/-! ## Who issues a command -/

/-- A PCI function: link A or B, and function 0 (the PF) or 1–63 (a VF), R45. -/
structure PciFn where
  linkB : Bool
  num : Fin 64
deriving DecidableEq, Repr, Inhabited

/-- Who issues a mailbox command: a PCI function on one of its rings, the fabric function of a sending address (R481),
or the Keep port's CMD (R584). -/
inductive Fn where
  | pci (f : PciFn)
  | fabric (addr : Fin 64)
  | keep
deriving DecidableEq, Repr, Inhabited

/-- The identity under which software matches completions (R75): issuer, ring and TAG. -/
structure CmdId where
  fn : Fn
  ring : Fin 64
  tag : Nat
deriving DecidableEq, Repr, Inhabited

/-- A command header's fields (R64). `reserved` says that some reserved field of the header or of the parameter block is not
zero (R8). -/
structure Caller where
  id : CmdId
  session : Nat
  fence : Bool
  notify : Bool
  indirect : Bool := false
  slots : Nat
  timeoutUs : Nat := 0
  paramAddr : Nat := 0
  paramLen : Nat := 0
  respLen : Nat
  respAddr : Nat := 0
  reserved : Bool := false
deriving DecidableEq, Repr, Inhabited

/-- Length of the parameter block: PARAM_SLOTS × 64, or PARAM_LEN when INDIRECT is set (R65). -/
def Caller.blockLen (h : Caller) : Nat := if h.indirect then h.paramLen else h.slots * 64

/-- Slots of the command ring that follow the header (R58, R65). -/
def Caller.inlineSlots (h : Caller) : Nat := if h.indirect then 0 else h.slots

/-- A maintenance activity of R533 by its number, and the instance that is its scope: a channel, a lane position, a
tree, a line engine, a cupola. -/
structure Activity where
  kind : Nat
  scope : Nat
deriving DecidableEq, Repr, Inhabited

/-- What host memory tells the device of a command beside its 64 header bytes: the maintenance activity that its block names
(R533), that no later command in the batch's slots starts one (R76), that a reserved field of its block is not zero (R8). -/
structure BlockFacts where
  activity : Option Activity
  lastMaint : Bool
  reserved : Bool := false
deriving DecidableEq, Repr, Inhabited

/-- A command as fetched: its opcode, which may be undefined in stepping C0, and its header. -/
structure FetchHeader where
  opcode : Nat
  activity : Option Activity
  lastMaint : Bool
  caller : Caller
deriving DecidableEq, Repr, Inhabited

/-! ## Parameter blocks, by range -/

/-- DEVICE_RESET and the reset half of FW_ACTIVATE (R97). -/
structure ResetP where
  cls : Nat
  force : Bool
  delayUs : Nat
deriving DecidableEq, Repr, Inhabited

/-- A range of resource indices (R110). -/
structure RangeP where
  kind : Fin 8
  first : Nat
  count : Nat
deriving DecidableEq, Repr, Inhabited

/-- RING_CREATE (R80). -/
structure RingP where
  ring : Fin 64
  evq : Fin 256
  sqLog2 : Nat
  cqLog2 : Nat
  sqBase : Nat
  cqBase : Nat
deriving DecidableEq, Repr, Inhabited

/-- CUPOLA_FLOOR_SET (R540); floor 1 Gated, 2 Retained, 3 Off. -/
structure FloorP where
  cupola : Fin 112
  floor : Nat
  report : Bool
  hystGated : Nat
  hystRetained : Nat
  hystOff : Nat
deriving DecidableEq, Repr, Inhabited

/-- TREE_CONFIGURE (R140). -/
structure TreeP where
  tree : Fin 64
  mode : Fin 3
  upRate : Nat
  timeBase : Fin 8
  teqdNs : Nat
  ponId : Nat
  minReach : Nat
  maxReach : Nat
  groupIndex : Nat
  idleEnter : Nat
  discPeriodMs : Nat
  driftLimit : Nat
  rangeAttempts : Nat
deriving DecidableEq, Repr, Inhabited

/-- BURST_PROFILE_SET (R142), fields as given. -/
structure ProfileP where
  fec : Bool
  rssiMode : Nat
  guard : Nat
  preambleLen : Nat
  preamblePattern : Nat
  delimiter : Nat
  delimWindow : Nat
  minRelock : Nat
  rssiOffsetNs : Nat
  rssiWidthNs : Nat
  relockDb : Nat
deriving DecidableEq, Repr, Inhabited

/-- TERMINAL_ADMIT (R160). -/
structure AdmitP where
  tree : Fin 64
  profile : Fin 4
  terminal : Fin 512
  domain : Fin 4096
  serial : Nat
  autoRange : Bool
  regCheck : Bool
  regId : Nat
deriving DecidableEq, Repr, Inhabited

/-- ALLOC_CONFIGURE (R175). -/
structure AllocP where
  tree : Fin 64
  cls : Fin 4
  terminal : Fin 512
  ctx : Fin 65536
  allocId : Nat
  fixed : Nat
  assured : Nat
  nonAssured : Nat
  maximum : Nat
  beWeight : Nat
  report : Bool
  coop : Bool
  grantsPerFrame : Nat
deriving DecidableEq, Repr, Inhabited

/-- PORT_CONFIGURE (R180). -/
structure PortCtxP where
  tree : Fin 64
  down : Bool
  up : Bool
  encrypt : Bool
  terminal : Fin 512
  ctx : Fin 131072
  portId : Nat
  downQueue : Fin 65536
deriving DecidableEq, Repr, Inhabited

/-- COOP_INPUT_CONFIGURE (R195). -/
structure CoopP where
  enable : Bool
  etherType : Nat
  laneMask : Nat
deriving DecidableEq, Repr, Inhabited

/-- LINE_CONFIGURE (R241). -/
structure LineP where
  line : Fin 4
  mode : Fin 2
  modulation : Nat
  entropyX20 : Nat
  rate : Nat
  rolloff : Nat
  txPower : Int
  slotN : Int
  slotM : Nat
  mimoTaps : Nat
  maskMute : Bool
  cdHintValid : Bool
  predistEnable : Bool
  cdHint : Int
  cdWindow : Nat
  sdThreshold : Nat
deriving DecidableEq, Repr, Inhabited

/-- What a line engine's decoders have counted (R243). -/
structure LineCounts where
  bits : Nat := 0
  preFecErrors : Nat := 0
  bchFailed : Nat := 0
  ldpcFailed : Nat := 0
  bchCorrected : Nat := 0
deriving DecidableEq, Repr, Inhabited

/-- What a line engine's receiver measures, in the units of R243. -/
structure LineReadings where
  snrX : Nat := 0
  snrY : Nat := 0
  osnr : Nat := 0
  freqOffset : Int := 0
  cd : Int := 0
  dgd : Nat := 0
  sopRate : Nat := 0
  rxPower : Int := 0
  avgIter8 : Nat := 0
deriving DecidableEq, Repr, Inhabited

/-- LINE_ADJUST (R240). -/
structure AdjustP where
  line : Fin 4
  txPower : Int
  sdThreshold : Nat
  maskMute : Bool
deriving DecidableEq, Repr, Inhabited

/-- FRAMER_CONFIGURE (R272). -/
structure FramerP where
  line : Fin 4
  rate : Nat
  nConfirm : Nat
  mLoss : Nat
  mfConfirm : Nat
  mfLoss : Nat
  timSm : Fin 4
  timPm : Fin 4
  lineTiming : Bool
  actionDisable : Nat
  sealedLayout : Bool
  dmNoReflect : Bool
deriving DecidableEq, Repr, Inhabited

/-- TTI_SET (R272): layer SM (false) or PM (true), field transmitted (false) or expected (true), 64 bytes. -/
structure TtiP where
  line : Fin 4
  pm : Bool
  expected : Bool
  tti : List Byte
deriving DecidableEq, Repr, Inhabited

/-- LINE_SEAL_CONFIGURE (R305). -/
structure SealP where
  line : Fin 4
  enable : Bool
  early : Bool
  domain : Fin 4096
deriving DecidableEq, Repr, Inhabited

/-- MACSEC_CONFIGURE (R305). -/
structure MacsecP where
  lane : Fin 48
  enable : Bool
  confidentiality : Bool
  replayProtect : Bool
  includeSci : Bool
  domain : Fin 4096
  sci : Nat
  peerSci : Nat
  replayWindow : Nat
deriving DecidableEq, Repr, Inhabited

/-- PORT_PIPELINE_SET (R349); no pipeline is 0xFF. -/
structure PortPipeP where
  port : Nat
  pipeline : Option (Fin 8)
  remapPriority : Fin 4
deriving DecidableEq, Repr, Inhabited

/-- DOMAIN_CONFIGURE (R349). -/
structure DomainP where
  domain : Fin 4096
  learn : Bool
  floodUnknown : Bool
  floodMulticast : Bool
  flood : List (Fin 65536)
deriving DecidableEq, Repr, Inhabited

/-- TABLE_WRITE, TABLE_READ and TABLE_DELETE (R349): tables 0–7 learn, 8 service, 9 every learn table. -/
structure TableP where
  table : Fin 10
  key : BitVec 128
  data : BitVec 128
deriving DecidableEq, Repr, Inhabited

/-- LEARN_CONFIGURE (R349). -/
structure LearnP where
  ageScanMs : Nat
  ageLimit : Nat
  random : Bool
  moveHoldMs : Nat
deriving DecidableEq, Repr, Inhabited

/-- QUEUE_CONFIGURE (R339). -/
structure QueueP where
  queue : Fin 65536
  domain : Fin 4096
  targetKind : Fin 4
  priority : Fin 8
  weight : Nat
  target : Nat
  group : Option (Fin 8192)
  peakKbps : Nat
  burstBytes : Nat
  spillThreshold : Nat
  maxDepth : Nat
deriving DecidableEq, Repr, Inhabited

/-- SCHED_GROUP_CONFIGURE (R349). -/
structure GroupP where
  group : Fin 8192
  port : Nat
  weight : Nat
  peakKbps : Nat
  burstBytes : Nat
deriving DecidableEq, Repr, Inhabited

/-- POOL_CONFIGURE (R373), fields as given. -/
structure PoolP where
  pool : Fin 16
  enable : Bool
  spillUp : Bool
  bpHold : Nat
  baseKib : Nat
  sizeKib : Nat
  early : Nat
  late : Nat
  critical : Nat
  hysteresis : Nat
deriving DecidableEq, Repr, Inhabited

/-- TIME_BASE_CONFIGURE (R416). -/
structure TimeBaseP where
  tb : Fin 8
  inputKind : Fin 5
  inputIndex : Fin 4
  firstStepGuard : Bool
  fabricTb : Bool
  checkEnable : Bool
  stepGuardNs : Nat
  lockNs : Nat
  bandwidth : Nat
  holdoverPpb : Nat
  checkPps : Option (Fin 4)
  checkPpsNs : Nat
  utcOffset : Int
  maxSlewPpb : Nat
  slewLimitNs : Nat
deriving DecidableEq, Repr, Inhabited

/-- TIME_SET (R416); at a PPS input's next edge, or at once. -/
structure TimeSetP where
  tb : Fin 8
  atPps : Option (Fin 4)
  seconds : Nat
  ns : Nat
  frac : Nat
deriving DecidableEq, Repr, Inhabited

/-- TIME_STEP_AUTHORISE (R416). -/
structure StepAuthP where
  tb : Fin 8
  stepSeq : Nat
  expected : Int
  toleranceNs : Nat
deriving DecidableEq, Repr, Inhabited

/-- PPS_INPUT_CONFIGURE (R416). -/
structure PpsP where
  input : Fin 4
  tb : Fin 8
  enable : Bool
  falling : Bool
  inDelay : Int
deriving DecidableEq, Repr, Inhabited

/-- PULSE_OUTPUT_CONFIGURE (R416); mode 0 off, 1 one-shot, 2 periodic. -/
structure PulseP where
  output : Fin 8
  tb : Fin 8
  mode : Fin 3
  activeLow : Bool
  outDelay : Int
  startSec : Nat
  startNs : Nat
  widthNs : Nat
  periodNs : Nat
deriving DecidableEq, Repr, Inhabited

/-- PTP_CLOCK_CONFIGURE (R416). -/
structure PtpClockP where
  clock : Fin 8
  tb : Fin 8
  domainNumber : Nat
  enable : Bool
  priority2 : Nat
  localPriority : Nat
  clockIdentity : Nat
deriving DecidableEq, Repr, Inhabited

/-- PTP_PORT_CONFIGURE (R416). -/
structure PtpPortP where
  clock : Fin 8
  enable : Bool
  masterOnly : Bool
  nonForwardable : Bool
  port : Nat
  tributary : Fin 32
  localPriority : Nat
  delayAsymmetry : Int
deriving DecidableEq, Repr, Inhabited

/-- TREE_TOD_CONFIGURE (R416). -/
structure TodP where
  tree : Fin 64
  enable : Bool
  periodS : Nat
  asymPpb : Int
  driftNs : Nat
deriving DecidableEq, Repr, Inhabited

/-- WITNESS_CONFIGURE (R416). -/
structure WitnessP where
  line : Fin 4
  enable : Bool
  thresholdNs : Nat
  holdS : Nat
deriving DecidableEq, Repr, Inhabited

/-- PROT_GROUP_CONFIGURE (R446). -/
structure ProtP where
  tree : Fin 64
  secondary : Bool
  group : Fin 4096
  peer : Fin 64
  arbiter : Fin 64
  revertive : Bool
  hbTimeoutUs : Nat
  wtrS : Nat
  staleLimit : Nat
  feederDelta : Int
deriving DecidableEq, Repr, Inhabited

/-- LEASE_ARBITER_CONFIGURE (R445). -/
structure ArbiterP where
  group : Fin 4096
  serve : Bool
  hostMode : Bool
  armedPrimary : Bool
  armedSecondary : Bool
  primary : Fin 64
  secondary : Fin 64
deriving DecidableEq, Repr, Inhabited

/-- LANE_GROUP_CONFIGURE (R482). -/
structure LaneGroupP where
  group : Fin 6
  mode : Fin 3
  reach : Fin 2
  fomFloor : Nat
  fomRetrain : Nat
  retryCount : Nat
  cost : Nat
deriving DecidableEq, Repr, Inhabited

/-- CLIENT_PORT_CONFIGURE (R482), with the outcome of its lanes' training. -/
structure ClientP where
  lane : Fin 48
  width : Nat
  phy : Fin 3
  enable : Bool
  trained : Bool
deriving DecidableEq, Repr, Inhabited

/-- FABRIC_LINK_ENABLE (R482). -/
structure LinkP where
  port : Nat
  enable : Bool
  delayAsym : Int
deriving DecidableEq, Repr, Inhabited

/-- FABRIC_DEST_BIND (R482). -/
structure BindP where
  queue : Fin 65536
  domain : Fin 4096
  dest : Fin 64
  unbind : Bool
deriving DecidableEq, Repr, Inhabited

/-- FABRIC_FORWARD (R481): the target and the 64 header bytes of the inner command; `remoteQueue` is the queue of this device
that an inner EVENT_ROUTE_SET with REMOTE names (R560). -/
structure ForwardP where
  address : Fin 64
  inner : List Byte
  remoteQueue : Option (Fin 256)
deriving DecidableEq, Repr, Inhabited

/-- MEM_CONFIGURE (R512). -/
structure MemCfgP where
  hotC : Nat
  rhSample : Nat
  rhLimit : Nat
  scrubHours : Nat
deriving DecidableEq, Repr, Inhabited

/-- DMA_CHANNEL_CONFIGURE (R512). -/
structure DmaP where
  channel : Fin 64
  log2 : Nat
  priority : Fin 8
  evq : Fin 256
  ringBase : Nat
deriving DecidableEq, Repr, Inhabited

/-- MEM_WINDOW_SET (R512). -/
structure WindowP where
  fn : PciFn
  window : Fin 4
  base : Nat
  size : Nat
deriving DecidableEq, Repr, Inhabited

/-- A DMA descriptor (R508). -/
structure Descriptor where
  fill : Bool
  srcHost : Bool
  dstHost : Bool
  notify : Bool
  fence : Bool
  length : Nat
  src : Nat
  dst : Nat
  tag : Nat
deriving DecidableEq, Repr, Inhabited

/-- EVENT_ROUTE_SET (R562). -/
structure RouteP where
  source : Fin 4096
  queue : Fin 256
  valid : Bool
  masked : Bool
  coalesce : Bool
  remote : Bool
  address : Fin 64
  remoteQueue : Fin 256
deriving DecidableEq, Repr, Inhabited

/-- EVENT_QUEUE_CREATE (R80). -/
structure EvqP where
  queue : Fin 256
  log2 : Nat
  vector : Nat
  armed : Bool
  base : Nat
deriving DecidableEq, Repr, Inhabited

/-- COUNTER_CONFIGURE (R562). -/
structure CounterP where
  counter : Fin 2048
  event : Nat
  inst : Nat
  domain : Nat
  chain : Bool
  clear : Bool
deriving DecidableEq, Repr, Inhabited

/-- METER_CONFIGURE (R562). -/
structure MeterP where
  meter : Fin 256
  egress : Bool
  port : Nat
  windowUs : Nat
  enable : Bool
deriving DecidableEq, Repr, Inhabited

/-! ## What events carry -/

/-- A bank of the flash: the bytes of its directory record (R569) and those at its offset. -/
structure FlashBank where
  directory : List Byte
  image : List Byte
deriving DecidableEq, Repr, Inhabited

/-- What POWER_ON finds: straps, split ball, flash contents and fuses (R569, R574, R596). -/
structure PowerOnFacts where
  addrStrap : Fin 32
  pcieSplit : Bool
  flashAnswers : Bool
  bankA : FlashBank
  bankB : FlashBank
  refclk156 : Bool
  keyHashes : List Nat
  revoked : List Nat
  set1Only : Bool
  fusedMinimum : Nat
deriving DecidableEq, Repr, Inhabited

/-- A granted window as its receiver opens it (R139, R145). -/
structure WindowFacts where
  terminal : Fin 512
  ranging : Bool
deriving DecidableEq, Repr, Inhabited

/-- What a granted window's end shows (R150, R153, R157, R170); `content` the bytes of framing-sublayer content received in each
allocation's grant (R183). -/
structure WindowEndFacts where
  signalSeen : Bool
  cwTotal : Nat
  cwCorrected : Nat
  cwFailed : Nat
  stepAfter : Option Int
  failedAfterStep : Bool
  rxFault : Bool := false
  content : List (Fin 65536 × Nat) := []
deriving DecidableEq, Repr, Inhabited

/-- An upstream XGEM frame as received in a granted window (R198). `keyIndex` 0 is a frame in clear; `first` marks the
first frame of its burst; `bufPtr` is the buffer that its pipeline's burst receive holds it in. -/
structure XgemFrame where
  first : Bool
  ctx : Fin 65536
  grantTerminal : Fin 512
  portId : Nat
  length : Nat
  vlan : Nat
  dst : BitVec 48
  src : BitVec 48
  keyIndex : Nat
  bufPtr : Nat
  compareOk : Bool
deriving DecidableEq, Repr, Inhabited

/-- One entry of a cooperative announcement (R196). -/
structure CoopEntry where
  ctx : Fin 65536
  target : Nat
  bytes : Nat
deriving DecidableEq, Repr, Inhabited

/-- A cooperative announcement frame as received on a port (R196): its VLAN on a client port, the tag it carries on a fabric
port, its payload after the EtherType. -/
structure CoopFrame where
  etherType : Nat
  port : Nat
  vlan : Nat
  tag : BitVec 14
  payload : List Byte
deriving DecidableEq, Repr, Inhabited

/-- A packet at an ingress measuring point (R318). `tributary` for a line port,
`tag`, `flooded` and `srcAddr` for a fabric link, `vlan` 0xFFF for an untagged packet. `ingressOk` that FCS,
FEC and seal hold to its end, `stagingFull` that its pipeline's spill staging is full (R345), `parity` the entries (service
table or learn table, index) whose parity check fails at its lookups (R326), `bufPtr` the buffer that holds it. -/
structure PacketIn where
  port : Nat
  tributary : Nat
  vlan : Nat
  dst : BitVec 48
  src : BitVec 48
  length : Nat
  tag : BitVec 14
  flooded : Bool
  srcAddr : Fin 64
  ingressOk : Bool
  stagingFull : Bool
  parity : List (Bool × Nat)
  bufPtr : Nat
deriving DecidableEq, Repr, Inhabited

/-- Seal control message of R290 as received. -/
structure SealMsg where
  isSealed : Bool
  nextHalf : Bool
  txFault : Bool
  keyNumber : Nat
  seq : Nat
deriving DecidableEq, Repr, Inhabited

/-- A received MACsec frame (R298, R299): its association number and 64-bit packet number, the bytes that are authenticated
only, the secure data, and the integrity check value. -/
structure MacsecFrame where
  lane : Fin 48
  an : Fin 4
  pn : Nat
  aad : List Byte
  data : List Byte
  icv : List Byte
  compareOk : Bool
deriving DecidableEq, Repr, Inhabited

/-- A witness message of R406 whose CRC passes. -/
structure WitnessMsg where
  version : Nat
  txValid : Bool
  rxValid : Bool
  tbStepped : Bool
  mfSeq : Nat
  txStamp : Int
  rxMfSeq : Nat
  uncertaintyNs : Nat
  deviation : Int
deriving DecidableEq, Repr, Inhabited

/-- What the receive framer sees at one frame position (R250–R263): `failedWords` the uncorrectable outer codewords with bits in
the frame (R228), BIP errors and BEI by slice, `jc` JC1–JC6, `msi` the MSI of the multiframe that the frame ends, `statAis` the
tributaries whose ODUflex STAT is 0b111. -/
structure FrameFacts where
  position : Nat
  correct : Bool
  failedWords : Nat
  mfas : Nat
  smBip : List Nat
  pmBip : List Nat
  smBei : List Nat
  pmBei : List Nat
  smBdi : Bool
  pmBdi : Bool
  smIae : Bool
  pmStat : Nat
  dmp : Bool
  smByte : Byte
  pmByte : Byte
  jc : List Byte
  msi : List Byte
  statAis : List Nat
deriving DecidableEq, Repr, Inhabited

/-- A fabric lease message of R423. -/
structure LeaseMsg where
  crcOk : Bool
  version : Nat
  kind : Nat
  group : Fin 4096
  sender : Fin 64
  target : Fin 64
  healthy : Bool
  imageCurrent : Bool
  seq : Nat
  epoch : Nat
  superframe : Nat
deriving DecidableEq, Repr, Inhabited

/-- A piece of a Marl image in a fabric frame of kind 2 (R464, R480). -/
structure MarlPiece where
  group : Fin 4096
  partB : Bool
  slot : Fin 4
  superframe : Nat
  pieceOffset : Nat
  bytes : List Byte
deriving DecidableEq, Repr, Inhabited

/-- A key blob of R436: its fields, and its 64 bytes. -/
structure KeyBlob where
  slot : Nat
  half : Bool
  keyNumber : Nat
  state : Nat
  count : Nat
  bytes : List Byte
deriving DecidableEq, Repr, Inhabited

/-- A terminal entry of part B (R435). -/
structure MarlTerminal where
  terminal : Fin 512
  state : Fin 7
  profile : Fin 4
  rtd : Option Nat
  eqd : Int
  driftSum : Int
  driftCount : Nat
  collisions : List Nat
deriving DecidableEq, Repr, Inhabited

/-- An allocation entry of part B (R435). -/
structure MarlAlloc where
  ctx : Fin 65536
  demand : Nat
  remFixed : Nat
  remAssured : Nat
  remNon : Nat
  remMax : Nat
  carry : Nat
  lastPoll : Option Nat
deriving DecidableEq, Repr, Inhabited

/-- A configuration section of part B (R435): parameter blocks as last committed by the holder. -/
structure MarlConfig where
  tree : TreeP
  profiles : List (Nat × ProfileP)
  admits : List AdmitP
  allocs : List AllocP
  ports : List PortCtxP
deriving DecidableEq, Repr, Inhabited

/-- What part B of a Marl image holds (R435). -/
structure MarlPart where
  terminals : List MarlTerminal
  allocs : List MarlAlloc
  config : Option MarlConfig
  blobs : List KeyBlob
deriving DecidableEq, Repr, Inhabited

/-- What this end's receiver has come to as a training frame is received (R454, R455): `fom` its figure of merit, `ownReady`
that it has finished, `want` the request (tap, action, preset) that it would send next. -/
structure TrainingFacts where
  ownReady : Bool
  want : Option (Nat × Nat × Nat)
  fom : Nat
deriving DecidableEq, Repr, Inhabited

/-- A forwarded command's completion as a management frame of SUB 1 brings it back (R481). -/
structure MgmtReply where
  status : Nat
  final : Bool
  detail : Nat
  result : Nat
  resp : List Byte
deriving DecidableEq, Repr, Inhabited

/-- A fabric frame's header (R464). -/
structure FabricHeader where
  control : Bool
  kind : Fin 8
  src : Fin 64
  dst : Fin 64
  hops : Fin 64
  flooded : Bool
  tag : BitVec 14
  flowHash : Nat
  length : Nat
  priority : Nat := 0
  kindFields : List Byte := []
deriving DecidableEq, Repr, Inhabited

/-- A hello payload (R469). -/
structure HelloMsg where
  version : Nat
  addressValid : Bool
  twoWay : Bool
  bidirectional : Bool
  strap : Fin 32
  address : Fin 64
  port : Nat
  neighbourPort : Nat
  serial : Nat
  neighbourSerial : Nat
  lsrSeq : Nat
deriving DecidableEq, Repr, Inhabited

/-- One entry of a link-state record (R470). -/
structure LsEntry where
  localPort : Nat
  neighbour : Nat
  cost : Nat
  bidirectional : Bool
deriving DecidableEq, Repr, Inhabited

/-- A link-state record (R470). -/
structure LsRecord where
  serial : Nat
  seq : Nat
  addressValid : Bool
  timeCandidate : Bool
  strap : Fin 32
  address : Fin 64
  timeState : Nat
  timePriority : Nat
  entries : List LsEntry
deriving DecidableEq, Repr, Inhabited

/-- One destination's entry of the route table of R472. -/
structure Route where
  dest : Fin 64
  hops : Nat
  cost : Nat
  nextHops : List Nat
  backup : Option Nat
deriving DecidableEq, Repr, Inhabited

/-- A TIME flit (R477), its stamps in units of 2⁻¹⁶ ns. -/
structure TimeFlit where
  seq : Nat
  rxSeq : Nat
  source : Nat
  sourceValid : Bool
  steps : Nat
  flags : Nat
  txStamp : Nat
  rxStamp : Nat
deriving DecidableEq, Repr, Inhabited

/-- A PTP frame received on a port (R400): what firmware measures from it, and the IEEE 1588 state that the alternate
BMCA of G.8275.1 gives the receiving port. -/
structure PtpFrame where
  port : Nat
  tributary : Nat
  domainNumber : Nat
  kind : Fin 16
  portState : Fin 10
  seq : Nat
  twoStep : Bool
  stamp : Nat
  correction : Int
  parent : Nat
  stepsRemoved : Nat
  clockClass : Nat
deriving DecidableEq, Repr, Inhabited

/-- The DQ signals that are wrong in an access, and the beats in which they are (R491). -/
abbrev DqFlips := List (Fin 24 × Fin 24)

/-- Who reads board memory, and so may read poisoned data (R494); BAR2 and the DMA channels read by commands of their own. -/
inductive MemConsumer where
  | spill (queue : Fin 65536)
  | overflow (pipeline : Fin 8) (entry : Nat)
  | savedState (tree : Fin 64)
  | firmware (core : Fin 12)
  | other
deriving DecidableEq, Repr, Inhabited

/-- A BAR0 function-window access (R51). -/
structure BarAccess where
  fn : PciFn
  offset : Nat
  value : Nat
  bar4 : Bool := false
deriving DecidableEq, Repr, Inhabited

end Sys2Proof
end

