-- ==== Sys2Proof/Syntax.lean ====
section
/-!
DEFINITION. The block's commands: one constructor of `Instr` per row of spec/opcode_table.json, named after its
mnemonic. A row that is a mailbox command carries its `Caller` (R64) beside its parameter block.
-/
namespace Sys2Proof

/-- The commands. The rule beside a constructor is its row's. -/
inductive Instr where
  -- Range 0x00: device and sessions
  /-- NOP, R93. -/
  | nop (h : Caller)
  /-- DEVICE_IDENTIFY, R95. -/
  | deviceIdentify (h : Caller)
  /-- CAPABILITY_QUERY, R96. -/
  | capabilityQuery (h : Caller) (page : Nat)
  /-- DEVICE_RESET, R100. -/
  | deviceReset (h : Caller) (p : ResetP)
  /-- SESSION_OPEN, R103. -/
  | sessionOpen (h : Caller) (keepaliveMs sessionLabel : Nat)
  /-- SESSION_CLOSE, R106. -/
  | sessionClose (h : Caller) (handle : Nat) (quiesce : Bool)
  /-- COMMAND_ABORT, R124. -/
  | commandAbort (h : Caller) (ring : Fin 64) (tag : Nat)
  /-- RESOURCE_CLAIM, R111. -/
  | resourceClaim (h : Caller) (p : RangeP)
  /-- RESOURCE_RELEASE, R114. -/
  | resourceRelease (h : Caller) (p : RangeP) (quiesce : Bool)
  /-- RESOURCE_ASSIGN, R115. -/
  | resourceAssign (h : Caller) (p : RangeP) (vf : Fin 64)
  /-- RESOURCE_QUERY, R117. -/
  | resourceQuery (h : Caller) (p : RangeP)
  /-- RING_CREATE, R80. -/
  | ringCreate (h : Caller) (p : RingP)
  /-- RING_DESTROY, R80. -/
  | ringDestroy (h : Caller) (ring : Fin 64)
  -- Range 0x01: power
  /-- CUPOLA_VOTE, R516. -/
  | cupolaVote (h : Caller) (cupola : Fin 112) (level : Fin 4)
  /-- CUPOLA_STATUS, R540. -/
  | cupolaStatus (h : Caller) (cupola : Fin 112)
  /-- PERF_LEVEL_SET, R527. -/
  | perfLevelSet (h : Caller) (level : Fin 4)
  /-- CUPOLA_FLOOR_SET, R519. -/
  | cupolaFloorSet (h : Caller) (p : FloorP)
  /-- CUPOLA_RESTORE, R524. -/
  | cupolaRestore (h : Caller) (cupola : Fin 112)
  /-- KEEP_ONLY_ENTER, R528. -/
  | keepOnlyEnter (h : Caller) (wakeMask : BitVec 8) (alarmTicks : Nat)
  /-- MAINT_STATUS, R540. -/
  | maintStatus (h : Caller)
  /-- SAFETY_STATUS, R540. -/
  | safetyStatus (h : Caller)
  /-- SAFETY_SELF_TEST, R538. -/
  | safetySelfTest (h : Caller) (tests : BitVec 4)
  -- Ranges 0x02 and 0x03: tree ports, terminals
  /-- TREE_CONFIGURE, R140. -/
  | treeConfigure (h : Caller) (p : TreeP)
  /-- TREE_ENABLE, R143. -/
  | treeEnable (h : Caller) (tree : Fin 64)
  /-- TREE_DISABLE, R143. -/
  | treeDisable (h : Caller) (tree : Fin 64)
  /-- BURST_PROFILE_SET, R142. -/
  | burstProfileSet (h : Caller) (tree : Fin 64) (profile : Fin 4) (p : ProfileP)
  /-- TREE_STATUS, R144. -/
  | treeStatus (h : Caller) (tree : Fin 64)
  /-- BURST_RECORD_READ, R143. -/
  | burstRecordRead (h : Caller) (tree : Fin 64) (exceptions : Bool) (count : Nat)
  /-- TERMINAL_ADMIT, R160. -/
  | terminalAdmit (h : Caller) (p : AdmitP)
  /-- TERMINAL_RANGE, R166. -/
  | terminalRange (h : Caller) (tree : Fin 64) (terminal : Fin 512)
  /-- TERMINAL_DISABLE, R168. -/
  | terminalDisable (h : Caller) (tree : Fin 64) (terminal : Fin 512) (reenable : Bool)
  /-- TERMINAL_REMOVE, R168. -/
  | terminalRemove (h : Caller) (tree : Fin 64) (terminal : Fin 512)
  /-- TERMINAL_STATUS, R169. -/
  | terminalStatus (h : Caller) (tree : Fin 64) (terminal : Fin 512)
  /-- ROGUE_PROBE, R168. -/
  | rogueProbe (h : Caller) (tree : Fin 64) (durationUs : Nat)
  /-- DISCOVERED_READ, R168. -/
  | discoveredRead (h : Caller) (tree : Fin 64)
  -- Range 0x04: grants
  /-- ALLOC_CONFIGURE, R177. -/
  | allocConfigure (h : Caller) (p : AllocP)
  /-- ALLOC_REMOVE, R182. -/
  | allocRemove (h : Caller) (tree : Fin 64) (ctx : Fin 65536)
  /-- PORT_CONFIGURE, R181. -/
  | portConfigure (h : Caller) (p : PortCtxP)
  /-- PORT_REMOVE, R182. -/
  | portRemove (h : Caller) (tree : Fin 64) (ctx : Fin 131072)
  /-- GRANT_POLICY_SET, R179. -/
  | grantPolicySet (h : Caller) (tree : Fin 64) (maxStructures guaranteedKbps : Nat)
  /-- ALLOC_STATUS, R183. -/
  | allocStatus (h : Caller) (tree : Fin 64) (ctx : Fin 65536)
  /-- COOP_INPUT_CONFIGURE, R195. -/
  | coopInputConfigure (h : Caller) (p : CoopP)
  -- Range 0x05: line DSP
  /-- LINE_CONFIGURE, R241. -/
  | lineConfigure (h : Caller) (p : LineP)
  /-- LINE_ENABLE, R240. -/
  | lineEnable (h : Caller) (line : Fin 4) (laserPower : Int)
  /-- LINE_DISABLE, R240. -/
  | lineDisable (h : Caller) (line : Fin 4)
  /-- LINE_STATUS, R242. -/
  | lineStatus (h : Caller) (line : Fin 4) (laserPower caseTemp : Int)
  /-- LINE_QUALITY, R243. -/
  | lineQuality (h : Caller) (line : Fin 4) (clear : Bool) (counts : LineCounts) (readings : LineReadings)
  /-- PREDISTORTION_LOAD, R244. -/
  | predistortionLoad (h : Caller) (line : Fin 4) (taps : List Int)
  /-- LINE_ADJUST, R240. -/
  | lineAdjust (h : Caller) (p : AdjustP)
  -- Range 0x06: line framing
  /-- FRAMER_CONFIGURE, R272. -/
  | framerConfigure (h : Caller) (p : FramerP)
  /-- TRIBUTARY_CONFIGURE, R264. -/
  | tributaryConfigure (h : Caller) (line : Fin 4) (trib : Fin 32) (tsMask : Nat)
  /-- TRIBUTARY_REMOVE, R264. -/
  | tributaryRemove (h : Caller) (line : Fin 4) (trib : Fin 32)
  /-- FRAMER_STATUS, R272. -/
  | framerStatus (h : Caller) (line : Fin 4)
  /-- TTI_SET, R272. -/
  | ttiSet (h : Caller) (p : TtiP)
  /-- DELAY_MEASURE, R271. -/
  | delayMeasure (h : Caller) (line : Fin 4)
  /-- TTI_READ, R272. -/
  | ttiRead (h : Caller) (line : Fin 4)
  -- Range 0x07: cipher
  /-- TREE_KEY_EXCHANGE, R281. -/
  | treeKeyExchange (h : Caller) (tree : Fin 64) (terminal : Fin 512)
  /-- LINE_SEAL_CONFIGURE, R297. -/
  | lineSealConfigure (h : Caller) (p : SealP)
  /-- MACSEC_CONFIGURE, R298. -/
  | macsecConfigure (h : Caller) (p : MacsecP)
  /-- KEY_SLOT_STATUS, R306. -/
  | keySlotStatus (h : Caller) (kind : Fin 3) (slot : Nat)
  /-- KEY_STORE_RESUME, R302. -/
  | keyStoreResume (h : Caller) (sources : BitVec 4)
  /-- SEAL_STATUS, R307. -/
  | sealStatus (h : Caller) (line : Fin 4)
  -- Range 0x08: packet engine
  /-- PORT_PIPELINE_SET, R311. -/
  | portPipelineSet (h : Caller) (p : PortPipeP)
  /-- PIPELINE_STATUS, R349. -/
  | pipelineStatus (h : Caller) (pipeline : Fin 8)
  /-- PIPELINE_RESTORE, R317. -/
  | pipelineRestore (h : Caller) (pipeline : Fin 8)
  /-- DOMAIN_CONFIGURE, R320. -/
  | domainConfigure (h : Caller) (p : DomainP)
  /-- TABLE_WRITE, R349. -/
  | tableWrite (h : Caller) (p : TableP)
  /-- TABLE_READ, R349. -/
  | tableRead (h : Caller) (p : TableP)
  /-- TABLE_DELETE, R349. -/
  | tableDelete (h : Caller) (p : TableP)
  /-- LEARN_CONFIGURE, R349. -/
  | learnConfigure (h : Caller) (p : LearnP)
  /-- QUEUE_CONFIGURE, R339. -/
  | queueConfigure (h : Caller) (p : QueueP)
  /-- QUEUE_STATUS, R349. -/
  | queueStatus (h : Caller) (queue : Fin 131072)
  /-- SCHED_GROUP_CONFIGURE, R340. -/
  | schedGroupConfigure (h : Caller) (p : GroupP)
  /-- TABLE_FLUSH, R349. -/
  | tableFlush (h : Caller) (domain : Fin 4096) (learnedOnly : Bool)
  -- Range 0x09: buffer pools
  /-- POOL_CONFIGURE, R373. -/
  | poolConfigure (h : Caller) (p : PoolP)
  /-- POOL_STATUS, R374. -/
  | poolStatus (h : Caller) (pool : Fin 16)
  /-- POOL_MAP_SET, R373. -/
  | poolMapSet (h : Caller) (requester : Nat) (c0 c1 c2 c3 : Fin 4)
  /-- POOL_REBUILD, R373. -/
  | poolRebuild (h : Caller) (pool : Fin 16)
  -- Range 0x0A: time
  /-- TIME_BASE_CONFIGURE, R416. -/
  | timeBaseConfigure (h : Caller) (p : TimeBaseP)
  /-- TIME_BASE_STATUS, R416. -/
  | timeBaseStatus (h : Caller) (tb : Fin 8)
  /-- TIME_SET, R416. -/
  | timeSet (h : Caller) (p : TimeSetP)
  /-- TIME_STEP_AUTHORISE, R392. -/
  | timeStepAuthorise (h : Caller) (p : StepAuthP)
  /-- PPS_INPUT_CONFIGURE, R395. -/
  | ppsInputConfigure (h : Caller) (p : PpsP)
  /-- PULSE_OUTPUT_CONFIGURE, R397. -/
  | pulseOutputConfigure (h : Caller) (p : PulseP)
  /-- PTP_CLOCK_CONFIGURE, R400. -/
  | ptpClockConfigure (h : Caller) (p : PtpClockP)
  /-- PTP_PORT_CONFIGURE, R400. -/
  | ptpPortConfigure (h : Caller) (p : PtpPortP)
  /-- PTP_STATUS, R416. -/
  | ptpStatus (h : Caller) (clock : Fin 8)
  /-- TREE_TOD_CONFIGURE, R404. -/
  | treeTodConfigure (h : Caller) (p : TodP)
  /-- WITNESS_CONFIGURE, R416. -/
  | witnessConfigure (h : Caller) (p : WitnessP)
  /-- WITNESS_STATUS, R416. -/
  | witnessStatus (h : Caller) (line : Fin 4)
  /-- WITNESS_APPLY, R411. -/
  | witnessApply (h : Caller) (line : Fin 4) (stepSeq : Nat) (rebase : Bool)
  /-- PORT_TIME_BASE_SET, R23. -/
  | portTimeBaseSet (h : Caller) (port : Nat) (tb : Fin 8)
  /-- TREE_TOD_STATUS, R416. -/
  | treeTodStatus (h : Caller) (tree : Fin 64) (terminal : Fin 512)
  -- Range 0x0B: protection
  /-- PROT_GROUP_CONFIGURE, R446. -/
  | protGroupConfigure (h : Caller) (p : ProtP)
  /-- PROT_ENABLE, R420. -/
  | protEnable (h : Caller) (tree : Fin 64)
  /-- PROT_DISABLE, R445. -/
  | protDisable (h : Caller) (tree : Fin 64) (force : Bool)
  /-- PROT_SWITCH, R441. -/
  | protSwitch (h : Caller) (tree : Fin 64)
  /-- PROT_STATUS, R447. -/
  | protStatus (h : Caller) (tree : Fin 64)
  /-- PROT_STANDBY_TEST, R444. -/
  | protStandbyTest (h : Caller) (tree : Fin 64) (durationUs : Nat)
  /-- PROT_PAIR, R582. -/
  | protPair (h : Caller) (tree : Fin 64) (message : List Byte)
  /-- LEASE_ARBITER_CONFIGURE, R429. -/
  | leaseArbiterConfigure (h : Caller) (p : ArbiterP)
  -- Range 0x0C: fabric and lanes
  /-- LANE_GROUP_CONFIGURE, R449. -/
  | laneGroupConfigure (h : Caller) (p : LaneGroupP)
  /-- CLIENT_PORT_CONFIGURE, R452. -/
  | clientPortConfigure (h : Caller) (p : ClientP)
  /-- FABRIC_LINK_ENABLE, R482. -/
  | fabricLinkEnable (h : Caller) (p : LinkP)
  /-- LANE_STATUS, R483. -/
  | laneStatus (h : Caller) (lane : Fin 48) (link : Fin 2)
  /-- LANE_RETRAIN, R460. -/
  | laneRetrain (h : Caller) (lane : Fin 48) (link : Fin 2)
  /-- EYE_SCAN, R458. -/
  | eyeScan (h : Caller) (lane : Fin 48) (link : Fin 2) (full : Bool) (dwellLog2 : Nat)
  /-- LOOPBACK_SET, R459. -/
  | loopbackSet (h : Caller) (lane : Fin 48) (loop : Fin 4)
  /-- FABRIC_CONFIGURE, R482. -/
  | fabricConfigure (h : Caller) (mgmtAllow : BitVec 64) (timePriority : Nat)
  /-- FABRIC_STATUS, R482. -/
  | fabricStatus (h : Caller)
  /-- FABRIC_ROUTE_READ, R482. -/
  | fabricRouteRead (h : Caller) (dest : Fin 64)
  /-- FABRIC_DEST_BIND, R476. -/
  | fabricDestBind (h : Caller) (p : BindP)
  /-- FABRIC_FORWARD, R481. -/
  | fabricForward (h : Caller) (p : ForwardP)
  -- Range 0x0D: memory, MMU, DMA
  /-- MEM_STATUS, R512. -/
  | memStatus (h : Caller) (channel : Fin 16)
  /-- MEM_PARTITION_SET, R490. -/
  | memPartitionSet (h : Caller) (spillGib : Nat)
  /-- MEM_TRAIN, R501. -/
  | memTrain (h : Caller) (channel : Fin 16) (full : Bool)
  /-- MEM_CONFIGURE, R512. -/
  | memConfigure (h : Caller) (p : MemCfgP)
  /-- MMU_CONTEXT_SET, R503. -/
  | mmuContextSet (h : Caller) (root : Nat)
  /-- DMA_CHANNEL_CONFIGURE, R508. -/
  | dmaChannelConfigure (h : Caller) (p : DmaP)
  /-- DMA_POST, R512. -/
  | dmaPost (h : Caller) (channel : Fin 64) (tail : Nat)
  /-- DMA_RESUME, R510. -/
  | dmaResume (h : Caller) (channel : Fin 64) (abandon : Bool)
  /-- DMA_STATUS, R512. -/
  | dmaStatus (h : Caller) (channel : Fin 64)
  /-- MEM_WINDOW_SET, R504. -/
  | memWindowSet (h : Caller) (p : WindowP)
  -- Range 0x0E: counters and events
  /-- EVENT_ROUTE_SET, R556. -/
  | eventRouteSet (h : Caller) (p : RouteP)
  /-- EVENT_QUEUE_CREATE, R80. -/
  | eventQueueCreate (h : Caller) (p : EvqP)
  /-- EVENT_QUEUE_DESTROY, R80. -/
  | eventQueueDestroy (h : Caller) (queue : Fin 256)
  /-- EVENT_QUEUE_ASSIGN, R80. -/
  | eventQueueAssign (h : Caller) (queue : Fin 256) (vf : Fin 64)
  /-- EVENT_COALESCE_SET, R559. -/
  | eventCoalesceSet (h : Caller) (queue : Fin 256) (count us : Nat)
  /-- EVENT_SOURCE_QUERY, R562. -/
  | eventSourceQuery (h : Caller) (source : Fin 4096)
  /-- COUNTER_CONFIGURE, R550. -/
  | counterConfigure (h : Caller) (p : CounterP)
  /-- COUNTER_READ, R562. -/
  | counterRead (h : Caller) (isMeter : Bool) (index : Fin 2048) (clear : Bool)
  /-- METER_CONFIGURE, R552. -/
  | meterConfigure (h : Caller) (p : MeterP)
  -- Range 0x0F: boot, attestation and maintenance
  /-- FW_UPDATE_BEGIN, R575. -/
  | fwUpdateBegin (h : Caller) (length : Nat)
  /-- FW_UPDATE_DATA, R575. -/
  | fwUpdateData (h : Caller) (offset : Nat) (data : List Byte)
  /-- FW_UPDATE_END, R577. -/
  | fwUpdateEnd (h : Caller)
  /-- FW_ACTIVATE, R577. -/
  | fwActivate (h : Caller) (cls : Nat) (force : Bool)
  /-- FW_CONFIRM, R576. -/
  | fwConfirm (h : Caller)
  /-- FW_SECURITY_COMMIT, R576. -/
  | fwSecurityCommit (h : Caller)
  /-- MEASUREMENT_LOG_READ, R578. -/
  | measurementLogRead (h : Caller) (first count : Nat)
  /-- ATTEST_QUOTE, R580. -/
  | attestQuote (h : Caller) (nonce : Nat)
  /-- IDENTITY_READ, R581. -/
  | identityRead (h : Caller)
  -- The Keep port
  /-- KEEP_PORT_STATUS, R584. -/
  | keepPortStatus
  /-- KEEP_PORT_WAKE, R584. -/
  | keepPortWake (pecOk : Bool)
  /-- KEEP_PORT_RESET, R584. -/
  | keepPortReset (pecOk : Bool) (data : BitVec 8)
  /-- KEEP_PORT_LEDGER, R584. -/
  | keepPortLedger
  /-- KEEP_PORT_IDENTITY, R584. -/
  | keepPortIdentity
  /-- KEEP_PORT_BOOT_SOURCE, R584. -/
  | keepPortBootSource (pecOk : Bool) (data : BitVec 8)
  /-- KEEP_PORT_CMD, R584. -/
  | keepPortCmd (pecOk : Bool) (header : List Byte) (facts : BlockFacts)
  /-- KEEP_PORT_RESULT, R584. -/
  | keepPortResult
  -- Direct registers
  /-- MBX_SQ_TAIL, R62. -/
  | mbxSqTail (fn : PciFn) (ring : Fin 64) (tail : Nat)
  /-- MBX_CQ_HEAD, R69. -/
  | mbxCqHead (fn : PciFn) (ring : Fin 64) (head : Nat)
  /-- ADMIN_RING_ENABLE, R61. -/
  | adminRingEnable (fn : PciFn) (sqLog2 cqLog2 : Nat) (evq : Fin 256)
  /-- ADMIN_RING_DISABLE, R61. -/
  | adminRingDisable (fn : PciFn) (sqLog2 cqLog2 : Nat) (evq : Fin 256)
  /-- EVQ_HEAD, R87. -/
  | evqHead (fn : PciFn) (queue : Fin 256) (head : Nat)
  /-- EVQ_ARM, R86. -/
  | evqArm (fn : PciFn) (queue : Fin 256) (head : Nat)
  /-- CAMP_SNAP_FRAC, R381. -/
  | campSnapFrac (fn : PciFn) (tb : Fin 8)
  /-- CAMP_LATCH_ALL, R382. -/
  | campLatchAll (fn : PciFn) (mask : BitVec 8)
  /-- CAMP_FREQ, R383. -/
  | campFreq (fn : PciFn) (tb : Fin 8) (adj : Int)
  /-- CAMP_ADJ_APPLY, R383. -/
  | campAdjApply (fn : PciFn) (tb : Fin 8) (authorise : Bool)
  /-- KEY_COMMIT_WRITE, R279. -/
  | keyCommitWrite (fn : PciFn)
  /-- KEY_COMMIT_ERASE, R285. -/
  | keyCommitErase (fn : PciFn)
  /-- TBL_READ, R333. -/
  | tblRead (fn : PciFn) (table : Fin 9)
  /-- TBL_SEARCH, R333. -/
  | tblSearch (fn : PciFn) (table : Fin 9)
  /-- TBL_INSERT, R333. -/
  | tblInsert (fn : PciFn) (table : Fin 9)
  /-- TBL_DELETE, R333. -/
  | tblDelete (fn : PciFn) (table : Fin 9)
  /-- MMU_TLB_INVAL_ALL, R507. -/
  | mmuTlbInvalAll (fn : PciFn)
  /-- MMU_TLB_INVAL_PAGE, R507. -/
  | mmuTlbInvalPage (fn : PciFn)
  /-- CNT_LO, R548. -/
  | cntLo (fn : PciFn) (counter : Fin 2048)
  /-- CNT_CLEAR, R546. -/
  | cntClear (fn : PciFn) (counter : Fin 2048)
  /-- CNT_CLEAR_OVF, R549. -/
  | cntClearOvf (fn : PciFn) (counter : Fin 2048)
  /-- CNT_MTR_BYTES_LO, R553. -/
  | cntMtrBytesLo (fn : PciFn) (meter : Fin 256)
  /-- PEAK_CLEAR, R553. -/
  | peakClear (fn : PciFn) (meter : Fin 256)
  /-- GLB_BOOT_GO, R571. -/
  | glbBootGo (fn : PciFn)
  /-- REGISTER_WRITE, R9. -/
  | registerWrite (a : BarAccess)
  /-- BAR2_READ, R56. -/
  | bar2Read (linkB : Bool) (va : Nat) (words : Nat) (flips : List (Nat × DqFlips))
  /-- BAR2_WRITE, R56. -/
  | bar2Write (linkB : Bool) (va : Nat) (data : List Byte)
  -- The mailbox's own steps
  /-- COMMAND_FETCH, R74. -/
  | commandFetch (fn : PciFn) (ring : Fin 64) (header : List Byte) (facts : BlockFacts)
  /-- COMMAND_TIMEOUT, R72. -/
  | commandTimeout (id : CmdId)
  /-- MAINT_RELEASE, R120. -/
  | maintRelease
  /-- CUPOLA_WAKE_READY, R121. -/
  | cupolaWakeReady (cupola : Fin 112) (retentionError lanternOk : Bool)
  /-- RING_FAULT, R88. -/
  | ringFault (fn : PciFn) (ring : Fin 64) (kind : Fin 4) (tag : Nat)
  /-- EVENT_QUEUE_FAULT, R613. -/
  | eventQueueFault (queue : Fin 256)
  /-- COALESCE_TIMEOUT, R559. -/
  | coalesceTimeout (queue : Fin 256)
  /-- RELAYED_EVENT_RECORD, R561. -/
  | relayedEventRecord (tag : Nat) (payload : List Byte)
  /-- SESSION_KEEPALIVE_EXPIRY, R105. -/
  | sessionKeepaliveExpiry (handle : Nat)
  -- Resets, supplies, clocks and temperature
  /-- FUNCTION_LEVEL_RESET, R82. -/
  | functionLevelReset (fn : PciFn)
  /-- CONVENTIONAL_RESET, R47. -/
  | conventionalReset (linkB : Bool) (split : Bool)
  /-- RESET_DELAY_EXPIRY, R100. -/
  | resetDelayExpiry
  /-- FIRMWARE_WATCHDOG, R564. -/
  | firmwareWatchdog
  /-- CORE_FAULT, R494. -/
  | coreFault (core : Fin 12)
  /-- POWER_ON, R596. -/
  | powerOn (f : PowerOnFacts)
  /-- BOOT_IMAGE_FETCHED, R573. -/
  | bootImageFetched (data : Option (List Byte))
  /-- FW_READY, R568. -/
  | fwReady (lanternsOk : BitVec 4) (selfTest : BitVec 4)
  /-- MAIN_RAIL_LOSS, R594. -/
  | mainRailLoss (rails : BitVec 10)
  /-- MAIN_RAILS_GOOD, R594. -/
  | mainRailsGood
  /-- KEEP_FEED_LOSS, R595. -/
  | keepFeedLoss (feedB : Bool)
  /-- KEEP_FEED_RESTORE, R595. -/
  | keepFeedRestore (feedB : Bool)
  /-- ZEROISATION, R300. -/
  | zeroisation (sources : BitVec 4)
  /-- REFCLK_LOSS, R599. -/
  | refclkLoss
  /-- REFCLK_RETURN, R599. -/
  | refclkReturn
  /-- CLK32K_LOSS, R600. -/
  | clk32kLoss
  /-- CLK32K_RETURN, R600. -/
  | clk32kReturn
  /-- THERMAL_WARNING, R605. -/
  | thermalWarning (sensor : Fin 20) (temp : Int)
  /-- THERMAL_WARNING_CLEAR, R605. -/
  | thermalWarningClear (sensor : Fin 20) (temp : Int)
  /-- THERMAL_TRIP, R605. -/
  | thermalTrip (sensor : Fin 20) (temp : Int)
  /-- KEEP_ONLY_ENTRY, R528. -/
  | keepOnlyEntry
  /-- LANTERN_LIGHT_WAKE, R529. -/
  | lanternLightWake (line : Fin 4)
  /-- LEDGER_ALARM, R529. -/
  | ledgerAlarm
  /-- SLEEP_LEDGER_RESUME, R413. -/
  | sleepLedgerResume (ticks : Nat)
  /-- CUPOLA_HYSTERESIS_EXPIRY, R517. -/
  | cupolaHysteresisExpiry (cupola : Fin 112)
  -- Trees: frames, bursts and terminals
  /-- MAP_CLOSE, R187. -/
  | mapClose (tree : Fin 64)
  /-- DOWNSTREAM_FRAME_START, R135. -/
  | downstreamFrameStart (tree : Fin 64) (txFault : Bool)
  /-- DUTY_CYCLE_ENTER, R136. -/
  | dutyCycleEnter (tree : Fin 64)
  /-- TOD_MESSAGE, R404. -/
  | todMessage (tree : Fin 64) (superframe : Nat)
  /-- BURST_WINDOW_START, R145. -/
  | burstWindowStart (tree : Fin 64) (w : WindowFacts)
  /-- PROVISIONAL_LOCK, R146. -/
  | provisionalLock (tree : Fin 64) (symbol : Nat) (amplitude : Int)
  /-- RELOCK, R148. -/
  | relock (tree : Fin 64) (symbol : Nat) (amplitude : Int)
  /-- DELIM_WINDOW_CLOSE, R148. -/
  | delimWindowClose (tree : Fin 64) (symbol : Nat)
  /-- DELIMITER_ACCEPT, R146. -/
  | delimiterAccept (tree : Fin 64) (symbol : Nat) (amplitude offset : Int)
  /-- GRANTED_WINDOW_END, R150. -/
  | grantedWindowEnd (tree : Fin 64) (e : WindowEndFacts)
  /-- RSSI_TRIG, R147. -/
  | rssiTrig (tree : Fin 64) (burstEnded : Bool)
  /-- RSSI_READING, R147. -/
  | rssiReading (tree : Fin 64) (raw : Nat) (busOk : Bool)
  /-- OUT_OF_WINDOW_ENERGY, R155. -/
  | outOfWindowEnergy (tree : Fin 64) (amplitude : Int)
  /-- UPSTREAM_XGEM_FRAME, R198. -/
  | upstreamXgemFrame (tree : Fin 64) (x : XgemFrame)
  /-- QUEUE_REPORT, R185. -/
  | queueReport (tree : Fin 64) (ctx : Fin 65536) (bytes : Nat) (fecOk : Bool)
  /-- COOP_ANNOUNCEMENT, R196. -/
  | coopAnnouncement (c : CoopFrame)
  /-- DRIFT_CORRECTION, R167. -/
  | driftCorrection (tree : Fin 64) (terminal : Fin 512)
  /-- DISCOVERY_WINDOW, R161. -/
  | discoveryWindow (tree : Fin 64)
  /-- SERIAL_NUMBER_RESPONSE, R162. -/
  | serialNumberResponse (tree : Fin 64) (serial regId stamp : Nat)
  /-- RANGING_RESPONSE, R164. -/
  | rangingResponse (tree : Fin 64) (terminal : Fin 512) (grantStart delimStamp : Nat)
  /-- RANGING_WINDOW_CLOSE, R166. -/
  | rangingWindowClose (tree : Fin 64) (terminal : Fin 512)
  /-- PLOAM_KEY_RESPONSE, R281. -/
  | ploamKeyResponse (tree : Fin 64) (terminal : Fin 512) (key : Nat)
  -- Line engines, framers and sealers
  /-- ACQUISITION_STEP_END, R233. -/
  | acquisitionStepEnd (line : Fin 4) (format rate : Nat)
  /-- ACQUISITION_STEP_TIMEOUT, R234. -/
  | acquisitionStepTimeout (line : Fin 4)
  /-- MISMATCH_RESTART, R235. -/
  | mismatchRestart (line : Fin 4)
  /-- LOSS_OF_LOCK, R236. -/
  | lossOfLock (line : Fin 4)
  /-- LANTERN_MONITOR_ASSERT, R208. -/
  | lanternMonitorAssert (line : Fin 4) (monitor : Fin 5) (reading : Int)
  /-- LANTERN_MONITOR_CLEAR, R208. -/
  | lanternMonitorClear (line : Fin 4) (monitor : Fin 5) (reading : Int)
  /-- MASK_CHECK, R219. -/
  | maskCheck (line : Fin 4) (pass : Bool)
  /-- SIGNAL_DEGRADE_CHECK, R245. -/
  | signalDegradeCheck (line : Fin 4) (counts : LineCounts)
  /-- FRAME_ALIGNMENT, R251. -/
  | frameAlignment (line : Fin 4) (f : FrameFacts)
  /-- LOF_DECLARE, R253. -/
  | lofDeclare (line : Fin 4)
  /-- LOF_CLEAR, R253. -/
  | lofClear (line : Fin 4)
  /-- LOM_DECLARE, R254. -/
  | lomDeclare (line : Fin 4)
  /-- LOM_CLEAR, R254. -/
  | lomClear (line : Fin 4)
  /-- MULTIFRAME_BOUNDARY, R260. -/
  | multiframeBoundary (line : Fin 4) (clockPpb : Int)
  /-- DMP_RETURN, R271. -/
  | dmpReturn (line : Fin 4)
  /-- SEAL_CONTROL_MESSAGE, R291. -/
  | sealControlMessage (line : Fin 4) (bytes : List Byte)
  /-- SEALING_BLOCK_RECEIVE, R292. -/
  | sealingBlockReceive (line : Fin 4) (first : Bool) (block : List Byte) (compareOk : Bool) (passed : Fin 256) (truncated delivered : Nat)
  /-- MACSEC_RX_FRAME, R299. -/
  | macsecRxFrame (f : MacsecFrame)
  /-- WITNESS_MESSAGE, R407. -/
  | witnessMessage (line : Fin 4) (bytes : List Byte)
  /-- WITNESS_HOLD_EXPIRY, R409. -/
  | witnessHoldExpiry (line : Fin 4)
  -- Packets, tables and pools
  /-- PACKET_INGRESS, R318. -/
  | packetIngress (pk : PacketIn)
  /-- PACKET_EGRESS, R340. -/
  | packetEgress (port : Nat) (tagUpset queueUpset : BitVec 14) (compareOk : Bool)
  /-- SPILL_READBACK, R344. -/
  | spillReadback (queue : Fin 65536)
  /-- AGE_SCAN, R327. -/
  | ageScan (pipeline : Fin 8)
  /-- PIPELINE_WATCHDOG, R314. -/
  | pipelineWatchdog (pipeline : Fin 8)
  /-- PIPELINE_MEMORY_ERROR, R314. -/
  | pipelineMemoryError (pipeline : Fin 8)
  /-- PIPELINE_REMAP_COMPLETE, R315. -/
  | pipelineRemapComplete (pipeline : Fin 8)
  /-- ALLOC, R362. -/
  | alloc (requester : Nat) (cls : Fin 4) (bufPriority : Fin 3) (listOk : Bool)
  /-- SHARE, R362. -/
  | share (requester ptr k : Nat) (ecc : Fin 3)
  /-- GIVE, R362. -/
  | give (requester ptr newOwner : Nat) (ecc : Fin 3)
  /-- FREE, R362. -/
  | free (requester ptr : Nat) (ecc : Fin 3)
  /-- ALLOC_RETRY, R363. -/
  | allocRetry (requester : Nat) (cls : Fin 4) (listOk : Bool)
  /-- BP_HOLD_EXPIRY, R363. -/
  | bpHoldExpiry (requester : Nat) (cls : Fin 4)
  -- Time
  /-- PPS_EDGE, R395. -/
  | ppsEdge (input : Fin 4) (phase : Nat)
  /-- PPS_INPUT_LOST, R395. -/
  | ppsInputLost (input : Fin 4)
  /-- PTP_MESSAGE, R400. -/
  | ptpMessage (f : PtpFrame)
  /-- PTP_INPUT_LOST, R387. -/
  | ptpInputLost (clock : Fin 8)
  /-- SERVO_CORRECTION, R391. -/
  | servoCorrection (tb : Fin 8)
  /-- LOCK_ACHIEVED, R388. -/
  | lockAchieved (tb : Fin 8)
  /-- LOCK_LOST, R388. -/
  | lockLost (tb : Fin 8)
  /-- PENDING_DISCARD, R392. -/
  | pendingDiscard (tb : Fin 8)
  /-- PULSE_EDGE, R397. -/
  | pulseEdge (output : Fin 8)
  /-- CROSS_CHECK, R415. -/
  | crossCheck (tb : Fin 8) (upset : Int)
  -- Lease and protection
  /-- FENCE_INSTANT, R425. -/
  | fenceInstant (tree : Fin 64)
  /-- LEASE_REQUEST_SEND, R425. -/
  | leaseRequestSend (tree : Fin 64) (watchdogServiced : Bool)
  /-- LEASE_GRANT, R425. -/
  | leaseGrant (tree : Fin 64) (bytes : List Byte)
  /-- ARBITER_LEASE_MESSAGE, R427. -/
  | arbiterLeaseMessage (bytes : List Byte)
  /-- ARBITER_LEASE_EXPIRY, R427. -/
  | arbiterLeaseExpiry (group : Fin 4096)
  /-- QUEUED_CLAIM_EXPIRY, R427. -/
  | queuedClaimExpiry (group : Fin 4096) (sender : Fin 64)
  /-- HEARTBEAT_SEND, R431. -/
  | heartbeatSend (tree : Fin 64) (watchdogServiced : Bool)
  /-- HEARTBEAT, R431. -/
  | heartbeat (tree : Fin 64) (bytes : List Byte)
  /-- HEARTBEAT_TIMEOUT, R431. -/
  | heartbeatTimeout (tree : Fin 64)
  /-- TRANSMIT_WITHOUT_LEASE, R430. -/
  | transmitWithoutLease (tree : Fin 64) (durationNs : Nat)
  /-- MARL_FRAME, R480. -/
  | marlFrame (sof payload : List Byte)
  /-- MARL_PART_COMPLETE, R437. -/
  | marlPartComplete (tree : Fin 64) (partB : Bool) (superframe : Nat)
  /-- WTR_EXPIRY, R440. -/
  | wtrExpiry (tree : Fin 64)
  /-- HANDOVER_RELEASE, R441. -/
  | handoverRelease (tree : Fin 64)
  -- Lanes and fabric
  /-- TRAINING_FRAME, R455. -/
  | trainingFrame (lane : Fin 48) (link : Fin 2) (control status : BitVec 64) (f : TrainingFacts)
  /-- TRAINING_REQUEST_TIMEOUT, R455. -/
  | trainingRequestTimeout (lane : Fin 48) (link : Fin 2)
  /-- TRAINING_TIMEOUT, R455. -/
  | trainingTimeout (lane : Fin 48) (link : Fin 2)
  /-- ECHO_TRAINING_TURN, R456. -/
  | echoTrainingTurn (lane : Fin 48) (farEnergy residualRise : Bool)
  /-- FOM_RETRAIN, R460. -/
  | fomRetrain (lane : Fin 48) (link : Fin 2)
  /-- RETRAIN_REQUEST, R460. -/
  | retrainRequest (lane : Fin 48) (link : Fin 2)
  /-- KNOWN_GOOD_EXPIRY, R461. -/
  | knownGoodExpiry (lane : Fin 48) (link : Fin 2) (fom : Nat)
  /-- PARKED_RETRY, R462. -/
  | parkedRetry (lane : Fin 48) (link : Fin 2)
  /-- LINK_DOWN, R468. -/
  | linkDown (lane : Fin 48) (link : Fin 2) (cause : Fin 6) (lostFrames : Nat)
  /-- PAUSE, R466. -/
  | pause (lane : Fin 48) (link : Fin 2) (flit : List Byte)
  /-- FABRIC_FRAME, R475. -/
  | fabricFrame (lane : Fin 48) (link : Fin 2) (sof : List Byte) (reply : Option MgmtReply) (pk : PacketIn)
  /-- HELLO_SEND, R469. -/
  | helloSend (lane : Fin 48) (link : Fin 2)
  /-- HELLO, R469. -/
  | hello (lane : Fin 48) (link : Fin 2) (payload : List Byte)
  /-- ADJACENCY_TIMEOUT, R469. -/
  | adjacencyTimeout (lane : Fin 48) (link : Fin 2)
  /-- LINK_STATE_RECORD, R470. -/
  | linkStateRecord (lane : Fin 48) (link : Fin 2) (payload : List Byte)
  /-- LINK_STATE_REFRESH, R470. -/
  | linkStateRefresh
  /-- LINK_STATE_EXPIRY, R470. -/
  | linkStateExpiry (serial : Nat)
  /-- ADDRESS_COMPUTATION, R471. -/
  | addressComputation
  /-- ROUTE_INSTALL, R472. -/
  | routeInstall
  /-- TIME_FLIT, R477. -/
  | timeFlit (lane : Fin 48) (link : Fin 2) (flit : List Byte)
  /-- TIME_FLIT_SEND, R477. -/
  | timeFlitSend (lane : Fin 48) (link : Fin 2)
  /-- FABRIC_TIME_SOURCE_LOST, R478. -/
  | fabricTimeSourceLost
  /-- FORWARDED_COMMAND, R481. -/
  | forwardedCommand (sender : Fin 64) (header : List Byte) (facts : BlockFacts)
  -- Board memory and DMA
  /-- REFRESH_INTERVAL, R496. -/
  | refreshInterval (channel : Fin 16) (sub : Fin 2) (bank : Fin 16)
  /-- MEMORY_TEMPERATURE_READ, R497. -/
  | memoryTemperatureRead (channel : Fin 16) (tempC : Nat)
  /-- ROW_DISTURBANCE, R500. -/
  | rowDisturbance (channel : Fin 16) (sub : Fin 2) (bank : Fin 16) (row : Nat) (requester : Nat)
  /-- PATROL_SCRUB, R495. -/
  | patrolScrub (flips : DqFlips)
  /-- DQS_DRIFT_CHECK, R501. -/
  | dqsDriftCheck (channel : Fin 16) (driftPermille : Nat)
  /-- MEMORY_READ, R492. -/
  | memoryRead (address : Nat) (flips : DqFlips) (consumer : MemConsumer)
  /-- DMA_STEP, R509. -/
  | dmaStep (channel : Fin 64) (descriptor : List Byte) (hostData : List Byte) (flips : List (Nat × DqFlips))
  -- Counters and meters
  /-- COUNTER_OVERFLOW, R551. -/
  | counterOverflow (counter : Fin 2048) (amount : Nat)
  /-- METER_WINDOW_END, R552. -/
  | meterWindowEnd (meter : Fin 256)
  -- Reads with behaviour of their own, and ends of work
  /-- REGISTER_READ, R52. -/
  | registerRead (a : BarAccess)
  /-- PERST_DEASSERT, R568. -/
  | perstDeassert (linkB : Bool)
  /-- KEY_COMMIT_COMPLETE, R279. -/
  | keyCommitComplete (fn : PciFn)
  /-- TABLE_OPERATION_COMPLETE, R333. -/
  | tableOperationComplete (table : Fin 9)
  /-- TLB_INVALIDATION_COMPLETE, R507. -/
  | tlbInvalidationComplete (fn : PciFn)
  /-- SELF_TEST_END, R615. -/
  | selfTestEnd (kind : Fin 3) (inst : Nat) (faults : BitVec 5) (results : BitVec 4)
  /-- ROGUE_PROBE_END, R168. -/
  | rogueProbeEnd (tree : Fin 64)
  /-- EYE_SCAN_END, R458. -/
  | eyeScanEnd (lane : Fin 48) (link : Fin 2) (map : List Byte)
  /-- STANDBY_TEST_END, R444. -/
  | standbyTestEnd (tree : Fin 64) (pass : Bool)
  /-- MEM_TRAINING_END, R501. -/
  | memTrainingEnd (channel : Fin 16) (full ok : Bool) (lanesClean : Bool)
  /-- PERF_LEVEL_SETTLED, R527. -/
  | perfLevelSettled
  /-- REVERT_SEND, R440. -/
  | revertSend (tree : Fin 64)
  /-- PTP_MESSAGE_SEND, R399. -/
  | ptpMessageSend (clock : Fin 8) (kind : Fin 3)
  /-- DOMAIN_TAG_INTERVAL_END, R202. -/
  | domainTagIntervalEnd (pipeline : Fin 8)
deriving DecidableEq, Repr

end Sys2Proof
end

