-- ==== Sys2Proof/Decode.lean ====
section
/-!
DEFINITION. The command that a word spells. No row of spec/opcode_table.json gives bits: a command reaches the block as
a register access, a ring slot or an event, and no word of an instruction stream spells one.
-/
namespace Sys2Proof

/-- The command spelled by a word of the table's bits: none, since no row gives bits. [log 4 DESIGN CHOICE] -/
def decodeTableWord (_nbits _w : Nat) : Option Instr := none

end Sys2Proof
end

