-- ==== Sys2Proof/Machine/Crypto.lean ====
section
/-!
DEFINITION. The algorithms that the spec names by their standards: AES (FIPS 197), GCM (SP 800-38D), SHA-256 and SHA-384 (FIPS 180-4)
(R274, R288, R298, R578, R580, R582).
-/
namespace Sys2Proof.Machine

/-! ## Bytes of numbers, most significant first -/

def bytesBe : Nat → Nat → List Nat
  | 0, _ => []
  | n + 1, v => bytesBe n (v / 256) ++ [v % 256]

def numberBe (bs : List Nat) : Nat := bs.foldl (fun a b => a * 256 + b) 0

def xorBytes (a b : List Nat) : List Nat := List.zipWith (· ^^^ ·) a b

/-- Lists of `n` bytes, the last one shorter where the bytes do not fill it; `k` bounds their number. -/
def pieces (n : Nat) : Nat → List Nat → List (List Nat)
  | 0, _ => []
  | _ + 1, [] => []
  | k + 1, b :: bs => (b :: bs).take n :: pieces n k ((b :: bs).drop n)

/-! ## AES -/

def xtime (a : Nat) : Nat := if 128 ≤ a then (a * 2 % 256) ^^^ 0x1B else a * 2

/-- The product in the field of FIPS 197. -/
def fieldMul (a b : Nat) : Nat :=
  ((List.range 8).foldl (fun (acc : Nat × Nat) i =>
    (if Nat.testBit b i then acc.1 ^^^ acc.2 else acc.1, xtime acc.2)) (0, a)).1

def fieldSquare (a : Nat) : Nat := fieldMul a a

/-- The inverse a²⁵⁴, with 0 for 0. -/
def fieldInverse (a : Nat) : Nat :=
  ((List.range 7).foldl (fun (acc : Nat × Nat) _ => let q := fieldSquare acc.2; (fieldMul acc.1 q, q)) (1, a)).1

def rotl8 (a n : Nat) : Nat := (a * 2 ^ n + a / 2 ^ (8 - n)) % 256

/-- The substitution box: the inverse, and the affine map. -/
def subByte (a : Nat) : Nat :=
  let i := fieldInverse a
  i ^^^ rotl8 i 1 ^^^ rotl8 i 2 ^^^ rotl8 i 3 ^^^ rotl8 i 4 ^^^ 0x63

/-- The next word of the key schedule, of `nk` words of key, at position `i`. -/
def nextWord (nk i : Nat) (ws : List (List Nat)) : List Nat :=
  let last := ws.getLastD []
  let t := if i % nk = 0 then
      xorBytes ((last.drop 1 ++ last.take 1).map subByte)
        [(List.range (i / nk - 1)).foldl (fun r _ => xtime r) 1, 0, 0, 0]
    else if 6 < nk ∧ i % nk = 4 then last.map subByte else last
  xorBytes (ws.getD (i - nk) []) t

/-- The round keys, as 16 bytes each, of a key of 4 · `nk` bytes. -/
def roundKeys (key : List Nat) : List (List Nat) :=
  let nk := key.length / 4
  let ws := (List.range (3 * nk + 28)).foldl (fun ws i => ws ++ [nextWord nk (nk + i) ws]) (pieces 4 nk key)
  pieces 16 (nk + 7) ws.flatten

def shiftRows (b : List Nat) : List Nat := (List.range 16).map (fun i => b.getD ((i + i % 4 * 4) % 16) 0)

def mixColumn (c : List Nat) : List Nat :=
  (List.range 4).map (fun i => fieldMul 2 (c.getD i 0) ^^^ fieldMul 3 (c.getD ((i + 1) % 4) 0) ^^^
    c.getD ((i + 2) % 4) 0 ^^^ c.getD ((i + 3) % 4) 0)

def aesRounds : List (List Nat) → List Nat → List Nat
  | [], b => b
  | [k], b => xorBytes (shiftRows (b.map subByte)) k
  | k :: ks, b => aesRounds ks (xorBytes ((pieces 4 4 (shiftRows (b.map subByte))).flatMap mixColumn) k)

/-- AES-128 or AES-256 of one block. -/
def aes (keys : List (List Nat)) (block : List Nat) : List Nat :=
  match keys with
  | [] => block
  | k :: ks => aesRounds ks (xorBytes block k)

/-! ## GCM -/

/-- The product in the field of SP 800-38D, of blocks as numbers. -/
def ghashMul (x y : Nat) : Nat :=
  ((List.range 128).foldl (fun (acc : Nat × Nat) i =>
    (if Nat.testBit x (127 - i) then acc.1 ^^^ acc.2 else acc.1,
     if acc.2 % 2 = 1 then (acc.2 / 2) ^^^ (0xE1 * 2 ^ 120) else acc.2 / 2)) (0, y)).1

def padBlock (b : List Nat) : Nat := numberBe (b ++ List.replicate (16 - b.length) 0)

def ghash (h : Nat) (blocks : List Nat) : Nat := blocks.foldl (fun y b => ghashMul (y ^^^ b) h) 0

/-- Counter mode from the block after the first, with a 96-bit IV. -/
def gcmStream (keys : List (List Nat)) (iv text : List Nat) : List Nat :=
  let blocks := pieces 16 (text.length + 1) text
  (List.range blocks.length).flatMap (fun i => xorBytes (blocks.getD i []) (aes keys (iv ++ bytesBe 4 (i + 2))))

/-- The 128-bit tag over the associated data and the ciphertext. -/
def gcmTag (keys : List (List Nat)) (iv aad cipher : List Nat) : List Nat :=
  let h := numberBe (aes keys (List.replicate 16 0))
  let blocks := (pieces 16 (aad.length + 1) aad ++ pieces 16 (cipher.length + 1) cipher).map padBlock
  let s := ghash h (blocks ++ [aad.length * 8 * 2 ^ 64 + cipher.length * 8])
  xorBytes (bytesBe 16 s) (aes keys (iv ++ [0, 0, 0, 1]))

/-! ## SHA-2 -/

/-- A SHA-2 function: its word width in bits, its rounds, its constants and the rotations of its four functions. -/
structure Sha where
  w : Nat
  rounds : Nat
  k : List Nat
  big0 : Nat × Nat × Nat
  big1 : Nat × Nat × Nat
  small0 : Nat × Nat × Nat
  small1 : Nat × Nat × Nat

def rotr (w x n : Nat) : Nat := x / 2 ^ n + x % 2 ^ n * 2 ^ (w - n)

def rotations (w x : Nat) (r : Nat × Nat × Nat) : Nat := rotr w x r.1 ^^^ rotr w x r.2.1 ^^^ rotr w x r.2.2

/-- Two rotations and a shift. -/
def scheduleMix (w x : Nat) (r : Nat × Nat × Nat) : Nat := rotr w x r.1 ^^^ rotr w x r.2.1 ^^^ x / 2 ^ r.2.2

/-- The next word of the message schedule: `ws` holds the last sixteen, the latest first. -/
def scheduleWord (p : Sha) (ws : List Nat) : Nat :=
  (scheduleMix p.w (ws.getD 1 0) p.small1 + ws.getD 6 0 + scheduleMix p.w (ws.getD 14 0) p.small0 + ws.getD 15 0) % 2 ^ p.w

/-- One round over the eight working words. -/
def shaRound (p : Sha) (kw : Nat) (v : List Nat) : List Nat :=
  let g (i : Nat) : Nat := v.getD i 0
  let ch := (g 4 &&& g 5) ^^^ ((2 ^ p.w - 1 - g 4) &&& g 6)
  let maj := (g 0 &&& g 1) ^^^ (g 0 &&& g 2) ^^^ (g 1 &&& g 2)
  let t1 := g 7 + rotations p.w (g 4) p.big1 + ch + kw
  let t2 := rotations p.w (g 0) p.big0 + maj
  [(t1 + t2) % 2 ^ p.w, g 0, g 1, g 2, (g 3 + t1) % 2 ^ p.w, g 4, g 5, g 6]

/-- The rounds of one block: the working words and the schedule's last sixteen words. -/
def shaRounds (p : Sha) (h : List Nat) (block : List Nat) : List Nat :=
  let first := (pieces (p.w / 8) 16 block).map numberBe
  let r := (List.range p.rounds).foldl (fun (acc : List Nat × List Nat) i =>
    let word := if i < 16 then first.getD i 0 else scheduleWord p acc.2
    (shaRound p (p.k.getD i 0 + word) acc.1, (word :: acc.2).take 16)) (h, [])
  List.zipWith (fun a b => (a + b) % 2 ^ p.w) h r.1

/-- The padded message. -/
def shaPad (p : Sha) (m : List Nat) : List Nat :=
  let b := p.w * 2
  let zeros := (b - (m.length + 1 + p.w / 4) % b) % b
  m ++ [0x80] ++ List.replicate zeros 0 ++ bytesBe (p.w / 4) (m.length * 8)

def sha (p : Sha) (init m : List Nat) : List Nat :=
  let bs := shaPad p m
  ((pieces (p.w * 2) (bs.length + 1) bs).foldl (shaRounds p) init).flatMap (bytesBe (p.w / 8))

/-- The primes below `n`. -/
def primesBelow (n : Nat) : List Nat :=
  (List.range n).filter (fun p => decide (2 ≤ p) && (List.range 20).all (fun d => decide (d < 2) || decide (d = p) || decide (p % d ≠ 0)))

/-- The largest number whose `e`-th power is at most `v`, of at most `bits` bits. -/
def rootOf (e v bits : Nat) : Nat :=
  (List.range bits).foldl (fun r i => if (r + 2 ^ (bits - 1 - i)) ^ e ≤ v then r + 2 ^ (bits - 1 - i) else r) 0

/-- The first `w` bits of the fractional part of the cube root of `p`, or, for `e` = 2, of its square root. -/
def rootBits (e w p : Nat) : Nat := rootOf e (p * 2 ^ (e * w)) (w + 5) % 2 ^ w

def sha256Of (m : List Nat) : List Nat :=
  let ps := primesBelow 312
  sha { w := 32, rounds := 64, k := ps.map (rootBits 3 32), big0 := (2, 13, 22), big1 := (6, 11, 25), small0 := (7, 18, 3),
        small1 := (17, 19, 10) } ((ps.take 8).map (rootBits 2 32)) m

def sha384Of (m : List Nat) : List Nat :=
  let ps := primesBelow 410
  (sha { w := 64, rounds := 80, k := ps.map (rootBits 3 64), big0 := (28, 34, 39), big1 := (14, 18, 41), small0 := (1, 8, 7),
         small1 := (19, 61, 6) } (((ps.drop 8).take 8).map (rootBits 2 64)) m).take 48

/-- The natural numbers of bytes. -/
def natsOf (bs : List Byte) : List Nat := bs.map (fun b => b.toNat)

/-- SHA-256 and SHA-384 of bytes, as one number whose least significant byte is the digest's first. -/
def sha256 (bs : List Byte) : Nat := numberBe (sha256Of (natsOf bs)).reverse
def sha384 (bs : List Byte) : Nat := numberBe (sha384Of (natsOf bs)).reverse

end Sys2Proof.Machine
end

