-- ==== Sys2Proof/Machine/Maps.lean ====
section
/-!
DEFINITION. Reading and writing a `Table`: the one place that keeps its canonical form (keys strictly rising, no entry
equal to the default).
-/
namespace Sys2Proof.Machine

/-- The entry of instance `k`, or the default `d` of its kind. -/
def tget {α : Type} (d : α) (k : Nat) : Table α → α
  | [] => d
  | (j, v) :: rest => if k = j then v else tget d k rest

/-- Put `v` at `k` in order. -/
def tins {α : Type} (k : Nat) (v : α) : Table α → Table α
  | [] => [(k, v)]
  | (j, w) :: rest => if k < j then (k, v) :: (j, w) :: rest
    else if k = j then (k, v) :: rest
    else (j, w) :: tins k v rest

/-- Write instance `k`; writing the default removes the entry. -/
def tset {α : Type} [DecidableEq α] (d : α) (k : Nat) (v : α) (t : Table α) : Table α :=
  if v = d then t.filter (fun e => decide (e.1 ≠ k)) else tins k v t

/-- Change instance `k` by `f`. -/
def tmod {α : Type} [DecidableEq α] (d : α) (k : Nat) (f : α → α) (t : Table α) : Table α :=
  tset d k (f (tget d k t)) t

/-- Keep the instances whose number `p` accepts; the others return to their default. -/
def tkeep {α : Type} (p : Nat → Bool) (t : Table α) : Table α := t.filter (fun e => p e.1)

/-- Change every listed instance by `f` and drop those that become the default. -/
def tmap {α : Type} [DecidableEq α] (d : α) (f : Nat → α → α) (t : Table α) : Table α :=
  (t.map (fun e => (e.1, f e.1 e.2))).filter (fun e => decide (e.2 ≠ d))

/-- The table's canonical form. -/
def tableWf {α : Type} [DecidableEq α] (d : α) : Table α → Bool
  | [] => true
  | [(_, v)] => decide (v ≠ d)
  | (j, v) :: (k, w) :: rest => decide (v ≠ d) && decide (j < k) && tableWf d ((k, w) :: rest)

end Sys2Proof.Machine
end

