-- ==== Sys2Proof/Config.lean ====
section
/-!
DEFINITION. What one TZ-6416 fixes and the manual does not give as a number (fuses, versions, latencies, key
material), and the values the manual leaves open. A constant without a body is a FREE VALUE: nothing in Lean can
evaluate it.
-/
namespace Sys2Proof.Config

/-- SERIAL from the fuses (R95). Fixed by the device, no number in the manual. [log 8 DEDUCED] -/
opaque serial : Nat
/-- FW_VERSION of the factory image (R95, R572). -/
opaque factoryFwVersion : Nat
/-- ROM_VERSION (R95). -/
opaque romVersion : Nat
/-- The identity public key X ‖ Y (R579, R581), as one number of 64 bytes. -/
opaque identityKey : Nat
/-- ENDORSEMENT (R581), as one number of 96 bytes. -/
opaque endorsement : Nat
/-- ECDSA signature by the identity key over the bytes of a quote (R580). -/
opaque identitySign : List Byte → Nat
/-- Digest that a log entry of a kind carries for an image (R578 does not say what each kind hashes), by the image's own
digest. -/
opaque measuredDigest : Nat → Nat → Nat
/-- Time base that stamps a record of a source that belongs to no port (R83 names the field, no rule chooses it). -/
opaque eventTimeBase : Nat → Nat
/-- The firmware partition's copy of an image still has the digests of its header (R577), by the image's digest and the instant:
what has become of it in DRAM is free. -/
opaque copyIntact : Nat → Nat → Bool
/-- How long a boot stage lasts, in nanoseconds, by the stage and the instant at which it began: R568 gives upper bounds only. -/
opaque stageNs : Nat → Nat → Nat
/-- Valleti's endorsement public key, which the ROM holds, X then Y (R581). -/
opaque endorsementKey : List Byte
/-- Valleti's manufacturer code in IDCODE (R591 gives no number). -/
opaque manufacturerCode : BitVec 11
/-- Bits of the TAP's instruction register, and the instruction that each code names: 0 BYPASS, 1 IDCODE, 2 SAMPLE/PRELOAD, 3
EXTEST (R591 gives no codes). -/
opaque tapIrBits : Nat
opaque tapCode : List Bool → Fin 4
/-- A fresh open value, by its running number. -/
opaque freeValue : Nat → Nat
/-- The pseudo-random generator of EVICTION 1 (R325), by its running number: which of the ways offered. -/
opaque evictionDraw : Nat → Nat
/-- Conversion of the optics' reading in units of 0.1 µW to units of 0.01 dBm (R588); the manual states neither its
rounding nor the result for a reading of 0. -/
opaque rssiCentiDbm : Nat → Int
/-- Calibrated receive latency of line engine l after an FEC lock, by the lock's running number (R232). -/
opaque rxLatency : Nat → Nat → Nat
/-- Calibrated transmit latency of line engine l after an FEC lock, by the lock's running number (R232). -/
opaque txLatency : Nat → Nat → Nat
/-- Sizes in bytes of a burst's header with trailer, and of a report, in XGS (0) and 50G (1) mode: the standards'
(R188). [log 9 DESIGN CHOICE] -/
opaque burstHeaderBytes : Nat → Nat
opaque reportBytes : Nat → Nat
/-- Symbols that `b` bytes of framing-sublayer content occupy with the standard's LDPC parity in 50G mode (R127, R188). -/
opaque ldpcSymbols : Nat → Nat
/-- An equalisation delay in the unit and with the rounding of the standard of XGS (0) and 50G (1) mode (R134). -/
opaque sentEqd : Nat → Int → Int
/-- Successive windows of a terminal in O5 without a delimiter, less one, after which the mode's standard takes its signal as lost
(R128, R170). -/
opaque lostAfter : Nat → Nat
/-- Symbols of a serial-number response from its first delimiter symbol on (R161). -/
opaque responseSymbols : Nat → Nat
/-- The standard's grant granule in bytes in XGS (0) and 50G (1) mode (R189). -/
opaque grantGranule : Nat → Nat
/-- Random response delay span of the mode's standard, in upstream symbols (R161). -/
opaque responseSpread : Nat → Nat
/-- Symbols of a ranging burst after its delimiter (R166). -/
opaque rangingBurstSymbols : Nat → Nat
/-- The servo's frequency adjustment while it slews or tracks, in 1/1,024 ppb, for a phase error and a loop bandwidth
(R388, R390: the manual bounds it by MAX_SLEW_PPB and gives no algorithm). -/
opaque servoFrequency : Int → Nat → Int
/-- clockClass that G.8275.1 gives a clock without a parent, by its time base's servo state (R399). -/
opaque ownClockClass : Nat → Nat

/-- An allocation structure of a map as the tree mode's standard writes it, from Alloc-ID, start and bytes; the Alloc-ID and
start that one holds (R435). -/
opaque mapStructure (mode allocId start bytes : Nat) : List Byte
opaque readStructure (mode : Nat) (bytes : List Byte) : Nat × Nat
/-- The entries of a Marl image's part B, of which R435 gives sizes and contents and no layout. -/
opaque terminalEntry : MarlTerminal → List Byte
opaque readTerminal : List Byte → MarlTerminal
opaque allocEntry : MarlAlloc → List Byte
opaque readAlloc : List Byte → MarlAlloc

/-- The five taps that a training preset selects (R454 names presets 0–7 and gives no values). -/
opaque presetTaps : Nat → List Int

/-- The bank (modulo 16) and the row of an access, by its address / 64 (R498, R500; R487 gives the channel only). -/
opaque dramBank (line : Nat) : Nat
opaque dramRow (line : Nat) : Nat
/-- The four-activate window of the memory, in ns (R498). -/
opaque fourActivateNs : Nat
/-- Whether a translation made earlier and not invalidated is used, by function, virtual page and instant (R507). -/
opaque tlbUsed (fn page now : Nat) : Bool

/-- DRAM_BYTES (R486). -/
def dramBytes : Nat := 137438953472
/-- Part, stepping and family of GLB_ID (R54). -/
def glbId : Nat := 0x7AC06416

end Sys2Proof.Config
end

