-- ==== Sys2Proof/Machine/State.lean ====
section
/-!
DEFINITION. The block's state as plain data: every register, table, queue, counter, mode and pin the spec gives the
TZ-6416, grouped by the chapter that owns it, the queue of waiting commands, and what the model itself keeps (the
device's output, the running number of free values). A field's default value is its value after reset.
-/
namespace Sys2Proof.Machine

/-! ## How a step ends -/

/-- Faults of the model: none. No rule of the spec stops the block, and no command reaches a board-memory address that
does not exist (R486, R504). -/
inductive Fault where
deriving DecidableEq, Repr

/-- Refusals of the model. -/
inductive Refusal where
  /-- Raised by an arm of Dispatch.lean whose command has no meaning in the model yet; safe. -/
  | notModelled (mnemonic : String)
deriving DecidableEq, Repr, Inhabited

/-! ## Host attachment and mailbox (chapter 02) -/

/-- A completion entry (R67). -/
structure Completion where
  tag : Nat
  opcode : Nat
  status : Nat
  phase : Bool
  final : Bool
  respWritten : Bool
  truncated : Bool
  sqHead : Nat
  ring : Nat
  detail : Nat
  result : Nat
  respBytes : Nat
deriving DecidableEq, Repr, Inhabited

/-- How far a fetched command has come (R119–R122): fetched and not started; fetched and waiting for its batch's
presentation to the arbiter (R76); deferred; released by the arbiter; waking cupola `k`; ready; running on, to be
completed by a later step for instance `key`. -/
inductive Phase where
  | fetched
  | batched
  | deferred
  | released
  | waking (k : Nat)
  | ready
  | running (key : Nat)
deriving DecidableEq, Repr, Inhabited

/-- A command between fetch and final completion (R78). `num` is its running number, in the order of the fetches; TAG is
software's own and may be that of another command (R75). `fetchedAt` is the instant of its fetch (R72), `untimed` that its
timeout was stopped (R122), `order` its place among the released (R76), `reserved` that a reserved field was not zero (R8);
`discard` marks one whose ring or function is gone (R82). -/
structure Held where
  id : CmdId
  num : Nat
  opcode : Nat
  session : Nat
  fence : Bool
  notify : Bool
  respLen : Nat
  respAddr : Nat
  timeoutUs : Nat
  fetchedAt : Nat
  activity : Option Activity
  reserved : Bool
  deferredOnce : Bool
  wakingOnce : Bool
  discard : Bool
  untimed : Bool
  order : Nat
  phase : Phase
deriving DecidableEq, Repr, Inhabited

/-- A completion that waits for a free entry of its ring (R69), with its command's number and flags. -/
structure Waiting where
  id : CmdId
  num : Nat
  fence : Bool
  notify : Bool
  respLen : Nat
  respAddr : Nat
  resp : List Byte
  entry : Completion
deriving DecidableEq, Repr, Inhabited

/-- One mailbox ring (R57–R69). `sqLog2` and `cqLog2` are n − 6 and m − 6; `phase` is the phase of the next entry; `batches` the
slots of each batch that are still to be fetched, oldest batch first (R62). -/
structure Ring where
  enabled : Bool := false
  cqFull : Bool := false
  faulted : Bool := false
  closing : Bool := false
  sqHead : Nat := 0
  sqTail : Nat := 0
  cqHead : Nat := 0
  w : Nat := 0
  phase : Bool := false
  sqLog2 : Nat := 0
  cqLog2 : Nat := 0
  evq : Nat := 0
  sqBase : Nat := 0
  cqBase : Nat := 0
  batches : List Nat := []
  waiting : List Waiting := []
deriving DecidableEq, Repr, Inhabited

/-- The registers of one PCI function: MBX_ADMIN_ as stored (R60, R61), SESSION_RESET and GLB_SCRATCH (R54). -/
structure FnRegs where
  sqBaseLo : Nat := 0
  sqBaseHi : Nat := 0
  cqBaseLo : Nat := 0
  cqBaseHi : Nat := 0
  sqLog2 : Nat := 0
  cqLog2 : Nat := 0
  evq : Nat := 0
  sessionReset : Bool := false
  scratch : Nat := 0
deriving DecidableEq, Repr, Inhabited

/-- An entry of a function's MSI-X table with its bit of the pending-bit array (R45, R48); `masked` is the mask bit of its vector
control word. -/
structure MsixEntry where
  addr : Nat := 0
  data : Nat := 0
  masked : Bool := true
  waits : Bool := false
deriving DecidableEq, Repr, Inhabited

/-- The mailbox: rings by function × 64 + ring, function registers by function key, MSI-X entries by function × 256 + vector,
and the commands held, oldest first. `fetched` and `released` count fetches and releases, `served` is one more than the ring
that was served last (R77), `presentDue` the numbers of the commands that are presented at the end of the cycle (R534). Links:
`splitMode` is PCIE_SPLIT as sampled (R46), `resetA`/`resetB` that PERST_N/PERSTB_N is asserted. -/
structure Mailbox where
  rings : Table Ring := []
  fns : Table FnRegs := []
  msix : Table MsixEntry := []
  held : List Held := []
  fetched : Nat := 0
  released : Nat := 0
  served : Nat := 0
  presentDue : List Nat := []
  splitMode : Bool := false
  resetA : Bool := false
  resetB : Bool := false
deriving DecidableEq, Repr, Inhabited

/-! ## Sessions and resources (chapter 03) -/

/-- A session (R103–R106). `closing` is the disposition of a close that waits (some true: QUIESCE). -/
structure Session where
  isOpen : Bool := false
  fn : Nat := 0
  keepaliveMs : Nat := 0
  label : Nat := 0
  lastFetch : Nat := 0
  closing : Option Bool := none
deriving DecidableEq, Repr, Inhabited

/-- Ownership of one resource index (R108, R115): the owning session (0: none) and the VF it is assigned to. -/
structure Own where
  session : Nat := 0
  assigned : Option PciFn := none
deriving DecidableEq, Repr, Inhabited

/-- A DEVICE_RESET that waits for its instant, with the instant of the last acceptance (R100, R102, R566). -/
structure PendingReset where
  cls : Nat
  instant : Nat
  accepted : Nat
deriving DecidableEq, Repr, Inhabited

/-- Sessions by handle, owners by kind × 4096 + index, the last handle issued (R104), the pending reset. -/
structure Sessions where
  table : Table Session := []
  lastHandle : Nat := 0
  owners : Table Own := []
  pendingReset : Option PendingReset := none
deriving DecidableEq, Repr, Inhabited

/-! ## Trees, terminals, contexts (chapters 04 and 05) -/

/-- A burst record (R157). `strobe` is the course of its RSSI strobe: 0 none, 1 due, 2 issued and not read, 3 done. -/
structure BurstRecord where
  terminal : Nat := 0
  profile : Nat := 0
  ranging : Bool := false
  relocked : Bool := false
  lateLock : Bool := false
  noDelimiter : Bool := false
  collision : Bool := false
  fecFail : Bool := false
  rssiValid : Bool := false
  rssiLate : Bool := false
  rssiSkipped : Bool := false
  drift : Bool := false
  noSignal : Bool := false
  amplitude : Int := 0
  amplitude2 : Int := 0
  rssi : Int := 0
  offset : Int := 0
  stamp : Nat := 0
  cwTotal : Nat := 0
  cwCorrected : Nat := 0
  cwFailed : Nat := 0
  strobe : Nat := 0
  run : Nat := 0
  num : Nat := 0
deriving DecidableEq, Repr, Inhabited

/-- The burst receiver in a granted window (R145–R153): the symbol of the provisional lock, the close of its delimiter
window, whether the lock is final and whether a re-lock on an amplitude step occurred. -/
structure RxWindow where
  lock : Option Nat := none
  close : Nat := 0
  final : Bool := false
  stepRelock : Bool := false
  record : BurstRecord := {}
deriving DecidableEq, Repr, Inhabited

/-- A window that the grant engine has scheduled: its terminal, whether for ranging, the superframe of the map that carries the
grant, and the allocations granted to (R139, R185, R199). -/
structure Granted where
  terminal : Nat
  ranging : Bool
  superframe : Nat
  ctxs : List Nat := []
  start : Nat := 0
deriving DecidableEq, Repr, Inhabited

/-- A rogue probe under way (R168): the key of its command, the instant at which it ends, the energy and the highest amplitude
it has seen. -/
structure Probe where
  key : Nat
  ends : Nat
  energy : Bool := false
  maxAmp : Int := 0
deriving DecidableEq, Repr, Inhabited

/-- A quiet window: from symbol `start` of the next map on, `left` symbols (R161, R166). -/
structure Quiet where
  start : Nat
  left : Nat
deriving DecidableEq, Repr, Inhabited

/-- A tree port (R129–R144, R179, R205). `started` says that its first frame after the enable has left (R403); `txen` is
TREE_TXEN (R590); `probes` and `probeSeq` the rogue probes under way and their count; `lastMap` the superframe of the last map
closed; `scheduled` the windows granted and not yet open; `quiet` the quiet windows; `lastDisc` the instant of the last
discovery window (R161); `downBusy` that downstream data came since the last frame start (R136); `runs` numbers the runs of R167
and `placed` the records; `txFault` and `rxFault` the faults of R170 in force; `staleBurst` that the burst under way is in a
grant to a removed allocation (R199); `closeDue` that its map closes at the end of this cycle (R41); `maps` the last seven maps
sent, newest first (R434); `aligned` that a frame has left since the tree began to transmit, `frameStart` when its last frame
began by its own schedule, in ns of `now` (R403, R421). -/
structure Tree where
  maps : List (Nat × List (Nat × Nat × Nat)) := []
  aligned : Bool := false
  frameStart : Int := 0
  frameStamps : List Nat := []
  configured : Bool := false
  enabled : Bool := false
  mode : Nat := 0
  upRate : Nat := 0
  timeBase : Nat := 0
  teqdNs : Nat := 250000
  ponId : Nat := 0
  minReach : Nat := 0
  maxReach : Nat := 0
  groupIndex : Nat := 1468200
  idleEnter : Nat := 0
  discPeriodMs : Nat := 0
  driftLimit : Nat := 32
  rangeAttempts : Nat := 3
  maxStructures : Nat := 1024
  guaranteedKbps : Nat := 0
  profiles : Table (Option ProfileP) := []
  duty : Bool := false
  started : Bool := false
  txen : Bool := false
  superframe : Nat := 0
  lastMap : Nat := 0
  quiet : List Quiet := []
  scheduled : List Granted := []
  lastDisc : Option Nat := none
  idleRun : Nat := 0
  upstreamBusy : Bool := false
  downBusy : Bool := false
  window : Option RxWindow := none
  await : List BurstRecord := []
  bursts : List BurstRecord := []
  exceptions : List BurstRecord := []
  discovered : List (Nat × Nat) := []
  probes : List Probe := []
  probeSeq : Nat := 0
  runs : Nat := 0
  placed : Nat := 0
  txFault : Bool := false
  rxFault : Bool := false
  staleBurst : Bool := false
  closeDue : Bool := false
  countBursts : Nat := 0
  countLateLock : Nat := 0
  countNoDelimiter : Nat := 0
  countCollision : Nat := 0
  countOutOfWindow : Nat := 0
  countCorrected : Nat := 0
  countFailed : Nat := 0
  dutyFrames : Nat := 0
deriving DecidableEq, Repr, Inhabited

/-- A ranging under way: windows left, and the STATE before it. -/
structure Ranging where
  left : Nat
  before : Nat
deriving DecidableEq, Repr, Inhabited

/-- A terminal (R160–R169), by tree × 512 + terminal. `state` is numbered as R169: 0 admitted not seen, 1 O1, 2 O2-3, 3 O4, 4
O5, 5 O6, 6 O7. `collisions` are the instants within the last second, newest first; `driftSum` and `driftCount` the running
average of R167 and `run` the number of that run, `driftDue` an average that awaits its correction; `missed` the successive
windows without a delimiter; `windowMap` and `windowCtxs` the superframe of the map whose grant opened its latest window and the
allocations of that grant (R185, R199). -/
structure Terminal where
  admitted : Bool := false
  profile : Nat := 0
  domain : Nat := 0
  serial : Nat := 0
  autoRange : Bool := false
  regCheck : Bool := false
  regId : Nat := 0
  state : Nat := 0
  rtd : Option Nat := none
  eqd : Int := 0
  ranging : Option Ranging := none
  rssi : Int := 0
  amplitude : Int := 0
  collisions : List Nat := []
  lateLock : Nat := 0
  driftCorrections : Nat := 0
  driftSum : Int := 0
  driftCount : Nat := 0
  driftDue : Option Int := none
  run : Nat := 0
  missed : Nat := 0
  windowMap : Nat := 0
  windowCtxs : List Nat := []
  spoofs : Nat := 0
  aborted : Nat := 0
deriving DecidableEq, Repr, Inhabited

/-- An allocation context (R171–R177, R183, R185, R187). The remainders are those of R176, in units of 1/64 byte; `grants` the
bytes granted by superframe since the map that granted the last reporting burst; `coops` the cooperative entries by superframe;
`carry` the assured shortfalls by superframe, oldest first; `moved` the bytes of a structure that the last map could not hold
(R190); `removing` that it is being removed. -/
structure Alloc where
  present : Bool := false
  tree : Nat := 0
  terminal : Nat := 0
  allocId : Nat := 0
  cls : Nat := 0
  fixed : Nat := 0
  assured : Nat := 0
  nonAssured : Nat := 0
  maximum : Nat := 0
  beWeight : Nat := 0
  report : Bool := false
  coop : Bool := false
  grantsPerFrame : Nat := 1
  pins : List Nat := []
  remFixed : Nat := 0
  remAssured : Nat := 0
  remNon : Nat := 0
  remMax : Nat := 0
  reported : Nat := 0
  reportMap : Nat := 0
  grants : List (Nat × Nat) := []
  coops : List (Nat × Nat) := []
  carry : List (Nat × Nat) := []
  moved : Option Nat := none
  lastPoll : Option Nat := none
  demand : Nat := 0
  granted : Nat := 0
  received : Nat := 0
  spoof : Nat := 0
  unknownPort : Nat := 0
  stale : Nat := 0
  coopAccepted : Nat := 0
  coopLate : Nat := 0
  spoofSeen : Bool := false
  removing : Bool := false
deriving DecidableEq, Repr, Inhabited

/-- A port context (R171, R180). -/
structure PortCtx where
  present : Bool := false
  tree : Nat := 0
  terminal : Nat := 0
  portId : Nat := 0
  down : Bool := false
  up : Bool := false
  encrypt : Bool := false
  downQueue : Nat := 0
deriving DecidableEq, Repr, Inhabited

/-- The cooperative input (R195). -/
structure CoopInput where
  enable : Bool := false
  etherType : Nat := 0
  laneMask : Nat := 0
deriving DecidableEq, Repr, Inhabited

/-- Trees by number, terminals by tree × 512 + terminal, contexts by index. `changedAt` is the instant of the last cycle in which a
context was changed, `allocsBefore` and `portsBefore` the contexts as they stood before it (R199). -/
structure Trees where
  trees : Table Tree := []
  terminals : Table Terminal := []
  allocs : Table Alloc := []
  ports : Table PortCtx := []
  changedAt : Option Nat := none
  allocsBefore : Table Alloc := []
  portsBefore : Table PortCtx := []
  coop : CoopInput := {}
deriving DecidableEq, Repr, Inhabited

/-! ## Coherent line engines (chapter 06) -/

/-- The window of LINE_QUALITY (R243): when it began and its counts. -/
structure QualityWindow where
  since : Nat := 0
  ldpcFailed : Nat := 0
  bits : Nat := 0
  preFecErrors : Nat := 0
  bchCorrected : Nat := 0
  bchFailed : Nat := 0
deriving DecidableEq, Repr, Inhabited

/-- A line engine (R206–R245). `step` is ACQ_STEP (0 when not acquiring) and `stepStart` when that step began; `rxLos` and
`laserLow` the two monitors that report LOS; `maskMuted` the mute of R219; `filters` the loaded pre-distortion taps (none: the
identity of R214) and `filtersNext` those that wait for a DSP frame boundary (R244); `locks` the FEC locks so far, by which the
latencies of R232 are named; `acqStart` when the acquisition under way began, `mismatchAt` when the mismatch was found (R235),
`txSince` when the transmitter started; `powerFrom` and `powerSince` the start of the power ramp (R240); `early` the counts of
the second under way that are in the window already (R243). -/
structure LineEngine where
  cfg : Option LineP := none
  enabled : Bool := false
  locked : Bool := false
  lockedOnce : Bool := false
  step : Nat := 0
  rxLos : Bool := false
  laserLow : Bool := false
  biasLost : Bool := false
  tempWarning : Bool := false
  shutdown : Bool := false
  maskViolation : Bool := false
  maskMuted : Bool := false
  mismatch : Bool := false
  degrade : Bool := false
  acqStart : Nat := 0
  stepStart : Nat := 0
  mismatchAt : Nat := 0
  acqCount : Nat := 0
  acqRetry : Nat := 0
  lockTimeUs : Nat := 0
  locks : Nat := 0
  txSince : Nat := 0
  powerFrom : Int := 0
  powerSince : Nat := 0
  filters : Option (List Int) := none
  filtersNext : Option (List Int) := none
  quality : QualityWindow := {}
  early : LineCounts := {}
deriving DecidableEq, Repr, Inhabited

/-- Line engines by number; `lanterns` the LANTERNS bits of R54 and R614, `lanternMask` LANTERN_MASK (R572). -/
structure Lines where
  engines : Table LineEngine := []
  lanterns : BitVec 4 := 0
  lanternMask : BitVec 4 := 0
deriving DecidableEq, Repr, Inhabited

/-! ## Line framing (chapter 07) -/

/-- The states of frame alignment (R251), numbered 0–3 as FRAME_STATE. -/
inductive FrameState where
  | held | search | candidate | inFrame
deriving DecidableEq, Repr, Inhabited

/-- A trace of one layer (R255, R256): sent, what is sent from the next 64-frame cycle on (R272), expected, the bytes of the
cycle under way, the last whole cycle and how often in succession it came, the accepted trace, TIM. -/
structure Trace where
  sent : List Byte := []
  next : Option (List Byte) := none
  expected : List Byte := []
  cycle : List Byte := []
  last : List Byte := []
  runs : Nat := 0
  accepted : Option (List Byte) := none
  tim : Bool := false
deriving DecidableEq, Repr, Inhabited

/-- A line framer (R247–R272). `candidates` are tracked positions with their counts of successive correct frames; `frameErrors`
and `mfErrors` the errored counts in IF and IM; `since` the instant of the last change between OOF and IF, `mfSince` that at
which IM began or ended or IF began (R253, R254); `mfOpen` that the copies of a received multiframe are not judged yet; `pmStat`
the received ODUCn STAT; `dmpIn`, `dmpOut` the DMp received and sent, `measuring` that it is inverted and `dmSent` the stamp of
the first frame that carried it so (R271); `smBeiOut`, `pmBeiOut` the errors to be sent back, by slice; `txStart` the instant at
which the transmit multiframe under way began, with the witness and seal messages that it carries (R266, R290), and
`boundaryDue` that a multiframe begins at the end of this cycle, with the clock's deviation (R41, R264). -/
structure Framer where
  cfg : Option FramerP := none
  state : FrameState := .held
  candidates : List (Nat × Nat) := []
  aligned : Nat := 0
  frameErrors : Nat := 0
  im : Bool := false
  lastMfas : Option Nat := none
  mfRun : Nat := 0
  mfErrors : Nat := 0
  lof : Bool := false
  lom : Bool := false
  smBdi : Bool := false
  pmBdi : Bool := false
  smIae : Bool := false
  sm : Trace := {}
  pm : Trace := {}
  msiLast : List Byte := []
  msiAccepted : Option (List Byte) := none
  oofEntries : Nat := 0
  framesMarked : Nat := 0
  smBip : Nat := 0
  smBei : Nat := 0
  pmBip : Nat := 0
  pmBei : Nat := 0
  jcErrors : Nat := 0
  since : Nat := 0
  mfSince : Nat := 0
  mfOpen : Bool := false
  pmStat : Nat := 1
  dmpIn : Bool := false
  dmpOut : Bool := false
  measuring : Bool := false
  dmSent : Option Nat := none
  smBeiOut : List Nat := []
  pmBeiOut : List Nat := []
  txStart : Option Nat := none
  witnessOut : List Byte := []
  sealOut : List Byte := []
  boundaryDue : Option Int := none
deriving DecidableEq, Repr, Inhabited

/-- A tributary of a line (R257–R264), by line × 32 + tributary. `slots` is its slot mask, 0 for none; `change` a mask that
takes effect at the next multiframe boundary; `newLayout` that MSI shows it and data flows from the next multiframe on;
`cm` and `copySeen` are of the receive side, `remainder` and `sentCm` of the transmit side. -/
structure Tributary where
  slots : Nat := 0
  change : Option Nat := none
  newLayout : Bool := false
  cm : Nat := 0
  copySeen : Bool := false
  jcMisses : Nat := 0
  jcLoss : Bool := false
  msim : Bool := false
  statAis : Bool := false
  remainder : Nat := 0
  sentCm : Nat := 0
deriving DecidableEq, Repr, Inhabited

/-- Framers by line, tributaries by line × 32 + tributary. -/
structure Framing where
  framers : Table Framer := []
  tributaries : Table Tributary := []
deriving DecidableEq, Repr, Inhabited

/-! ## Cipher (chapter 08) -/

/-- The states of a key half (R276), numbered 0–3. -/
inductive HalfState where
  | empty | loaded | active | refusing
deriving DecidableEq, Repr, Inhabited

/-- A key half (R276); `seq` is SEQ of R289. -/
structure Half where
  state : HalfState := .empty
  key : Nat := 0
  salt : Nat := 0
  ssci : Nat := 0
  number : Nat := 0
  count : Nat := 0
  limit : Nat := 0
  seq : Nat := 0
deriving DecidableEq, Repr, Inhabited

/-- A key slot's two halves. -/
structure Slot where
  half0 : Half := {}
  half1 : Half := {}
deriving DecidableEq, Repr, Inhabited

/-- A commit under way: ERASE or WRITE, its RESULT so far, its target and what was staged. -/
structure Commit where
  erase : Bool
  result : Nat
  kind : Nat
  slot : Nat
  staged : Half
deriving DecidableEq, Repr, Inhabited

/-- A function's key window page (R278): staging registers, KEY_TARGET, KEY_STATUS. -/
structure KeyPage where
  data : BitVec 256 := 0
  salt : BitVec 96 := 0
  ssci : BitVec 32 := 0
  target : BitVec 32 := 0
  limit : BitVec 48 := 0
  busy : Option Commit := none
  result : Nat := 0
  commits : Nat := 0
deriving DecidableEq, Repr, Inhabited

/-- Line sealing of one line engine (R288–R297, R307). `change` is an enable or disable, and its release mode, that waits for a
multiframe boundary; `rxBlock` the number of the block received last in its multiframe; `announced` the half, key number and SEQ
that the message of this multiframe names; `txHalf` that of the current multiframe, none while TX_FAULT; `rxNext` the message
accepted for the next multiframe, `rxKeyOk` that the half in use holds the announced key number. -/
structure Seal where
  enable : Bool := false
  early : Bool := false
  domain : Option Nat := none
  change : Option (Bool × Bool) := none
  announcedSealed : Bool := false
  announced : Option (Bool × Nat × Nat) := none
  txSealing : Bool := false
  txHalf : Option Bool := none
  txSeq : Nat := 0
  rxNext : Option SealMsg := none
  rxSealing : Bool := false
  rxHalf : Bool := false
  rxSeq : Nat := 0
  rxBlock : Nat := 0
  rxKeyOk : Bool := false
  peerTxFault : Bool := false
  sealLoss : Bool := false
  failedRun : Nat := 0
  verifiedRun : Nat := 0
  failedSince : Nat := 0
  verified : Nat := 0
  failed : Nat := 0
  keyMismatch : Nat := 0
  ctrlErrors : Nat := 0
  delivered : Nat := 0
  truncated : Nat := 0
  compareMismatch : Nat := 0
deriving DecidableEq, Repr, Inhabited

/-- MACsec of a client port by its lowest lane (R298, R299, R305). `nextPn` is one more than the highest PN accepted;
`verified` counts the frames verified that no pipeline has taken yet. -/
structure Macsec where
  enable : Bool := false
  confidentiality : Bool := false
  replayProtect : Bool := false
  includeSci : Bool := false
  domain : Option Nat := none
  sci : Nat := 0
  peerSci : Nat := 0
  replayWindow : Nat := 0
  nextPn : Nat := 0
  verified : Nat := 0
  drops : Nat := 0
deriving DecidableEq, Repr, Inhabited

/-- The key store and the engines. Slots by kind × 65,536 + slot; pages by function key; `mismatches` the instants of R304
within the last millisecond by the cupola that holds the pair. `zeroised` is held in the Keep. -/
structure Cipher where
  slots : Table Slot := []
  pages : Table KeyPage := []
  seals : Table Seal := []
  macsecs : Table Macsec := []
  mismatches : Table (List Nat) := []
  zeroised : Bool := false
deriving DecidableEq, Repr, Inhabited

/-! ## Ports, pipelines, tables, queues (chapters 01 and 09) -/

/-- A PORT of R309 in the packet engine: enabled at a budget rate in Gbit/s (R28), its preference and remap priority
(R349), the pipeline it is placed on (R311), UNSERVED (R316), its OVERSIZE count (R352). -/
structure PortEnt where
  enabled : Bool := false
  rate : Nat := 0
  preferred : Option Nat := none
  remapPriority : Option Nat := none
  pipeline : Option Nat := none
  unserved : Bool := false
  oversize : Nat := 0
  txUntil : Nat := 0
deriving DecidableEq, Repr, Inhabited

/-- A pipeline's failure, counts and domain-tag discards (R202, R314, R349, R536). `remap` is the reason of a failure whose
remap is not complete; `dtCount` and `dtLatest` are of the running 125 µs interval, `dtRun` the successive intervals with
discards, `dtTimes` the discards within the last second; `dtSince` and `scannedAt` the instants at which the last interval and the
last aging pass ended. -/
structure Pipeline where
  remap : Option Nat := none
  noDomain : Nat := 0
  moves : Nat := 0
  flaps : Nat := 0
  staticConflicts : Nat := 0
  ownerTagFailed : Nat := 0
  tableFull : Nat := 0
  parity : Nat := 0
  spillDropped : Nat := 0
  dtCount : Nat := 0
  dtLatest : Nat := 0
  dtRun : Nat := 0
  dtTimes : List Nat := []
  dtSince : Nat := 0
  scannedAt : Nat := 0
deriving DecidableEq, Repr, Inhabited

/-- A learn entry (R322): MAC with DOMAIN as one key, its queue, STATIC, HIT, AGE, PARITY_ERROR, MOVED_MS. -/
structure LearnEntry where
  key : Nat
  queue : Nat
  isStatic : Bool
  hit : Bool
  age : Nat
  parity : Bool
  movedMs : Nat
deriving DecidableEq, Repr, Inhabited

/-- A service entry (R330): its key and data as laid out, and whether its parity check has failed (R326). -/
structure ServiceEntry where
  key : Nat
  data : Nat
  parity : Bool
deriving DecidableEq, Repr, Inhabited

/-- A domain's packet engine configuration (R320, R349). -/
structure DomainCfg where
  learn : Bool := true
  floodUnknown : Bool := true
  floodMulticast : Bool := true
  flood : List Nat := []
deriving DecidableEq, Repr, Inhabited

/-- A table command page (R332). `busy` is an operation under way: its RESULT and the index, key and data it loads. -/
structure TablePage where
  index : Nat := 0
  key : BitVec 128 := 0
  data : BitVec 128 := 0
  busy : Option (Nat × Nat × Nat × Nat) := none
  result : Nat := 0
  ops : Nat := 0
deriving DecidableEq, Repr, Inhabited

/-- A packet held in a queue: its length, domain tag, addresses, outer VLAN, the port context it arrived on (an upstream
queue), its buffer, whether it is one of a flood's replicas (R476), is cut through, and failed at ingress afterwards
(R348). `params` are the queue's parameters at its enqueue (R339). -/
structure Packet where
  length : Nat
  tag : BitVec 14
  dst : BitVec 48
  src : BitVec 48
  vlan : Nat
  portCtx : Nat
  buffer : Nat
  flooded : Bool
  cut : Bool
  stomped : Bool
  params : Option QueueP := none
deriving DecidableEq, Repr, Inhabited

/-- A shaper (R341): its balance in units of 10⁻⁶ bit at an instant. -/
structure Shaper where
  balance : Int := 0
  since : Nat := 0
deriving DecidableEq, Repr, Inhabited

/-- A hardware queue (R336–R346): configuration, packets on die and in DRAM (oldest first), SPILLING, counts. `poisoned` is that
the oldest packet in DRAM was read with an uncorrectable error; `deficit` is its deficit within its group or priority (R340). -/
structure Queue where
  cfg : Option QueueP := none
  domTag : BitVec 14 := 0
  onDie : List Packet := []
  dram : List Packet := []
  spilling : Bool := false
  poisoned : Bool := false
  shaper : Shaper := {}
  deficit : Nat := 0
  txBytes : Nat := 0
  tailDropped : Nat := 0
  spillDropped : Nat := 0
  spillFull : Nat := 0
  spillError : Nat := 0
  cutThrough : Nat := 0
  ctStomped : Nat := 0
deriving DecidableEq, Repr, Inhabited

/-- A scheduling group (R340, R349). -/
structure Group where
  cfg : Option GroupP := none
  shaper : Shaper := {}
  deficit : Nat := 0
deriving DecidableEq, Repr, Inhabited

/-- LEARN_CONFIGURE's values (R349). -/
structure LearnCfg where
  ageScanMs : Nat := 20000
  ageLimit : Nat := 15
  random : Bool := false
  moveHoldMs : Nat := 1000
deriving DecidableEq, Repr, Inhabited

/-- A learn request that waits for the end of its cycle (R324, R335). -/
structure LearnReq where
  port : Nat
  pipeline : Nat
  src : BitVec 48
  domain : Nat
  queue : Nat
deriving DecidableEq, Repr, Inhabited

/-- The packet engine. Learn entries by pipeline × 262,144 + index, service entries by index, pages 0–7 of the learn tables and
8 of the service table, queues by hardware queue number. `served` is, by port × 8 + priority, one more than the entity (group,
or 8,192 + queue) the round robin served last, and by 2³² + group the queue within the group, and by 2⁴⁰ + pipeline the upstream
queue; `evictions` the running number of the pseudo-random generator. Of the present cycle: `writtenAt` is one more than the
instant at which an operation last wrote a table, and `learnedBefore` and `serviceBefore` the tables before that cycle's writes;
`ingressDue`, `learnsDue` and `scansDue` are the packets, learn requests and aging passes that wait for its end, `hitsAt` and
`hitsNow` one more than the instant of the last lookup hit and the entries hit in that cycle. -/
structure PacketEngine where
  ports : Table PortEnt := []
  failedPipes : BitVec 8 := 0
  pipes : Table Pipeline := []
  learned : Table (Option LearnEntry) := []
  service : Table (Option ServiceEntry) := []
  domains : Table DomainCfg := []
  pages : Table TablePage := []
  queues : Table Queue := []
  groups : Table Group := []
  learn : LearnCfg := {}
  served : Table Nat := []
  evictions : Nat := 0
  writtenAt : Nat := 0
  learnedBefore : Table (Option LearnEntry) := []
  serviceBefore : Table (Option ServiceEntry) := []
  ingressDue : List PacketIn := []
  learnsDue : List LearnReq := []
  scansDue : List Nat := []
  hitsAt : Nat := 0
  hitsNow : List Nat := []
deriving DecidableEq, Repr, Inhabited

/-! ## Buffer pools (chapter 10) -/

/-- The header of an allocated buffer (R359). -/
structure Header where
  owner : Nat := 0
  refs : Nat := 0
deriving DecidableEq, Repr, Inhabited

/-- A pool (R353–R374). `cfg` is none while the configuration of R354 stands. The free list is `freed`, the head first, and then
the buffers from number `fresh` on that are neither allocated nor quarantined. `posted` is the level at the end of the last
cycle, `lastServed` the requester that the arbiter served last. -/
structure Pool where
  cfg : Option PoolP := none
  freed : List Nat := []
  fresh : Nat := 0
  quarantined : List Nat := []
  corrupt : Bool := false
  level : Nat := 0
  posted : Nat := 0
  lastServed : Nat := 0
  lowWater : Option Nat := none
  allocs : Nat := 0
  emptyReturns : Nat := 0
  spillUpOut : Nat := 0
  dropped : Nat := 0
  doubleFree : Nat := 0
  nonOwnerFree : Nat := 0
  badPointer : Nat := 0
  limit : Nat := 0
  eccCorrected : Nat := 0
  eccFailed : Nat := 0
  lastRequester : Nat := 0
  lastPointer : Nat := 0
deriving DecidableEq, Repr, Inhabited

/-- A held allocation (R363): its requester, its class and priority, the pool it is presented in again, and since when. -/
structure HeldAlloc where
  requester : Nat
  cls : Nat
  priority : Nat
  pool : Nat
  since : Nat := 0
deriving DecidableEq, Repr, Inhabited

/-- An allocation request before its pool's arbiter (R365): as a held one, with what the list's check would find (R361), and
whether it was not reached in the cycle before. -/
structure AllocReq where
  req : HeldAlloc
  listOk : Bool
  carried : Bool
deriving DecidableEq, Repr, Inhabited

/-- An operation on a buffer that waits for the end of its cycle (R364). -/
inductive BufferOp where
  | share (r ptr k ecc : Nat)
  | give (r ptr owner ecc : Nat)
  | free (r ptr ecc : Nat)
deriving DecidableEq, Repr

/-- The buffer pool manager: pools, headers by byte offset, the pool map by requester × 4 + class, held requests; `opsDue` and
`allocsDue` the operations that wait for the end of the cycle. -/
structure Pools where
  pools : Table Pool := []
  headers : Table Header := []
  map : Table Nat := []
  held : List HeldAlloc := []
  opsDue : List BufferOp := []
  allocsDue : List AllocReq := []
deriving DecidableEq, Repr, Inhabited

/-! ## Campanile (chapter 11) -/

/-- Servo states (R388), numbered 0–6 in this order. -/
inductive Servo where
  | freeRun | acquiring | locked | holdover | coarse | stepHeld | host
deriving DecidableEq, Repr, Inhabited

/-- A TIME_SET that waits for a PPS edge. -/
structure TimeSetWait where
  input : Nat
  value : Nat
deriving DecidableEq, Repr, Inhabited

/-- One time base with its check counter (R376, R380, R388–R394, R415, R416). `value` and `check` are time values in units of
2⁻¹⁰ × 10⁻⁹ ns, the least amount a frequency adjustment can add in one cycle; `adj` is in units of 1/1,024 ppb; `phaseError`,
`pending` and `phaseReg` are in units of 2⁻¹⁶ ns. `left` is the uncertainty reported when the time base left a holdover, while
the second row of R391's table applies. `entryUnc` and `entryAt` are the uncertainty at entry into the present state and its
instant. `measured` is a phase error that the input has given and the servo has not taken up, `runSince` since when the phase
error has met the condition that ends the present state, `adjSince` since when the adjustment has been in force, `segments` the
adjustments of the last 64 s in ACQUIRING and LOCKED as (from, to, adjustment), newest first. `checkPpsDiff` is how far the last
stamp of CHECK_PPS lies from a whole second, `checkedSec` the second of the last cross-check. -/
structure TimeBase where
  value : Nat := 0
  check : Nat := 0
  adj : Int := 0
  servo : Servo := .freeRun
  isUnset : Bool := true
  inputKind : Nat := 0
  inputIndex : Nat := 0
  firstStepGuard : Bool := false
  fabricTb : Bool := false
  checkEnable : Bool := false
  stepGuardNs : Nat := 1000
  lockNs : Nat := 20
  bandwidth : Nat := 100
  holdoverPpb : Nat := 1000
  checkPps : Option Nat := none
  checkPpsNs : Nat := 50
  utcOffset : Int := 0
  maxSlewPpb : Nat := 1000
  slewLimitNs : Nat := 100
  phaseError : Int := 0
  pending : Option Int := none
  stepSeq : Nat := 0
  left : Option Nat := none
  entryUnc : Nat := 0
  entryAt : Nat := 0
  checkFault : Bool := false
  checkPpsBad : Nat := 0
  latched : Bool := false
  snapshot : Nat := 0
  phaseReg : Int := 0
  adjResult : Nat := 0
  applied : Nat := 0
  lastApply : Option Nat := none
  stepsApplied : Nat := 0
  stepsRefused : Nat := 0
  sleepTicks : Nat := 0
  setWait : Option TimeSetWait := none
  measured : Option Int := none
  runSince : Option Nat := none
  adjSince : Nat := 0
  segments : List (Nat × Nat × Int) := []
  checkPpsDiff : Option Int := none
  checkedSec : Nat := 0
deriving DecidableEq, Repr, Inhabited

/-- A PPS input (R395). `lastStamp` is the stamp of the last edge against its assigned time base, `edgeAt` its instant. -/
structure PpsInput where
  enabled : Bool := false
  tb : Nat := 0
  falling : Bool := false
  inDelay : Int := 0
  present : Bool := false
  lastStamp : Nat := 0
  edgeAt : Nat := 0
deriving DecidableEq, Repr, Inhabited

/-- A pulse output (R397, R398, R602): MODE 0 off, 1 one-shot, 2 periodic; `start` is START, `next` the instant of
the next edge, if one is scheduled; `everConfigured` that its pin rests at the inactive level and not low. -/
structure PulseOut where
  tb : Nat := 0
  mode : Nat := 0
  activeLow : Bool := false
  outDelay : Int := 0
  widthNs : Nat := 0
  periodNs : Nat := 0
  start : Nat := 0
  next : Option Nat := none
  everConfigured : Bool := false
deriving DecidableEq, Repr, Inhabited

/-- A port of a PTP clock (R400, R416). `state` is numbered as IEEE 1588 numbers port states; `blocked` that the servo has
stopped using it (R410). `syncSeq`, `syncRx` and `syncCorr` are the sequence number, the stamp and the correction of its last
Sync, `forth` the master-to-slave difference measured last, `reqTx` the stamp of its last Delay_Req. -/
structure PtpPort where
  port : Nat
  tributary : Nat
  masterOnly : Bool
  nonForwardable : Bool
  localPriority : Nat
  delayAsymmetry : Int
  state : Nat
  blocked : Bool
  syncSeq : Nat := 0
  syncRx : Nat := 0
  syncCorr : Int := 0
  forth : Option Int := none
  reqTx : Option Nat := none
deriving DecidableEq, Repr, Inhabited

/-- A PTP clock (R400, R416). `syncAt` is the instant of the last Sync on its slave port, `syncSent`, `announceSent` and
`reqSent` those of its own last messages. -/
structure PtpClock where
  enabled : Bool := false
  bound : Bool := false
  tb : Nat := 0
  domainNumber : Nat := 0
  priority2 : Nat := 0
  localPriority : Nat := 0
  clockIdentity : Nat := 0
  parent : Nat := 0
  stepsRemoved : Nat := 0
  clockClass : Nat := 0
  meanDelay : Int := 0
  offset : Int := 0
  syncLost : Bool := false
  syncAt : Nat := 0
  syncSent : Option Nat := none
  announceSent : Option Nat := none
  reqSent : Option Nat := none
  ports : List PtpPort := []
deriving DecidableEq, Repr, Inhabited

/-- Time of day of a tree (R404, R405): the superframe N and T_N of its last message, the frame period it was predicted with,
when it was sent, and the messages sent. -/
structure TreeTod where
  enabled : Bool := false
  periodS : Nat := 10
  asymPpb : Int := 0
  driftNs : Nat := 2
  superframe : Nat := 0
  instant : Nat := 0
  period : Nat := 0
  sentAt : Nat := 0
  messages : Nat := 0
deriving DecidableEq, Repr, Inhabited

/-- The delay-step witness of a line engine (R406–R411). Times are in units of 2⁻¹⁶ ns. `rxMark` is the last receive marker, its
instant and its stamp, `rxBefore` the one before it (R407). `window` holds the pairs that
form ψ_ref, newest first; `runDev` the deviations of the pairs in a row beyond the threshold. -/
structure Witness where
  enabled : Bool := false
  thresholdNs : Nat := 20
  holdS : Nat := 60
  window : List Int := []
  reference : Option Int := none
  psi : Int := 0
  refUncLocal : Nat := 0
  refUncPeer : Nat := 0
  runDev : List Int := []
  step : Bool := false
  refLost : Bool := false
  localStep : Int := 0
  peerStep : Option Int := none
  peerRun : Nat := 0
  stepSeq : Nat := 0
  declaredAt : Nat := 0
  pairs : Nat := 0
  crcErrors : Nat := 0
  rebases : Nat := 0
  txMarkers : Nat := 0
  txStamp : Nat := 0
  rxStamp : Int := 0
  rxMark : Option (Nat × Nat) := none
  rxBefore : Option (Nat × Nat) := none
  rxMfSeq : Nat := 0
  tbStepped : Bool := false
  txStepped : Bool := false
deriving DecidableEq, Repr, Inhabited

/-- Campanile. `portTb` is the time base of a line, client or fabric PORT of R309 (R416), `portTbNext` one more than the base
that it takes at its next frame or packet boundary (R23); `stopped` that the time bases stand still, from the entry into
Keep-only, at `stoppedAt`, to the resumption after the wake (R412, R413); `pulsesDue` the outputs whose edge waits for the end
of the cycle (R398). -/
structure Time where
  bases : Table TimeBase := []
  pps : Table PpsInput := []
  pulses : Table PulseOut := []
  clocks : Table PtpClock := []
  tods : Table TreeTod := []
  witnesses : Table Witness := []
  portTb : Table Nat := []
  portTbNext : Table Nat := []
  stopped : Bool := false
  stoppedAt : Nat := 0
  pulsesDue : List Nat := []
deriving DecidableEq, Repr, Inhabited

/-! ## Tree protection (chapter 12) -/

/-- One of the four saved-state slots of a protected tree (R433, R437): the superframe it holds, bits [31:0] of it until part A is
complete, the pieces written of
each part as (offset, length), the parts complete, the superframe that part A's completion fell in by the time base,
and whether the image is usable. -/
structure Image where
  superframe : Nat := 0
  piecesA : List (Nat × Nat) := []
  piecesB : List (Nat × Nat) := []
  doneA : Bool := false
  gridA : Nat := 0
  doneB : Bool := false
  unusable : Bool := false
deriving DecidableEq, Repr, Inhabited

/-- A member of a protection group (R418–R448). `state` is STATE of R447; `fence` that the fence is asserted; `live` that the
tree's own state is in use, so that a lease resumes it; `sent` the requests of the last 18 µs with their instants; `taking` the
boundary S named by this member's own REVERTs, with whether PROT_SWITCH named it; `reverts` the peer's REVERTs received, as (S,
instant); `dueRelease` a boundary at which this holder hands over, `reverting` that this member sends REVERTs since S − 12 µs,
the last at `revertSent`; `mapAt` when the last map closed; `hbSent` the instant of the last HEARTBEAT, `hbHealthy` its HEALTHY;
`requestDue` and `releaseDue` a request and a handover that wait for a message of this cycle (R41, R425); `testEnds` the end of
a standby test (R444); `configGen`, `sentConfig` and `sentKeys` what the last Marl image carried (R434–R436). -/
structure Member where
  cfg : Option ProtP := none
  enabled : Bool := false
  state : Nat := 0
  holding : Bool := false
  claiming : Bool := false
  fence : Bool := false
  live : Bool := false
  fenceAt : Nat := 0
  seq : Nat := 0
  sent : List (Nat × Nat) := []
  lastSent : Option Nat := none
  epoch : Nat := 0
  enabledAt : Nat := 0
  tookAt : Nat := 0
  mapAt : Option Nat := none
  hbSent : Option Nat := none
  hbHealthy : Bool := false
  requestDue : Option Bool := none
  revertSent : Option Nat := none
  releaseDue : Bool := false
  testEnds : Nat := 0
  configGen : Nat := 0
  sentConfig : List Byte := []
  sentKeys : List (Nat × Bool × Half) := []
  hbLast : Option Nat := none
  peerLost : Bool := false
  peerHealthy : Bool := false
  peerCurrent : Bool := false
  current : Bool := false
  wtrSince : Option Nat := none
  taking : Option (Nat × Bool) := none
  reverts : List (Nat × Nat) := []
  dueRelease : Option Nat := none
  reverting : Bool := false
  lastImage : Nat := 0
  imageLate : Nat := 0
  blobFailed : Nat := 0
  badMessages : Nat := 0
  switchovers : Nat := 0
  lostWindows : Nat := 0
  lastInterruption : Nat := 0
deriving DecidableEq, Repr, Inhabited

/-- A request queued at the arbiter (R427): its sender, kind (0 RENEW, 1 CLAIM, 3 REVERT), SEQ, and when it came. -/
structure Queued where
  sender : Nat
  kind : Nat
  seq : Nat
  received : Nat
deriving DecidableEq, Repr, Inhabited

/-- The arbiter's record of one group (R427, R429): `armedAt` the last change of ARMED, with the bits before it; `presented` the
messages of this cycle. -/
structure Arbiter where
  serve : Bool := false
  hostMode : Bool := false
  armedPrimary : Bool := false
  armedSecondary : Bool := false
  armedAt : Nat := 0
  wasPrimary : Bool := false
  wasSecondary : Bool := false
  presented : List Queued := []
  primary : Nat := 0
  secondary : Nat := 0
  holder : Option Nat := none
  expiry : Nat := 0
  epoch : Nat := 0
  queue : List Queued := []
deriving DecidableEq, Repr, Inhabited

/-- Members by tree, saved-state slots by tree × 4 + slot, arbiter records by group; BAD_MESSAGES of the arbiter unit (R424);
the IV counters of key blobs by group (R436). -/
structure Protection where
  members : Table Member := []
  images : Table Image := []
  arbiters : Table Arbiter := []
  badMessages : Nat := 0
  blobIvs : Table Nat := []
deriving DecidableEq, Repr, Inhabited

/-! ## Fabric and electrical lanes (chapter 13) -/

/-- A lane group (R449, R457, R462, R472); `retryCount` as given, 0 selecting 6. -/
structure LaneGroup where
  mode : Nat := 0
  reach : Nat := 0
  fomFloor : Nat := 136
  fomRetrain : Nat := 148
  retryCount : Nat := 6
  cost : Nat := 1
deriving DecidableEq, Repr, Inhabited

/-- What a link's hellos say of the neighbour (R469). -/
structure Neighbour where
  serial : Nat
  port : Nat
  address : Option Nat
  bidirectional : Bool
  lsrSeq : Nat
deriving DecidableEq, Repr, Inhabited

/-- A frame in a link's transit queues (R465, R466, R475): rank 0 lease, 1 other CONTROL, 2 BULK; `via` the link whose staging it
stands in, none for a frame of this device, which carries its `payload` here. -/
structure Transit where
  rank : Nat
  via : Option Nat := none
  header : FabricHeader
  payload : List Byte := []
deriving DecidableEq, Repr, Inhabited

/-- A lane position's receiver and link (R453–R468, R477, R483), by lane × 2 + link. `state` is STATE of R483; `onGood` that it
runs on its last known-good setting, of FOM `fomGood` and taps `goodTaps`; `retries` those spent; `reqSeq`, `reqOpen`,
`reqRepeats` and `reqWhat` are of the training request in flight, `retrainDue` that an automatic retrain waits, `peerSeq` and
`peerResult` the last request answered and its result, `ownRun` and `peerRun` the frames with READY so far; `before` the state
and the retries that the LANE_RETRAIN that runs found. Times of the TIME flits are in units of 2⁻¹⁶ ns: `delay` and `offset` as
last computed, `timeSent` the stamps of the flits sent last by SEQ, `timeRx` that of the last one received. `trainAt` is when
the training under way began, `reqAt` when its request was last sent, `goodAt` when the run on the known-good setting began,
`parkedAt` when the lane was parked; `scan` the eye scan under way as (mode 1, DWELL_LOG2, start); `pausing` the classes that
this end holds at the peer; `helloAt` and `timeSentAt` when the last hello and TIME flit were sent. -/
structure Link where
  enabled : Bool := false
  state : Nat := 0
  delayAsym : Int := 0
  adjacent : Bool := false
  twoWay : Bool := false
  remoteFault : Bool := false
  onGood : Bool := false
  paused : BitVec 2 := 0
  fom : Nat := 0
  fomGood : Option Nat := none
  goodTaps : List Int := []
  taps : List Int := []
  retries : Nat := 0
  retrainDue : Bool := false
  before : Option (Nat × Nat) := none
  residual : Nat := 0
  reqSeq : Nat := 0
  reqOpen : Bool := false
  reqRepeats : Nat := 0
  reqWhat : Option (Nat × Nat × Nat) := none
  peerSeq : Option Nat := none
  peerResult : Nat := 0
  ownRun : Nat := 0
  peerRun : Nat := 0
  linkDropped : Nat := 0
  retrains : Nat := 0
  downEvents : Nat := 0
  ctrlErrors : Nat := 0
  neighbour : Option Neighbour := none
  lastHello : Option Nat := none
  transit : List Transit := []
  timeSeq : Nat := 0
  timeRxSeq : Nat := 0
  delay : Int := 0
  offset : Int := 0
  timeSource : Option Nat := none
  timeSteps : Nat := 0
  timeFlags : Nat := 0
  timeAt : Nat := 0
  timeSent : List (Nat × Nat) := []
  timeRx : Option (Nat × Nat) := none
  timeSentAt : Option Nat := none
  helloAt : Option Nat := none
  trainAt : Nat := 0
  reqAt : Nat := 0
  goodAt : Nat := 0
  parkedAt : Nat := 0
  scan : Option (Bool × Nat × Nat) := none
  pausing : BitVec 2 := 0
deriving DecidableEq, Repr, Inhabited

/-- A client port by its lowest lane position (R452); `phy` 0 KR, 1 CR, 2 AUI. -/
structure Client where
  width : Nat := 0
  phy : Nat := 0
deriving DecidableEq, Repr, Inhabited

/-- A stored link-state record with its last refresh (R470). -/
structure Stored where
  record : LsRecord
  refreshed : Nat
deriving DecidableEq, Repr, Inhabited

/-- A binding of a destination queue (R476). -/
structure Binding where
  queue : Nat
  domain : Nat
  dest : Nat
deriving DecidableEq, Repr, Inhabited

/-- Lanes and fabric. `strap` is ADDR_STRAP as sampled; `clients` the ports by lowest lane position; `loops` LOOP by lane
position; `records` the records of other devices; `source` the elected time source and `sourceLost` that it is reported
unreachable; `changed` when the database last changed; `forwards` the commands forwarded; `flooded` the own record as last flooded,
at `floodedAt`. -/
structure Fabric where
  groups : Table LaneGroup := []
  links : Table Link := []
  clients : Table Client := []
  loops : Table Nat := []
  strap : Nat := 0
  address : Option Nat := none
  mgmtAllow : BitVec 64 := 0xFFFFFFFFFFFFFFFF
  timePriority : Nat := 0
  forwards : Nat := 0
  lsrSeq : Nat := 0
  flooded : Option LsRecord := none
  floodedAt : Nat := 0
  records : List Stored := []
  changed : Nat := 0
  routes : List Route := []
  installs : Nat := 0
  noRoute : Nat := 0
  transitDropped : Nat := 0
  noAddress : Nat := 0
  noDestQueue : Nat := 0
  binds : List Binding := []
  source : Option Nat := none
  sourceLost : Bool := false
deriving DecidableEq, Repr, Inhabited

/-! ## Board memory, device MMU, DMA (chapter 14) -/

/-- A bank of a sub-channel (R496–R500): refreshes owed, when it was last refreshed and when its running interval ends; its open
row and the requests in a row that have hit it; activates since the last one sampled; its row-disturbance table as (row,
samples), which is of refresh window number `window`. -/
structure MemBank where
  debt : Nat := 0
  refreshedAt : Option Nat := none
  accrueAt : Nat := 3904
  openRow : Option Nat := none
  hitRun : Nat := 0
  activates : Nat := 0
  rows : List (Nat × Nat) := []
  window : Nat := 0
deriving DecidableEq, Repr, Inhabited

/-- For whom the controller serves a request: a read of R494, BAR2 read number `n`, a DMA channel, the patrol scrub; a write, or
the scrub's write-back. -/
inductive MemClient where
  | reader (consumer : MemConsumer)
  | bar2 (n : Nat)
  | dma (channel : Nat)
  | scrub
  | write
  | writeBack
deriving DecidableEq, Repr, Inhabited

/-- One access of 64 bytes (R486, R498, R499): its number, address / 64, unit (R355) and client; when it entered; what a read
found in memory; the DQ signals wrong in it; whether a write to the same bytes came after it (or stood queued as it came); which
sub-channels have issued their half. -/
structure MemRequest where
  num : Nat
  line : Nat
  requester : Nat
  client : MemClient
  entered : Nat
  word : Option (List Byte) := none
  flips : DqFlips := []
  overwritten : Bool := false
  doneA : Bool := false
  doneB : Bool := false
deriving DecidableEq, Repr, Inhabited

/-- A throttled requester, until when, and its last activate on the channel (R500). -/
structure Throttle where
  requester : Nat
  until_ : Nat
  last : Option Nat
deriving DecidableEq, Repr, Inhabited

/-- A DRAM channel (R492–R501, R512). `hits` are the accesses of the last millisecond that needed two or more bytes of a lane,
as (lane, instant); `tempAt` and `dqsAt` when the temperature and the drift are read next; `training` with its kind and begin,
and the kinds of the retrainings that wait for it. Of each sub-channel: whether owed refreshes are urgent, its last REFRESH, the
bank of its last activate, its last activates, and until when (in ps) its DQ signals are taken. `requests` are those in its bank
queues, the oldest first; `disturbed` the samples that have reached RH_LIMIT as (sub-channel, bank, row, requester);
`directedDue` the directed refreshes to issue as (sub-channel, bank, row). -/
structure Channel where
  hot : Bool := false
  urgentA : Bool := false
  urgentB : Bool := false
  marked : Option Nat := none
  tempC : Nat := 0
  tempAt : Nat := 0
  dqsAt : Nat := 0
  training : Bool := false
  trainFull : Bool := false
  trainSince : Nat := 0
  trainNext : List Bool := []
  corrected : Nat := 0
  uncorrectable : Nat := 0
  directed : Nat := 0
  throttles : Nat := 0
  forced : Nat := 0
  shortTrains : Nat := 0
  fullTrains : Nat := 0
  hits : List (Nat × Nat) := []
  lastCmdA : Option Nat := none
  lastCmdB : Option Nat := none
  lastActA : Nat := 15
  lastActB : Nat := 15
  actsA : List Nat := []
  actsB : List Nat := []
  takenA : Nat := 0
  takenB : Nat := 0
  requests : List MemRequest := []
  disturbed : List (Nat × Nat × Nat × Nat) := []
  directedDue : List (Nat × Nat × Nat) := []
  throttled : List Throttle := []
deriving DecidableEq, Repr, Inhabited

/-- A translation kept since it was made: the virtual page, its size and physical address, and what it permits (R502, R507). -/
structure TlbEntry where
  page : Nat
  size : Nat
  base : Nat
  read : Bool
  write : Bool
deriving DecidableEq, Repr, Inhabited

/-- A function's MMU page (R506); `busy` an invalidation under way: 1 PAGE, 2 ALL, since `busySince`; `before` the root that a
running MMU_CONTEXT_SET replaced; `tlb` the translations made since the last invalidation. -/
structure MmuPage where
  root : Nat := 0
  before : Nat := 0
  invalVa : Nat := 0
  busy : Nat := 0
  busySince : Nat := 0
  tlb : List TlbEntry := []
  faultVa : Nat := 0
  valid : Bool := false
  kind : Nat := 0
  write : Bool := false
  bar2 : Bool := false
  channel : Nat := 0
  count : Nat := 0
deriving DecidableEq, Repr, Inhabited

/-- A step under way whose source is read from board memory (R509): its bytes, the source's physical address, the destination's
(none: the host's), and the accesses read so far as (address / 64, data; none where poisoned). -/
structure DmaMove where
  bytes : Nat
  source : Nat
  dest : Option Nat
  got : List (Nat × Option (List Byte))
deriving DecidableEq, Repr, Inhabited

/-- A DMA channel (R508–R512); `state` 0 idle, 1 running, 2 SUSPENDED, 3 error; `current` the descriptor read at HEAD; `move` a
step under way; `starved` that its last step lacked the host's data. -/
structure DmaChannel where
  log2 : Nat := 0
  priority : Nat := 0
  evq : Nat := 0
  ringBase : Nat := 0
  head : Nat := 0
  tail : Nat := 0
  state : Nat := 0
  offset : Nat := 0
  tag : Nat := 0
  faultVa : Nat := 0
  faultKind : Nat := 0
  current : Option Descriptor := none
  move : Option DmaMove := none
  starved : Bool := false
deriving DecidableEq, Repr, Inhabited

/-- MEM_CONFIGURE's values, which apply from the refresh window after number `window` (R512). -/
structure MemNext where
  window : Nat
  hotC : Nat
  rhSample : Nat
  rhLimit : Nat
  scrubHours : Nat
deriving DecidableEq, Repr, Inhabited

/-- A BAR2 read under way (R55, R56, R494): each word's physical address, none without a translation; the accesses read so far as
(address / 64, data; none where poisoned). -/
structure BusRead where
  num : Nat
  linkB : Bool
  va : Nat
  words : List (Option Nat)
  got : List (Nat × Option (List Byte))
deriving DecidableEq, Repr, Inhabited

/-- Board memory and what reaches it. `cells` is the memory's contents in canonical form, an unlisted byte reading 0; banks by
channel × 32 + sub-channel × 16 + bank; windows by function key × 4 + window as (base, size); pages by function key. `scrubNext`
and `scrubStart` are the scrub's next access and when its pass began; `waiting` the requests that no bank queue has taken yet,
the oldest first, and `requestNum` the next one's number; `systemShare` and `spillShare` what SYSTEM and spill read-backs may
still take, in 1/64 byte; `lastDma` the channel of the last step. -/
structure Memory where
  cells : List Host.Cell := []
  rateMts : Nat := 0
  spillGib : Nat := 96
  hotC : Nat := 85
  rhSample : Nat := 16
  rhLimit : Nat := 32
  scrubHours : Nat := 24
  next : Option MemNext := none
  scrubNext : Nat := 0
  scrubStart : Nat := 0
  waiting : List MemRequest := []
  requestNum : Nat := 0
  busReads : List BusRead := []
  systemShare : Nat := 0
  spillShare : Nat := 0
  lastDma : Nat := 63
  channels : Table Channel := []
  banks : Table MemBank := []
  windows : Table (Nat × Nat) := []
  pages : Table MmuPage := []
  dma : Table DmaChannel := []
deriving DecidableEq, Repr, Inhabited

/-! ## Power domains, wake, safety (chapter 15) and supplies (chapter 18) -/

/-- The states of a cupola (R514), codes 0–4 in this order. -/
inductive CupState where
  | active | gated | retained | off | fenced
deriving DecidableEq, Repr, Inhabited

/-- One vote: who holds it (function key × 65,536 + handle) and its level, 1 Active, 2 Gated, 3 Retained (R516). -/
structure Vote where
  holder : Nat
  level : Nat
deriving DecidableEq, Repr, Inhabited

/-- A cupola (R514–R524, R540). `floor` 1 Gated, 2 Retained, 3 Off; `hwVote` and `fwVote` are hardware's and firmware's own
votes for Active; `waking` is when a wake under way was asked for, `quiet` since when no vote forbids the next descent;
`activeNs` and `activeSince` give TIME_ACTIVE_MS. -/
structure Cupola where
  state : CupState := .off
  votes : List Vote := []
  hwVote : Bool := false
  fwVote : Bool := false
  floor : Nat := 3
  report : Bool := false
  hystGated : Nat := 1
  hystRetained : Nat := 33
  hystOff : Nat := 32768
  waking : Option Nat := none
  quiet : Option Nat := none
  wakes : Nat := 0
  lastWakeNs : Nat := 0
  retentionErrors : Nat := 0
  activeNs : Nat := 0
  activeSince : Nat := 0
deriving DecidableEq, Repr, Inhabited

/-- A maintenance activity running or waiting; `owner` is the number of the command that started it, none for firmware's own
and for one that outlives its command (R533). -/
structure MaintEntry where
  activity : Activity
  owner : Option Nat
deriving DecidableEq, Repr, Inhabited

/-- The Keep's mirror registers (R532) and its sleep state (R528, R529). -/
structure KeepRegs where
  feedA : Bool := true
  feedB : Bool := true
  wakeCause : Nat := 0
  wakeLine : Nat := 0
  ticks : Nat := 0
  wakes : Nat := 0
  feedLossA : Nat := 0
  feedLossB : Nat := 0
  asleep : Bool := false
  entering : Bool := false
  wakeOwed : Bool := false
  wakeMask : BitVec 8 := 0
  alarmTicks : Nat := 0
  wakeEventOwed : Bool := false
  enterAt : Nat := 0
  wokeTick : Option Nat := none
  wokeRank : Nat := 0
deriving DecidableEq, Repr, Inhabited

/-- Power, maintenance, safety and supplies. `rampEnd` is when the supply's ramp ends (R527), `asks` firmware's activities and
`readyDue` the wakes ready, with CUPOLA_WAKE_READY's operands, that wait for the end of the cycle (R523, R534); `dtFenced` and
`treesFenced` are the safe states of R536 for pipelines and trees; `mainLost` the main rails lost (R594); `warned` and `tripped`
the warning and the trip of R605. -/
structure Power where
  cupolas : Table Cupola := []
  pl : Nat := 0
  plTarget : Option Nat := none
  rampEnd : Nat := 0
  asks : List Activity := []
  readyDue : List (Nat × Bool × Bool) := []
  running : List MaintEntry := []
  waiting : List MaintEntry := []
  keep : KeepRegs := {}
  dtFenced : BitVec 8 := 0
  treesFenced : BitVec 64 := 0
  lastSelfTest : Nat := 0
  selfTestAt : Nat := 0
  mainLost : BitVec 10 := 0
  refclkLost : Bool := false
  clk32kLost : Bool := false
  clk32kLostAsleep : Bool := false
  warned : Bool := false
  tripped : Bool := false
deriving DecidableEq, Repr, Inhabited

/-! ## Event queues, routes, counters, meters (chapters 02 and 16) -/

/-- The class of an event record (R83). -/
inductive EvClass where
  | info | completion | warning | error | fault | safety | security
deriving DecidableEq, Repr, Inhabited

/-- An event record before a queue gives it PHASE and LOST (R83). `stamp` is the STAMP field as laid out. -/
structure Record where
  source : Nat
  cls : Nat
  payload : Nat
  tb : Nat
  stamp : Nat
deriving DecidableEq, Repr, Inhabited

/-- One event queue (R80–R87, R559, R613). `owner` is a PCI function key; `warned` says that no record has been
written since the last overflow was posted (R87); `inWrite` the records of the last write, which a write error concerns (R613);
`stage` is the coalescing stage, oldest first, and `stagedAt` when its oldest record came. -/
structure Evq where
  owner : Nat := 0
  enabled : Bool := false
  log2 : Nat := 0
  vector : Nat := 0
  base : Nat := 0
  head : Nat := 0
  tail : Nat := 0
  phase : Bool := false
  armed : Bool := false
  faulted : Bool := false
  lost : Nat := 0
  lostFlag : Bool := false
  warned : Bool := false
  inWrite : Nat := 0
  stage : List Record := []
  stagedAt : Nat := 0
  coalesceCount : Nat := 16
  coalesceUs : Nat := 100
deriving DecidableEq, Repr, Inhabited

/-- A route entry (R555). -/
structure RouteEnt where
  queue : Nat := 0
  valid : Bool := false
  masked : Bool := false
  coalesce : Bool := false
  remote : Bool := false
  address : Nat := 0
  remoteQueue : Nat := 0
deriving DecidableEq, Repr, Inhabited

/-- The counts of one event source (R562). -/
structure SourceCount where
  occurrences : Nat := 0
  masked : Nat := 0
  undelivered : Nat := 0
  relayLost : Nat := 0
deriving DecidableEq, Repr, Inhabited

/-- A programmable counter and its shadow (R542–R550): the running cycle's increment, the clears that it brings or that the next
one brings, and a configuration that takes effect at its end, as (event, instance, domain, CHAIN). -/
structure Counter where
  value : Nat := 0
  inc : Nat := 0
  clearNow : Bool := false
  clearNext : Bool := false
  clearOvf : Bool := false
  next : Option (Nat × Nat × Nat × Bool) := none
  event : Nat := 0
  inst : Nat := 0
  domain : Nat := 0
  chain : Bool := false
  overflow : Bool := false
  shadow : Nat := 0
  shadowOvf : Bool := false
deriving DecidableEq, Repr, Inhabited

/-- A window meter: configuration, the running window and when it began, what has come after its end, the last complete one, the
peak, and the latched copy; whether its window ends with the cycle, and COUNTER_READ's CLEAR (R552, R553, R562). -/
structure Meter where
  enabled : Bool := false
  since : Nat := 0
  laterBytes : Nat := 0
  laterPackets : Nat := 0
  endDue : Bool := false
  clearPeak : Bool := false
  port : Nat := 0
  egress : Bool := false
  windowUs : Nat := 0
  bytes : Nat := 0
  packets : Nat := 0
  lastBytes : Nat := 0
  lastPackets : Nat := 0
  peak : Nat := 0
  seq : Nat := 0
  latchBytes : Nat := 0
  latchPackets : Nat := 0
  latchPeak : Nat := 0
  latchSeq : Nat := 0
deriving DecidableEq, Repr, Inhabited

/-- Event queues by number, routes and counts by source, counters, meters, and, by source, the instant and the
unreported occurrences of a rate-limited source; `flushDue` the queues whose coalescing time has run out in this cycle (R559). -/
structure Events where
  queues : Table Evq := []
  routes : Table RouteEnt := []
  sources : Table SourceCount := []
  counters : Table Counter := []
  meters : Table Meter := []
  flushDue : List Nat := []
  lastPost : Table Nat := []
  unreported : Table Nat := []
deriving DecidableEq, Repr, Inhabited

/-! ## Boot, attestation, Keep port (chapter 17) -/

/-- The state of a bank's directory record (R569). -/
inductive BankState where
  | empty | pending | trying | good | bad
deriving DecidableEq, Repr, Inhabited

/-- What the device keeps of an image (R572): the outcomes of the checks of R573 that rest on its bytes alone, and header and
board configuration fields. `keyHash` and `digest` are hashes as numbers, least significant byte first. -/
structure ImageFacts where
  wellFormed : Bool
  keySet : Nat
  keyIndex : Nat
  curve : Nat
  keyHash : Nat
  signatureOk : Bool
  digestsOk : Bool
  secondStageOk : Bool
  securityVersion : Nat
  fwVersion : Nat
  length : Nat
  digest : Nat
  refclk156 : Bool
  lanternMask : BitVec 4
  dramRateMts : Nat
deriving DecidableEq, Repr, Inhabited

/-- A bank: its directory record and the image it holds (R569, R572). -/
structure Bank where
  seq : Nat := 0
  state : BankState := .empty
  length : Nat := 0
  image : Option ImageFacts := none
deriving DecidableEq, Repr, Inhabited

/-- An open update (R575): the length given and the pieces written, as (offset, bytes), the latest first. -/
structure UpdateOpen where
  length : Nat
  pieces : List (Nat × List Byte)
deriving DecidableEq, Repr, Inhabited

/-- A measurement log entry (R578). -/
structure LogEntry where
  index : Nat
  kind : Nat
  curve : Nat
  digest : Nat
  securityVersion : Nat
  fwVersion : Nat
deriving DecidableEq, Repr, Inhabited

/-- The fuses (R574). -/
structure Fuses where
  keyHashes : List Nat := []
  revoked : List Nat := []
  set1Only : Bool := false
  minimum : Nat := 0
deriving DecidableEq, Repr, Inhabited

/-- The Keep port (R583–R585). `result` is what RESULT returns once READY. -/
structure KeepPort where
  addr : Nat := 64
  transactions : Nat := 0
  pecErrors : Nat := 0
  nacks : Nat := 0
  lastCode : Nat := 0
  lastResult : Nat := 0
  bootSource : Nat := 0
  cmdPending : Bool := false
  result : Option (List Byte) := none
deriving DecidableEq, Repr, Inhabited

/-- Boot, firmware images, fuses, measurement log, Keep port. `refclk156` is REFCLK_P/N as the ROM measures it, `source` the
bank that runs (some true: bank B), none for an image of the host; `running` its image; `staged` the image staged in the
firmware partition; `previous` the other image that the partition holds; `runningState` and `stagedState` the states of the two
while there is no directory (R577); `owed` the (source, payload) of records due after FW_READY. `stageAt` is when the stage
began, `full` that the boot came through stage 0x2; `resetAt` the instant of the last class 1–3 reset and `watchdogDue` a
watchdog reset that waits for the end of the cycle (R566); `logAt`, `entriesBefore` and `accumulatorBefore` the cycle of the
last log entry with the log as it stood before (R580). -/
structure Boot where
  stage : Nat := 0
  stageAt : Nat := 0
  full : Bool := false
  resetAt : Option Nat := none
  watchdogDue : Bool := false
  fwReady : Bool := false
  fwFault : Bool := false
  watchdogAt : List Nat := []
  flash : Bool := false
  refclk156 : Bool := false
  bankA : Bank := {}
  bankB : Bank := {}
  source : Option Bool := none
  running : Option ImageFacts := none
  staged : Option ImageFacts := none
  previous : Option ImageFacts := none
  runningState : BankState := .empty
  stagedState : BankState := .empty
  update : Option UpdateOpen := none
  fuses : Fuses := {}
  bootAddrLo : Nat := 0
  bootAddrHi : Nat := 0
  bootLen : Nat := 0
  bootResult : Nat := 0
  log : List LogEntry := []
  accumulator : Nat := 0
  logAt : Nat := 0
  entriesBefore : Nat := 0
  accumulatorBefore : Nat := 0
  logFull : Bool := false
  quoteSecond : Nat := 0
  quotes : Nat := 0
  port : KeepPort := {}
  pairingKeys : Table (Option Nat) := []
  owed : List (Nat × Nat) := []
deriving DecidableEq, Repr, Inhabited

/-! ## The machine -/

/-- What an Announce of a PTP clock tells (R377, R399). -/
structure Announced where
  utcOffset : Int
  domainNumber : Nat
  priority2 : Nat
  grandmaster : Nat
  clockClass : Nat
  stepsRemoved : Nat
deriving DecidableEq, Repr, Inhabited

/-- The states of the IEEE 1149.1 TAP controller (R591). -/
inductive TapState where
  | testLogicReset | runTestIdle
  | selectDr | captureDr | shiftDr | exit1Dr | pauseDr | exit2Dr | updateDr
  | selectIr | captureIr | shiftIr | exit1Ir | pauseIr | exit2Ir | updateIr
deriving DecidableEq, Repr, Inhabited

/-- The instructions that the TAP supports (R591). -/
inductive TapInstr where
  | bypass | idcode | sample | extest
deriving DecidableEq, Repr, Inhabited

/-- The TAP: its controller, the instruction in force, what the instruction and data registers shift, what the boundary register
drives (R591). -/
structure Tap where
  state : TapState := .testLogicReset
  ir : TapInstr := .idcode
  shiftIr : List Bool := []
  shiftDr : List Bool := []
  driven : List Bool := []
deriving DecidableEq, Repr, Inhabited

/-- What the device has put out, newest first: the model's own record of it (R50, R67, R79, R83, R86). -/
inductive Output where
  | blockRead (id : CmdId) (address length : Nat)
  | response (id : CmdId) (address : Nat) (bytes : List Byte)
  | completion (ring index : Nat) (entry : Completion) (address : Nat) (bytes : List Byte)
  | event (queue index : Nat) (phase lost : Bool) (r : Record) (address : Nat) (bytes : List Byte)
  | eventsFailed (queue index count : Nat)
  | msix (queue : Nat) (vector : Nat)
  | interrupt (fn address data : Nat)
  | fabricReply (address : Nat) (entry : Completion) (bytes : List Byte)
  | todMessage (tree superframe : Nat) (terminal : Option Nat) (instant : Nat)
  | ptpMessage (clock : Nat) (kind : Nat) (port tributary : Nat) (stamp : Nat) (announced : Option Announced)
  | pulse (output : Nat) (instant width : Nat) (activeLow : Bool)
  | registerRead (fn offset value : Nat)
  | ploam (tree : Nat) (terminal : Nat) (kind : Nat) (value : Int)
  | rssiStrobe (tree : Nat) (offsetNs widthNs : Nat)
  | quietWindow (tree : Nat) (terminal : Option Nat) (start span : Nat)
  | map (tree superframe : Nat) (grants : List (Nat × Nat × Nat))
  | frame (tree superframe : Nat)
  | otuFrame (line mfas : Nat) (overhead : List Byte)
  | multiframe (line : Nat) (cms : List (Nat × Nat)) (msi control : List Byte)
  | witness (line : Nat) (bytes : List Byte)
  | keyRequest (tree terminal index : Nat)
  | buffer (requester status : Nat) (pointer : Option Nat)
  | packet (port queue length : Nat) (stomped : Bool)
  | block (line number : Nat) (bytes : List Byte)
  | management (tree terminal portId length : Nat)
  | lease (dst : Nat) (bytes : List Byte)
  | marlPart (dst group : Nat) (partB : Bool) (slot superframe : Nat) (bytes : List Byte)
  | heldMap (tree superframe : Nat) (structures : List (List Byte))
  | resumed (tree : Nat) (frame : Option Nat)
  | training (lane link : Nat) (control status : Nat)
  | fabricFrame (port : Nat) (sof payload : List Byte)
  | forward (address : Nat) (kindFields payload : List Byte)
  | flit (port : Nat) (bytes : List Byte)
  | refresh (channel sub bank : Nat)
  | directedRefresh (channel sub bank row : Nat)
  | hostWrite (fn address : Nat) (data : List Byte)
  | busRead (linkB : Bool) (va : Nat) (data : List Byte)
  | keepPort (code : Nat) (data : List Byte)
  | pairing (address : Nat) (bytes : List Byte)
deriving DecidableEq, Repr, Inhabited

structure State where
  pending : List Instr := []
  now : Nat := 0
  draws : Nat := 0
  out : List Output := []
  mbx : Mailbox := {}
  ses : Sessions := {}
  ev : Events := {}
  pwr : Power := {}
  boot : Boot := {}
  time : Time := {}
  tr : Trees := {}
  pe : PacketEngine := {}
  line : Lines := {}
  frm : Framing := {}
  cph : Cipher := {}
  pool : Pools := {}
  prot : Protection := {}
  fab : Fabric := {}
  mem : Memory := {}
  tap : Tap := {}
deriving DecidableEq, Repr, Inhabited

/-- The machine right after the supplies have brought the Keep out of reset (R596, R565): every field at its After reset
value, nothing booted, nothing commanded. -/
def State.reset : State := {}

end Sys2Proof.Machine
end

