-- ==== Sys2Proof/Machine/Ops.lean ====
section
/-!
DEFINITION. Accessors of the state's tables, the byte layout of responses, free values, and the arithmetic shared by
the chapters.
-/
namespace Sys2Proof.Machine

/-! ## Numbers and bytes -/

/-- A Bool as bit `n` of a field. -/
def bit (b : Bool) (n : Nat) : Nat := if b then 2 ^ n else 0

/-- Bits [n-1:0] of a signed number, as two's complement. -/
def twos (n : Nat) (v : Int) : Nat := (v % (2 ^ n : Int)).toNat

/-- Saturate at 2ⁿ − 1. -/
def satur (n v : Nat) : Nat := min v (2 ^ n - 1)

/-- Saturate a signed number to n bits. -/
def saturInt (n : Nat) (v : Int) : Int := max (-(2 ^ (n - 1) : Int)) (min v (2 ^ (n - 1) - 1))

/-- The n bytes of `v`, least significant first (R6). -/
def le : Nat → Nat → List Byte
  | 0, _ => []
  | n + 1, v => BitVec.ofNat 8 v :: le n (v / 256)

/-- A response laid out as fields of (bytes, value) in offset order, zero bytes up to `size`. -/
def fields (size : Nat) (fs : List (Nat × Nat)) : List Byte :=
  let b := fs.flatMap (fun f => le f.1 f.2)
  b ++ List.replicate (size - b.length) 0

/-- The value that little-endian bytes spell. -/
def leNat : List Byte → Nat
  | [] => 0
  | b :: bs => b.toNat + 256 * leNat bs

/-- One bit of CRC-16 with polynomial 0x1021 (R221, R261, R290). -/
def crcBit (c : Nat) : Nat := if 32768 ≤ c then (c * 2 % 65536) ^^^ 0x1021 else c * 2 % 65536

/-- CRC-16 with polynomial 0x1021 and initial value 0xFFFF, most significant bit first. -/
def crc16 (bs : List Byte) : Nat :=
  bs.foldl (fun c b => crcBit (crcBit (crcBit (crcBit (crcBit (crcBit (crcBit (crcBit (c ^^^ (b.toNat * 256)))))))))) 0xFFFF

/-- One bit of the reflected CRC-32 of the IEEE 802.3 FCS (R321). -/
def crc32Bit (c : Nat) : Nat := if c % 2 = 1 then (c / 2) ^^^ 0xEDB88320 else c / 2

def crc32 (bs : List Byte) : Nat :=
  (bs.foldl (fun c b => crc32Bit (crc32Bit (crc32Bit (crc32Bit (crc32Bit (crc32Bit (crc32Bit (crc32Bit
    (c ^^^ b.toNat))))))))) 0xFFFFFFFF) ^^^ 0xFFFFFFFF

/-- The field of `n` bytes at an offset of some bytes (R6). -/
def fieldAt (b : List Byte) (off n : Nat) : Nat := leNat ((b.drop off).take n)

/-- Bit `i` of the byte at an offset. -/
def flagAt (b : List Byte) (off i : Nat) : Bool := (fieldAt b off 1).testBit i

/-- Exactly `n` bytes: cut, or zero at the end. -/
def fit (n : Nat) (b : List Byte) : List Byte := b.take n ++ List.replicate (n - b.length) 0

/-- A time in witness format (R406): to and from units of 2⁻¹⁶ ns. -/
def witnessTime (v : Nat) : List Byte := le 2 v ++ le 4 (v / 65536 % 1000000000) ++ le 6 (v / 65536 / 1000000000)
def witnessValue (bs : List Byte) : Nat :=
  leNat (bs.take 2) + (leNat ((bs.drop 2).take 4) % 2 ^ 30 + leNat ((bs.drop 6).take 6) * 1000000000) * 65536

/-- The n bytes of `v`, most significant first. -/
def be (n v : Nat) : List Byte := (le n v).reverse

/-- The next free value: a number nothing constrains, and the state with its running number advanced. [log 7 DESIGN CHOICE] -/
def draw (s : State) : Nat × State := (Config.freeValue s.draws, { s with draws := s.draws + 1 })

/-- Put something out. -/
def emit (o : Output) (s : State) : State := { s with out := o :: s.out }

/-- A timer that ran from `since` for `ns` has reached its limit in a cycle that is over: an arrival of the cycle in which it
reaches the limit wins (R41). -/
def lapsed (since ns : Nat) (s : State) : Bool := decide (since + ns < s.now)

/-- Core clock cycles in 10 ns at a performance level (R525). -/
def coreTenths (pl : Nat) : Nat := match pl with
  | 0 => 16 | 1 => 12 | 2 => 8 | _ => 4

/-! ## Functions and rings -/

/-- The number of a PCI function: 0–63 on link A, 64–127 on link B. -/
def pciKey (f : PciFn) : Nat := (if f.linkB then 64 else 0) + f.num.val

/-- The number of an issuer: PCI functions 0–127, fabric functions 128–191 by address (R481), the Keep port 192. -/
def fnKey : Fn → Nat
  | .pci f => pciKey f
  | .fabric a => 128 + a.val
  | .keep => 192

/-- A virtual function (R45). -/
def isVf (f : Fn) : Bool := match f with
  | .pci p => decide (p.num.val ≠ 0)
  | _ => false

/-- The PF of the link of an issuer's number. -/
def pfOf (key : Nat) : Nat := key / 64 * 64

def ring (s : State) (fn k : Nat) : Ring := tget {} (fn * 64 + k) s.mbx.rings
def setRing (s : State) (fn k : Nat) (r : Ring) : State :=
  { s with mbx := { s.mbx with rings := tset {} (fn * 64 + k) r s.mbx.rings } }
def fnRegs (s : State) (fn : Nat) : FnRegs := tget {} fn s.mbx.fns
def setFnRegs (s : State) (fn : Nat) (r : FnRegs) : State :=
  { s with mbx := { s.mbx with fns := tset {} fn r s.mbx.fns } }
def msixEntry (s : State) (fn v : Nat) : MsixEntry := tget {} (fn * 256 + v) s.mbx.msix
def setMsixEntry (s : State) (fn v : Nat) (e : MsixEntry) : State :=
  { s with mbx := { s.mbx with msix := tset {} (fn * 256 + v) e s.mbx.msix } }
def setHeld (s : State) (h : List Held) : State := { s with mbx := { s.mbx with held := h } }

/-- Entries between HEAD and the write index (R69, R87). -/
def unread (size head w : Nat) : Nat := (w + size - head % size) % size

/-! ## Sessions and resources -/

def session (s : State) (h : Nat) : Session := tget {} h s.ses.table
def setSession (s : State) (h : Nat) (v : Session) : State :=
  { s with ses := { s.ses with table := tset {} h v s.ses.table } }
def own (s : State) (kind idx : Nat) : Own := tget {} (kind * 4096 + idx) s.ses.owners
def setOwn (s : State) (kind idx : Nat) (o : Own) : State :=
  { s with ses := { s.ses with owners := tset {} (kind * 4096 + idx) o s.ses.owners } }

/-- The resource kinds of R108. -/
def kDevice : Nat := 0
def kTree : Nat := 1
def kLine : Nat := 2
def kLaneGroup : Nat := 3
def kDomain : Nat := 4
def kTimeBase : Nat := 5
def kDma : Nat := 6
def kCounter : Nat := 7

/-- The caller's session owns the resource (R109); session 0 owns none. -/
def owns (h : Caller) (kind idx : Nat) (s : State) : Bool :=
  decide (h.session ≠ 0) && decide ((own s kind idx).session = h.session)

/-- The caller's session owns DEVICE (R109, R118). -/
def ownsDevice (h : Caller) (s : State) : Bool := owns h kDevice 0 s

/-- The caller's function may use service domain `d`: its session owns it. -/
def ownsDomain (h : Caller) (d : Nat) (s : State) : Bool := owns h kDomain d s

/-! ## Trees' tables -/

def tree (s : State) (t : Nat) : Tree := tget {} t s.tr.trees
def setTree (s : State) (t : Nat) (v : Tree) : State := { s with tr := { s.tr with trees := tset {} t v s.tr.trees } }
def terminal (s : State) (t i : Nat) : Terminal := tget {} (t * 512 + i) s.tr.terminals
def setTerminal (s : State) (t i : Nat) (v : Terminal) : State :=
  { s with tr := { s.tr with terminals := tset {} (t * 512 + i) v s.tr.terminals } }
def alloc (s : State) (a : Nat) : Alloc := tget {} a s.tr.allocs
def setAlloc (s : State) (a : Nat) (v : Alloc) : State :=
  { s with tr := { s.tr with allocs := tset {} a v s.tr.allocs } }
def portCtx (s : State) (p : Nat) : PortCtx := tget {} p s.tr.ports
def setPortCtx (s : State) (p : Nat) (v : PortCtx) : State :=
  { s with tr := { s.tr with ports := tset {} p v s.tr.ports } }

/-! ## Events' tables -/

def evq (s : State) (q : Nat) : Evq := tget {} q s.ev.queues
def setEvq (s : State) (q : Nat) (e : Evq) : State :=
  { s with ev := { s.ev with queues := tset {} q e s.ev.queues } }
def route (s : State) (src : Nat) : RouteEnt := tget {} src s.ev.routes
def setRoute (s : State) (src : Nat) (r : RouteEnt) : State :=
  { s with ev := { s.ev with routes := tset {} src r s.ev.routes } }
def source (s : State) (src : Nat) : SourceCount := tget {} src s.ev.sources
def setSource (s : State) (src : Nat) (c : SourceCount) : State :=
  { s with ev := { s.ev with sources := tset {} src c s.ev.sources } }
def counter (s : State) (c : Nat) : Counter := tget {} c s.ev.counters
def setCounter (s : State) (c : Nat) (v : Counter) : State :=
  { s with ev := { s.ev with counters := tset {} c v s.ev.counters } }
def meter (s : State) (m : Nat) : Meter := tget {} m s.ev.meters
def setMeter (s : State) (m : Nat) (v : Meter) : State :=
  { s with ev := { s.ev with meters := tset {} m v s.ev.meters } }

/-! ## Time -/

/-- Units of a time value in one nanosecond, in 2⁻¹⁶ ns, in 62.5 ps and in one second. -/
def unitNs : Nat := 1024000000000
def unitFrac : Nat := 15625000
def unitPhase : Nat := 64000000000
def unitSec : Nat := unitNs * 1000000000

/-- The seconds field holds 64 bits. -/
def timeModulus : Nat := unitSec * 2 ^ 64

def timeBase (s : State) (b : Nat) : TimeBase := tget {} b s.time.bases
def setTimeBase (s : State) (b : Nat) (v : TimeBase) : State :=
  { s with time := { s.time with bases := tset {} b v s.time.bases } }

/-- Seconds, nanoseconds and 16-bit fraction of a time value (R376). -/
def secOf (v : Nat) : Nat := v / unitSec % 2 ^ 64
def nsOf (v : Nat) : Nat := v / unitNs % 1000000000
def fracOf (v : Nat) : Nat := v % unitNs / unitFrac

/-- A time value from its three fields. -/
def timeOf (sec ns frac : Nat) : Nat := (sec * unitSec + ns * unitNs + frac * unitFrac) % timeModulus

/-- Add a signed number of 2⁻¹⁶ ns to a time value. -/
def addFrac (v : Nat) (d : Int) : Nat := (((v : Int) + d * (unitFrac : Int)) % (timeModulus : Int)).toNat

/-- Microseconds and milliseconds on the time clock, in its cycles of 1 ns. -/
def usNs (us : Nat) : Nat := us * 1000
def msNs (ms : Nat) : Nat := ms * 1000000

/-- An event of source `key` that its rule lets be posted at most once per `ns` is due (none since then). -/
def due (key ns : Nat) (s : State) : Bool :=
  let l := tget 0 key s.ev.lastPost
  decide (l = 0) || decide (l - 1 + ns ≤ s.now)
def markPost (key : Nat) (s : State) : State :=
  { s with ev := { s.ev with lastPost := tset 0 key (s.now + 1) s.ev.lastPost,
                             unreported := tset 0 key 0 s.ev.unreported } }
def unreported (key : Nat) (s : State) : Nat := tget 0 key s.ev.unreported
def addUnreported (key n : Nat) (s : State) : State :=
  { s with ev := { s.ev with unreported := tset 0 key (unreported key s + n) s.ev.unreported } }

/-! ## Line engines, framers, keys -/

def line (s : State) (l : Nat) : LineEngine := tget {} l s.line.engines
def setLine (s : State) (l : Nat) (v : LineEngine) : State :=
  { s with line := { s.line with engines := tset {} l v s.line.engines } }
def framer (s : State) (l : Nat) : Framer := tget {} l s.frm.framers
def setFramer (s : State) (l : Nat) (v : Framer) : State :=
  { s with frm := { s.frm with framers := tset {} l v s.frm.framers } }
def tributary (s : State) (l t : Nat) : Tributary := tget {} (l * 32 + t) s.frm.tributaries
def setTributary (s : State) (l t : Nat) (v : Tributary) : State :=
  { s with frm := { s.frm with tributaries := tset {} (l * 32 + t) v s.frm.tributaries } }
def sealOf (s : State) (l : Nat) : Seal := tget {} l s.cph.seals
def setSeal (s : State) (l : Nat) (v : Seal) : State :=
  { s with cph := { s.cph with seals := tset {} l v s.cph.seals } }
def macsec (s : State) (x : Nat) : Macsec := tget {} x s.cph.macsecs
def setMacsec (s : State) (x : Nat) (v : Macsec) : State :=
  { s with cph := { s.cph with macsecs := tset {} x v s.cph.macsecs } }
def slot (s : State) (kind n : Nat) : Slot := tget {} (kind * 65536 + n) s.cph.slots
def setSlot (s : State) (kind n : Nat) (v : Slot) : State :=
  { s with cph := { s.cph with slots := tset {} (kind * 65536 + n) v s.cph.slots } }
def keyPage (s : State) (fn : Nat) : KeyPage := tget {} fn s.cph.pages
def setKeyPage (s : State) (fn : Nat) (v : KeyPage) : State :=
  { s with cph := { s.cph with pages := tset {} fn v s.cph.pages } }

/-- A commit clears what the page has staged (R280). -/
def clearStaging (p : KeyPage) : KeyPage := { p with data := 0, salt := 0, ssci := 0, limit := 0 }

/-- A session that the function has open owns the domain. -/
def fnOwnsDomain (fn d : Nat) (s : State) : Bool :=
  let h := (own s kDomain d).session
  decide (h ≠ 0) && (session s h).isOpen && decide ((session s h).fn = fn)

/-! ## Board memory -/

/-- Contents of one byte of board memory; one that nothing has written reads as zero (DESIGN CHOICE). [log 5 DESIGN CHOICE] -/
def readByte (a : Nat) (s : State) : Byte := tget 0 a s.mem.cells
def writeByte (a : Nat) (b : Byte) (s : State) : State :=
  { s with mem := { s.mem with cells := tset 0 a b s.mem.cells } }

def readBytes (a n : Nat) (s : State) : List Byte := (List.range n).map (fun i => readByte (a + i) s)

/-- Write bytes at ascending addresses. -/
def writeBytes : Nat → List Byte → State → State
  | _, [], s => s
  | a, b :: rest, s => writeBytes (a + 1) rest (writeByte a b s)

/-- The canonical form of board memory. -/
def Memory.wf (m : Memory) : Bool := tableWf (0 : Byte) m.cells

/-! ## Packet engine -/

def pipe (s : State) (p : Nat) : Pipeline := tget {} p s.pe.pipes
def setPipe (s : State) (p : Nat) (v : Pipeline) : State := { s with pe := { s.pe with pipes := tset {} p v s.pe.pipes } }
def queue (s : State) (q : Nat) : Queue := tget {} q s.pe.queues
def setQueue (s : State) (q : Nat) (v : Queue) : State := { s with pe := { s.pe with queues := tset {} q v s.pe.queues } }
def group (s : State) (g : Nat) : Group := tget {} g s.pe.groups
def setGroup (s : State) (g : Nat) (v : Group) : State := { s with pe := { s.pe with groups := tset {} g v s.pe.groups } }
def domainCfg (s : State) (d : Nat) : DomainCfg := tget {} d s.pe.domains

/-- A pipeline that has been Off holds only its static learn entries (R520). -/
def dropLearned (p : Nat) (s : State) : State :=
  { s with pe := { s.pe with learned := s.pe.learned.filter (fun e => decide (e.1 / 262144 ≠ p) ||
      (match e.2 with | some x => x.isStatic | none => false)) } }

end Sys2Proof.Machine
end

