-- ==== Sys2Proof/Machine/Flits.lean ====
section
/-!
DEFINITION. The bytes of the fabric: control flits, frame headers, hello payloads, link-state records, TIME flits, and the two words of
a training frame (R454, R463, R464, R469, R470, R477).
-/
namespace Sys2Proof.Machine

/-- A control flit of 32 bytes: TYPE, what follows it, and the CRC (R463). -/
def flitBytes (type : Nat) (body : List (Nat × Nat)) : List Byte :=
  let b := fields 30 ((1, type) :: body)
  b ++ be 2 (crc16 b)

/-- A control flit whose CRC checks. -/
def flitOk (b : List Byte) : Bool := decide (b.length = 32) && decide (b.drop 30 = be 2 (crc16 (b.take 30)))

/-- A control flit is received: its CRC checks and its TYPE is listed (R463). -/
def flitListed (b : List Byte) : Bool := flitOk b && decide (fieldAt b 0 1 ≤ 7)

/-! ## Frame headers -/

/-- The SOF flit of a header (R464). -/
def sofBytes (h : FabricHeader) : List Byte :=
  flitBytes 1 ([(1, bit h.control 0 + h.kind.val * 2), (1, h.src.val), (1, h.dst.val), (1, h.hops.val), (1, bit h.flooded 0),
    (2, h.tag.toNat), (4, h.flowHash), (2, h.length), (1, h.priority), (1, 0)] ++
    (List.range 12).map (fun i => (1, (h.kindFields.getD i 0).toNat)))

/-- The header that an SOF flit carries. -/
def readSof (b : List Byte) : FabricHeader :=
  { control := flagAt b 1 0, kind := Fin.ofNat 8 (fieldAt b 1 1 / 2), src := Fin.ofNat 64 (fieldAt b 2 1),
    dst := Fin.ofNat 64 (fieldAt b 3 1), hops := Fin.ofNat 64 (fieldAt b 4 1), flooded := flagAt b 5 0,
    tag := BitVec.ofNat 14 (fieldAt b 6 2), flowHash := fieldAt b 8 4, length := fieldAt b 0x0C 2,
    priority := fieldAt b 0x0E 1 % 8, kindFields := (b.drop 0x10).take 12 }

/-- A CONTROL frame of this device to its neighbours: HOPS 1 (R469). -/
def ownControl (kind src length : Nat) : FabricHeader :=
  { control := true, kind := Fin.ofNat 8 kind, src := Fin.ofNat 64 src, dst := 0, hops := 1, flooded := false, tag := 0, flowHash := 0,
    length := length }

/-- The piece of a Marl image that a frame of kind 2 carries (R464, R480). -/
def readPiece (sof payload : List Byte) : MarlPiece :=
  { group := Fin.ofNat 4096 (fieldAt sof 0x10 2), partB := flagAt sof 0x12 0, slot := Fin.ofNat 4 (fieldAt sof 0x13 1),
    superframe := fieldAt sof 0x18 4, pieceOffset := fieldAt sof 0x14 4, bytes := payload }

/-! ## Hellos and records -/

def helloBytes (m : HelloMsg) : List Byte :=
  fields 32 [(1, m.version), (1, bit m.addressValid 0 + bit m.twoWay 1 + bit m.bidirectional 2), (1, m.strap.val), (1, m.address.val),
    (2, m.port), (2, m.neighbourPort), (8, m.serial), (8, m.neighbourSerial), (4, m.lsrSeq)]
def readHello (b : List Byte) : HelloMsg :=
  { version := fieldAt b 0 1, addressValid := flagAt b 1 0, twoWay := flagAt b 1 1, bidirectional := flagAt b 1 2,
    strap := Fin.ofNat 32 (fieldAt b 2 1), address := Fin.ofNat 64 (fieldAt b 3 1), port := fieldAt b 4 2,
    neighbourPort := fieldAt b 6 2, serial := fieldAt b 8 8, neighbourSerial := fieldAt b 0x10 8, lsrSeq := fieldAt b 0x18 4 }

def lsEntryBytes (e : LsEntry) : List Byte :=
  fields 8 [(2, e.localPort), (1, e.neighbour), (2, e.cost), (1, bit e.bidirectional 0)]
def readLsEntry (b : List Byte) : LsEntry :=
  { localPort := fieldAt b 0 2, neighbour := fieldAt b 2 1, cost := fieldAt b 3 2, bidirectional := flagAt b 5 0 }

def linkStateBytes (r : LsRecord) : List Byte :=
  fields 32 [(1, 1), (1, bit r.addressValid 0 + bit r.timeCandidate 1), (1, r.strap.val), (1, r.address.val), (8, r.serial), (4, r.seq),
    (2, r.entries.length), (1, r.timeState), (1, r.timePriority)] ++ r.entries.flatMap lsEntryBytes
def readLinkState (b : List Byte) : LsRecord :=
  { serial := fieldAt b 4 8, seq := fieldAt b 0x0C 4, addressValid := flagAt b 1 0, timeCandidate := flagAt b 1 1,
    strap := Fin.ofNat 32 (fieldAt b 2 1), address := Fin.ofNat 64 (fieldAt b 3 1), timeState := fieldAt b 0x12 1,
    timePriority := fieldAt b 0x13 1,
    entries := (List.range (fieldAt b 0x10 2)).map (fun i => readLsEntry ((b.drop (0x20 + 8 * i)).take 8)) }

/-! ## Fabric time -/

def timeFlitBytes (f : TimeFlit) : List Byte :=
  let b := fields 6 [(1, 3), (1, f.seq), (1, f.rxSeq), (1, f.source + bit f.sourceValid 6), (1, f.steps), (1, f.flags)] ++
    witnessTime f.txStamp ++ witnessTime f.rxStamp
  b ++ be 2 (crc16 b)
def readTimeFlit (b : List Byte) : TimeFlit :=
  { seq := fieldAt b 1 1, rxSeq := fieldAt b 2 1, source := fieldAt b 3 1 % 64, sourceValid := flagAt b 3 6, steps := fieldAt b 4 1 % 64,
    flags := fieldAt b 5 1 % 4, txStamp := witnessValue ((b.drop 6).take 12), rxStamp := witnessValue ((b.drop 0x12).take 12) }

/-! ## Training frames -/

/-- A CONTROL or STATUS word: 48 bits and their CRC (R454). -/
def trainingWord (low : Nat) : Nat := low % 2 ^ 48 + crc16 (be 6 (low % 2 ^ 48)) * 2 ^ 48
def trainingWordOk (w : BitVec 64) : Bool := decide (trainingWord w.toNat = w.toNat)

/-- CONTROL of a request (tap, action, preset), its number and READY (R454). -/
def controlWord (request : Option (Nat × Nat × Nat)) (seq : Nat) (ready : Bool) : Nat :=
  let (tap, action, preset) := request.getD (0, 0, 0)
  trainingWord (tap % 8 + action % 4 * 2 ^ 3 + preset % 8 * 2 ^ 5 + seq % 256 * 2 ^ 8 + bit ready 16)

/-- STATUS: RESULT, ACK_SEQ and FOM (R454). -/
def statusWord (result ack fom : Nat) : Nat := trainingWord (result % 4 + ack % 256 * 2 ^ 8 + fom % 256 * 2 ^ 16)

/-- Bits [hi:lo] of a word. -/
def wordBits (w : BitVec 64) (lo n : Nat) : Nat := w.toNat / 2 ^ lo % 2 ^ n

end Sys2Proof.Machine
end

