-- ==== Sys2Proof/Machine/FabricBase.lean ====
section
/-!
DEFINITION. Lanes, links, the link-state database, routes, and the choice of a link (R449, R462, R468–R478).
-/
namespace Sys2Proof.Machine

/-! ## Lane groups and links -/

def laneGroup (s : State) (g : Nat) : LaneGroup := tget {} g s.fab.groups
def setLaneGroup (s : State) (g : Nat) (v : LaneGroup) : State :=
  { s with fab := { s.fab with groups := tset {} g v s.fab.groups } }
def groupOfLane (lane : Nat) : Nat := lane / 8

/-- A link's key, by lane position and link. -/
def linkKey (lane lnk : Nat) : Nat := lane * 2 + lnk
def link (s : State) (k : Nat) : Link := tget {} k s.fab.links
def setLink (s : State) (k : Nat) (v : Link) : State := { s with fab := { s.fab with links := tset {} k v s.fab.links } }
def client (s : State) (lane : Nat) : Client := tget {} lane s.fab.clients
def setClient (s : State) (lane : Nat) (v : Client) : State :=
  { s with fab := { s.fab with clients := tset {} lane v s.fab.clients } }
def loopOf (s : State) (lane : Nat) : Nat := tget 0 lane s.fab.loops

/-- PORT of a fabric link (R309), and the link of a PORT. -/
def linkPort (k : Nat) : Nat := (if k % 2 = 0 then 0xC0 else 0x100) + k / 2
def portLink (port : Nat) : Nat := if port < 0x100 then (port - 0xC0) * 2 else (port - 0x100) * 2 + 1
def isFabricPort (port : Nat) : Bool := decide (0xC0 ≤ port)

/-- MODE, FOM_FLOOR and COST of a link's lane group. -/
def linkGroup (s : State) (k : Nat) : LaneGroup := laneGroup s (groupOfLane (k / 2))

/-- The position is in MODE 1 or 2, and has the link (R449). -/
def linkExists (k : Nat) (s : State) : Bool :=
  let m := (linkGroup s k).mode
  decide (m = 2) || (decide (m = 1) && decide (k % 2 = 0))

/-- STATE 3 of R483. -/
def linkUp (k : Nat) (s : State) : Bool := (link s k).enabled && decide ((link s k).state = 3)

/-- The link is adjacent (R469). -/
def linkAdjacent (k : Nat) (s : State) : Bool := linkUp k s && (link s k).adjacent

/-- Adjacent links, ascending by PORT. -/
def adjacentLinks (s : State) : List Nat :=
  let l := s.fab.links.map (fun e => e.1)
  (l.filter (fun k => decide (k % 2 = 0) && linkAdjacent k s)) ++ (l.filter (fun k => decide (k % 2 = 1) && linkAdjacent k s))

/-- RETRIES_LEFT counts down from this; none without limit (R462). -/
def retryLimit (k : Nat) (s : State) : Option Nat :=
  match (linkGroup s k).retryCount with
  | 0 => some 6 | 255 => none | n => some n

/-! ## The link-state database -/

/-- The one time base with FABRIC_TB (R402). -/
def fabricTimeBase (s : State) : Option Nat := (s.time.bases.find? (fun e => e.2.fabricTb)).map (fun e => e.1)

def servoCode : Servo → Nat
  | .freeRun => 0 | .acquiring => 1 | .locked => 2 | .holdover => 3 | .coarse => 4 | .stepHeld => 5 | .host => 6

/-- TIME_CANDIDATE (R478). -/
def timeCandidate (s : State) : Bool :=
  match fabricTimeBase s with
  | none => false
  | some b =>
    let v := timeBase s b
    ((decide (v.inputKind = 1) || decide (v.inputKind = 2)) && (decide (v.servo = .locked) || decide (v.servo = .holdover))) ||
    (decide (v.inputKind = 4) && decide (v.servo = .host))

/-- TIME_STATE (R470). -/
def timeStateField (s : State) : Nat :=
  match fabricTimeBase s with
  | some b => servoCode (timeBase s b).servo
  | none => 0xFF

/-- The entry of an adjacent link in the own record (R470). -/
def ownEntry (s : State) (k : Nat) : LsEntry :=
  { localPort := linkPort k, neighbour := ((link s k).neighbour.bind (fun n => n.address)).getD 0xFF,
    cost := (linkGroup s k).cost, bidirectional := decide ((linkGroup s k).mode = 2) }

/-- The own record as it stands (R470). -/
def ownRecord (s : State) : LsRecord :=
  { serial := Config.serial, seq := s.fab.lsrSeq, addressValid := s.fab.address.isSome, timeCandidate := timeCandidate s,
    strap := Fin.ofNat 32 s.fab.strap, address := Fin.ofNat 64 (s.fab.address.getD 0), timeState := timeStateField s,
    timePriority := s.fab.timePriority, entries := (adjacentLinks s).map (ownEntry s) }

/-- Every record, the own one first. -/
def database (s : State) : List LsRecord := ownRecord s :: s.fab.records.map (fun r => r.record)

/-! ## Shortest paths -/

/-- Edges (from, to, cost) between addressed devices. -/
def edges (s : State) : List (Nat × Nat × Nat) :=
  (database s).flatMap (fun r => if r.addressValid then
    r.entries.filterMap (fun e => if e.neighbour < 64 then some (r.address.val, e.neighbour, e.cost) else none) else [])

/-- The lesser of two distances. -/
def lesser (a b : Option Nat) : Option Nat :=
  match a, b with
  | some x, some y => some (min x y)
  | some x, none => some x
  | none, y => y

/-- One relaxation of the distances to a destination over every edge. -/
def relax (es : List (Nat × Nat × Nat)) (dist : Table (Option Nat)) : Table (Option Nat) :=
  es.foldl (fun acc e => match tget none e.2.1 acc with
    | some x => tins e.1 (lesser (tget none e.1 acc) (some (x + e.2.2))) acc
    | none => acc) dist

def relaxN (es : List (Nat × Nat × Nat)) : Nat → Table (Option Nat) → Table (Option Nat)
  | 0, t => t
  | n + 1, t => relaxN es n (relax es t)

/-- The distance from device `a` to device `d` (R472). -/
def distTable (d : Nat) (es : List (Nat × Nat × Nat)) (n : Nat) : Table (Option Nat) := relaxN es n [(d, some 0)]
def distance (s : State) (a d : Nat) : Option Nat := tget none a (distTable d (edges s) (database s).length)

/-- Hops of a shortest path: distances with every edge on a shortest path counted once. -/
def hopCount (s : State) (a d : Nat) : Nat :=
  let es := edges s
  let t := distTable d es (database s).length
  let tight := es.filterMap (fun e => match tget none e.1 t, tget none e.2.1 t with
    | some x, some y => if x = y + e.2.2 then some (e.1, e.2.1, 1) else none
    | _, _ => none)
  (tget none a (distTable d tight (database s).length)).getD 0

/-- Links to a neighbour on a shortest path to `d` (at most 8), in ascending PORT (R472). -/
def nextHops (s : State) (self d : Nat) : List Nat :=
  ((adjacentLinks s).filter (fun k =>
    match (link s k).neighbour.bind (fun n => n.address), distance s self d with
    | some n, some x => (match distance s n d with
      | some y => decide (x = y + (linkGroup s k).cost) | none => false)
    | _, _ => false)).map linkPort |>.take 8

/-- The backup link (R472): the first whose neighbour does not come back through this device. -/
def backupHop (s : State) (self d : Nat) (equal : List Nat) : Option Nat :=
  ((adjacentLinks s).find? (fun k => !equal.contains (linkPort k) &&
    (match (link s k).neighbour.bind (fun n => n.address) with
      | some n => (match distance s n d, distance s n self, distance s self d with
        | some x, some y, some z => decide (x < y + z) | _, _, _ => false)
      | none => false))).map linkPort

/-- The route table computed from the database (R472). [log 116 DEDUCED] -/
def computeRoutes (s : State) : List Route :=
  match s.fab.address with
  | none => []
  | some self => (List.range 64).filterMap (fun d =>
    if d = self then none
    else match distance s self d with
      | none => none
      | some c =>
        let eq := nextHops s self d
        some { dest := Fin.ofNat 64 d, hops := hopCount s self d, cost := c, nextHops := eq, backup := backupHop s self d eq })

/-! ## Choosing a link -/

def routeTo (a : Nat) (s : State) : Option Route := s.fab.routes.find? (fun r => decide (r.dest.val = a))

/-- Usable equal-cost links of a route, in ascending PORT: links down are out of every set (R468, R473). -/
def usableHops (r : Route) (s : State) : List Nat := r.nextHops.filter (fun p => linkAdjacent (portLink p) s)

/-- The link that a frame to `a` leaves on (R473). -/
def chooseLink (a hash : Nat) (s : State) : Option Nat :=
  match routeTo a s with
  | none => none
  | some r =>
    match usableHops r s with
    | [] => (match r.backup with
      | some p => if linkAdjacent (portLink p) s then some p else none
      | none => none)
    | l => l[hash % 65536 * l.length / 65536]?

/-- The address has a usable route. -/
def reachable (a : Nat) (s : State) : Bool := (chooseLink a 0 s).isSome

/-- Fabric time comes from another device and a link names its source (R387, R478). -/
def fabricTimePresent (s : State) : Bool :=
  match s.fab.source with
  | none => false
  | some a => decide (s.fab.address ≠ some a) && !s.fab.sourceLost &&
    (adjacentLinks s).any (fun k => decide ((link s k).timeSource = some a))

/-- Fabric time is locked (R402). -/
def fabricTimeLocked (s : State) : Bool :=
  match fabricTimeBase s with
  | none => false
  | some b =>
    let v := (timeBase s b).servo
    decide (v = .locked) || (decide (s.fab.source.isSome ∧ s.fab.source = s.fab.address) &&
      (decide (v = .holdover) || decide (v = .host)))

end Sys2Proof.Machine
end

