-- ==== Sys2Proof/Machine/Queries.lean ====
section
/-!
DEFINITION. Questions that one chapter's rules ask of another chapter's state.
-/
namespace Sys2Proof.Machine

/-! ## Protection -/

def member (s : State) (t : Nat) : Member := tget {} t s.prot.members
def setMember (s : State) (t : Nat) (v : Member) : State :=
  { s with prot := { s.prot with members := tset {} t v s.prot.members } }

/-- The tree belongs to a protection group (R446). -/
def protConfigured (t : Nat) (s : State) : Bool := (member s t).cfg.isSome

/-- The tree transmits and receives: it belongs to no group, or holds its lease (R419, R425). -/
def protTransmits (t : Nat) (s : State) : Bool := !protConfigured t s || (member s t).holding

/-- FEEDER_DELTA of an enabled member, in units of 62.5 ps (R421). -/
def feederDelta (t : Nat) (s : State) : Int :=
  let m := member s t
  match m.cfg with | some c => if m.enabled then c.feederDelta else 0 | none => 0

def protGroup (t : Nat) (s : State) : Option Nat := (member s t).cfg.map (fun c => c.group.val)

/-! ## Votes of enabled resources -/

/-- A port in the lane positions from `lo`, `n` of them, is enabled. -/
def lanesInUse (lo n : Nat) (s : State) : Bool :=
  s.pe.ports.any (fun e => e.2.enabled && decide (0x80 ≤ e.1) &&
    (let x := if e.1 < 0xC0 then e.1 - 0x80 else if e.1 < 0x100 then e.1 - 0xC0 else e.1 - 0x100
     decide (lo ≤ x) && decide (x < lo + n)))

/-- The level that the enabled resources of a cupola vote: 1 Active, 2 Gated, 3 Retained (R515, R516, R518, R419). -/
def resourceLevel (k : Nat) (s : State) : Option Nat :=
  if k ≤ 63 then
    (if (member s k).enabled && !(member s k).holding then some 3
     else if (tree s k).enabled then some (if (tree s k).duty then 2 else 1) else none)
  else if k ≤ 67 then (if (line s (k - 64)).enabled then some 1 else none)
  else if k ≤ 75 then
    (if s.pe.ports.any (fun e => e.2.enabled && decide (e.2.pipeline = some (k - 68))) then some 1 else none)
  else if k ≤ 91 then some 3
  else if k ≤ 97 then (if lanesInUse ((k - 92) * 8) 8 s then some 1 else none)
  else if k ≤ 101 then
    (if s.tr.trees.any (fun e => e.2.enabled && decide (e.1 / 16 = k - 98)) then some 2 else none)
  else if k ≤ 105 then (if (sealOf s (k - 102)).enable then some 1 else none)
  else if k ≤ 107 then
    (if s.cph.macsecs.any (fun e => e.2.enable && decide (e.1 / 24 = k - 106)) then some 1 else none)
  else if k = 109 ∨ k = 110 then some 2
  else some 1

/-! ## Lines, trees, keys -/

/-- The line engine is in 400ZR mode (R237). -/
def line400zr (l : Nat) (s : State) : Bool := match (line s l).cfg with | some c => decide (c.mode.val = 1) | none => false

/-- STATE 3: enabled and locked (R242). -/
def lineLocked (l : Nat) (s : State) : Bool := (line s l).enabled && (line s l).locked

/-- The port takes stamps: locked, and in IM where it has a framer (R267, R386). -/
def lineStamps (l : Nat) (s : State) : Bool := lineLocked l s && (line400zr l s || (framer s l).im)

def treeTimeBase (t : Nat) (s : State) : Nat := (tree s t).timeBase
def treeOn (t : Nat) (s : State) : Bool := (tree s t).enabled
def treeDoubleRate (t : Nat) (s : State) : Bool := decide ((tree s t).mode = 2)
def terminalRtd (t i : Nat) (s : State) : Option Nat := (terminal s t i).rtd
def admittedTerminals (t : Nat) (s : State) : List Nat :=
  (s.tr.terminals.filter (fun e => decide (e.1 / 512 = t) && e.2.admitted)).map (fun e => e.1 % 512)
def keyStoreZeroised (s : State) : Bool := s.cph.zeroised

/-- The domain of a hardware queue: an egress queue's as configured, an upstream queue's that of its terminal (R339,
R349). [log 80 DEDUCED] -/
def queueDomain (q : Nat) (s : State) : Option Nat :=
  if q < 65536 then (queue s q).cfg.map (fun c => c.domain.val)
  else
    let a := alloc s (q - 65536)
    if a.present then some (terminal s a.tree a.terminal).domain else none


/-- The resource of R108 that a PORT of R309 belongs to. -/
def portResource (port : Nat) : Nat × Nat :=
  if port < 0x40 then (kTree, port)
  else if port < 0x80 then (kLine, port - 0x40)
  else if port < 0xC0 then (kLaneGroup, (port - 0x80) / 8)
  else if port < 0x100 then (kLaneGroup, (port - 0xC0) / 8)
  else (kLaneGroup, (port - 0x100) / 8)

/-- PORT names a port of R309. -/
def portExists (port : Nat) : Bool :=
  decide (port < 0x44) || (decide (0x80 ≤ port) && decide (port < 0xB0)) ||
  (decide (0xC0 ≤ port) && decide (port < 0xF0)) || (decide (0x100 ≤ port) && decide (port < 0x130))

def ownsPort (h : Caller) (port : Nat) (s : State) : Bool :=
  owns h (portResource port).1 (portResource port).2 s

/-- The time base that stamps at a PORT: a tree's own, else the assignment of R416, TB0 at first. -/
def portTimeBase (port : Nat) (s : State) : Nat :=
  if port < 0x40 then treeTimeBase port s else tget 0 port s.time.portTb

/-- The time base assigned to a PORT, which stamps from its next frame or packet boundary (R23). -/
def assignedBase (port : Nat) (s : State) : Nat :=
  match tget 0 port s.time.portTbNext with | 0 => portTimeBase port s | n + 1 => n

/-- A frame or packet boundary of a PORT: an assignment that waits takes effect (R23). -/
def portBoundary (port : Nat) (s : State) : State :=
  match tget 0 port s.time.portTbNext with
  | 0 => s
  | n + 1 => { s with time := { s.time with portTb := tset 0 port n s.time.portTb, portTbNext := tset 0 port 0 s.time.portTbNext } }

end Sys2Proof.Machine
end

