-- ==== Sys2Proof/Machine/Events.lean ====
section
/-!
DEFINITION. Posting an event: routes and masks, default destination, coalescing, the queue's record write with PHASE
and LOST, overflow, MSI-X (R83–R87, R554–R561, R613). Flag computations of the records stand here too.
-/
namespace Sys2Proof.Machine

/-- CLASS of R83. -/
def classCode : EvClass → Nat
  | .info => 0 | .completion => 1 | .warning => 2 | .error => 3 | .fault => 4 | .safety => 5 | .security => 6

/-- The administrative event queue of a function (R61). -/
def adminQueue (s : State) (fn : Nat) : Option Nat :=
  if (ring s fn 0).enabled then some (ring s fn 0).evq else none

/-- The default destination's function (R555). -/
def defaultFn (s : State) : Nat :=
  let o := (own s kDevice 0).session
  let f := (session s o).fn
  if decide (o ≠ 0) && (session s o).isOpen && decide (f < 128) then pfOf f
  else match adminQueue s 0 with
    | some q => if (evq s q).enabled && !(evq s q).faulted then 0 else 64
    | none => 64

/-- A time value in the STAMP format (R83). -/
def stampOf (v : Nat) : Nat := fracOf v + nsOf v * 2 ^ 16 + secOf v % 2 ^ 18 * 2 ^ 46

/-- STAMP of a record against a time base (R83). -/
def stampField (s : State) (b : Nat) : Nat := stampOf (timeBase s b).value

/-- The PORT of R309 whose event a source reports: a tree, a line engine, a lane position. -/
def sourcePort (src : Nat) : Option Nat :=
  if 0x100 ≤ src ∧ src < 0x240 then some (src % 64)
  else if 0x280 ≤ src ∧ src < 0x294 then some (0x40 + src % 4)
  else if 0x2A4 ≤ src ∧ src < 0x2A8 then some (0x40 + src % 4)
  else if 0x310 ≤ src ∧ src < 0x314 then some (0x40 + src % 4)
  else if 0x340 ≤ src ∧ src < 0x380 then some (src % 64)
  else if 0x3C0 ≤ src ∧ src < 0x3F0 then some (0xC0 + (src - 0x3C0))
  else none

/-- The time base that stamps a source's records: that of its port (R23), an open one where it has none. -/
def sourceTb (src : Nat) (s : State) : Nat :=
  match sourcePort src with
  | some p => portTimeBase p s % 8
  | none => Config.eventTimeBase src % 8

/-- A record of a source, stamped now. [log 16 DESIGN CHOICE] -/
def mkRecord (src : Nat) (cls : EvClass) (payload : Nat) (s : State) : Record :=
  { source := src, cls := classCode cls, payload := payload % 2 ^ 44, tb := sourceTb src s, stamp := stampField s (sourceTb src s) }

/-- The 16 bytes of a record (R6, R83). -/
def eventBytes (phase lost : Bool) (r : Record) : List Byte :=
  fields 16 [(2, r.source % 2 ^ 12 + r.cls % 8 * 2 ^ 12 + bit phase 15),
    (2, r.tb % 8 + bit lost 3 + r.payload / 2 ^ 32 % 2 ^ 12 * 2 ^ 4), (4, r.payload % 2 ^ 32), (8, r.stamp)]

/-- The record that 16 bytes hold. -/
def readRecord (b : List Byte) : Record :=
  { source := fieldAt b 0 2 % 2 ^ 12, cls := fieldAt b 0 2 / 2 ^ 12 % 8, tb := fieldAt b 2 2 % 8,
    payload := fieldAt b 4 4 + fieldAt b 2 2 / 2 ^ 4 * 2 ^ 32, stamp := fieldAt b 8 8 }

/-- KIND_FIELDS of a frame of kind 3: TAG and SUB (R464). -/
def kindThree (tag sub : Nat) : List Byte := fields 12 [(4, tag), (1, sub)]

/-- A record relayed to a queue of another device: the payload of a frame of kind 3 with SUB 1, its TAG 0x8000_0000 + queue
(R561). -/
def relay (address queue : Nat) (r : Record) (s : State) : State :=
  emit (.forward address (kindThree (0x80000000 + queue) 1) (eventBytes false false r)) s

/-- The queue has a free record (R87). -/
def evqRoom (e : Evq) : Bool := decide (unread (2 ^ (e.log2 + 6)) e.head e.tail < 2 ^ (e.log2 + 6) - 1)

/-- The MSI-X message of a vector: written to the address of its table entry, or left pending while the entry is masked (R45,
R48). -/
def signalVector (fn v : Nat) (s : State) : State :=
  let e := msixEntry s fn v
  if e.masked then setMsixEntry s fn v { e with waits := true } else emit (.interrupt fn e.addr e.data) s

/-- A queue's MSI-X message (R86). -/
def sendMsix (q : Nat) (s : State) : State :=
  signalVector (evq s q).owner (evq s q).vector (emit (.msix q (evq s q).vector) s)

/-- Send the MSI-X message of an armed queue to which a record has been written since `before` (R86). -/
def fireMsix (q : Nat) (before : Nat) (s : State) : State :=
  let e := evq s q
  if e.armed && !e.faulted && decide (e.tail ≠ before) then sendMsix q (setEvq s q { e with armed := false }) else s

/-- Write one record at TAIL (R83, R87). -/
def storeEvent (q : Nat) (r : Record) (s : State) : State :=
  let e := evq s q
  let t := (e.tail + 1) % 2 ^ (e.log2 + 6)
  emit (.event q e.tail e.phase e.lostFlag r (e.base + 16 * e.tail) (eventBytes e.phase e.lostFlag r))
    (setEvq s q { e with tail := t, phase := if t = 0 then !e.phase else e.phase, lostFlag := false, warned := false,
                         inWrite := e.inWrite + 1 })

/-- A record is discarded and counted (R87, R613). -/
def dropRecord (q : Nat) (s : State) : State := setEvq s q { evq s q with lost := satur 32 ((evq s q).lost + 1), lostFlag := true }

/-- Post source 0x002 at the first discard since a record was written, with EVQ_LOST as that discard leaves it; its own record is
never reported (R84, R87). -/
def warnOverflow (q : Nat) (s : State) : State :=
  let e := evq s q
  if e.warned then s
  else
    let s1 := setEvq s q { e with warned := true }
    let s2 := setSource s1 2 { source s1 2 with occurrences := satur 32 ((source s1 2).occurrences + 1) }
    match adminQueue s2 e.owner with
    | some a =>
      if !(evq s2 a).enabled then setSource s2 2 { source s2 2 with undelivered := satur 32 ((source s2 2).undelivered + 1) }
      else if (evq s2 a).faulted || !evqRoom (evq s2 a) then dropRecord a s2
      else fireMsix a (evq s2 a).tail
        (storeEvent a (mkRecord 2 .warning (q + e.lost * 2 ^ 8) s2) (setEvq s2 a { evq s2 a with inWrite := 0 }))
    | none => setSource s2 2 { source s2 2 with undelivered := satur 32 ((source s2 2).undelivered + 1) }

/-- Write one record, or discard it and count it: a faulted queue takes none, a full one reports its overflow (R87, R613). -/
def putRecord (q : Nat) (r : Record) (s : State) : State :=
  if (evq s q).faulted then dropRecord q s
  else if evqRoom (evq s q) then storeEvent q r s
  else warnOverflow q (dropRecord q s)

/-- One write of records to a queue: at most one MSI-X message (R559). -/
def writeRecords (q : Nat) (rs : List Record) (s : State) : State :=
  fireMsix q (evq s q).tail (rs.foldl (fun st r => putRecord q r st) (setEvq s q { evq s q with inWrite := 0 }))

/-- Flush the coalescing stage (R559). -/
def flushStage (q : Nat) (s : State) : State :=
  let e := evq s q
  writeRecords q e.stage (setEvq s q { e with stage := [] })

/-- The stage's oldest record is COALESCE_US old (R559). -/
def stageDue (q : Nat) (s : State) : Bool :=
  let e := evq s q
  !e.stage.isEmpty && decide (e.stagedAt + usNs e.coalesceUs ≤ s.now)

/-- Flushes that waited for the end of the cycle (R559). -/
def flushLate (s : State) : State :=
  s.ev.flushDue.foldl (fun st q => if stageDue q st then flushStage q st else st) { s with ev := { s.ev with flushDue := [] } }

/-- A record flushes the stage before it is written (R559). [log 136 DEDUCED] -/
def flushes (cls : Nat) : Bool := decide (cls = 1) || decide (cls = 5) || decide (cls = 6)

/-- Hand a record to an enabled queue: into the stage, or written at once (R559), behind the staged records where one of
them is of its source (R558). -/
def toQueue (q : Nat) (coalesce : Bool) (r : Record) (s : State) : State :=
  let e := evq s q
  if e.faulted then dropRecord q s
  else if flushes r.cls then writeRecords q (e.stage ++ [r]) (setEvq s q { e with stage := [] })
  else if coalesce then
    let s1 := setEvq s q { e with stage := e.stage ++ [r], stagedAt := if e.stage = [] then s.now else e.stagedAt }
    if e.coalesceCount ≤ e.stage.length + 1 then flushStage q s1 else s1
  else if e.stage.any (fun x => decide (x.source = r.source)) then
    writeRecords q (e.stage ++ [r]) (setEvq s q { e with stage := [] })
  else writeRecords q [r] s

/-- Count an occurrence, a masked one, an undelivered one, a relayed record lost (R562; saturating). -/
def countOccurrence (src : Nat) (s : State) : State :=
  setSource s src { source s src with occurrences := satur 32 ((source s src).occurrences + 1) }
def countMasked (src : Nat) (s : State) : State :=
  setSource s src { source s src with masked := satur 32 ((source s src).masked + 1) }
def countUndelivered (src : Nat) (s : State) : State :=
  setSource s src { source s src with undelivered := satur 32 ((source s src).undelivered + 1) }
def countRelayLost (src : Nat) (s : State) : State :=
  setSource s src { source s src with relayLost := satur 32 ((source s src).relayLost + 1) }

/-- Deliver to a queue, or count the record as undelivered when there is no enabled destination (R555). [log 137 DEDUCED] -/
def deliverTo (q : Option Nat) (coalesce : Bool) (r : Record) (s : State) : State :=
  match q with
  | some k => if (evq s k).enabled then toQueue k coalesce r s else countUndelivered r.source s
  | none => countUndelivered r.source s

/-- A SAFETY or SECURITY record. -/
def guarded : EvClass → Bool
  | .safety => true
  | .security => true
  | _ => false

/-- The fabric can carry a frame to the address: the route table holds it (R472). -/
def fabricReaches (a : Nat) (s : State) : Bool := reachable a s

/-- Post a routed source (R554–R561). Until FW_READY no event is posted (R568). -/
def post (src : Nat) (cls : EvClass) (payload : Nat) (s : State) : State :=
  if !s.boot.fwReady then s else
  let r := mkRecord src cls payload s
  let s := countOccurrence src s
  let e := route s src
  if e.masked && !guarded cls then countMasked src s
  else
    let dq := adminQueue s (defaultFn s)
    if !e.valid then deliverTo dq false r s
    else if e.remote then
      let s1 := if fabricReaches e.address s then relay e.address e.remoteQueue r s else countRelayLost src s
      if guarded cls then deliverTo dq false r s1 else s1
    else
      let s1 := deliverTo (some e.queue) e.coalesce r s
      if guarded cls && decide (dq ≠ some e.queue) then deliverTo dq false r s1 else s1

/-- A record to be posted once FW_READY is reached (R568). -/
def owe (src payload : Nat) (s : State) : State := { s with boot := { s.boot with owed := s.boot.owed ++ [(src, payload)] } }

/-- Post now, or once FW_READY is reached, what the device does not lose over a boot or a wake. [log 131 DEDUCED] -/
def postOrOwe (src : Nat) (cls : EvClass) (payload : Nat) (s : State) : State :=
  if s.boot.fwReady then post src cls payload s else owe src payload s

/-- Post a function source to the queue its own rule names; it is neither routed nor masked (R554). -/
def postFn (q : Option Nat) (src : Nat) (cls : EvClass) (payload : Nat) (s : State) : State :=
  if !s.boot.fwReady then s
  else deliverTo q false (mkRecord src cls payload s) (countOccurrence src s)

/-- Post at most once per `ns`; an occurrence between posts is kept in the count (R551 and its like). The payload is
given the occurrences since the last post, this one among them. [log 54 DESIGN CHOICE, 158 DEDUCED] -/
def postLimited (src ns : Nat) (cls : EvClass) (payload : Nat → Nat) (s : State) : State :=
  let s1 := addUnreported src 1 s
  if due src ns s1 then post src cls (payload (unreported src s1)) (markPost src s1) else s1

end Sys2Proof.Machine
end

