-- ==== Sys2Proof/Machine/Cupolas.lean ====
section
/-!
DEFINITION. Cupolas: states, votes, wakes, fences, and the posting of their changes (R514–R524, R541).
-/
namespace Sys2Proof.Machine

/-- Clusters A and the Keep are Active outside Keep-only (R515). -/
def alwaysUp (k : Nat) : Bool := decide (k = 108) || decide (k = 111)

/-- The floor of a DRAM channel is Retained at most (R519). -/
def isDramCupola (k : Nat) : Bool := decide (76 ≤ k) && decide (k ≤ 91)
def isPipelineCupola (k : Nat) : Bool := decide (68 ≤ k) && decide (k ≤ 75)
def isLineCupola (k : Nat) : Bool := decide (64 ≤ k) && decide (k ≤ 67)
def isTreeCupola (k : Nat) : Bool := decide (k ≤ 63)

/-- The state a cupola has before anything is commanded: clusters A and Keep Active, the others Off. -/
def cup (s : State) (k : Nat) : Cupola :=
  let c := tget {} k s.pwr.cupolas
  if alwaysUp k && decide (c.state = .off) then { c with state := .active } else c
def setCup (s : State) (k : Nat) (c : Cupola) : State :=
  { s with pwr := { s.pwr with cupolas := tset {} k c s.pwr.cupolas } }

/-- STATE of R540 and R541. -/
def cupCode : CupState → Nat
  | .active => 0 | .gated => 1 | .retained => 2 | .off => 3 | .fenced => 4

/-- Wake time in ns from a state (R515). -/
def wakeNs (k : Nat) (c : CupState) : Nat :=
  let t (g r o : Nat) : Nat := match c with
    | .active => 0 | .gated => g | .retained => r | .off => o | .fenced => o
  if k ≤ 63 then t 500 8000 40000
  else if k ≤ 67 then t 100000 2000000 25000000
  else if k ≤ 75 then t 100 5000 30000
  else if k ≤ 91 then t 300 20000 2000000
  else if k ≤ 97 then t 1000 15000 40000
  else if k ≤ 107 then t 100 4000 25000
  else if k = 109 ∨ k = 110 then t 1000 10000 300000
  else 0

/-- A cupola whose wake takes more than 50 µs and that is asleep (R92). -/
def longAsleep (k : Nat) (s : State) : Bool :=
  decide ((cup s k).state ≠ .active) && decide ((cup s k).state ≠ .fenced) &&
  decide (50000 < wakeNs k (cup s k).state)

/-- Move a cupola to a state for a reason, posting 0x480 + k where R541 asks for it; a move to a shallower state counts
a wake; LAST_WAKE_NS is the time since a wake that was waited for was asked for, an open value for one that took effect at once.
[log 126 DEDUCED] -/
def moveCup (k : Nat) (dst : CupState) (reason : Nat) (s : State) : State :=
  let c := cup s k
  if c.state = dst then s
  else
    let (d, s1) := if cupCode dst < cupCode c.state then
      (match c.waking with | some t => (s.now - t, s) | none => draw s) else (c.lastWakeNs, s)
    let up := decide (cupCode dst < cupCode c.state)
    let c1 := { c with
      state := dst, waking := none, quiet := none,
      wakes := if up then satur 32 (c.wakes + 1) else c.wakes,
      lastWakeNs := satur 32 d,
      activeNs := if c.state = .active then c.activeNs + (s.now - c.activeSince) else c.activeNs,
      activeSince := if dst = .active then s.now else c.activeSince }
    let s2 := setCup (if dst = .off ∧ isPipelineCupola k = true then dropLearned (k - 68) s1 else s1) k c1
    if c.report || decide (dst = .fenced) || decide (c.state = .fenced) || decide (reason = 6) then
      post (0x480 + k) .info (cupCode dst + cupCode c.state * 8 + reason * 64) s2
    else s2

/-- The level of the vote that an enabled resource of the cupola places (R515, R516), if it has one. -/
def resourceVote (k : Nat) (s : State) : Option Nat := resourceLevel k s

/-- The shallowest level voted for: 0 Active, 1 Gated, 2 Retained, 3 Off; with no vote, the floor (R516, R519). -/
def target (k : Nat) (s : State) : Nat :=
  let c := cup s k
  let vs := c.votes.map (fun v => v.level - 1)
  let vs := if c.hwVote || c.fwVote then 0 :: vs else vs
  let vs := match resourceVote k s with | some l => (l - 1) :: vs | none => vs
  match vs with
  | [] => if isDramCupola k then min 2 c.floor else c.floor
  | v :: rest => rest.foldl min v

def cupOfCode : Nat → CupState
  | 0 => .active | 1 => .gated | 2 => .retained | _ => .off

/-- Ticks of the 32.768 kHz clock up to an instant (R39). [log 203 DEDUCED] -/
def tickNo (ns : Nat) : Nat := ns * 32768 / 1000000000

/-- At the end of a cycle: since when no vote forbids a cupola's next descent (R517). -/
def noteQuiet (k : Nat) (s : State) : State :=
  let c := cup s k
  if target k s ≤ cupCode c.state then (if c.quiet.isSome then setCup s k { c with quiet := none } else s)
  else if c.quiet.isNone then setCup s k { c with quiet := some s.now }
  else s
def noteQuiets (s : State) : State := s.pwr.cupolas.foldl (fun st e => noteQuiet e.1 st) s

/-- Bring a cupola up to the level of its votes at once, when its wake is short or has been waited for. -/
def riseCup (k : Nat) (reason : Nat) (s : State) : State :=
  let c := cup s k
  if c.state = .fenced then s
  else if target k s < cupCode c.state then moveCup k (cupOfCode (target k s)) reason s else s

/-- The LANTERNS bit of a line engine, 0 while its cupola is fenced (R614). -/
def lanternOf (l : Nat) (s : State) : Bool := s.line.lanterns.getLsbD l && decide ((cup s (64 + l)).state ≠ .fenced)

/-- Withdraw the votes of a holder everywhere (R519). -/
def withdrawVotes (holder : Nat) (s : State) : State :=
  let cs := tmap {} (fun _ c => { c with votes := c.votes.filter (fun v => decide (v.holder ≠ holder)) }) s.pwr.cupolas
  { s with pwr := { s.pwr with cupolas := cs } }

/-- Withdraw every vote of a function's sessions (R519, R528). -/
def withdrawFnVotes (fn : Nat) (s : State) : State :=
  let cs := tmap {} (fun _ c => { c with votes := c.votes.filter (fun v => decide (v.holder / 65536 ≠ fn)) }) s.pwr.cupolas
  { s with pwr := { s.pwr with cupolas := cs } }

/-- The holder number of a session's votes. -/
def voteHolder (fn handle : Nat) : Nat := fn * 65536 + handle

end Sys2Proof.Machine
end

