-- ==== Sys2Proof/Machine/Safe.lean ====
section
/-!
DEFINITION. Safe states: GLB_STATUS.SAFE_STATE, ALARM_N, and the event at each entry and exit (R536, R537, R541).
-/
namespace Sys2Proof.Machine

/-- Some safe state of R536 holds, or the key store is ZEROISED (R302). -/
def safeState (s : State) : Bool :=
  s.time.bases.any (fun e => e.2.checkFault) || decide (s.pwr.dtFenced ≠ 0) || decide (s.pwr.treesFenced ≠ 0) ||
  keyStoreZeroised s

/-- ALARM_N is asserted (R537). -/
def alarm (s : State) : Bool := safeState s

/-- Source 0x4F2 (R541). [log 133 DEDUCED] -/
def postSafe (mechanism : Nat) (entered : Bool) (inst : Nat) (s : State) : State :=
  post 0x4F2 .safety (mechanism + bit entered 3 + inst * 2 ^ 4) s

/-- A domain-tag fence on pipeline `p`, or its end. -/
def setDtFenced (p : Nat) (b : Bool) (s : State) : State :=
  if s.pwr.dtFenced.getLsbD p = b then s
  else postSafe 1 b p { s with pwr := { s.pwr with dtFenced := s.pwr.dtFenced ^^^ BitVec.ofNat 8 (2 ^ p) } }

/-- A tree fenced for transmission without a lease, or its end. -/
def setTreeFenced (t : Nat) (b : Bool) (s : State) : State :=
  if s.pwr.treesFenced.getLsbD t = b then s
  else postSafe 2 b t { s with pwr := { s.pwr with treesFenced := s.pwr.treesFenced ^^^ BitVec.ofNat 64 (2 ^ t) } }

end Sys2Proof.Machine
end

