-- ==== Sys2Proof/Machine/KeyStore.lean ====
section
/-!
DEFINITION. The key store: halves, writes, erasure, flips, usage counts and limits, and the comparison of the two
engines of a pair (R274–R287, R304).
-/
namespace Sys2Proof.Machine

/-- Slot kinds of KEY_TARGET, and the slot numbers of R275. -/
def kindTree : Nat := 0
def kindLine : Nat := 1
def kindMacsec : Nat := 2
def treeSlot (t i d : Nat) : Nat := t * 1024 + i * 2 + d

/-- The state of a half as R306 codes it. -/
def halfCode : HalfState → Nat
  | .empty => 0 | .loaded => 1 | .active => 2 | .refusing => 3

def halfOf (v : Slot) (b : Bool) : Half := if b then v.half1 else v.half0
def withHalf (v : Slot) (b : Bool) (h : Half) : Slot := if b then { v with half1 := h } else { v with half0 := h }

/-- The half in use: ACTIVE, or stopped at its limit. -/
def inUse (h : Half) : Bool := decide (h.state = .active) || decide (h.state = .refusing)

/-- The ACTIVE half. -/
def activeHalf (v : Slot) : Option Bool :=
  if v.half0.state = .active then some false else if v.half1.state = .active then some true else none

/-- The standby half (R276): the one not in use; half 0 while neither or both are. [log 69 DEDUCED] -/
def standby (v : Slot) : Bool := inUse v.half0 && !inUse v.half1

/-- A flip is pending: the standby half is LOADED (R306). -/
def flipPending (v : Slot) : Bool := decide ((halfOf v (standby v)).state = .loaded)

/-- Default usage limits (R286). -/
def defaultLimit (kind : Nat) : Nat := if kind = kindTree then 2 ^ 40 else if kind = kindLine then 2 ^ 44 else 2 ^ 47

/-- Place a key in the standby half: count 0, LOADED (R279). -/
def loadStandby (kind n : Nat) (h : Half) (s : State) : State :=
  let v := slot s kind n
  let h1 := { h with state := .loaded, count := 0, seq := 0, limit := if h.limit = 0 then defaultLimit kind else h.limit }
  setSlot s kind n (withHalf v (standby v) h1)

/-- ERASE: both halves EMPTY (R285). -/
def eraseSlot (kind n : Nat) (s : State) : State := setSlot s kind n {}

/-- Make half `b` ACTIVE; the half it takes over from is EMPTY from then on. -/
def activate (kind n : Nat) (b : Bool) (s : State) : State :=
  let v := slot s kind n
  let h := { halfOf v b with state := .active }
  let old := if inUse (halfOf v !b) then {} else halfOf v !b
  setSlot s kind n (withHalf (withHalf v (!b) old) b h)

/-- A LOADED standby half becomes ACTIVE at a flip boundary (R282). -/
def flip (kind n : Nat) (s : State) : State :=
  let v := slot s kind n
  if flipPending v then activate kind n (standby v) s else s

/-- Source 0x2A2 (R286, R308). -/
def postUsage (kind n : Nat) (b reached : Bool) (s : State) : State :=
  post 0x2A2 .warning (kind + n * 2 ^ 2 + bit b 19 + bit reached 20) s

/-- Count `uses` of a half: near-limit at 15/16, REFUSING at the limit (R286). -/
def useHalf (kind n : Nat) (b : Bool) (uses : Nat) (s : State) : State :=
  let v := slot s kind n
  let h := halfOf v b
  let c := min h.limit (h.count + uses)
  let near := decide (16 * h.count < 15 * h.limit) && decide (15 * h.limit ≤ 16 * c)
  let reached := decide (h.count < h.limit) && decide (c = h.limit)
  let s1 := setSlot s kind n (withHalf v b { h with count := c, state := if reached then .refusing else h.state })
  let s2 := if near then postUsage kind n b false s1 else s1
  if reached then postUsage kind n b true s2 else s2

/-- The half whose key number matches a frame and that holds a key (R282). -/
def matching (v : Slot) (number : Nat) : Option Bool :=
  if decide (v.half0.state ≠ .empty) && decide (v.half0.number = number) then some false
  else if decide (v.half1.state ≠ .empty) && decide (v.half1.number = number) then some true
  else none

/-- The half a received frame is processed with, made ACTIVE by it; none where the frame is dropped (R282, R287). -/
def receiveHalf (kind n number : Nat) (s : State) : State × Option Bool :=
  match matching (slot s kind n) number with
  | none => (s, none)
  | some b =>
    match (halfOf (slot s kind n) b).state with
    | .active => (s, some b)
    | .loaded => (activate kind n b s, some b)
    | _ => (s, none)

/-- The cupola that holds an engine pair (R304, R515): edge 0 tree, 1 line, 2 MACsec of an instance. -/
def pairCupola (edge inst : Nat) : Nat :=
  match edge with
  | 0 => 98 + inst / 16 | 1 => 102 + inst | _ => 106 + inst / 24

/-- The pair can serve: its cupola is not fenced (R304). -/
def pairServes (edge inst : Nat) (s : State) : Bool := decide ((cup s (pairCupola edge inst)).state ≠ .fenced)

/-- The outputs of an engine pair differ (R304): counted, source 0x2A1, the cupola fenced after 16 within 1 ms.
[log 73 DEDUCED] -/
def compareMismatch (edge inst : Nat) (s : State) : State :=
  let k := pairCupola edge inst
  let l := s.now :: (tget [] k s.cph.mismatches).filter (fun t => decide (s.now < t + 1000000))
  let s1 := { s with cph := { s.cph with mismatches := tset [] k l s.cph.mismatches } }
  let fence := decide (16 ≤ l.length)
  post 0x2A1 .fault (edge + inst * 2 ^ 2 + bit fence 8 + satur 16 l.length * 2 ^ 9)
    (if fence then moveCup k .fenced 3 s1 else s1)

/-- The slot's service domain (R277). -/
def slotDomain (kind n : Nat) (s : State) : Option Nat :=
  match kind with
  | 0 => let m := terminal s (n / 1024) (n % 1024 / 2); if m.admitted then some m.domain else none
  | 1 => (sealOf s (n / 2)).domain
  | _ => (macsec s (n / 2)).domain

/-- The slot exists (R274). -/
def slotExists (kind n : Nat) : Bool :=
  match kind with
  | 0 => decide (n < 65536) | 1 => decide (n < 8) | 2 => decide (n < 96) | _ => false

end Sys2Proof.Machine
end

