-- ==== Sys2Proof/Machine/Catalogue.lean ====
section
/-!
DEFINITION. The opcodes of stepping C0: which exist, which are open to a VF, the length of their parameter block, and
what their range permits (R89–R92).
-/
namespace Sys2Proof.Machine

/-- An opcode's entry: open to a VF, and the length of its parameter block where it is fixed. -/
structure OpSpec where
  vf : Bool
  len : Option Nat
deriving DecidableEq, Repr

/-- The opcodes that the chapters define, by range: the numbers of the low byte (R89, R93 and each chapter's table). -/
def opDefined (op : Nat) : Bool :=
  let n := op % 256
  match op / 256 with
  | 0x00 => decide (n ≤ 0x0A) || decide (n = 0x10) || decide (n = 0x11)
  | 0x01 => decide (n ≤ 8)
  | 0x02 => decide (n ≤ 5)
  | 0x03 => decide (1 ≤ n) && decide (n ≤ 7)
  | 0x04 => decide (n ≤ 6)
  | 0x05 => decide (n ≤ 6)
  | 0x06 => decide (n ≤ 6)
  | 0x07 => decide (n ≤ 5)
  | 0x08 => decide (n ≤ 0x0B)
  | 0x09 => decide (n ≤ 3)
  | 0x0A => decide (n ≤ 0x0E)
  | 0x0B => decide (n ≤ 7)
  | 0x0C => decide (n ≤ 0x0B)
  | 0x0D => decide (n ≤ 0x0A) && decide (n ≠ 9)
  | 0x0E => decide (n ≤ 8)
  | 0x0F => decide (n ≤ 8)
  | _ => false

/-- The opcodes open to a VF (R89, R349, R416, R575). -/
def opForVf (op : Nat) : Bool :=
  match op / 256 with
  | 0x00 => decide (op ≠ 0x0009)
  | 0x04 => decide (op = 0x0400) || decide (op = 0x0401) || decide (op = 0x0405)
  | 0x07 => decide (op = 0x0703)
  | 0x08 => (decide (0x0803 ≤ op) && decide (op ≤ 0x0809) && decide (op ≠ 0x0807)) || decide (op = 0x080B)
  | 0x0A => decide (op = 0x0A01) || decide (op = 0x0A08) || decide (op = 0x0A0B) || decide (op = 0x0A0E)
  | 0x0E => decide (op ≠ 0x0E03)
  | 0x0F => decide (0x0F06 ≤ op)
  | _ => false

/-- The length of a parameter block: 64 bytes unless the command's chapter says otherwise; none where the block itself
gives it (R93, R240, R244, R272, R349, R481, R575). [log 161 DEDUCED] -/
def opBlockLen (op : Nat) : Option Nat :=
  if op = 0x0000 ∨ op = 0x0001 then some 0
  else if op = 0x0505 then some 576
  else if op = 0x0604 then some 128
  else if op = 0x0803 ∨ op = 0x0C0B ∨ op = 0x0F01 then none
  else some 64

def opSpec (op : Nat) : Option OpSpec :=
  if opDefined op then some { vf := opForVf op, len := opBlockLen op } else none

/-- The range permits WAKING (R89). -/
def mayWake (op : Nat) : Bool :=
  let r := op / 256
  decide (r = 1) || decide (r = 5) || decide (r = 6) || decide (r = 7)

/-- The range permits DEFERRED (R89). -/
def mayDefer (op : Nat) : Bool :=
  match op / 256 with
  | 0x01 => true | 0x03 => true | 0x05 => true | 0x0B => true | 0x0C => true | 0x0D => true | 0x0F => true
  | _ => false

/-- The maintenance activities that an opcode starts (R533). -/
def startsKinds (op : Nat) : List Nat :=
  match op with
  | 0x0D02 => [1] | 0x0B01 => [2] | 0x0C04 => [3] | 0x0C05 => [4] | 0x0C06 => [5] | 0x0B05 => [6]
  | 0x0302 => [7] | 0x0306 => [7] | 0x0501 => [8] | 0x0102 => [9] | 0x0105 => [11] | 0x0108 => [12] | 0x0100 => [13]
  | 0x0F00 => [10] | 0x0F01 => [10] | 0x0F02 => [10] | 0x0F03 => [10] | 0x0F04 => [10] | 0x0F05 => [10]
  | _ => []

/-- The activity that a command starts, where its range permits DEFERRED (R92, R533). -/
def activityOf (op : Nat) (a : Option Activity) : Option Activity :=
  match a with
  | some x => if mayDefer op && (startsKinds op).contains x.kind then some x else none
  | none => none

/-! ## The header -/

/-- The command that a ring's 64 header bytes and its block's facts spell (R6, R8, R64). -/
def readHeader (fn : Fn) (ring : Fin 64) (b : List Byte) (x : BlockFacts) : FetchHeader :=
  let f (o n : Nat) : Nat := leNat ((b.drop o).take n)
  let op := f 0x00 2
  { opcode := op, activity := activityOf op x.activity, lastMaint := x.lastMaint,
    caller := {
      id := { fn := fn, ring := ring, tag := f 0x04 4 }, session := f 0x08 2,
      fence := (f 0x03 1).testBit 0, notify := (f 0x03 1).testBit 1, indirect := (f 0x03 1).testBit 2,
      slots := f 0x02 1, timeoutUs := f 0x0C 4, paramAddr := f 0x10 8, paramLen := f 0x18 4, respLen := f 0x1C 4,
      respAddr := f 0x20 8,
      reserved := x.reserved || decide (8 ≤ f 0x03 1) || decide (f 0x0A 2 ≠ 0) || decide (f 0x28 24 ≠ 0) } }

/-- The default timeout of the range in µs (R89, R91). -/
def defaultTimeoutUs (op : Nat) : Nat :=
  match op / 256 with
  | 0x01 => 100000 | 0x02 => 100000 | 0x03 => 2000000 | 0x05 => 5000000 | 0x06 => 100000 | 0x0A => 100000
  | 0x0B => 100000 | 0x0C => 1000000 | 0x0D => 2000000 | 0x0F => 60000000 | _ => 10000

/-- Inner opcodes that are not forwarded over the fabric (R481). -/
def bannedForward (op : Nat) : Bool :=
  decide (op = 0x0010) || decide (op = 0x0011) || decide (op = 0x0E01) || decide (op = 0x0E02) || decide (op = 0x0E03) ||
  decide (op = 0x0C0B)

/-- The opcodes that the Keep port's CMD carries (R584). [log 150 DEDUCED] -/
def keepAllows (op : Nat) : Bool := decide (op ≤ 2) || (decide (0x0F06 ≤ op) && decide (op ≤ 0x0F08))

end Sys2Proof.Machine
end

