-- ==== Sys2Proof/Machine/Ports.lean ====
section
/-!
DEFINITION. The port budget and the placement of ports on pipelines (R28–R31, R311, R525, R611).
-/
namespace Sys2Proof.Machine

def portEnt (s : State) (port : Nat) : PortEnt := tget {} port s.pe.ports
def setPortEnt (s : State) (port : Nat) (p : PortEnt) : State :=
  { s with pe := { s.pe with ports := tset {} port p s.pe.ports } }

/-- Pipeline capacity in Gbit/s at a performance level (R525). -/
def pipeCapacity (pl : Nat) : Nat :=
  match pl with
  | 0 => 1600 | 1 => 1200 | 2 => 800 | _ => 400

/-- The pipeline is in service (R314). -/
def inService (p : Nat) (s : State) : Bool := !s.pe.failedPipes.getLsbD p

/-- The pipelines in service, ascending. -/
def servingPipes (s : State) : List Nat := (List.range 8).filter (fun p => inService p s)

/-- The port budget in Gbit/s (R29). -/
def portBudget (s : State) : Nat := pipeCapacity s.pwr.pl * (servingPipes s).length

/-- The sum of the enabled ports' budget rates (R29, R31). -/
def budgetUsed (s : State) : Nat := (s.pe.ports.map (fun e => if e.2.enabled then e.2.rate else 0)).foldl (· + ·) 0

/-- The load of a pipeline in Gbit/s (R310, R526). -/
def pipeLoad (p : Nat) (s : State) : Nat :=
  (s.pe.ports.map (fun e => if e.2.enabled && decide (e.2.pipeline = some p) then e.2.rate else 0)).foldl (· + ·) 0

/-- What a pipeline can still take. -/
def pipeRoom (p : Nat) (s : State) : Nat := pipeCapacity s.pwr.pl - pipeLoad p s

/-- The in-service pipeline with the least remaining capacity that holds the rate; on a tie the lowest (R311). -/
def bestFit (rate : Nat) (s : State) : Option Nat :=
  (servingPipes s).foldl (fun best p =>
    if pipeRoom p s < rate then best
    else match best with
      | none => some p
      | some b => if pipeRoom p s < pipeRoom b s then some p else some b) none

/-- Where a port is placed when it is enabled (R311): none is LIMIT 0x0800. -/
def placement (preferred : Option Nat) (rate : Nat) (s : State) : Option Nat :=
  match preferred with
  | some p => if inService p s then (if rate ≤ pipeRoom p s then some p else none) else bestFit rate s
  | none => bestFit rate s

/-- What enabling a port comes to: already enabled, beyond the budget (R30), no pipeline with room (R311), or placed. -/
inductive Enabling where
  | already
  | overBudget
  | noRoom
  | placed (s : State)

/-- Enable a port at a budget rate (R30, R311, R611). -/
def enablePort (port rate : Nat) (s : State) : Enabling :=
  let e := portEnt s port
  if e.enabled then .already
  else if portBudget s < budgetUsed s + rate then .overBudget
  else match placement e.preferred rate s with
    | none => .noRoom
    | some p => .placed (setPortEnt s port { e with enabled := true, rate := rate, pipeline := some p, unserved := false })

/-- Disable a port: it leaves its pipeline and the budget (R31, R312). -/
def disablePort (port : Nat) (s : State) : State :=
  setPortEnt s port { portEnt s port with enabled := false, rate := 0, pipeline := none, unserved := false }

/-- The default remap priority of a port's kind (R316). -/
def defaultRemap (port : Nat) : Nat :=
  if port < 0x40 then 2 else if port < 0x80 then 0 else if port < 0xC0 then 3 else 1

def remapOf (port : Nat) (s : State) : Nat := (portEnt s port).remapPriority.getD (defaultRemap port)

end Sys2Proof.Machine
end

