-- ==== Sys2Proof/Machine/FramerBase.lean ====
section
/-!
DEFINITION. What line engines and framers share: defects and consequent actions, what the framer does when the line
locks or leaves lock, and taking a line engine out of operation (R31, R208, R251, R268, R273).
-/
namespace Sys2Proof.Machine

/-! ## Defects -/

/-- OOF holds in HELD, SEARCH and CANDIDATE (R251). -/
def oof (f : Framer) : Bool := decide (f.state ≠ .inFrame)

/-- An ACTION_DISABLE bit of R268 is clear. -/
def actionOn (f : Framer) (n : Nat) : Bool := !(match f.cfg with | some c => Nat.testBit c.actionDisable n | none => false)

/-- The defects that send BDI in the SM and in the PM status (R268). -/
def smBdiSent (l : Nat) (s : State) : Bool :=
  let f := framer s l
  (!lineLocked l s && actionOn f 1) || (f.lof && actionOn f 3) || (f.lom && actionOn f 5) || (f.sm.tim && actionOn f 7)
def pmBdiSent (l : Nat) (s : State) : Bool := smBdiSent l s || ((framer s l).pm.tim && actionOn (framer s l) 9)

/-- ODU-AIS goes into every tributary of the line (R268). -/
def aisAll (l : Nat) (s : State) : Bool :=
  let f := framer s l
  (!lineLocked l s && actionOn f 0) || ((oof f || f.lof) && actionOn f 2) || (f.lom && actionOn f 4) ||
  (f.sm.tim && actionOn f 6) || (f.pm.tim && actionOn f 8)

/-- ODU-AIS goes into tributary `t` (R268). -/
def aisIn (l t : Nat) (s : State) : Bool :=
  let f := framer s l
  let b := tributary s l t
  aisAll l s || (b.msim && actionOn f 10) || (b.jcLoss && actionOn f 11)

/-- The configured tributaries of a line. -/
def configured (l : Nat) (s : State) : List Nat := (List.range 32).filter (fun t => decide ((tributary s l t).slots ≠ 0))

/-- DEFECTS of R272. [log 68 DEDUCED] -/
def defects (l : Nat) (s : State) : Nat :=
  let f := framer s l
  bit (!lineLocked l s) 0 + bit (oof f) 1 + bit f.lof 2 + bit (!f.im) 3 + bit f.lom 4 + bit f.sm.tim 5 + bit f.pm.tim 6 +
  bit f.smBdi 7 + bit f.pmBdi 8 + bit f.smIae 9 + bit (smBdiSent l s || pmBdiSent l s) 10 +
  bit ((configured l s).any (fun t => aisIn l t s)) 11

/-- Source 0x28C + l for each defect that has come or gone since `before` (R273). -/
def postDefects (l before : Nat) (s : State) : State :=
  let now := defects l s
  (List.range 10).foldl (fun st n =>
    if Nat.testBit now n = Nat.testBit before n then st
    else post (0x28C + l) .error (n + bit (Nat.testBit now n) 5) st) s

/-! ## The framer with its line engine -/

/-- A trace forgets the cycles that it has taken in (R255). -/
def clearCycles (t : Trace) : Trace := { t with cycle := [], last := [], runs := 0 }

/-- Multiframe alignment is gone at instant `now`, and with it what was taken in by multiframe position (R254, R255, R263). -/
def leaveMultiframe (now : Nat) (f : Framer) : Framer :=
  { f with im := false, mfErrors := 0, mfRun := 0, mfOpen := false, msiLast := [], mfSince := now,
           sm := clearCycles f.sm, pm := clearCycles f.pm }

/-- Leave IF: candidates and the multiframe alignment are gone (R251, R254). -/
def leaveFrame (now : Nat) (dst : FrameState) (f : Framer) : Framer :=
  { leaveMultiframe now f with
    state := dst, candidates := [], frameErrors := 0, lastMfas := none, smBeiOut := [], pmBeiOut := [],
    since := if f.state = .inFrame then now else f.since,
    oofEntries := if f.state = .inFrame then satur 32 (f.oofEntries + 1) else f.oofEntries }

/-- The copies taken in of a multiframe that is lost are forgotten (R262). -/
def dropCopies (l : Nat) (s : State) : State :=
  let ts := tmap {} (fun k b => if k / 32 = l then { b with copySeen := false } else b) s.frm.tributaries
  { s with frm := { s.frm with tributaries := ts } }

/-- STATE of the line engine leaves 3, or becomes 3 (R251); a line in 400ZR mode has no framer (R239). -/
def framerHeld (l : Nat) (s : State) : State := setFramer (dropCopies l s) l (leaveFrame s.now .held (framer s l))
def framerSearch (l : Nat) (s : State) : State :=
  if line400zr l s then s else setFramer s l (leaveFrame s.now .search (framer s l))

/-- Counts run from the last LINE_ENABLE (R272, R307). -/
def clearFramerCounts (l : Nat) (s : State) : State :=
  setFramer s l { framer s l with oofEntries := 0, framesMarked := 0, smBip := 0, smBei := 0, pmBip := 0, pmBei := 0,
                                  jcErrors := 0 }
def clearSealCounts (l : Nat) (s : State) : State :=
  setSeal s l { sealOf s l with verified := 0, failed := 0, keyMismatch := 0, ctrlErrors := 0, delivered := 0,
                                truncated := 0, compareMismatch := 0 }

/-- Change a line engine, carrying to its framer that STATE has left 3 or become 3 (R251). -/
def putLine (l : Nat) (v : LineEngine) (s : State) : State :=
  let before := lineLocked l s
  let d := defects l s
  let s1 := setLine s l v
  let s2 := if before && !lineLocked l s1 then framerHeld l s1
    else if !before && lineLocked l s1 then framerSearch l s1 else s1
  postDefects l d s2

/-! ## Line engines out of operation -/

/-- STATE of R242. -/
def lineState (l : Nat) (s : State) : Nat :=
  let v := line s l
  if (cup s (64 + l)).state = .fenced then 4
  else if v.enabled then (if v.locked then 3 else 2)
  else if v.cfg.isSome then 1 else 0

/-- Source 0x280 + l (R246). -/
def postLine (l reason : Nat) (s : State) : State :=
  post (0x280 + l) .info (lineState l s + reason * 2 ^ 4 + (line s l).step * 2 ^ 8) s

/-- LINE_DISABLE: muted, out of the budget (R31, R240). -/
def stopLine (l : Nat) (s : State) : State :=
  let v := line s l
  if !v.enabled then s
  else postLine l 7 (disablePort (0x40 + l) (putLine l { v with
    enabled := false, locked := false, step := 0, mismatch := false } s))

/-- A fault fences the line-engine cupola: nothing is received, the transmitter is dark (R208, R523). -/
def fenceLine (l : Nat) (s : State) : State :=
  let v := line s l
  moveCup (64 + l) .fenced 3 (putLine l { v with locked := false, step := 0, mismatch := false } s)

end Sys2Proof.Machine
end

