-- ==== Sys2Proof/Machine/Disable.lean ====
section
/-!
DEFINITION. Taking ports out of service: the disables that a command, a session's QUIESCE and a reset share (R31, R107).
-/
namespace Sys2Proof.Machine

/-- A tree stops transmitting at a frame boundary, its window closed, its port disabled (R31, R143). -/
def stopTree (t : Nat) (s : State) : State :=
  disablePort t (setTree s t { tree s t with enabled := false, duty := false, started := false, txen := false,
                                             window := none })

/-- Indices of a kind that a session owns. -/
def ownedBy (h kind : Nat) (s : State) : List Nat :=
  (s.ses.owners.filter (fun e => decide (e.1 / 4096 = kind) && decide (e.2.session = h))).map (fun e => e.1 % 4096)

/-- A tree disabled; the member of a protection group leaves it, its Marl stream ended (R107, R445). [log 109 DEDUCED] -/
def quiesceTree (t : Nat) (s : State) : State :=
  let s1 := stopTree t s
  if (member s t).enabled then
    let s2 := setMember s1 t { cfg := (member s t).cfg }
    { s2 with pwr := { s2.pwr with
      running := s2.pwr.running.filter (fun e => decide (e.activity ≠ { kind := 2, scope := t })) } }
  else s1

/-- A lane position's client port and links disabled; the record database changes with an adjacency (R31, R471). -/
def quiesceLane (x : Nat) (s : State) : State :=
  let s1 := setClient (disablePort (0x80 + x) s) x {}
  let stop (k : Nat) (st : State) : State :=
    let st1 := setLink (disablePort (linkPort k) st) k {}
    if (link st k).adjacent then { st1 with fab := { st1.fab with changed := st.now } } else st1
  stop (linkKey x 1) (stop (linkKey x 0) s1)

/-- QUIESCE: each tree, line engine and lane group that the session owns is disabled (R107). -/
def quiesceOwned (h : Nat) (s : State) : State :=
  let s1 := (ownedBy h kTree s).foldl (fun st t => quiesceTree t st) s
  let s2 := (ownedBy h kLine s).foldl (fun st l => stopLine l st) s1
  (ownedBy h kLaneGroup s).foldl (fun st g => (List.range 8).foldl (fun st i => quiesceLane (g * 8 + i) st) st) s2

end Sys2Proof.Machine
end

