-- ==== Sys2Proof/Machine/HostError.lean ====
section
/-!
DEFINITION. What a host error leaves behind: the resources that the command names in any configuration (R13, R14).
-/

/-- Any configuration at all: a free value, of which only the parts that a host error may change are used (R13). -/
opaque Sys2Proof.Config.anyState : Nat → Sys2Proof.Machine.State

namespace Sys2Proof.Machine

/-! ## Kinds beyond those of R108 that a command can name -/

def kRing : Nat := 8
def kEvq : Nat := 9
def kRoute : Nat := 10
def kAlloc : Nat := 11
def kPortCtx : Nat := 12
def kQueue : Nat := 13
def kGroup : Nat := 14
def kFramer : Nat := 15
def kMeter : Nat := 16
def kMmu : Nat := 17
def kMacsec : Nat := 18

/-- A resource of R108 (or a ring, event queue or route of the function) with the configuration it has in `f`. The transmit
enable of a tree, which the lease fence drives, and the owner of a queue stay (R14). -/
def scramble (f : State) (kind i : Nat) (s : State) : State :=
  match kind with
  | 0 => { s with mem := { s.mem with spillGib := f.mem.spillGib, hotC := f.mem.hotC, rhSample := f.mem.rhSample,
                                      rhLimit := f.mem.rhLimit, scrubHours := f.mem.scrubHours },
                  fab := { s.fab with timePriority := f.fab.timePriority, mgmtAllow := f.fab.mgmtAllow },
                  pe := { s.pe with learn := f.pe.learn } }
  | 1 => setTree s i { tree f i with txen := (tree s i).txen }
  | 2 => setLine s i (line f i)
  | 3 => setLaneGroup s i (laneGroup f i)
  | 4 => { s with pe := { s.pe with domains := tset {} i (domainCfg f i) s.pe.domains } }
  | 5 => setTimeBase s i { timeBase f i with check := (timeBase s i).check, checkEnable := (timeBase s i).checkEnable }
  | 6 => { s with mem := { s.mem with dma := tset {} i (tget {} i f.mem.dma) s.mem.dma } }
  | 7 => (List.range 64).foldl (fun st j => setCounter st (i * 64 + j) (counter f (i * 64 + j))) s
  | 8 => setRing s (i / 64) (i % 64) { ring f (i / 64) (i % 64) with waiting := [] }
  | 9 => setEvq s i { evq f i with owner := (evq s i).owner }
  | 10 => setRoute s i (route f i)
  | 11 => setAlloc s i (alloc f i)
  | 12 => setPortCtx s i (portCtx f i)
  | 13 => setQueue s i (queue f i)
  | 14 => setGroup s i (group f i)
  | 15 => setFramer s i (framer f i)
  | 16 => setMeter s i (meter f i)
  | 17 =>
    let pg := tget {} i s.mem.pages
    { s with mem := { s.mem with pages := tset {} i { pg with root := (tget {} i f.mem.pages).root } s.mem.pages } }
  | 18 =>
    let m := macsec f i
    setMacsec s i { macsec s i with enable := m.enable, confidentiality := m.confidentiality, replayProtect := m.replayProtect }
  | _ => s

/-- Every resource named, in an open configuration. -/
def scrambleAll (named : List (Nat × Nat)) (s : State) : State :=
  named.foldl (fun st r => scramble (Config.anyState st.draws) r.1 r.2 { st with draws := st.draws + 1 }) s

end Sys2Proof.Machine
end

