-- ==== Sys2Proof/Machine/Maintenance.lean ====
section
/-!
DEFINITION. The maintenance arbiter: which activities exclude each other, which run and which wait (R119, R120, R533–R535).
-/
namespace Sys2Proof.Machine

/-- Two trees of one protection group; the members lie on two devices, and a sweep or loop on the group counts on the
device's own tree (R533). -/
def sameProtGroup (t u : Nat) (s : State) : Bool :=
  decide (t = u) || (match protGroup t s with | some g => decide (protGroup u s = some g) | none => false)

/-- Activity `b` stands in the row of activity `a` in the table of R533, within the scope given there. -/
def rowExcludes (a b : Activity) (s : State) : Bool :=
  match a.kind with
  | 1 => decide (b.kind = 1) || (decide (b.kind = 2) && decide (14 ≤ a.scope)) || decide (b.kind = 9)
  | 3 => (decide (b.kind = 4) || decide (b.kind = 5)) && decide (a.scope = b.scope) || decide (b.kind = 9)
  | 4 => decide (b.kind = 5) && decide (a.scope = b.scope) || decide (b.kind = 9)
  | 6 => decide (b.kind = 7) && sameProtGroup a.scope b.scope s || decide (b.kind = 9) || decide (b.kind = 12)
  | 8 => decide (b.kind = 9)
  | 9 => decide (b.kind = 9) || decide (b.kind = 10) || decide (b.kind = 12) || decide (b.kind = 13)
  | 10 => decide (b.kind = 12)
  | 11 => true
  | _ => false

/-- Incompatibility is symmetric (R533). [log 125 DEDUCED] -/
def excludes (a b : Activity) (s : State) : Bool := rowExcludes a b s || rowExcludes b a s

/-- No running activity is incompatible with it. -/
def compatible (a : Activity) (s : State) : Bool := !s.pwr.running.any (fun e => excludes a e.activity s)

def startActivity (a : Activity) (owner : Option Nat) (s : State) : State :=
  { s with pwr := { s.pwr with running := s.pwr.running ++ [{ activity := a, owner := owner }] } }
def waitActivity (a : Activity) (owner : Option Nat) (s : State) : State :=
  { s with pwr := { s.pwr with waiting := s.pwr.waiting ++ [{ activity := a, owner := owner }] } }

/-- A row that brings a request to the arbiter, or ends an activity. -/
def arbiterRow (c : Instr) : Bool :=
  match c with
  | .commandFetch _ _ _ f => f.activity.isSome
  | .forwardedCommand _ _ f => f.activity.isSome
  | .memTrain _ _ full => full
  | .protEnable .. => true | .protDisable .. => true | .laneRetrain .. => true | .eyeScan .. => true | .loopbackSet .. => true
  | .protStandbyTest .. => true | .terminalRange .. => true | .rogueProbe .. => true | .lineEnable .. => true
  | .perfLevelSet .. => true | .fwUpdateBegin .. => true | .fwUpdateEnd .. => true | .fwActivate .. => true | .keepOnlyEnter .. => true
  | .safetySelfTest .. => true | .cupolaVote .. => true
  | .memTrainingEnd .. => true | .trainingFrame .. => true | .trainingTimeout .. => true | .eyeScanEnd .. => true
  | .standbyTestEnd .. => true | .rangingWindowClose .. => true | .rangingResponse .. => true | .rogueProbeEnd .. => true
  | .acquisitionStepEnd .. => true | .acquisitionStepTimeout .. => true | .perfLevelSettled => true | .selfTestEnd .. => true
  | .keepOnlyEntry => true | .commandTimeout .. => true | .commandAbort .. => true
  | _ => false

/-- Other requests, or ends of activities, of this cycle are still to come or wait for its end (R534). -/
def arbiterAwaits (s : State) : Bool := !s.mbx.presentDue.isEmpty || !s.pwr.asks.isEmpty || s.pending.any arbiterRow

/-- Firmware asks for an activity at the end of the cycle, after the commands (R534). -/
def askLater (a : Activity) (s : State) : State :=
  { s with pwr := { s.pwr with asks := if s.pwr.asks.contains a then s.pwr.asks else s.pwr.asks ++ [a] } }

/-- A running activity outlives the command that started it. -/
def keepActivity (a : Activity) (s : State) : State :=
  { s with pwr := { s.pwr with
      running := s.pwr.running.map (fun e => if e.activity = a then { e with owner := none } else e) } }

/-- An activity ends. -/
def endActivity (a : Activity) (s : State) : State :=
  { s with pwr := { s.pwr with running := s.pwr.running.filter (fun e => decide (e.activity ≠ a)) } }

/-- What a command owns in the arbiter ends with it, running or waiting (R123). -/
def endOwned (num : Nat) (s : State) : State :=
  { s with pwr := { s.pwr with
      running := s.pwr.running.filter (fun e => decide (e.owner ≠ some num)),
      waiting := s.pwr.waiting.filter (fun e => decide (e.owner ≠ some num)) } }

/-- An activity of firmware's own: it starts now, or is held and source 0x4F1 says by what (R533, R541). -/
def firmwareActivity (a : Activity) (s : State) : State × Bool :=
  match s.pwr.running.find? (fun e => excludes a e.activity s) with
  | none => (startActivity a none s, true)
  | some e => (post 0x4F1 .info (a.kind + e.activity.kind * 2 ^ 4 + a.scope % 2 ^ 23 * 2 ^ 8) (waitActivity a none s), false)

end Sys2Proof.Machine
end

