-- ==== Sys2Proof/Machine/Mailbox.lean ====
section
/-!
DEFINITION. The life of a mailbox command: fetch and its checks, presentation to the maintenance arbiter, start, interim
and final completions, and what waits for a final completion (R57–R92, R105, R106, R116–R123).
-/
namespace Sys2Proof.Machine

/-! ## Completion -/

/-- Status codes of R71. -/
def stOk : Nat := 0
def stDeferred : Nat := 1
def stBusy : Nat := 2
def stRefused : Nat := 3
def stNotPresent : Nat := 4
def stWaking : Nat := 5
def stTimeout : Nat := 6
def stFaulted : Nat := 7
def stEmpty : Nat := 8
def stLimit : Nat := 9

/-- The completion ring has an entry released to the device (R69). -/
def cqRoom (r : Ring) : Bool := decide (unread (2 ^ (r.cqLog2 + 6)) r.cqHead r.w < 2 ^ (r.cqLog2 + 6) - 1)

/-- The 32 bytes of a completion (R6, R67). -/
def entryBytes (c : Completion) : List Byte :=
  fields 32 [(4, c.tag), (2, c.opcode), (1, c.status),
    (1, bit c.phase 0 + bit c.final 1 + bit c.respWritten 2 + bit c.truncated 3), (2, c.sqHead), (1, c.ring), (1, 0),
    (4, c.detail), (8, c.result), (4, c.respBytes)]

/-- Write one completion at W, after its response and before its NOTIFY event (R67–R69, R79). [log 25 DEDUCED] -/
def putCompletion (fn k : Nat) (w : Waiting) (s : State) : State :=
  let r := ring s fn k
  let nw := (r.w + 1) % 2 ^ (r.cqLog2 + 6)
  let r1 := { r with w := nw, phase := if nw = 0 then !r.phase else r.phase }
  let entry := { w.entry with phase := r.phase, sqHead := r.sqHead }
  let s1 := if w.entry.respWritten then emit (.response w.id w.respAddr (w.resp.take w.respLen)) s else s
  let s2 := emit (.completion (fn * 64 + k) r.w entry (r.cqBase + 32 * r.w) (entryBytes entry))
    (setRing s1 fn k { r1 with cqFull := !cqRoom r1 })
  if w.notify then
    postFn (some r.evq) 1 .completion (k + fn % 64 * 2 ^ 6 + bit (decide (64 ≤ fn)) 12 + r.w * 2 ^ 16) s2
  else s2

/-- Write the completions that wait, while entries are free (R69). -/
def drainWaiting (fn k : Nat) : Nat → State → State
  | 0, s => s
  | n + 1, s =>
    let r := ring s fn k
    match r.waiting with
    | [] => s
    | w :: rest =>
      if cqRoom r then drainWaiting fn k n (putCompletion fn k w (setRing s fn k { r with waiting := rest })) else s

/-- The completion entry of a command (R66, R67). -/
def mkEntry (e : Held) (status : Nat) (final : Bool) (detail result : Nat) (resp : List Byte) : Completion :=
  { tag := e.id.tag, opcode := e.opcode, status := status, phase := false, final := final,
    respWritten := decide (resp ≠ []) && decide (e.respLen ≠ 0), truncated := decide (e.respLen < resp.length),
    sqHead := 0, ring := e.id.ring.val, detail := detail, result := result, respBytes := resp.length }

/-- Give a command one completion: in its ring, as a reply over the fabric, or in the Keep port's RESULT. -/
def deliver (e : Held) (status : Nat) (final : Bool) (detail result : Nat) (resp : List Byte) (s : State) : State :=
  if e.discard then s
  else
    let c := mkEntry e status final detail result resp
    match e.id.fn with
    | .pci f =>
      let fn := pciKey f
      let r := ring s fn e.id.ring.val
      if r.enabled && !r.faulted then
        let w : Waiting := { id := e.id, num := e.num, fence := e.fence, notify := e.notify, respLen := e.respLen,
                             respAddr := e.respAddr, resp := resp, entry := c }
        drainWaiting fn e.id.ring.val (r.waiting.length + 1)
          (setRing s fn e.id.ring.val { r with waiting := r.waiting ++ [w] })
      else s
    | .fabric a => emit (.fabricReply a.val c (resp.take e.respLen)) s
    | .keep =>
      if final then
        { s with boot := { s.boot with port := { s.boot.port with
            cmdPending := false, result := some (entryBytes c ++ resp.take 192) } } }
      else s

/-! ## What waits for final completions -/

/-- The command of a running number is held no longer. -/
def dropHeld (num : Nat) (s : State) : State := setHeld s (s.mbx.held.filter (fun e => decide (e.num ≠ num)))

/-- Another command of the session is held (R106). -/
def sessionBusy (h : Nat) (s : State) : Bool :=
  s.mbx.held.any (fun e => decide (e.session = h) && !(decide (e.opcode = 5) && decide (e.phase = .running h)))

/-- A command of the ring is held, or its completion waits for an entry (R80). -/
def ringBusy (fn k : Nat) (s : State) : Bool :=
  s.mbx.held.any (fun e => decide (fnKey e.id.fn = fn) && decide (e.id.ring.val = k)) ||
  !(ring s fn k).waiting.isEmpty

/-- A session closes: no later command may name it, its votes are withdrawn; its disposition waits for its commands
(R106, R519). -/
def closeSession (h : Nat) (quiesce : Bool) (s : State) : State :=
  let v := session s h
  setSession (withdrawVotes (voteHolder v.fn h) s) h { v with isOpen := false, closing := some quiesce }

/-- The session's resources are disposed of and the session is gone (R106, R107). -/
def disposeSession (h : Nat) (quiesce : Bool) (s : State) : State :=
  let s1 := if quiesce then quiesceOwned h s else s
  let s2 := { s1 with ses := { s1.ses with
    owners := tmap {} (fun _ o => if o.session = h then { o with session := 0 } else o) s1.ses.owners } }
  setSession (withdrawVotes (voteHolder (session s h).fn h) s2) h {}

/-- One wait that has ended: a closing session without commands, a ring to be destroyed without commands. -/
def settleOne (s : State) : Option State :=
  match s.ses.table.find? (fun p => p.2.closing.isSome && !sessionBusy p.1 s) with
  | some (h, v) =>
    let s1 := disposeSession h (v.closing.getD false) s
    match s1.mbx.held.find? (fun e => decide (e.opcode = 5) && decide (e.phase = .running h)) with
    | some e => some (deliver e stOk true 0 0 [] (dropHeld e.num s1))
    | none => some s1
  | none =>
    match s.mbx.held.find? (fun e => decide (e.opcode = 0x11) &&
        (match e.phase with | .running k => !ringBusy (fnKey e.id.fn) k s | _ => false)) with
    | some e => match e.phase with
      | .running k => some (deliver e stOk true 0 0 [] (dropHeld e.num (setRing s (fnKey e.id.fn) k {})))
      | _ => none
    | none => none

/-- End every wait that has ended. [log 27 DEDUCED] -/
def settleN : Nat → State → State
  | 0, s => s
  | n + 1, s => match settleOne s with
    | some s1 => settleN n s1
    | none => s

def settle (s : State) : State := settleN (s.mbx.held.length + s.ses.table.length) s

/-- The final completion of a command (R71): it is held no longer, its maintenance activity ends. -/
def finish (e : Held) (status detail result : Nat) (resp : List Byte) (s : State) : State :=
  settle (deliver e status true detail result resp (endOwned e.num (dropHeld e.num s)))

/-- An interim completion, at most once of each kind (R119). -/
def interim (e : Held) (status : Nat) (phase : Phase) (s : State) : State :=
  let once := if status = stDeferred then e.deferredOnce else e.wakingOnce
  let e1 := { e with phase := phase, deferredOnce := e.deferredOnce || decide (status = stDeferred),
                     wakingOnce := e.wakingOnce || decide (status = stWaking) }
  let s1 := setHeld s (s.mbx.held.map (fun x => if x.num = e.num then e1 else x))
  if once then s1 else deliver e1 status false 0 0 [] s1

def setPhase (e : Held) (p : Phase) (s : State) : State :=
  setHeld s (s.mbx.held.map (fun x => if x.num = e.num then { x with phase := p } else x))

/-! ## Fetch -/

/-- Final completions of a function that wait for an entry of their ring (R69). -/
def owedOf (fn : Fn) (s : State) : Nat :=
  match fn with
  | .pci f => ((s.mbx.rings.filter (fun r => decide (r.1 / 64 = pciKey f))).flatMap
      (fun r => r.2.waiting.filter (fun w => w.entry.final))).length
  | _ => 0

/-- Commands of one function between fetch and final completion (R78). -/
def heldOf (fn : Fn) (s : State) : Nat := (s.mbx.held.filter (fun e => decide (e.id.fn = fn))).length + owedOf fn s

/-- The session of a header is open and the issuing function's (R88); session 0 exists while ring 0 is enabled. -/
def sessionOk (fn : Fn) (h : Nat) (s : State) : Bool :=
  if h = 0 then (match fn with | .pci f => (ring s (pciKey f) 0).enabled | _ => true)
  else (session s h).isOpen && decide ((session s h).fn = fnKey fn)

/-- The resource that a maintenance command names is the session's (R88, R109, R533); CUPOLA_VOTE names none. -/
def ownsActivity (h : Caller) (a : Activity) (s : State) : Bool :=
  match a.kind with
  | 2 | 6 | 7 => owns h kTree a.scope s
  | 3 | 4 | 5 => owns h kLaneGroup (a.scope / 8) s
  | 8 => owns h kLine a.scope s
  | 13 => true
  | _ => ownsDevice h s

/-- What may not come over the fabric or the Keep port at all (R481, R584): the DETAIL; an opcode that the Keep port does
not carry is refused as one not defined (DEDUCED). -/
def portRefusal (d : FetchHeader) (s : State) : Option Nat :=
  match d.caller.id.fn with
  | .pci _ => none
  | .fabric a =>
    if !s.fab.mgmtAllow.getLsbD a.val then some 0x0C04 else if bannedForward d.opcode then some 0x0C05 else none
  | .keep => if keepAllows d.opcode then none else some 1

/-- The generic checks of R88 that are made at fetch, in order: the DETAIL of the first that fails. The resources that
the parameter block names are checked as the command starts, but for a maintenance command's own. [log 23 DEDUCED] -/
def headerCheck (d : FetchHeader) (s : State) : Option Nat :=
  match opSpec d.opcode with
  | none => some 1
  | some sp =>
    if isVf d.caller.id.fn && !sp.vf then some 2
    else if !sessionOk d.caller.id.fn d.caller.session s then some 3
    else if sp.len.isSome && decide (sp.len ≠ some d.caller.blockLen) then some 5
    else match d.activity with
      | some a => if ownsActivity d.caller a s then none else some 4
      | none => none

/-- Source 0x3FB: forwarded management refused (R485). -/
def postRefused (d : FetchHeader) (s : State) : State :=
  match d.caller.id.fn with
  | .fabric a => post 0x3FB .security (a.val + d.opcode % 65536 * 2 ^ 6) s
  | _ => s

/-- The keepalive timer of the named session restarts at a fetch by the function that opened it (R105). -/
def touchSession (fn : Fn) (h : Nat) (s : State) : State :=
  if (session s h).isOpen && decide ((session s h).fn = fnKey fn) then
    setSession s h { session s h with lastFetch := s.now }
  else s

/-- The held form of a command fetched now. -/
def mkHeld (d : FetchHeader) (p : Phase) (s : State) : Held :=
  { id := d.caller.id, num := s.mbx.fetched, opcode := d.opcode, session := d.caller.session, fence := d.caller.fence,
    notify := d.caller.notify, respLen := d.caller.respLen, respAddr := d.caller.respAddr,
    timeoutUs := if d.caller.timeoutUs = 0 then defaultTimeoutUs d.opcode else d.caller.timeoutUs, fetchedAt := s.now,
    activity := d.activity, reserved := d.caller.reserved, deferredOnce := false, wakingOnce := false, discard := false,
    untimed := false, order := 0, phase := p }

/-- Take a command in: the keepalive, its indirect block's read, the checks, and either its REFUSED completion or its place among
the held (R65, R88, R105). -/
def intake (d : FetchHeader) (s : State) : State :=
  let s0 := { s with mbx := { s.mbx with fetched := s.mbx.fetched + 1 } }
  let s1 := touchSession d.caller.id.fn d.caller.session s0
  match portRefusal d s with
  | some detail => postRefused d (deliver (mkHeld d .fetched s) stRefused true detail 0 [] s0)
  | none =>
    let s2 := if d.caller.indirect then emit (.blockRead d.caller.id d.caller.paramAddr d.caller.paramLen) s1 else s1
    match headerCheck d s with
    | some detail => deliver (mkHeld d .fetched s) stRefused true detail 0 [] s2
    | none => setHeld s2 (s2.mbx.held ++ [mkHeld d (if d.activity.isSome then .batched else .fetched) s])

/-- A held command in a new phase, released: it takes the next place among the released; a release or readiness in the cycle in
which its timeout reaches its limit stops the timeout (R76, R122). -/
def freed (e : Held) (p : Phase) (s : State) : Held :=
  { e with phase := p, order := s.mbx.released, untimed := e.untimed || decide (s.now = e.fetchedAt + usNs e.timeoutUs) }

def release (e : Held) (s : State) : State :=
  setHeld { s with mbx := { s.mbx with released := s.mbx.released + 1 } }
    (s.mbx.held.map (fun x => if x.num = e.num then freed x .released s else x))

/-- Present one batched command to the arbiter (R76, R533): it may start, or is deferred. -/
def present (e : Held) (s : State) : State :=
  match e.activity with
  | none => release e s
  | some a =>
    if compatible a s then release e (startActivity a (some e.num) s)
    else interim e stDeferred .deferred (waitActivity a (some e.num) s)

/-- Insert by ascending opcode, equal opcodes in ring order (R76). [log 24 DEDUCED] -/
def insertByOpcode (e : Held) : List Held → List Held
  | [] => [e]
  | x :: rest => if e.opcode < x.opcode then e :: x :: rest else x :: insertByOpcode e rest

/-- Present commands in the order of R76. -/
def presentThese (es : List Held) (s : State) : State :=
  (es.foldl (fun acc e => insertByOpcode e acc) []).foldl (fun st e => present e st) s

/-- Present the batched commands of a ring together (R76); with other requests, or ends of activities, in the same cycle, at its
end (R534). [log 202 DEDUCED] -/
def presentBatch (fn : Fn) (k : Fin 64) (s : State) : State :=
  let es := s.mbx.held.filter (fun e => decide (e.id.fn = fn) && decide (e.id.ring = k) && decide (e.phase = .batched) &&
    !s.mbx.presentDue.contains e.num)
  if es.isEmpty then s
  else if arbiterAwaits s then { s with mbx := { s.mbx with presentDue := s.mbx.presentDue ++ es.map (fun e => e.num) } }
  else presentThese es s

/-- The commands that waited for the end of the cycle are presented together, ends of activities having counted first (R534). -/
def presentLate (s : State) : State :=
  presentThese (s.mbx.held.filter (fun e => s.mbx.presentDue.contains e.num && decide (e.phase = .batched)))
    { s with mbx := { s.mbx with presentDue := [] } }

/-- Nothing more is fetched from the rings of the functions in the set: the maintenance commands already fetched are presented,
and run to their end (R61, R76, R82). -/
def presentAll (p : Nat → Bool) (s : State) : State :=
  presentThese (s.mbx.held.filter (fun e => p (fnKey e.id.fn) && decide (e.phase = .batched))) s

/-- The next command of a PCI ring can be fetched (R61, R69, R74, R78, R88). While a RING_DESTROY of the ring waits, none is.
[log 174 DESIGN CHOICE] -/
def canFetch (f : PciFn) (k : Fin 64) (s : State) : Bool :=
  let r := ring s (pciKey f) k.val
  s.boot.fwReady && r.enabled && !r.faulted && !r.cqFull && !r.closing && decide (heldOf (.pci f) s < 256)

/-- All slots of the command lie within the visible slots (R63). -/
def visible (f : PciFn) (k : Fin 64) (slots : Nat) (s : State) : Bool :=
  let r := ring s (pciKey f) k.val
  decide (slots + 1 ≤ unread (2 ^ (r.sqLog2 + 6)) r.sqHead r.sqTail)

/-- Functions by number, the PCI ones. -/
def pciOf (key : Nat) : PciFn := { linkB := decide (64 ≤ key), num := Fin.ofNat 64 key }

/-- The rings with visible slots from which a command can be fetched, in rising number. -/
def servable (s : State) : List Nat :=
  (s.mbx.rings.filter (fun e => decide (e.2.sqHead ≠ e.2.sqTail) &&
    canFetch (pciOf (e.1 / 64)) (Fin.ofNat 64 e.1) s)).map (fun e => e.1)

/-- The ring whose turn it is: the rotation goes on behind the ring served last (R77). -/
def nextServed (s : State) : Option Nat :=
  match (servable s).find? (fun k => decide (s.mbx.served ≤ k)) with
  | some k => some k
  | none => (servable s).head?

/-- The turn passes on behind ring `k` of a function. -/
def passTurn (fn k : Nat) (s : State) : State := { s with mbx := { s.mbx with served := fn * 64 + k + 1 } }

/-- Fetch `n` slots out of the batches: what is left of them, oldest first. -/
def takeSlots : Nat → List Nat → List Nat
  | _, [] => []
  | n, b :: rest => if n < b then (b - n) :: rest else takeSlots (n - b) rest

/-- Consume slots from the command ring, modulo its size, and from its batches (R58, R62). -/
def advanceSq (f : PciFn) (k : Fin 64) (n : Nat) (s : State) : State :=
  let r := ring s (pciKey f) k.val
  setRing s (pciKey f) k.val { r with sqHead := (r.sqHead + n) % 2 ^ (r.sqLog2 + 6), batches := takeSlots n r.batches }

/-- A doorbell: the slots up to the new tail become visible, as one batch (R62). -/
def moveTail (f : PciFn) (k : Fin 64) (tail : Nat) (s : State) : State :=
  let r := ring s (pciKey f) k.val
  let size := 2 ^ (r.sqLog2 + 6)
  let n := unread size r.sqTail (tail % size)
  setRing s (pciKey f) k.val { r with sqTail := tail % size, batches := if n = 0 then r.batches else r.batches ++ [n] }

/-- A command arrives from outside the rings, or stands at the front of a ring whose doorbell and fetch the row
implies, if it is that ring's turn: it is taken in and, alone in its batch, presented at once. -/
def issue (op : Nat) (act : Option Activity) (h : Caller) (s : State) : State :=
  let d : FetchHeader := { opcode := op, activity := act, lastMaint := true, caller := h }
  match h.id.fn with
  | .pci f =>
    let r := ring s (pciKey f) h.id.ring.val
    let s1 := if visible f h.id.ring h.inlineSlots s then s else moveTail f h.id.ring (r.sqHead + h.inlineSlots + 1) s
    if canFetch f h.id.ring s && decide (nextServed s1 = some (pciKey f * 64 + h.id.ring.val)) then
      presentBatch h.id.fn h.id.ring (intake d
        (passTurn (pciKey f) h.id.ring.val (advanceSq f h.id.ring (h.inlineSlots + 1) s1)))
    else s
  | _ => if s.boot.fwReady && decide (heldOf h.id.fn s < 256) then presentBatch h.id.fn h.id.ring (intake d s) else s

/-! ## Session restarts -/

/-- A destroyed queue's entries lose VALID (R556). -/
def dropRoutes (dead : Nat → Bool) (s : State) : State :=
  { s with ev := { s.ev with
      routes := tmap {} (fun _ r => if r.valid && !r.remote && dead r.queue then { r with valid := false } else r) s.ev.routes } }

/-- SESSION_RESET of every PCI function in the set; its doorbell pages return to their After reset values (R54, R60, R99). -/
def markRestarted (p : Nat → Bool) (s : State) : State :=
  ((List.range 128).filter p).foldl
    (fun st f => setFnRegs st f { sessionReset := true, scratch := (fnRegs st f).scratch }) s

/-- The staging registers of the functions' key windows are cleared (R280). -/
def clearStagings (p : Nat → Bool) (s : State) : State :=
  { s with cph := { s.cph with pages := tmap {} (fun f g => if p f then clearStaging g else g) s.cph.pages } }

/-- The sessions, rings and event queues of the functions in the set are gone; commands already fetched run on unseen; the
resources are orphaned, the votes withdrawn, the staging registers of their key windows cleared (R82, R98, R99, R280, R519). -/
def restartWhere (p : Nat → Bool) (s : State) : State :=
  let dead (q : Nat) : Bool := p (evq s q).owner && (evq s q).enabled
  let s1 := clearStagings p (dropRoutes dead s)
  let s2 := markRestarted p { s1 with
    mbx := { s1.mbx with
      rings := tkeep (fun k => !p (k / 64)) s1.mbx.rings,
      held := s1.mbx.held.map (fun e => if p (fnKey e.id.fn) then { e with discard := true } else e) },
    ses := { s1.ses with
      table := tmap {} (fun _ v => if v.isOpen && p v.fn then { v with isOpen := false, closing := some false } else v)
        s1.ses.table },
    ev := { s1.ev with queues := tmap {} (fun _ e => if p e.owner then { owner := e.owner } else e) s1.ev.queues },
    pwr := { s1.pwr with cupolas := tmap {} (fun _ c => { c with
      votes := c.votes.filter (fun v => !p (v.holder / 65536)) }) s1.pwr.cupolas } }
  settle (presentAll p s2)

/-- Class 0 for one issuer. [log 34 DEDUCED] -/
def restartFunction (fn : Nat) (s : State) : State := restartWhere (fun f => decide (f = fn)) s

/-- Firmware may restart the session of the issuing function after a host error (R13): an open choice. -/
def mayRestart (fn : Nat) (s : State) : State :=
  let (pick, s1) := draw s
  if pick % 2 = 0 then s1 else restartFunction fn s1

/-! ## Start -/

/-- The held commands of the same ring that were fetched before it. -/
def earlier (e : Held) (s : State) : List Held :=
  s.mbx.held.filter (fun x => decide (x.num < e.num) && decide (x.id.fn = e.id.fn) && decide (x.id.ring = e.id.ring))

/-- Earlier commands of its ring whose final completion waits for an entry, and has not been given (R69, R75). -/
def owedBefore (e : Held) (s : State) : List Waiting :=
  match e.id.fn with
  | .pci f => (ring s (pciKey f) e.id.ring.val).waiting.filter (fun w => w.entry.final && decide (w.num < e.num))
  | _ => []

/-- No fence stands between: none before it, and if it is one, nothing before it (R75). -/
def fenceOpen (e : Held) (s : State) : Bool :=
  !(earlier e s).any (fun x => x.fence) && !(owedBefore e s).any (fun w => w.fence) &&
  !(e.fence && (!(earlier e s).isEmpty || !(owedBefore e s).isEmpty))

/-- Its ring's order lets it start: those that start no activity in ring order, what the arbiter has released in the order of
the presentation and behind those; what was deferred or waited for a cupola when it is released or ready (R74, R76, R120,
R121). -/
def inTurn (e : Held) (s : State) : Bool :=
  (match e.phase with
    | .fetched => !(earlier e s).any (fun x => decide (x.phase = .fetched))
    | .released => e.deferredOnce || (!(earlier e s).any (fun x => decide (x.phase = .fetched)) &&
        !s.mbx.held.any (fun x => decide (x.id.fn = e.id.fn) && decide (x.id.ring = e.id.ring) &&
          decide (x.phase = .released) && !x.deferredOnce && decide (x.order < e.order)))
    | .ready => true
    | _ => false) && fenceOpen e s

/-- Session closes, claims, releases and assignments, which are evaluated one at a time (R112). -/
def judgedInTurn (op : Nat) : Bool := decide (op = 5) || decide (op = 7) || decide (op = 8) || decide (op = 9)

/-- The command may start now; of those of R112 the one that was fetched first in the rotation (R74–R77, R112, R120, R121). -/
def mayStart (e : Held) (s : State) : Bool :=
  inTurn e s && !(judgedInTurn e.opcode &&
    s.mbx.held.any (fun x => judgedInTurn x.opcode && decide (x.num < e.num) && inTurn x s))

/-- The command a row speaks of, among those held: the first that may start, else the first. -/
def findHeld (id : CmdId) (op : Nat) (act : Option Activity) (s : State) : Option Held :=
  let es := s.mbx.held.filter (fun e => decide (e.id = id) && decide (e.opcode = op) && decide (e.activity = act))
  match es.find? (fun e => mayStart e s) with
  | some e => some e
  | none => es.head?

/-- Take up the command of a row: already held, or issued now; none while it may not start. [log 22 DEDUCED] -/
def takeIn (op : Nat) (act : Option Activity) (h : Caller) (s : State) : State × Option Held :=
  match findHeld h.id op act s with
  | some e => if mayStart e s then (s, some e) else (s, none)
  | none =>
    let s1 := issue op act h s
    match findHeld h.id op act s1 with
    | some e => if mayStart e s1 then (s1, some e) else (s1, none)
    | none => (s1, none)

/-- The outcome of a command's own work. A host error names the resources, by kind and index, that the command names. -/
inductive Reply where
  | done (status detail result : Nat) (resp : List Byte) (s : State)
  | later (key : Nat) (s : State)
  | hostError (named : List (Nat × Nat))

/-- The cupola that a command needs (R92, R121): fenced, FAULTED; asleep with a long wake, WAKING where the range
permits it; else it is woken at once. -/
def wakeGate (e : Held) (k : Nat) (s : State) : State × Bool :=
  if (cup s k).state = .fenced then (finish e stFaulted 0 0 [] s, false)
  else if longAsleep k s && mayWake e.opcode && decide (e.phase ≠ .ready) then
    (interim e stWaking (.waking k) (setCup s k { cup s k with fwVote := true, waking := some s.now }), false)
  else if (cup s k).state = .active then (s, true)
  else (moveCup k .active 0 s, true)

/-- A status code of a final completion, drawn freely for a host error (R13). -/
def openStatus (n : Nat) : Nat :=
  match n % 8 with
  | 0 => stOk | 1 => stBusy | 2 => stRefused | 3 => stNotPresent | 4 => stTimeout | 5 => stFaulted | 6 => stEmpty
  | _ => stLimit

/-- A host error's completion: any status, DETAIL and RESULT (R13). -/
def finishOpen (e : Held) (s : State) : State :=
  let (st, s1) := draw s
  let (detail, s2) := draw s1
  let (result, s3) := draw s2
  finish e (openStatus st) (detail % 2 ^ 32) (result % 2 ^ 64) [] s3

/-- A host error: the resources named are left in any configuration, the command completes with any status, firmware may restart
the session of the issuing function (R13). -/
def runHostError (e : Held) (named : List (Nat × Nat)) (s : State) : State :=
  mayRestart (fnKey e.id.fn) (finishOpen e (scrambleAll named s))

/-- Run a started command's own work and complete it. A block or header with a reserved field that is not zero is a host error:
the work may be done or not (R8, R13). -/
def runBody (e : Held) (body : State → Reply) (s : State) : State :=
  let (pick, s0) := if e.reserved then draw s else (0, s)
  match (if pick % 2 = 0 then body s0 else .hostError []) with
  | .done st d r resp s1 => finish e st d r resp s1
  | .later key s1 => setPhase e (.running key) s1
  | .hostError named => runHostError e named s0

/-- The command needs no cupola that can be asleep. -/
def noCupola : State → Option Nat := fun _ => none

/-- A mailbox command: taken up, the cupola it needs woken (`cupola` answers one only where the command's checks of
ownership pass), its work done. [log 18 DEDUCED] -/
def perform (op : Nat) (act : Option Activity) (cupola : State → Option Nat) (h : Caller) (body : State → Reply) (s : State) :
    Host.Outcome State Fault Refusal :=
  match takeIn op act h s with
  | (s1, none) => .next s1
  | (s1, some e) =>
    match cupola s1 with
    | none => .next (runBody e body s1)
    | some k =>
      match wakeGate e k s1 with
      | (s2, false) => .next s2
      | (s2, true) => .next (runBody e body s2)

/-- The wake of a cupola has failed: the commands that wait for it complete with FAULTED (R121, R523). [log 129 DEDUCED] -/
def failWaits (k : Nat) (s : State) : State :=
  (s.mbx.held.filter (fun e => decide (e.phase = .waking k))).foldl (fun st e => finish e stFaulted 0 0 [] st) s

/-- Complete the commands of an opcode that run on for an instance. -/
def completeRunning (op key status detail result : Nat) (resp : List Byte) (s : State) : State :=
  (s.mbx.held.filter (fun e => decide (e.opcode = op) && decide (e.phase = .running key))).foldl
    (fun st e => finish e status detail result resp st) s

/-- A command of the opcode runs on for the instance. -/
def runsOn (op key : Nat) (s : State) : Bool :=
  s.mbx.held.any (fun e => decide (e.opcode = op) && decide (e.phase = .running key))

/-- REFUSED with a DETAIL; OK; LIMIT; EMPTY. -/
def refuse (detail : Nat) (s : State) : Reply := .done stRefused detail 0 [] s
def okay (s : State) : Reply := .done stOk 0 0 [] s
def okResult (r : Nat) (s : State) : Reply := .done stOk 0 r [] s
def okResp (resp : List Byte) (s : State) : Reply := .done stOk 0 0 resp s
def emptyReply (s : State) : Reply := .done stEmpty 0 0 [] s
def limitReply (detail : Nat) (s : State) : Reply := .done stLimit detail 0 [] s

end Sys2Proof.Machine
end

