-- ==== Sys2Proof/Machine/Sealing.lean ====
section
/-!
DEFINITION. Line sealing: announcements and flips, control messages, blocks received, SEAL_LOSS (R283, R288–R297, R307).
-/
namespace Sys2Proof.Machine

def txSlot (l : Nat) : Nat := 2 * l
def rxSlot (l : Nat) : Nat := 2 * l + 1

/-- The half that the next message announces: a LOADED standby half, else the ACTIVE one (R283). -/
def nextAnnounced (v : Slot) : Option (Bool × Nat × Nat) :=
  if flipPending v then some (standby v, (halfOf v (standby v)).number, 0)
  else match activeHalf v with
    | some b => some (b, (halfOf v b).number, (halfOf v b).seq)
    | none => none

/-- A write to a transmit half after its announcement withdraws the flip (R283). [log 74 DEDUCED] -/
def withdrawFlip (l : Nat) (s : State) : State :=
  let q := sealOf s l
  let v := slot s kindLine (txSlot l)
  match q.announced with
  | some (b, _, _) =>
    if (halfOf v b).state = .active then s
    else setSeal s l { q with announced := (activeHalf v).map (fun a => (a, (halfOf v a).number, (halfOf v a).seq)) }
  | none => s

/-- Seal a multiframe of `blocks` blocks with half `b`: SEQ and usage advance (R286, R289). -/
def sealWith (l : Nat) (b : Bool) (blocks : Nat) (s : State) : State :=
  let s1 := if (halfOf (slot s kindLine (txSlot l)) b).state = .loaded then activate kindLine (txSlot l) b s else s
  let v := slot s1 kindLine (txSlot l)
  let h := halfOf v b
  let s2 := setSlot s1 kindLine (txSlot l) (withHalf v b { h with
    seq := h.seq + 1, state := if h.seq + 1 = 2 ^ 48 then .refusing else h.state })
  useHalf kindLine (txSlot l) b blocks (setSeal s2 l { sealOf s2 l with txHalf := some b, txSeq := h.seq })

/-- The half announced for this multiframe can seal it (R295, R304). -/
def canSeal (l : Nat) (s : State) : Option Bool :=
  if s.cph.zeroised || !pairServes 1 l s then none
  else match (sealOf s l).announced with
    | some (b, _, _) =>
      let st := (halfOf (slot s kindLine (txSlot l)) b).state
      if st = .active ∨ st = .loaded then some b else none
    | none => none

/-- A transmit multiframe of `blocks` blocks begins: sealed as the last message announced, and the next message made
(R283, R290, R295, R297). -/
def sealBoundary (l blocks : Nat) (s : State) : State :=
  let q := sealOf s l
  let s1 := setSeal s l { q with txSealing := q.announcedSealed, txHalf := none }
  let s2 := if q.announcedSealed then
      (match canSeal l s with | some b => sealWith l b blocks s1 | none => s1) else s1
  let q2 := sealOf s2 l
  let (en, early) := q2.change.getD (q2.enable, q2.early)
  setSeal s2 l { q2 with enable := en, early := early, change := none, announcedSealed := en,
                         announced := if en then nextAnnounced (slot s2 kindLine (txSlot l)) else none }

/-- TX_FAULT (R295). -/
def txFault (q : Seal) : Bool := q.txSealing && q.txHalf.isNone

/-- The seal control message of the multiframe (R290). -/
def sealMessage (q : Seal) : List Byte :=
  let (b, n, seq) := q.announced.getD (false, 0, 0)
  let body := [BitVec.ofNat 8 1, BitVec.ofNat 8 (bit q.announcedSealed 0 + bit b 1 + bit (txFault q) 2),
    BitVec.ofNat 8 n, 0] ++ be 6 seq ++ List.replicate 36 0
  body ++ be 2 (crc16 body)

/-- The 48 bytes of a seal control message (R290), none where their CRC fails or VERSION is not 1 (R291). -/
def parseSeal (bs : List Byte) : Option SealMsg :=
  let at_ (o : Nat) : Nat := ((bs.drop o).headD 0).toNat
  if bs.length ≠ 48 ∨ be 2 (crc16 (bs.take 46)) ≠ bs.drop 46 ∨ at_ 0 ≠ 1 then none
  else some { isSealed := Nat.testBit (at_ 1) 0, nextHalf := Nat.testBit (at_ 1) 1, txFault := Nat.testBit (at_ 1) 2,
              keyNumber := at_ 2, seq := leNat ((bs.drop 4).take 6).reverse }

/-- Source 0x2A4 + l, with the blocks failed since the last event (R308). -/
def postSeal (l kind : Nat) (s : State) : State :=
  let q := sealOf s l
  post (0x2A4 + l) .error (kind + satur 32 q.failedSince * 2 ^ 4) (setSeal s l { q with failedSince := 0 })

/-- SEAL_CONTROL_MESSAGE: accepted for the next multiframe, or missed (R267, R291). -/
def execSealControlMessage (l : Fin 4) (bytes : List Byte) (s : State) : Host.Outcome State Fault Refusal :=
  if !lineLocked l.val s || !(framer s l.val).im then .next s
  else
    let q := sealOf s l.val
    match parseSeal bytes with
    | none => .next (setSeal s l.val { q with rxNext := none })
    | some x =>
      let s1 := setSeal s l.val { q with rxNext := some x, peerTxFault := x.txFault }
      if x.txFault && !q.peerTxFault then .next (postSeal l.val 3 s1) else .next s1

/-- The first block of a received multiframe: the accepted message applies, or the half stays and SEQ goes on (R291,
R297). -/
def openMultiframe (l : Nat) (s : State) : State :=
  let q := sealOf s l
  match q.rxNext with
  | none => setSeal s l { q with rxSeq := q.rxSeq + 1, ctrlErrors := satur 32 (q.ctrlErrors + 1) }
  | some m =>
    let h := halfOf (slot s kindLine (rxSlot l)) m.nextHalf
    let ok := decide (h.state ≠ .empty) && decide (h.number = m.keyNumber)
    let s1 := if ok && m.isSealed && decide (h.state = .loaded) then activate kindLine (rxSlot l) m.nextHalf s else s
    let bad := m.isSealed && !ok
    let s2 := setSeal s1 l { q with
      rxNext := none, rxSealing := m.isSealed, rxHalf := m.nextHalf, rxSeq := m.seq, rxKeyOk := ok,
      keyMismatch := if bad then satur 32 (q.keyMismatch + 1) else q.keyMismatch,
      ctrlErrors := if !m.isSealed && q.enable then satur 32 (q.ctrlErrors + 1) else q.ctrlErrors }
    if bad then postSeal l 2 s2 else s2

/-- A block verified: 64 in a row clear SEAL_LOSS (R296). -/
def blockVerified (l : Nat) (s : State) : State :=
  let q := sealOf s l
  let run := q.verifiedRun + 1
  let s1 := setSeal s l { q with verified := satur 64 (q.verified + 1), failedRun := 0, verifiedRun := min run 64,
                                 sealLoss := q.sealLoss && decide (run < 64) }
  if q.sealLoss && decide (64 ≤ run) then postSeal l 1 s1 else s1

/-- A block failed: replaced by the seal-fail signal; 64 in a row declare SEAL_LOSS (R293, R294, R296). -/
def blockFailed (l truncated delivered : Nat) (s : State) : State :=
  let q := sealOf s l
  let run := q.failedRun + 1
  let s1 := setSeal s l { q with
    failed := satur 64 (q.failed + 1), failedSince := q.failedSince + 1, failedRun := min run 64, verifiedRun := 0,
    sealLoss := q.sealLoss || decide (64 ≤ run),
    truncated := if q.early then satur 32 (q.truncated + truncated) else q.truncated,
    delivered := if q.early then satur 32 (q.delivered + delivered) else q.delivered }
  let s2 := if q.early then postSeal l 4 s1 else s1
  if !q.sealLoss && decide (64 ≤ run) then postSeal l 0 s2 else s2

/-- The IV of a block: salt bytes 0–3, SEQ, BLOCK (R288). -/
def sealIv (salt seq number : Nat) : List Nat := natsOf (le 4 salt ++ be 6 seq ++ be 2 number)

/-- The plaintext of a sealed block of 255 words and its tag word, none where the tag does not check (R265, R288). -/
def openBlock (h : Half) (seq number : Nat) (bytes : List Byte) : List Byte × Bool :=
  let keys := roundKeys (natsOf (le 32 h.key))
  let iv := sealIv h.salt seq number
  let cipher := natsOf (bytes.take 4080)
  ((gcmStream keys iv cipher).map (BitVec.ofNat 8), decide (gcmTag keys iv [] cipher = natsOf (bytes.drop 4080)))

/-- The seal-fail signal: every word all ones (R293), after the bytes that have passed to the demapper (R294). -/
def sealFail (passed : List Byte) : List Byte := passed ++ List.replicate (4080 - passed.length) 0xFF

/-- The received block that the next row brings has this number within its multiframe; the first opens it (R265, R291). -/
def nextBlock (l : Nat) (first : Bool) (s : State) : State :=
  if first then
    let s1 := openMultiframe l s
    setSeal s1 l { sealOf s1 l with rxBlock := 0 }
  else setSeal s l { sealOf s l with rxBlock := (sealOf s l).rxBlock + 1 }

/-- The half of the multiframe can open blocks (R287, R291, R304). -/
def canOpen (l : Nat) (s : State) : Bool :=
  let q := sealOf s l
  q.rxKeyOk && decide ((halfOf (slot s kindLine (rxSlot l)) q.rxHalf).state = .active) && pairServes 1 l s

/-- A block whose outputs differ between the engines of the pair is counted (R304, R307). -/
def blockMismatch (l : Nat) (s : State) : State :=
  let q := sealOf s l
  compareMismatch 1 l (setSeal s l { q with compareMismatch := satur 32 (q.compareMismatch + 1) })

/-- A block of a sealed multiframe: its plaintext is released where its tag checks, else the seal-fail signal, in early-release
mode after the words that have passed already (R287, R291–R296, R304). -/
def receiveBlock (l : Nat) (bytes : List Byte) (compareOk : Bool) (passed truncated delivered : Nat) (s : State) : State :=
  let q := sealOf s l
  let b := q.rxBlock
  if !canOpen l s then emit (.block l b (sealFail [])) (blockFailed l truncated delivered s)
  else
    let (plain, ok) := openBlock (halfOf (slot s kindLine (rxSlot l)) q.rxHalf) q.rxSeq b bytes
    let s1 := useHalf kindLine (rxSlot l) q.rxHalf 1 s
    if !compareOk then emit (.block l b (sealFail [])) (blockFailed l truncated delivered (blockMismatch l s1))
    else if ok then emit (.block l b plain) (blockVerified l s1)
    else emit (.block l b (sealFail (if q.early then plain.take (16 * passed) else []))) (blockFailed l truncated delivered s1)

/-- SEALING_BLOCK_RECEIVE: in a multiframe that is not sealed the block passes unverified (R265, R267, R291–R297). -/
def execSealingBlockReceive (l : Fin 4) (first : Bool) (bytes : List Byte) (compareOk : Bool) (passed : Fin 256)
    (truncated delivered : Nat) (s : State) : Host.Outcome State Fault Refusal :=
  if !lineLocked l.val s || !(framer s l.val).im then .next s
  else
    let s1 := nextBlock l.val first s
    let q := sealOf s1 l.val
    if q.rxSealing then .next (receiveBlock l.val bytes compareOk passed.val truncated delivered s1)
    else .next (emit (.block l.val q.rxBlock (bytes.take 4080)) s1)

/-- LINE_SEAL_CONFIGURE (R297). -/
def execLineSealConfigure (h : Caller) (p : SealP) (s : State) : Host.Outcome State Fault Refusal :=
  perform 0x0701 none (fun s => if owns h kLine p.line.val s then some (64 + p.line.val) else none) h (fun s =>
    if !owns h kLine p.line.val s then refuse 4 s
    else if (match (framer s p.line.val).cfg with | some c => !c.sealedLayout | none => true) then refuse 0x701 s
    else if line400zr p.line.val s then refuse 0x702 s
    else if !ownsDomain h p.domain.val s then refuse 0x704 s
    else okay (setSeal s p.line.val { sealOf s p.line.val with
      change := some (p.enable, p.early), domain := some p.domain.val })) s

/-- A half's number in a status byte, 0xFF for none (R306). [log 72 DEDUCED] -/
def halfByte : Option Bool → Nat
  | some true => 1 | some false => 0 | none => 0xFF

def sealStatus (l : Nat) (s : State) : List Byte :=
  let q := sealOf s l
  fields 64 [(1, l), (1, bit q.txSealing 0 + bit q.rxSealing 1 + bit q.sealLoss 2 + bit q.early 3 + bit q.peerTxFault 4),
    (1, halfByte (activeHalf (slot s kindLine (txSlot l)))), (1, bit q.rxHalf 0), (8, q.txSeq), (8, q.rxSeq),
    (8, q.verified), (8, q.failed), (4, q.keyMismatch), (4, q.ctrlErrors), (4, q.delivered), (4, q.truncated),
    (4, q.compareMismatch)]

/-- SEAL_STATUS (R307). -/
def execSealStatus (h : Caller) (l : Fin 4) (s : State) : Host.Outcome State Fault Refusal :=
  perform 0x0705 none noCupola h (fun s => okResp (sealStatus l.val s) s) s

end Sys2Proof.Machine
end

