-- ==== Sys2Proof/Machine/Commits.lean ====
section
/-!
DEFINITION. The completion of key commits, and what of one cycle comes before what: a commit before the frame or boundary it would take
effect at, zeroisation before a commit (R279, R283, R284, R301, R303).
-/
namespace Sys2Proof.Machine

/-- The sources of R300 that stay armed: in Keep-only the clock source does not (R301). -/
def armedSources (sources : BitVec 4) (s : State) : BitVec 4 :=
  if s.pwr.keep.asleep then sources &&& 0xD else sources

/-- Zeroisation falls in this cycle (R303). -/
def zeroisesNow (s : State) : Bool :=
  s.pending.any (fun c => match c with
    | .zeroisation sources => decide (armedSources sources s ≠ 0)
    | .mainRailLoss rails => !s.pwr.keep.asleep && (rails.getLsbD 0 || rails.getLsbD 1 || rails.getLsbD 9)
    | _ => false)

/-- A commit of function `k` completes: the standby half is loaded, RESULT set, BUSY cleared (R279, R283, R303). -/
def completeCommit (k : Nat) (s : State) : State :=
  match (keyPage s k).busy with
  | none => s
  | some c =>
    let r := if s.cph.zeroised || zeroisesNow s then 3 else c.result
    let s1 := setKeyPage s k { keyPage s k with busy := none, result := r }
    if r ≠ 0 ∨ c.erase = true then s1
    else
      let s2 := loadStandby c.kind c.slot c.staged s1
      if c.kind = kindLine ∧ c.slot % 2 = 0 then withdrawFlip (c.slot / 2) s2 else s2

/-- The functions whose commit to the slot completes in this cycle. -/
def completing (kind n : Nat) (s : State) : List Nat :=
  s.pending.filterMap (fun c => match c with
    | .keyCommitComplete f =>
      match (keyPage s (pciKey f)).busy with
      | some b => if b.kind = kind ∧ b.slot = n then some (pciKey f) else none
      | none => none
    | _ => none)

/-- A commit in the cycle of the frame it would take effect at counts as arrived (R41, R284). -/
def settleCommits (kind n : Nat) (s : State) : State := (completing kind n s).foldl (fun st k => completeCommit k st) s

/-- A write or an erasure of the slot, or a change of line sealing, falls in this cycle: a multiframe boundary waits for it (R41,
R284, R297). -/
def sealAwaits (l : Nat) (s : State) : Bool :=
  !(completing kindLine (txSlot l) s).isEmpty || zeroisesNow s ||
  s.pending.any (fun c => match c with
    | .lineSealConfigure _ p => decide (p.line.val = l)
    | .keyCommitErase f => decide ((keyPage s (pciKey f)).target.toNat % 2 ^ 20 = kindLine * 2 ^ 18 + txSlot l)
    | _ => false)

end Sys2Proof.Machine
end

