-- ==== Sys2Proof/Machine/Windows.lean ====
section
/-!
DEFINITION. What BAR0 shows a function (R51, R52): the violation event, and the answer of a read.
-/
namespace Sys2Proof.Machine

/-- Source 0x003: an access to a window that the function does not see (R52, R84). [log 20 DEDUCED] -/
def violation (f : PciFn) (offset : Nat) (write : Bool) (s : State) : State :=
  postFn (adminQueue s (pfOf (pciKey f))) 3 .security
    (offset % 2 ^ 24 + f.num.val * 2 ^ 24 + bit write 30 + bit f.linkB 31) s

/-- A read answers a value. -/
def answer (f : PciFn) (offset value : Nat) (s : State) : State := emit (.registerRead (pciKey f) offset value) s

/-- A read that the function does not see: zero, and the event (R52). -/
def hiddenRead (f : PciFn) (offset : Nat) (s : State) : State := answer f offset 0 (violation f offset false s)

/-- The function is a PF. -/
def isPf (f : PciFn) : Bool := decide (f.num.val = 0)

/-- Source 0x4F3: an access to a fenced cupola (R53, R541). -/
def fencedAccess (f : PciFn) (k offset : Nat) (write : Bool) (s : State) : State :=
  post 0x4F3 .error (k + bit write 7 + offset % 2 ^ 24 * 2 ^ 8 + f.num.val * 2 ^ 32 + bit f.linkB 38) s

/-- Until FW_READY every window other than GLB_ reads zero and discards writes (R568). -/
def windowsDown (s : State) : Bool := !s.boot.fwReady

end Sys2Proof.Machine
end

