-- ==== Sys2Proof/WellFormed.lean ====
section
/-!
DEFINITION. The ranges of a command's operands (R13: a value outside its field's range is a host error, whose result is
unpredictable). Each check cites the rule that gives the range.
-/
namespace Sys2Proof

/-- `v` is 0, which selects a default, or lies in the range. -/
def zeroOr (lo hi v : Nat) : Bool := decide (v = 0) || (decide (lo ≤ v) && decide (v ≤ hi))

/-! ## Range 0x0A -/

/-- R416. -/
def TimeBaseP.wf (p : TimeBaseP) : Bool :=
  zeroOr 10 1000000000 p.stepGuardNs && zeroOr 1 1000 p.lockNs && zeroOr 50 100 p.bandwidth &&
  decide (p.holdoverPpb < 2 ^ 32) && decide (p.checkPpsNs < 2 ^ 16) && decide (p.maxSlewPpb < 2 ^ 32) &&
  decide (p.slewLimitNs < 2 ^ 32) && decide (-32768 ≤ p.utcOffset) && decide (p.utcOffset < 32768)

/-- R416. -/
def TimeSetP.wf (p : TimeSetP) : Bool :=
  decide (p.ns < 1000000000) && decide (p.seconds < 2 ^ 64) && decide (p.frac < 2 ^ 16)

/-- R416. -/
def PulseP.wf (p : PulseP) : Bool :=
  decide (p.startNs < 1000000000) && decide (p.startSec < 2 ^ 64) && decide (10 ≤ p.widthNs) &&
  decide (p.widthNs < 2 ^ 32) && (decide (p.mode.val ≠ 2) || (decide (1000 ≤ p.periodNs) && decide (p.periodNs ≤ 10 ^ 12)))

/-- R416: DOMAIN_NUMBER 24–43. -/
def PtpClockP.wf (p : PtpClockP) : Bool :=
  decide (24 ≤ p.domainNumber) && decide (p.domainNumber ≤ 43) && decide (p.priority2 < 256) &&
  decide (p.localPriority < 256) && decide (p.clockIdentity < 2 ^ 64)

/-- R416: TOD_PERIOD_S 1–60. -/
def TodP.wf (p : TodP) : Bool := zeroOr 1 60 p.periodS && decide (p.driftNs < 2 ^ 16)

/-- R416. -/
def WitnessP.wf (p : WitnessP) : Bool := zeroOr 5 1000 p.thresholdNs && zeroOr 1 3600 p.holdS

/-! ## Ranges 0x02 to 0x04 -/

/-- R140. [log 211 DESIGN CHOICE] -/
def TreeP.wf (p : TreeP) : Bool :=
  decide (p.upRate ≤ (if p.mode.val = 1 then 2 else 0)) && zeroOr 100000 700000 p.teqdNs && decide (p.ponId < 2 ^ 51) &&
  decide (p.minReach ≤ p.maxReach) && decide (p.maxReach ≤ 60000) && decide (p.maxReach ≤ p.minReach + 40000) &&
  decide (p.groupIndex < 2 ^ 32) && decide (p.idleEnter ≤ 1000) && zeroOr 10 10000 p.discPeriodMs &&
  decide (p.driftLimit < 2 ^ 16) && decide (p.rangeAttempts ≤ 8)

/-- R142. -/
def ProfileP.wf (p : ProfileP) : Bool :=
  let relock := if p.minRelock = 0 then 64 else p.minRelock
  decide (p.rssiMode ≤ 2) && decide (p.guard < 2 ^ 16) && decide (relock + 256 ≤ p.preambleLen) &&
  decide (p.preambleLen < 2 ^ 16) && decide (p.preamblePattern < 2 ^ 64) && decide (p.delimiter < 2 ^ 64) &&
  decide (p.delimWindow < 2 ^ 16) && decide (p.minRelock < 2 ^ 16) && decide (p.rssiOffsetNs ≤ 2000) &&
  zeroOr 10 1000 p.rssiWidthNs && zeroOr 1 6 p.relockDb

/-- R160. -/
def AdmitP.wf (p : AdmitP) : Bool := decide (p.serial < 2 ^ 64) && decide (p.regId < 2 ^ 288)

/-- R175. -/
def AllocP.wf (p : AllocP) : Bool :=
  decide (p.allocId < 2 ^ 14) && decide (p.fixed < 2 ^ 32) && decide (p.assured < 2 ^ 32) &&
  decide (p.nonAssured < 2 ^ 32) && decide (p.maximum < 2 ^ 32) &&
  decide (p.fixed + p.assured + p.nonAssured ≤ p.maximum) && decide (p.beWeight ≤ 1000) &&
  (if p.cls.val = 0 then decide (p.grantsPerFrame = 1) || decide (p.grantsPerFrame = 2) || decide (p.grantsPerFrame = 4)
   else decide (p.grantsPerFrame = 1))

/-- R180. -/
def PortCtxP.wf (p : PortCtxP) : Bool := decide (p.portId < 2 ^ 16)

/-- R195. -/
def CoopP.wf (p : CoopP) : Bool := decide (p.etherType < 2 ^ 16) && decide (p.laneMask < 2 ^ 48)

/-! ## Ranges 0x05 and 0x06 -/

/-- R210, R213, R215, R231, R241. -/
def LineP.wf (p : LineP) : Bool :=
  decide (p.modulation ≤ 2) && (decide (p.modulation ≠ 2) || (decide (40 ≤ p.entropyX20) && decide (p.entropyX20 ≤ 112))) &&
  decide (4 ≤ p.rate) && decide (p.rate ≤ 16) && decide (1 ≤ p.rolloff) && decide (p.rolloff ≤ 20) &&
  decide (-1000 ≤ p.txPower) && decide (p.txPower ≤ 100) && decide (-288 ≤ p.slotN) && decide (p.slotN ≤ 480) &&
  decide (5 ≤ p.slotM) && decide (p.slotM ≤ 40) &&
  (decide (p.mimoTaps = 0) || (decide (15 ≤ p.mimoTaps) && decide (p.mimoTaps ≤ 63) && decide (p.mimoTaps % 2 = 1))) &&
  decide (p.sdThreshold < 2 ^ 16) && decide (-(2 ^ 31) ≤ p.cdHint) && decide (p.cdHint < 2 ^ 31) && decide (p.cdWindow < 2 ^ 32)

/-- R240, R241. -/
def AdjustP.wf (p : AdjustP) : Bool :=
  decide (-1000 ≤ p.txPower) && decide (p.txPower ≤ 100) && decide (p.sdThreshold < 2 ^ 16)

/-- R272. -/
def FramerP.wf (p : FramerP) : Bool :=
  decide (4 ≤ p.rate) && decide (p.rate ≤ 16) && decide (p.nConfirm ≤ 15) && decide (p.mLoss ≤ 15) &&
  decide (p.mfConfirm ≤ 15) && decide (p.mfLoss ≤ 15) && decide (p.actionDisable < 2 ^ 12)

/-- R272: 64 bytes. -/
def TtiP.wf (p : TtiP) : Bool := decide (p.tti.length = 64)

/-! ## Range 0x07 -/

/-- R298, R305. -/
def MacsecP.wf (p : MacsecP) : Bool :=
  decide (p.sci < 2 ^ 64) && decide (p.peerSci < 2 ^ 64) && decide (p.replayWindow < 2 ^ 30)

/-! ## Range 0x08 -/

/-- R349. -/
def LearnP.wf (p : LearnP) : Bool :=
  zeroOr 1000 600000 p.ageScanMs && decide (p.ageLimit ≤ 15) && zeroOr 1 60000 p.moveHoldMs

/-- R309, R339. -/
def QueueP.wf (p : QueueP) : Bool :=
  decide (1 ≤ p.weight) && decide (p.weight ≤ 4096) && decide (p.peakKbps < 2 ^ 32) && decide (2048 ≤ p.burstBytes) &&
  decide (p.burstBytes ≤ 16777216) && decide (p.spillThreshold < 2 ^ 32) && decide (p.maxDepth < 2 ^ 64) &&
  (match p.targetKind.val with
    | 0 => true
    | 1 => decide (p.target % 256 < 4) && decide (p.target / 256 < 32)
    | 2 => decide (0x80 ≤ p.target) && decide (p.target < 0xB0)
    | _ => (decide (0xC0 ≤ p.target) && decide (p.target < 0xF0)) || (decide (0x100 ≤ p.target) && decide (p.target < 0x130)))

/-- R339, R349. -/
def GroupP.wf (p : GroupP) : Bool :=
  decide (1 ≤ p.weight) && decide (p.weight ≤ 4096) && decide (p.peakKbps < 2 ^ 32) && decide (2048 ≤ p.burstBytes) &&
  decide (p.burstBytes ≤ 16777216)

/-! ## Range 0x0B -/

/-- R446. -/
def ProtP.wf (p : ProtP) : Bool :=
  zeroOr 8 30 p.hbTimeoutUs && zeroOr 1 3600 p.wtrS && zeroOr 1 8000 p.staleLimit &&
  decide (-(2 ^ 31 : Int) ≤ p.feederDelta) && decide (p.feederDelta < 2 ^ 31)

/-! ## Range 0x0C -/

/-- R462, R472, R482. -/
def LaneGroupP.wf (p : LaneGroupP) : Bool :=
  decide (p.fomFloor < 256) && decide (p.fomRetrain < 256) && decide (p.retryCount < 256) && decide (1 ≤ p.cost) &&
  decide (p.cost < 65536)

/-- R452. -/
def ClientP.wf (p : ClientP) : Bool :=
  decide (p.width = 1) || decide (p.width = 2) || decide (p.width = 4) || decide (p.width = 8)

/-- R482. -/
def LinkP.wf (p : LinkP) : Bool :=
  ((decide (0xC0 ≤ p.port) && decide (p.port < 0xF0)) || (decide (0x100 ≤ p.port) && decide (p.port < 0x130))) &&
  decide (-(2 ^ 31 : Int) ≤ p.delayAsym) && decide (p.delayAsym < 2 ^ 31)

/-! ## Range 0x0D -/

/-- R512: 0 in a field keeps the default (R495, R497, R500). -/
def MemCfgP.wf (p : MemCfgP) : Bool :=
  zeroOr 75 95 p.hotC && zeroOr 8 64 p.rhSample && zeroOr 8 255 p.rhLimit && zeroOr 1 168 p.scrubHours

/-- R508, R512. -/
def DmaP.wf (p : DmaP) : Bool := decide (p.log2 ≤ 10) && decide (p.ringBase % 4096 = 0) && decide (p.ringBase < 2 ^ 64)

/-- R512. -/
def WindowP.wf (p : WindowP) : Bool := decide (p.base % 0x200000 = 0) && decide (p.size % 0x200000 = 0)

/-- R508. -/
def Descriptor.wf (d : Descriptor) : Bool :=
  !(d.srcHost && d.dstHost) && decide (1 ≤ d.length) && decide (d.length ≤ 2 ^ 30)

/-! ## Range 0x01 -/

/-- R540. -/
def FloorP.wf (p : FloorP) : Bool :=
  decide (1 ≤ p.floor) && decide (p.floor ≤ 3) && decide (p.hystGated < 2 ^ 32) && decide (p.hystRetained < 2 ^ 32) &&
  decide (p.hystOff < 2 ^ 32)

/-! ## Range 0x00 -/

/-- R97. -/
def ResetP.wf (p : ResetP) : Bool :=
  decide (p.cls ≤ 3) && (if p.cls = 0 then decide (p.delayUs = 0) else decide (1000 ≤ p.delayUs) && decide (p.delayUs ≤ 1000000))

/-- R57, R80. -/
def RingP.wf (p : RingP) : Bool :=
  decide (p.sqLog2 ≤ 10) && decide (p.cqLog2 ≤ 10) && decide (p.sqBase % 4096 = 0) && decide (p.cqBase % 4096 = 0) &&
  decide (p.sqBase < 2 ^ 64) && decide (p.cqBase < 2 ^ 64)

/-! ## Range 0x0E -/

/-- R80: VECTOR 0–255 for a PF, 0–15 for a VF. -/
def EvqP.wf (vf : Bool) (p : EvqP) : Bool :=
  decide (p.log2 ≤ 10) && decide (p.vector < (if vf then 16 else 256)) && decide (p.base % 4096 = 0) && decide (p.base < 2 ^ 64)

/-- R562. -/
def CounterP.wf (p : CounterP) : Bool := decide (p.event < 4096) && decide (p.inst < 2 ^ 32) && decide (p.domain < 2 ^ 16)

/-- R552: WINDOW_US 1–10,000,000. -/
def MeterP.wf (p : MeterP) : Bool := decide (1 ≤ p.windowUs) && decide (p.windowUs ≤ 10000000)

end Sys2Proof
end

