-- ==== Sys2Proof/Machine/Time.lean ====
section
/-!
DEFINITION. Campanile: time bases, servo, step guard, windows, PPS inputs, pulse outputs, cross-check, sleep ledger
(R376–R398, R402–R405, R412–R417).
-/
namespace Sys2Proof.Machine

/-! ## Small questions -/

/-- |x| of a number of 2⁻¹⁶ ns, in whole ns. -/
def absNs (x : Int) : Nat := x.natAbs / 65536

/-- What holds over HOLDOVER_PPB (units of 0.01 ppb) for `dt` ns. -/
def driftNs (ppb dt : Nat) : Nat := ppb * dt / 100000000000

/-- Uncertainty in ns, 0xFFFF_FFFF for unknown (R389). -/
def uncertainty (v : TimeBase) (now : Nat) : Nat :=
  match v.servo with
  | .freeRun => 0xFFFFFFFF
  | .host => 0xFFFFFFFF
  | .acquiring => satur 32 (absNs v.phaseError + v.lockNs)
  | .locked => v.lockNs
  | _ => satur 32 (v.entryUnc + driftNs v.holdoverPpb (now - v.entryAt))

def pps (s : State) (i : Nat) : PpsInput := tget {} i s.time.pps
def setPps (s : State) (i : Nat) (v : PpsInput) : State :=
  { s with time := { s.time with pps := tset {} i v s.time.pps } }
def pulse (s : State) (o : Nat) : PulseOut := tget {} o s.time.pulses
def setPulse (s : State) (o : Nat) (v : PulseOut) : State :=
  { s with time := { s.time with pulses := tset {} o v s.time.pulses } }
def ptpClock (s : State) (c : Nat) : PtpClock := tget {} c s.time.clocks
def setPtpClock (s : State) (c : Nat) (v : PtpClock) : State :=
  { s with time := { s.time with clocks := tset {} c v s.time.clocks } }
def tod (s : State) (t : Nat) : TreeTod := tget {} t s.time.tods
def setTod (s : State) (t : Nat) (v : TreeTod) : State :=
  { s with time := { s.time with tods := tset {} t v s.time.tods } }

/-- A PTP clock serves time base `b`: a port in SLAVE state that the witness has not stopped, with Sync arriving (R387). -/
def clockServes (b : Nat) (c : PtpClock) : Bool :=
  c.enabled && c.bound && decide (c.tb = b) && !c.syncLost &&
  c.ports.any (fun p => decide (p.state = 9) && !p.blocked)

/-- The input of the time base is present (R387). -/
def inputPresent (b : Nat) (s : State) : Bool :=
  let v := timeBase s b
  match v.inputKind with
  | 1 => (pps s v.inputIndex).enabled && (pps s v.inputIndex).present
  | 2 => s.time.clocks.any (fun e => clockServes b e.2)
  | 3 => fabricTimePresent s
  | _ => false

/-! ## Servo states -/

/-- The servo steers the time base: ACQUIRING or LOCKED. -/
def inLoop (v : TimeBase) : Bool := decide (v.servo = .acquiring) || decide (v.servo = .locked)

/-- The adjustments of the last 64 s in ACQUIRING and LOCKED at instant `t`, the present one among them. -/
def segmentsAt (t : Nat) (v : TimeBase) : List (Nat × Nat × Int) :=
  ((if inLoop v then [(v.adjSince, t, v.adj)] else []) ++ v.segments).filter (fun e => decide (t < e.2.1 + 64000000000))

/-- The adjustment in force ends at instant `t`. -/
def closeSegment (t : Nat) (v : TimeBase) : TimeBase := { v with segments := segmentsAt t v, adjSince := t }

/-- The mean frequency adjustment of the last 64 s in ACQUIRING or LOCKED (R388). [log 189 DEDUCED] -/
def holdMean (t : Nat) (v : TimeBase) : Int :=
  let parts : List (Nat × Int) := (segmentsAt t v).map (fun e => (e.2.1 - max e.1 (t - 64000000000), e.2.2))
  let total : Nat := (parts.map (fun e => e.1)).foldl (· + ·) 0
  if total = 0 then v.adj else (parts.map (fun e => (e.1 : Int) * e.2)).foldl (· + ·) 0 / (total : Int)

/-- Enter a servo state for a reason and post source 0x300 + b (R388, R417). -/
def enterServo (b : Nat) (dst : Servo) (reason : Nat) (s : State) : State :=
  let v := timeBase s b
  if v.servo = dst then s
  else
    let u := uncertainty v s.now
    let w := closeSegment s.now v
    let held := decide (v.servo = .holdover) || decide (v.servo = .coarse)
    let v1 := { w with
      servo := dst, entryUnc := u, entryAt := s.now, runSince := none,
      left := if held && decide (dst = .acquiring) then some u else v.left,
      isUnset := if dst = .locked then false else v.isUnset,
      adj := match dst with
        | .holdover => holdMean s.now v
        | .stepHeld => holdMean s.now v
        | _ => v.adj }
    post (0x300 + b) .info
      (servoCode dst + servoCode v.servo * 8 + reason * 2 ^ 6 + uncertainty v1 s.now * 2 ^ 10) (setTimeBase s b v1)

/-- An input is present in FREE_RUN, HOLDOVER or COARSE_HOLDOVER: ACQUIRING (R388); not while REFCLK is lost (R599). -/
def inputArrives (b : Nat) (s : State) : State :=
  let v := timeBase s b
  if s.pwr.refclkLost && decide (v.servo = .holdover) then s
  else match v.servo with
    | .freeRun => enterServo b .acquiring 1 s
    | .holdover => enterServo b .acquiring 1 s
    | .coarse => enterServo b .acquiring 1 s
    | _ => s

/-- The input is lost in ACQUIRING or LOCKED: HOLDOVER (R388). -/
def inputLost (b reason : Nat) (s : State) : State :=
  match (timeBase s b).servo with
  | .acquiring => enterServo b .holdover reason s
  | .locked => enterServo b .holdover reason s
  | _ => s

/-- Re-judge every time base's input after a change of a PPS input, a PTP clock or fabric time. -/
def rejudgeInputs (s : State) : State :=
  (List.range 8).foldl (fun st b =>
    if (timeBase st b).inputKind = 0 ∨ (timeBase st b).inputKind = 4 then st
    else if inputPresent b st then inputArrives b st else inputLost b 3 st) s

/-! ## Corrections -/

/-- The effective guard in ns (R391); none: unlimited. -/
def effectiveGuard (v : TimeBase) : Option Nat :=
  if v.isUnset && !v.firstStepGuard then none
  else match v.left with
    | some u => some (max v.stepGuardNs u)
    | none => some v.stepGuardNs

def beyondGuard (v : TimeBase) (c : Int) : Bool :=
  match effectiveGuard v with
  | some g => decide (g * 65536 < c.natAbs)
  | none => false

/-- The next edge of a pulse output after a time value: START itself, or START + k × PERIOD (R397). -/
def edgeAfter (p : PulseOut) (value : Nat) : Option Nat :=
  if p.mode = 0 then none
  else if value < p.start then some p.start
  else if p.mode = 1 then none
  else if p.periodNs = 0 then none
  else some (p.start + ((value - p.start) / (p.periodNs * unitNs) + 1) * (p.periodNs * unitNs))

/-- Edges at `first`, first + period … that lie at or before `value`. -/
def edgesPassed (p : PulseOut) (first value : Nat) : Nat :=
  if value < first then 0
  else if p.mode = 2 then (if p.periodNs = 0 then 0 else (value - first) / (p.periodNs * unitNs) + 1) else 1

/-- A step moves the edges of the time base's outputs: those passed over are counted and reported (R398). -/
def stepPulses (b : Nat) (value : Nat) (s : State) : State :=
  (List.range 8).foldl (fun st o =>
    let p := pulse st o
    if p.tb = b ∧ p.mode ≠ 0 then
      let n := match p.next with | some e => edgesPassed p e value | none => 0
      let st1 := setPulse st o { p with next := edgeAfter p value }
      if n = 0 then st1 else post (0x318 + o) .info (1 + satur 31 n * 2) st1
    else st) s

/-- The witnesses of the lines on a time base that has stepped: the pair that straddles the step is discarded, and the
reference is formed again (R393, R409). -/
def stepWitnesses (b : Nat) (s : State) : State :=
  let ws := tmap {} (fun l w => if portTimeBase (0x40 + l) s = b then
    { w with tbStepped := true, txStepped := true, window := [], reference := none, runDev := [] } else w) s.time.witnesses
  { s with time := { s.time with witnesses := ws } }

/-- Apply a step of `c` × 2⁻¹⁶ ns to a time base and its check counter at once (R393, R394). -/
def applyStep (b : Nat) (c : Int) (s : State) : State :=
  let v := timeBase s b
  let v1 := { v with
    value := addFrac v.value c, check := addFrac v.check c, isUnset := false, left := none,
    stepsApplied := satur 32 (v.stepsApplied + 1) }
  stepPulses b v1.value (stepWitnesses b (setTimeBase s b v1))

/-- A correction of the servo is refused: pending, counted, STEP_HELD, source 0x308 + b (R391, R392). -/
def refuseCorrection (b : Nat) (c : Int) (s : State) : State :=
  let v := timeBase s b
  let v1 := { v with pending := some c, stepSeq := (v.stepSeq + 1) % 256, stepsRefused := satur 32 (v.stepsRefused + 1) }
  let s1 := post (0x308 + b) .warning (v1.stepSeq + twos 36 (saturInt 36 (c.tdiv 65536)) * 2 ^ 8) (setTimeBase s b v1)
  enterServo b .stepHeld 6 s1

/-- Clamp a frequency adjustment to ±100,000 ppb, in units of 1/1,024 ppb (R376). -/
def clampAdj (a : Int) : Int := max (-102400000) (min 102400000 a)

/-- Slew: a frequency the manual bounds by MAX_SLEW_PPB and leaves to firmware (R390). [log 10 DESIGN CHOICE] -/
def slew (v : TimeBase) (e : Int) : Int :=
  clampAdj (max (-(v.maxSlewPpb * 1024 : Int)) (min (v.maxSlewPpb * 1024) (Config.servoFrequency e v.bandwidth)))

/-- A phase error of the input is measured (R387, R396). -/
def measure (b : Nat) (e : Int) (s : State) : State :=
  let v := timeBase s b
  setTimeBase s b { v with measured := some e }

/-- The phase error, taken up, meets the condition that ends the present state: within LOCK_NS in ACQUIRING, beyond 4 × LOCK_NS in
LOCKED, within STEP_GUARD_NS in STEP_HELD (R388, R392). -/
def endsState (v : TimeBase) (e : Int) : Bool :=
  match v.servo with
  | .acquiring => decide (e.natAbs ≤ v.lockNs * 65536)
  | .locked => decide (4 * v.lockNs * 65536 < e.natAbs)
  | .stepHeld => decide (e.natAbs ≤ v.stepGuardNs * 65536)
  | _ => false

def takeUp (e : Int) (now : Nat) (v : TimeBase) : TimeBase :=
  { v with phaseError := e, measured := none, runSince := if endsState v e then some (v.runSince.getD now) else none }

/-- The condition has held for `sec` seconds. -/
def heldFor (sec : Nat) (v : TimeBase) (now : Nat) : Bool :=
  match v.runSince with | some t => decide (t + sec * 1000000000 ≤ now) | none => false

/-- SERVO_CORRECTION: the servo has measured a phase error, in 2⁻¹⁶ ns, and steps, slews or refuses (R390–R392). The
correction is the error's opposite. [log 92 DEDUCED] -/
def servoCorrection (b : Nat) (e : Int) (s : State) : State :=
  let v := takeUp e s.now (timeBase s b)
  let s1 := setTimeBase s b v
  match v.servo with
  | .stepHeld =>
    if e.natAbs ≤ v.stepGuardNs * 65536 then s1
    else match v.pending with
      | some c => if v.stepGuardNs * 65536 < (-e - c).natAbs then refuseCorrection b (-e) s1 else s1
      | none => refuseCorrection b (-e) s1
  | .acquiring =>
    if v.slewLimitNs * 65536 < e.natAbs then
      if beyondGuard v e then refuseCorrection b (-e) s1 else applyStep b (-e) s1
    else setTimeBase s1 b { closeSegment s.now v with adj := slew v e }
  | .locked => setTimeBase s1 b { closeSegment s.now v with adj := slew v e }
  | _ => s1

/-- SERVO_CORRECTION of the phase error that the input has given (R391). -/
def execServoCorrection (tb : Fin 8) (s : State) : Host.Outcome State Fault Refusal :=
  match (timeBase s tb.val).measured with
  | some e => .next (servoCorrection tb.val e s)
  | none => .next s

/-- LOCK_ACHIEVED: the phase error has stayed within LOCK_NS for 64 s (R388, R394). -/
def execLockAchieved (tb : Fin 8) (s : State) : Host.Outcome State Fault Refusal :=
  let v := timeBase s tb.val
  if v.servo = .acquiring ∧ heldFor 64 v s.now = true then .next (enterServo tb.val .locked 2 s) else .next s

/-- LOCK_LOST: the phase error has exceeded 4 × LOCK_NS for 8 s (R388). -/
def execLockLost (tb : Fin 8) (s : State) : Host.Outcome State Fault Refusal :=
  let v := timeBase s tb.val
  if v.servo = .locked ∧ heldFor 8 v s.now = true then .next (enterServo tb.val .acquiring 9 s) else .next s

/-- PENDING_DISCARD: the error has stayed within STEP_GUARD_NS for 4 s in STEP_HELD (R392). -/
def execPendingDiscard (tb : Fin 8) (s : State) : Host.Outcome State Fault Refusal :=
  let v := timeBase s tb.val
  if v.servo = .stepHeld ∧ heldFor 4 v s.now = true then
    .next (enterServo tb.val .acquiring 8 (setTimeBase s tb.val { v with pending := none }))
  else .next s

/-! ## Commands -/

def orDefault (d v : Nat) : Nat := if v = 0 then d else v

/-- The cross-check's fault is absent: counters within 4 ns and no PPS check out of bounds (R415). [log 96 DEDUCED] -/
def checkAgrees (v : TimeBase) : Bool :=
  decide (((v.value : Int) - (v.check : Int)).natAbs ≤ 4 * unitNs) && decide (v.checkPpsBad < 2)

def timeBaseConfigured (p : TimeBaseP) (s : State) : State :=
  let b := p.tb.val
  let v := timeBase s b
  let sameInput := decide (v.inputKind = p.inputKind.val) && decide (v.inputIndex = p.inputIndex.val)
  let cleared := v.checkFault && checkAgrees v
  let v1 := { v with
    inputKind := p.inputKind.val, inputIndex := p.inputIndex.val, firstStepGuard := p.firstStepGuard,
    fabricTb := p.fabricTb, checkEnable := p.checkEnable, stepGuardNs := orDefault 1000 p.stepGuardNs,
    lockNs := orDefault 20 p.lockNs, bandwidth := orDefault 100 p.bandwidth,
    holdoverPpb := orDefault 1000 p.holdoverPpb, checkPps := p.checkPps.map (fun i => i.val),
    checkPpsNs := orDefault 50 p.checkPpsNs, utcOffset := p.utcOffset,
    maxSlewPpb := orDefault 1000 p.maxSlewPpb, slewLimitNs := orDefault 100 p.slewLimitNs,
    checkFault := v.checkFault && !cleared }
  let s1 := setTimeBase s b v1
  let s2 := if cleared then postSafe 0 false b s1 else s1
  match p.inputKind.val with
  | 0 => enterServo b .freeRun 0 s2
  | 4 => enterServo b .host 0 s2
  | _ =>
    if v.servo = .host then enterServo b .acquiring 0 s2
    else if inputPresent b s2 then
      (if sameInput then inputArrives b s2
       else match v.servo with
         | .locked => enterServo b .acquiring 0 s2
         | _ => inputArrives b s2)
    else inputLost b 3 s2

/-- TIME_BASE_CONFIGURE (R416). -/
def execTimeBaseConfigure (h : Caller) (p : TimeBaseP) (s : State) : Host.Outcome State Fault Refusal :=
  perform 0x0A00 none noCupola h (fun s =>
    if !owns h kTimeBase p.tb.val s then refuse 4 s
    else if !p.wf then .hostError [(kTimeBase, p.tb.val)]
    else if p.fabricTb && s.time.bases.any (fun e => decide (e.1 ≠ p.tb.val) && e.2.fabricTb) then refuse 0xA00 s
    else if decide (p.inputKind.val = 2) &&
        !s.time.clocks.any (fun e => e.2.bound && e.2.enabled && decide (e.2.tb = p.tb.val)) then refuse 0xA01 s
    else okay (timeBaseConfigured p s)) s

/-- The 64-byte answer of TIME_BASE_STATUS (R416). -/
def timeBaseStatus (b : Nat) (s : State) : List Byte :=
  let v := timeBase s b
  fields 64 [(1, b), (1, servoCode v.servo),
    (1, bit v.pending.isSome 0 + bit v.checkFault 1 + bit v.fabricTb 2 + bit (inputPresent b s) 3 + bit v.isUnset 4),
    (1, v.stepSeq), (4, uncertainty v s.now), (4, twos 32 (saturInt 32 (v.phaseError.tdiv 4096))),
    (4, twos 32 v.adj), (8, twos 64 (v.pending.getD 0)),
    (4, if v.servo = .locked then satur 32 ((s.now - v.entryAt) / 1000000000) else 0),
    (4, v.stepsApplied), (4, v.stepsRefused), (8, v.sleepTicks)]

/-- TIME_BASE_STATUS (R416). -/
def execTimeBaseStatus (h : Caller) (tb : Fin 8) (s : State) : Host.Outcome State Fault Refusal :=
  perform 0x0A01 none noCupola h (fun s => okResp (timeBaseStatus tb.val s) s) s

/-- TIME_SET sets the time base, and its check counter by the same amount; COARSE_HOLDOVER ends (R388, R394, R416). -/
def timeSet (b value : Nat) (s : State) : State :=
  let v := timeBase s b
  let v1 := { v with
    value := value, check := (((v.check : Int) + (value : Int) - (v.value : Int)) % (timeModulus : Int)).toNat,
    isUnset := false, left := none, setWait := none }
  let s1 := stepPulses b value (stepWitnesses b (setTimeBase s b v1))
  if v.servo = .coarse then
    (if inputPresent b s1 then enterServo b .acquiring 7 s1 else if v.inputKind = 0 then enterServo b .freeRun 7 s1
      else enterServo b .acquiring 7 s1)
  else s1

/-- TIME_SET (R416). -/
def execTimeSet (h : Caller) (p : TimeSetP) (s : State) : Host.Outcome State Fault Refusal :=
  perform 0x0A02 none noCupola h (fun s =>
    if !owns h kTimeBase p.tb.val s then refuse 4 s
    else if !p.wf then .hostError [(kTimeBase, p.tb.val)]
    else match p.atPps with
      | none => okay (timeSet p.tb.val (timeOf p.seconds p.ns p.frac) s)
      | some i => .later p.tb.val (setTimeBase s p.tb.val { timeBase s p.tb.val with
          setWait := some { input := i.val, value := timeOf p.seconds p.ns p.frac } })) s

/-- A replacement of the pending correction in the cycle of its authorisation comes first (R392). -/
def replaceFirst (b : Nat) (s : State) : State :=
  if s.pending.any (fun c => match c with | .servoCorrection tb => decide (tb.val = b) | _ => false) then
    match (timeBase s b).measured with
    | some e => servoCorrection b e s
    | none => s
  else s

/-- TIME_STEP_AUTHORISE (R392). -/
def execTimeStepAuthorise (h : Caller) (p : StepAuthP) (s : State) : Host.Outcome State Fault Refusal :=
  perform 0x0A03 none noCupola h (fun s0 =>
    let s := if owns h kTimeBase p.tb.val s0 then replaceFirst p.tb.val s0 else s0
    let v := timeBase s p.tb.val
    if !owns h kTimeBase p.tb.val s then refuse 4 s
    else match v.pending with
      | none => emptyReply s
      | some c =>
        if decide (v.stepSeq = p.stepSeq) && decide ((c - p.expected).natAbs ≤ p.toleranceNs * 65536) then
          okay (enterServo p.tb.val .acquiring 7
            (applyStep p.tb.val c (setTimeBase s p.tb.val { v with pending := none })))
        else refuse 0xA02 s) s

/-- Source 0x314 + i (R395). -/
def postPps (i : Nat) (lost : Bool) (s : State) : State := post (0x314 + i) .warning (bit lost 0) s

/-- PPS_INPUT_CONFIGURE (R395). -/
def execPpsInputConfigure (h : Caller) (p : PpsP) (s : State) : Host.Outcome State Fault Refusal :=
  perform 0x0A04 none noCupola h (fun s =>
    if !owns h kTimeBase p.tb.val s then refuse 4 s
    else
      let i := pps s p.input.val
      let s1 := setPps s p.input.val { i with enabled := p.enable, tb := p.tb.val, falling := p.falling,
                                              inDelay := p.inDelay, present := i.present && p.enable }
      let s2 := if i.present && !p.enable then postPps p.input.val true s1 else s1
      okay (rejudgeInputs s2)) s

/-- The first edge of a periodic output at least 1 µs ahead of `value` (R397). -/
def firstEdge (start period value : Nat) : Nat :=
  if value + 1000 * unitNs ≤ start then start
  else start + ((value + 1000 * unitNs - start + period - 1) / period) * period

/-- PULSE_OUTPUT_CONFIGURE (R397). -/
def execPulseOutputConfigure (h : Caller) (p : PulseP) (s : State) : Host.Outcome State Fault Refusal :=
  perform 0x0A05 none noCupola h (fun s =>
    let value := (timeBase s p.tb.val).value
    let start := p.startSec * unitSec + p.startNs * unitNs
    if !owns h kTimeBase p.tb.val s then refuse 4 s
    else if !p.wf then .hostError [(kTimeBase, p.tb.val)]
    else if decide (p.mode.val = 1) && decide (start < value + 1000 * unitNs) then refuse 0xA03 s
    else if decide (p.mode.val = 2) && decide (p.periodNs ≤ p.widthNs) then refuse 0xA04 s
    else okay (setPulse s p.output.val
      { tb := p.tb.val, mode := p.mode.val, activeLow := p.activeLow, outDelay := p.outDelay, widthNs := p.widthNs,
        periodNs := p.periodNs, start := start, everConfigured := true,
        next := match p.mode.val with
          | 0 => none
          | 1 => some start
          | _ => some (firstEdge start (p.periodNs * unitNs) value) })) s

/-- PTP_CLOCK_CONFIGURE (R400). -/
def execPtpClockConfigure (h : Caller) (p : PtpClockP) (s : State) : Host.Outcome State Fault Refusal :=
  perform 0x0A06 none noCupola h (fun s =>
    if !owns h kTimeBase p.tb.val s then refuse 4 s
    else if !p.wf then .hostError [(kTimeBase, p.tb.val)]
    else if s.time.clocks.any (fun e => decide (e.1 ≠ p.clock.val) && e.2.bound && decide (e.2.tb = p.tb.val)) then
      refuse 0xA06 s
    else
      let c := ptpClock s p.clock.val
      okay (rejudgeInputs (setPtpClock s p.clock.val
        { c with enabled := p.enable, bound := true, tb := p.tb.val, domainNumber := p.domainNumber,
                 priority2 := p.priority2, localPriority := p.localPriority, clockIdentity := p.clockIdentity }))) s

/-- PTP_PORT_CONFIGURE (R400). -/
def execPtpPortConfigure (h : Caller) (p : PtpPortP) (s : State) : Host.Outcome State Fault Refusal :=
  perform 0x0A07 none noCupola h (fun s =>
    let c := ptpClock s p.clock.val
    let rest := c.ports.filter (fun x => decide (x.port ≠ p.port) || decide (x.tributary ≠ p.tributary.val))
    if !owns h kTimeBase c.tb s then refuse 4 s
    else if !portExists p.port then .hostError [(kTimeBase, c.tb)]
    else if !p.enable then okay (rejudgeInputs (setPtpClock s p.clock.val { c with ports := rest }))
    else if assignedBase p.port s ≠ c.tb then refuse 0xA08 s
    else if 32 ≤ rest.length then limitReply 0xA07 s
    else okay (rejudgeInputs (setPtpClock s p.clock.val { c with ports := rest ++
      [{ port := p.port, tributary := p.tributary.val, masterOnly := p.masterOnly, nonForwardable := p.nonForwardable,
         localPriority := p.localPriority, delayAsymmetry := p.delayAsymmetry, state := 4, blocked := false }] }))) s

/-- The 64-byte answer of PTP_STATUS (R416). -/
def ptpStatus (c : PtpClock) : List Byte :=
  fields 64 ([(8, c.parent), (2, c.stepsRemoved), (1, c.clockClass), (1, c.ports.length),
    (2, match c.ports.find? (fun p => decide (p.state = 9)) with | some p => p.port | none => 0xFFFF), (2, 0),
    (8, twos 64 c.meanDelay), (8, twos 64 c.offset)] ++ c.ports.map (fun p => (1, p.state)))

/-- PTP_STATUS (R416). -/
def execPtpStatus (h : Caller) (clock : Fin 8) (s : State) : Host.Outcome State Fault Refusal :=
  perform 0x0A08 none noCupola h (fun s => okResp (ptpStatus (ptpClock s clock.val)) s) s

/-- TREE_TOD_CONFIGURE (R404). -/
def execTreeTodConfigure (h : Caller) (p : TodP) (s : State) : Host.Outcome State Fault Refusal :=
  perform 0x0A09 none noCupola h (fun s =>
    if !owns h kTree p.tree.val s then refuse 4 s
    else if !p.wf then .hostError [(kTree, p.tree.val)]
    else okay (setTod s p.tree.val { tod s p.tree.val with
      enabled := p.enable, periodS := orDefault 10 p.periodS, asymPpb := p.asymPpb, driftNs := orDefault 2 p.driftNs })) s

/-- PORT_TIME_BASE_SET: in force at the port's next frame or packet boundary (R23). -/
def execPortTimeBaseSet (h : Caller) (port : Nat) (tb : Fin 8) (s : State) : Host.Outcome State Fault Refusal :=
  perform 0x0A0D none noCupola h (fun s =>
    if !portExists port || decide (port < 0x40) then .hostError []
    else if !ownsPort h port s then refuse 4 s
    else okay { s with time := { s.time with portTbNext := tset 0 port (tb.val + 1) s.time.portTbNext } }) s

/-- d_i in units of 2⁻¹⁶ ns: (RTD − 35,000 ns) / 2 × (1 − a), RTD in units of 62.5 ps (R405). [log 97 DEDUCED] -/
def oneWay (rtd : Nat) (asymPpb : Int) : Int :=
  ((rtd : Int) * 4096 - 35000 * 65536) * (1000000000 - asymPpb) / 2000000000

/-- TREE_TOD_STATUS (R416). -/
def execTreeTodStatus (h : Caller) (tree : Fin 64) (terminal : Fin 512) (s : State) :
    Host.Outcome State Fault Refusal :=
  perform 0x0A0E none noCupola h (fun s =>
    let v := tod s tree.val
    if !(admittedTerminals tree.val s).contains terminal.val then refuse 0x303 s
    else okResp (fields 32 [(8, v.superframe), (2, fracOf v.instant), (4, nsOf v.instant), (6, secOf v.instant),
      (8, match terminalRtd tree.val terminal.val s with
        | some r => twos 64 (oneWay r v.asymPpb) | none => 0), (4, v.messages)]) s) s

/-! ## Campanile windows -/

/-- Offset of a register in a time base's page (R380). -/
def campOffset (b off : Nat) : Nat := 0x300000 + b * 0x1000 + off

/-- CAMP_SNAP_FRAC read: the held snapshot, or a new one (R381). -/
def execCampSnapFrac (fn : PciFn) (tb : Fin 8) (s : State) : Host.Outcome State Fault Refusal :=
  if windowsDown s then .next (answer fn (campOffset tb.val 0) 0 s)
  else
    let v := timeBase s tb.val
    let v1 := if v.latched then { v with latched := false } else { v with snapshot := v.value }
    .next (answer fn (campOffset tb.val 0) (fracOf v1.snapshot) (setTimeBase s tb.val v1))

/-- CAMP_LATCH_ALL (R382). -/
def execCampLatchAll (fn : PciFn) (mask : BitVec 8) (s : State) : Host.Outcome State Fault Refusal :=
  if windowsDown s then .next s
  else if !isPf fn then .next (violation fn 0x308000 true s)
  else .next ((List.range 8).foldl (fun st b =>
    if mask.getLsbD b then
      setTimeBase st b { timeBase st b with snapshot := (timeBase st b).value, latched := true }
    else st) s)

/-- The PF steers the time base: input kind host, and a session of the PF owns it (R383). -/
def steers (fn : PciFn) (b : Nat) (s : State) : Bool :=
  let o := (own s kTimeBase b).session
  decide ((timeBase s b).inputKind = 4) && decide (o ≠ 0) && (session s o).isOpen &&
  decide ((session s o).fn = pciKey fn)

def setAdjResult (b r : Nat) (s : State) : State := setTimeBase s b { timeBase s b with adjResult := r }

/-- CAMP_FREQ (R383, R376). [log 95 DEDUCED] -/
def execCampFreq (fn : PciFn) (tb : Fin 8) (adj : Int) (s : State) : Host.Outcome State Fault Refusal :=
  if windowsDown s then .next s
  else if !isPf fn then .next (violation fn (campOffset tb.val 0x18) true s)
  else if !steers fn tb.val s then .next (setAdjResult tb.val 2 s)
  else .next (setTimeBase s tb.val { timeBase s tb.val with adj := clampAdj adj, adjResult := 0 })

/-- CAMP_ADJ_CTRL with APPLY (R383, R391, R393). -/
def execCampAdjApply (fn : PciFn) (tb : Fin 8) (authorise : Bool) (s : State) : Host.Outcome State Fault Refusal :=
  let v := timeBase s tb.val
  if windowsDown s then .next s
  else if !isPf fn then .next (violation fn (campOffset tb.val 0x28) true s)
  else if !steers fn tb.val s then .next (setAdjResult tb.val 2 s)
  else if (match v.lastApply with | some t => decide (s.now < t + 200) | none => false) then
    .next (setAdjResult tb.val 3 s)
  else if beyondGuard v v.phaseReg && !authorise then .next (setAdjResult tb.val 1 s)
  else
    let s1 := applyStep tb.val v.phaseReg s
    .next (setTimeBase s1 tb.val { timeBase s1 tb.val with
      adjResult := 0, applied := (v.applied + 1) % 2 ^ 16, lastApply := some s.now })

/-! ## Pins -/

/-- The stamp of a PPS edge against a time base, less IN_DELAY (R378, R395). -/
def ppsStamp (i : PpsInput) (phase : Nat) (b : Nat) (s : State) : Nat :=
  ((((timeBase s b).value : Int) + (phase : Int) * unitPhase - i.inDelay * (unitPhase : Int)) %
    (timeModulus : Int)).toNat

/-- Offset of a time value from the nearest whole second, in units of 2⁻¹⁶ ns (R396). -/
def secondOffset (v : Nat) : Int :=
  let r := v % unitSec
  if r * 2 ≤ unitSec then ((r / unitFrac : Nat) : Int) else -(((unitSec - r) / unitFrac : Nat) : Int)

/-- PPS_EDGE: stamps, TIME_SET at the edge, the inputs restored (R395, R396, R416). -/
def execPpsEdge (input : Fin 4) (phase : Nat) (s : State) : Host.Outcome State Fault Refusal :=
  let i := pps s input.val
  if !i.enabled then .next s
  else
    let st := ppsStamp i (phase % 16) i.tb s
    let s1 := setPps s input.val { i with present := true, lastStamp := st, edgeAt := s.now }
    let s2 := if i.present then s1 else postPps input.val false s1
    let s3 := (List.range 8).foldl (fun a b =>
      let v := timeBase a b
      let off := secondOffset (ppsStamp i (phase % 16) b s)
      let v1 := if v.inputKind = 1 ∧ v.inputIndex = input.val then { v with measured := some off } else v
      let a1 := setTimeBase a b (if v.checkPps = some input.val then { v1 with checkPpsDiff := some off } else v1)
      match v.setWait with
      | some w => if w.input = input.val then completeRunning 0x0A02 b stOk 0 0 [] (timeSet b w.value a1) else a1
      | none => a1) s2
    .next (rejudgeInputs s3)

/-- PPS_INPUT_LOST: no edge for 2.5 s (R387, R395). -/
def execPpsInputLost (input : Fin 4) (s : State) : Host.Outcome State Fault Refusal :=
  let i := pps s input.val
  if i.present && lapsed i.edgeAt 2500000000 s then
    .next (rejudgeInputs (postPps input.val true (setPps s input.val { i with present := false })))
  else .next s

/-- The instant at which the pin is driven for an edge: OUT_DELAY earlier (R397). -/
def driven (p : PulseOut) (e : Nat) : Int := (e : Int) - p.outDelay * (unitPhase : Int)

/-- The edge falls due in this cycle of its time base. -/
def edgeDue (p : PulseOut) (e : Nat) (s : State) : Bool := decide (driven p e < ((timeBase s p.tb).value : Int) + (unitNs : Int))

/-- The scheduled edge of an output occurs (R397, R398); held by a failed check, the pin stays inactive (R415). -/
def pulseEdge (o : Nat) (s : State) : State :=
  let p := pulse s o
  match p.next with
  | none => s
  | some e =>
    let v := timeBase s p.tb
    if !edgeDue p e s then s
    else
      let late := if p.mode = 2 then edgesPassed p e v.value - 1 else 0
      let s1 := if late = 0 then s else post (0x318 + o) .info (1 + satur 31 late * 2) s
      let s2 := if v.checkFault then s1
        else emit (.pulse o ((driven p e % (timeModulus : Int)).toNat) p.widthNs p.activeLow) s1
      if p.mode = 2 then setPulse s2 o { p with next := some (e + (late + 1) * (p.periodNs * unitNs)) }
      else post (0x318 + o) .info 0 (setPulse s2 o { p with next := none })

/-- A step of a time base may still come in this cycle (R398). -/
def stepAwaits (s : State) : Bool :=
  s.pending.any (fun c => match c with
    | .servoCorrection _ => true | .timeSet _ _ => true | .timeStepAuthorise _ _ => true | .campAdjApply _ _ _ => true
    | .ppsEdge _ _ => true | _ => false)

/-- PULSE_EDGE: judged against the time after a step of the same cycle (R397, R398). -/
def execPulseEdge (output : Fin 8) (s : State) : Host.Outcome State Fault Refusal :=
  if stepAwaits s then .next { s with time := { s.time with pulsesDue := s.time.pulsesDue ++ [output.val] } }
  else .next (pulseEdge output.val s)

/-- The edges that waited for the steps of the cycle. -/
def runPulses (s : State) : State :=
  s.time.pulsesDue.foldl (fun st o => pulseEdge o st) { s with time := { s.time with pulsesDue := [] } }

/-- CROSS_CHECK: at each whole second of the time base, while armed (R415, R536, R537). `upset` is what a fault has put between
the time base and its check counter since the last, in 2⁻¹⁶ ns. -/
def execCrossCheck (tb : Fin 8) (upset : Int) (s0 : State) : Host.Outcome State Fault Refusal :=
  let v0 := timeBase s0 tb.val
  let v := { v0 with check := addFrac v0.check upset }
  let s := setTimeBase s0 tb.val v
  if !v.checkEnable || decide (secOf v.value = v.checkedSec) then .next s
  else
    let diff := (v.value : Int) - (v.check : Int)
    let counterBad := decide (4 * unitNs < diff.natAbs)
    let pps := v.checkPpsDiff.getD 0
    let bad := if v.checkPps.isSome && decide (v.checkPpsNs * 65536 < pps.natAbs) then v.checkPpsBad + 1 else 0
    let ppsBad := decide (2 ≤ bad)
    let s1 := setTimeBase s tb.val { v with
      checkPpsBad := min bad 2, checkPpsDiff := none, checkedSec := secOf v.value,
      checkFault := v.checkFault || counterBad || ppsBad }
    if (counterBad || ppsBad) && !v.checkFault then
      let d := if counterBad then diff.tdiv (unitNs : Int) else pps.tdiv 65536
      .next (postSafe 0 true tb.val (post (0x320 + tb.val) .safety
        (bit counterBad 0 + bit ppsBad 1 + twos 36 (saturInt 36 d) * 4) s1))
    else .next s1

/-! ## Time of day on the trees -/

/-- The mean period of the last 8,000 frames of a tree, by their stamps (R404). -/
def framePeriod (stamps : List Nat) : Nat :=
  match stamps with
  | [] => 125000 * unitNs
  | _ :: [] => 125000 * unitNs
  | x :: rest => (x - rest.getLastD x) / rest.length

/-- The instant of the first symbol of superframe `n`, predicted from those stamps (R404). [log 190 DEDUCED] -/
def predicted (tree : Nat) (n : Nat) (s : State) : Nat :=
  let v := Machine.tree s tree
  (v.frameStamps.headD 0 + (n - v.superframe) * framePeriod v.frameStamps) % timeModulus

/-- The frames have drifted from the prediction of the last message by more than TOD_DRIFT_NS (R404). -/
def todDrifted (tree : Nat) (s : State) : Bool :=
  let v := tod s tree
  let t := Machine.tree s tree
  decide (v.driftNs * unitNs <
    ((t.frameStamps.headD 0 : Int) - ((v.instant : Int) - ((v.superframe : Int) - (t.superframe : Int)) * (v.period : Int))).natAbs)

/-- A message is due: the first, one each TOD_PERIOD_S, one on drift (R404). -/
def todDue (tree : Nat) (s : State) : Bool :=
  let v := tod s tree
  decide (v.messages = 0) || decide (v.sentAt + v.periodS * 1000000000 ≤ s.now) || todDrifted tree s

/-- TOD_MESSAGE: firmware sends a tree's time-of-day message for superframe N, at least 10 ms ahead, with T_N predicted (R404,
R405); stopped by a failed check (R415). -/
def execTodMessage (tree : Fin 64) (superframe : Nat) (s : State) : Host.Outcome State Fault Refusal :=
  let v := tod s tree.val
  if !v.enabled || !treeOn tree.val s || (timeBase s (treeTimeBase tree.val s)).checkFault || !todDue tree.val s ||
      decide (superframe < (Machine.tree s tree.val).superframe + 80) then .next s
  else
    let inst := predicted tree.val superframe s
    let s1 := setTod s tree.val { v with
      superframe := superframe, instant := inst, period := framePeriod (Machine.tree s tree.val).frameStamps, sentAt := s.now,
      messages := satur 32 (v.messages + 1) }
    if treeDoubleRate tree.val s then
      .next ((admittedTerminals tree.val s).foldl (fun st i =>
        let d := match terminalRtd tree.val i s with | some r => oneWay r v.asymPpb | none => 0
        emit (.todMessage tree.val superframe (some i) (addFrac inst d)) st) s1)
    else .next (emit (.todMessage tree.val superframe none inst) s1)

/-! ## Keep-only -/

/-- The time bases resume at E1: saved value plus N × 30,517.578125 ns; those not in FREE_RUN or HOST enter
COARSE_HOLDOVER with 31 µs + 20 ppm of the sleep, unknown when CLK32K was absent (R413, R414, R600). [log 98 DEDUCED] -/
def resumeBase (ticks : Nat) (clkLost : Bool) (stoppedAt now : Nat) (v : TimeBase) : TimeBase :=
  let add := ticks * (unitSec / 32768)
  let v1 := { v with value := (v.value + add) % timeModulus, check := (v.check + add) % timeModulus,
                     sleepTicks := ticks, latched := false }
  match v.servo with
  | .freeRun => v1
  | .host => v1
  | _ => { v1 with servo := .coarse, pending := none, entryAt := now, runSince := none, measured := none,
                   adj := if inLoop v then holdMean stoppedAt v else v.adj, segments := [], adjSince := now,
                   entryUnc := if clkLost then 0xFFFFFFFF else satur 32 (31000 + ticks * 30517578125 / 50000000000) }

/-- SLEEP_LEDGER_RESUME with the ledger's count, after the wake (R412–R414). -/
def execSleepLedgerResume (ticks : Nat) (s : State) : Host.Outcome State Fault Refusal :=
  if !s.time.stopped || s.pwr.keep.asleep then .next s
  else
    let n := ticks % 2 ^ 48
    let lost := s.pwr.clk32kLostAsleep
    let bs := (List.range 8).foldl (fun st b =>
      let v := timeBase st b
      let v1 := resumeBase n lost s.time.stoppedAt st.now v
      let st1 := setTimeBase st b v1
      if v1.servo = v.servo then st1
      else postOrOwe (0x300 + b) .info
        (servoCode v1.servo + servoCode v.servo * 8 + 5 * 2 ^ 6 + uncertainty v1 st.now * 2 ^ 10) st1) s
    .next { bs with
      time := { bs.time with stopped := false },
      pwr := { bs.pwr with clk32kLostAsleep := false, keep := { bs.pwr.keep with ticks := n } } }

/-- One cycle of the time clock: every time base and its check counter advance (R376, R415). The instances are the
eight, listed or not. -/
def tickBases (s : State) : State :=
  (List.range 8).foldl (fun st b =>
    let v := timeBase st b
    setTimeBase st b { v with
      value := (((v.value : Int) + (unitNs : Int) + v.adj) % (timeModulus : Int)).toNat,
      check := (((v.check : Int) + (unitNs : Int) + v.adj) % (timeModulus : Int)).toNat }) s

end Sys2Proof.Machine
end

