-- ==== Sys2Proof/Machine/Ptp.lean ====
section
/-!
DEFINITION. The boundary clock's messages and the delay-step witness (R386, R399–R401, R406–R411, R416).
-/
namespace Sys2Proof.Machine

/-! ## Boundary clock -/

/-- A received frame is one of this PTP port's: its PORT, and its tributary on a line port (R400). -/
def ptpPortMatches (f : PtpFrame) (p : PtpPort) : Bool :=
  decide (p.port = f.port) && (decide (f.port / 0x40 ≠ 1) || decide (p.tributary = f.tributary))

/-- A line port takes stamps only while locked and in IM (R386). -/
def stampsAt (port : Nat) (s : State) : Bool :=
  if port / 0x40 = 1 then lineStamps (port - 0x40) s else true

/-- A reading of a time base in units of 2⁻¹⁶ ns, `d` units of 62.5 ps added. -/
def shiftedStamp (b : Nat) (d : Int) (s : State) : Nat := addFrac (timeBase s b).value (d * 4096) / unitFrac

/-- Stamps of what a port sends and receives: those of a line port are taken at the framer and corrected by TX_LATENCY and
RX_LATENCY to the fibre exits (R232, R384). -/
def sendStamp (port b : Nat) (s : State) : Nat :=
  shiftedStamp b (if port / 0x40 = 1 then (Config.txLatency (port - 0x40) (line s (port - 0x40)).locks : Int) else 0) s
def receiveStamp (port b : Nat) (s : State) : Nat :=
  shiftedStamp b (if port / 0x40 = 1 then -(Config.rxLatency (port - 0x40) (line s (port - 0x40)).locks : Int) else 0) s

/-- A port that takes part in nothing yet as a slave. -/
def enterPortState (st : Nat) (p : PtpPort) : PtpPort :=
  if p.state = st then p else { p with state := st, forth := none, reqTx := none }

/-- The offset from the master and the mean path delay: the one-way differences of the two directions, the asymmetry applied (R399,
R411). -/
def ptpOffset (c : PtpClock) (p : PtpPort) : Option Int := p.forth.map (fun f => f - p.delayAsymmetry - c.meanDelay)

/-- What a message of IEEE 1588 does to the port that received it, with the stamp `rx` of its receipt, and to its clock: 0 Sync,
8 Follow_Up, 9 Delay_Resp, 11 Announce. [log 100 DEDUCED] -/
def ptpReceive (f : PtpFrame) (rx now : Nat) (c : PtpClock) (p : PtpPort) : PtpClock × PtpPort :=
  match f.kind.val with
  | 0 =>
    if p.state ≠ 9 then (c, p)
    else ({ c with syncLost := false, syncAt := now },
          { p with syncSeq := f.seq, syncRx := rx, syncCorr := f.correction,
                   forth := if f.twoStep then p.forth else some ((rx : Int) - f.stamp - f.correction) })
  | 8 =>
    if p.state ≠ 9 ∨ f.seq ≠ p.syncSeq then (c, p)
    else (c, { p with forth := some ((p.syncRx : Int) - f.stamp - p.syncCorr - f.correction) })
  | 9 =>
    (match p.state, p.reqTx, p.forth with
      | 9, some t, some d => ({ c with meanDelay := (d + ((f.stamp : Int) - t - f.correction)) / 2 }, { p with reqTx := none })
      | _, _, _ => (c, p))
  | 11 =>
    let st := if p.masterOnly then 6 else f.portState.val
    (if st = 9 then { c with parent := f.parent, stepsRemoved := f.stepsRemoved + 1, clockClass := f.clockClass,
                             syncAt := if p.state = 9 then c.syncAt else now } else c, enterPortState st p)
  | _ => (c, p)

/-- The message gives the slave port's clock an offset: a Sync in one step, or a Follow_Up. -/
def givesOffset (f : PtpFrame) (p : PtpPort) : Bool :=
  decide (p.state = 9) && ((decide (f.kind.val = 0) && !f.twoStep) || (decide (f.kind.val = 8) && decide (f.seq = p.syncSeq)))

/-- PTP_MESSAGE: passed to firmware on a PTP port of an enabled clock of its domain, discarded where no stamp is taken,
else ordinary traffic (R386, R400). -/
def execPtpMessage (f : PtpFrame) (s0 : State) : Host.Outcome State Fault Refusal :=
  let s := portBoundary f.port s0
  match s.time.clocks.find? (fun e => e.2.enabled && e.2.bound && decide (e.2.domainNumber = f.domainNumber) &&
      decide (portTimeBase f.port s = e.2.tb) && e.2.ports.any (ptpPortMatches f)) with
  | none => .next s
  | some (k, c) =>
    match c.ports.find? (ptpPortMatches f) with
    | none => .next s
    | some p =>
      if !stampsAt f.port s then .next s
      else
        let rx := receiveStamp p.port c.tb s
        let (c1, p1) := ptpReceive f rx s.now c p
        let off := ptpOffset c1 p1
        let c2 := { c1 with ports := c1.ports.map (fun x => if x = p then p1 else x),
                            offset := if givesOffset f p then off.getD c1.offset else c1.offset }
        let s1 := setPtpClock s k c2
        let s2 := if f.kind.val = 1 ∧ p.state = 6 then emit (.ptpMessage k 9 p.port p.tributary rx none) s1 else s1
        let s3 := if givesOffset f p && decide ((timeBase s c.tb).inputKind = 2) && !p.blocked then
            (match off with | some o => measure c.tb o s2 | none => s2) else s2
        .next (rejudgeInputs s3)

/-- PTP_INPUT_LOST: the slave port has received no Sync for 1 s (R387). -/
def execPtpInputLost (clock : Fin 8) (s : State) : Host.Outcome State Fault Refusal :=
  let c := ptpClock s clock.val
  if c.enabled && lapsed c.syncAt 1000000000 s then
    .next (rejudgeInputs (setPtpClock s clock.val { c with syncLost := true }))
  else .next s

/-- The next message of a kind is due: Sync and Delay_Req 16 times a second, Announce 8 times (R399). -/
def messageDue (kind : Nat) (c : PtpClock) (now : Nat) : Bool :=
  match (if kind = 0 then c.syncSent else if kind = 1 then c.announceSent else c.reqSent) with
  | some t => decide (t + (if kind = 1 then 125000000 else 62500000) ≤ now)
  | none => true

def markSent (kind now : Nat) (c : PtpClock) : PtpClock :=
  match kind with
  | 0 => { c with syncSent := some now }
  | 1 => { c with announceSent := some now }
  | _ => { c with reqSent := some now }

/-- What the clock announces: its parent's data, or its own (R377, R399). -/
def announcement (c : PtpClock) (s : State) : Announced :=
  let slave := c.ports.any (fun p => decide (p.state = 9))
  { utcOffset := (timeBase s c.tb).utcOffset, domainNumber := c.domainNumber, priority2 := c.priority2,
    grandmaster := if slave then c.parent else c.clockIdentity,
    clockClass := if slave then c.clockClass else Config.ownClockClass (servoCode (timeBase s c.tb).servo),
    stepsRemoved := if slave then c.stepsRemoved else 0 }

/-- One port sends its message of a kind. -/
def sendPtp (k kind : Nat) (c : PtpClock) (s0 : State) (st : State) (p : PtpPort) : State :=
  let stamp := sendStamp p.port c.tb s0
  match kind with
  | 0 => emit (.ptpMessage k 8 p.port p.tributary stamp none) (emit (.ptpMessage k 0 p.port p.tributary stamp none) st)
  | 1 => emit (.ptpMessage k 11 p.port p.tributary stamp (some (announcement c s0))) st
  | _ => emit (.ptpMessage k 1 p.port p.tributary stamp none) st

/-- PTP_MESSAGE_SEND: 0 Sync with its Follow_Up and 1 Announce on master ports, 2 Delay_Req on the slave port (R399);
a failed check stops Sync and Announce (R415). -/
def execPtpMessageSend (clock : Fin 8) (kind : Fin 3) (s : State) : Host.Outcome State Fault Refusal :=
  let c := ptpClock s clock.val
  let held := (timeBase s c.tb).checkFault && decide (kind.val ≠ 2)
  if !c.enabled || held || !messageDue kind.val c s.now then .next s
  else
    let want := if kind.val = 2 then 9 else 6
    let mine := c.ports.filter (fun p => decide (p.state = want))
    let s1 := mine.foldl (fun st p => portBoundary p.port st) s
    let ports := mine.filter (fun p => decide (portTimeBase p.port s1 = c.tb))
    let asked (p : PtpPort) : PtpPort :=
      if kind.val = 2 ∧ ports.contains p = true then { p with reqTx := some (sendStamp p.port c.tb s1) } else p
    let c1 := { markSent kind.val s.now c with ports := c.ports.map asked }
    .next (ports.foldl (sendPtp clock.val kind.val c s1) (setPtpClock s1 clock.val c1))

/-! ## Witness -/

def witness (s : State) (l : Nat) : Witness := tget {} l s.time.witnesses
def setWitness (s : State) (l : Nat) (w : Witness) : State :=
  { s with time := { s.time with witnesses := tset {} l w s.time.witnesses } }

/-- Mean of the window (R408). -/
def meanInt (xs : List Int) : Int := xs.foldl (· + ·) 0 / (xs.length : Int)

/-- Source 0x310 + l (R417); `step` in units of 62.5 ps. -/
def postWitness (l kind : Nat) (step : Int) (s : State) : State :=
  post (0x310 + l) .warning (kind + twos 32 (saturInt 32 step) * 8) s

/-- The servo stops using every PTP port on the line; a slave port among them puts its time base in HOLDOVER (R410). -/
def stopLinePtp (l : Nat) (s : State) : State :=
  let port := 0x40 + l
  let hit := s.time.clocks.filter (fun e => e.2.ports.any (fun p => decide (p.port = port) && decide (p.state = 9)))
  let s1 := { s with time := { s.time with clocks := tmap {} (fun _ c => { c with
    ports := c.ports.map (fun p => if p.port = port then { p with blocked := true } else p) }) s.time.clocks } }
  hit.foldl (fun st e => inputLost e.2.tb 4 st) s1

/-- Declare a step into the receiver, or a lost reference (R408–R410). -/
def declareStep (l : Nat) (lost : Bool) (step : Int) (s : State) : State :=
  let w := witness s l
  let s1 := setWitness s l { w with
    step := w.step || !lost, refLost := w.refLost || lost, localStep := step, stepSeq := (w.stepSeq + 1) % 2 ^ 16,
    declaredAt := w.txMarkers, peerStep := none, peerRun := 0, runDev := [] }
  stopLinePtp l (postWitness l (bit lost 0) (step.tdiv 4096) s1)

/-- The local uncertainty of a line port's time base, in ns. -/
def lineUncertainty (l : Nat) (s : State) : Nat := uncertainty (timeBase s (portTimeBase (0x40 + l) s)) s.now

/-- The peer's step becomes known at the second successive accepted message that names a local marker sent after the
declaration (R411). -/
def learnPeer (l : Nat) (m : WitnessMsg) (s : State) : State :=
  let w := witness s l
  if !(w.step || w.refLost) then s
  else
    let after := (m.rxMfSeq + 2 ^ 16 - w.declaredAt % 2 ^ 16) % 2 ^ 16
    if m.rxValid && decide (0 < after) && decide (after < 2 ^ 15) then
      let run := w.peerRun + 1
      if run = 2 then postWitness l 4 m.deviation (setWitness s l { w with peerRun := 2, peerStep := some m.deviation })
      else if 2 < run then setWitness s l { w with peerStep := some m.deviation }
      else setWitness s l { w with peerRun := run }
    else setWitness s l { w with peerRun := if 2 ≤ w.peerRun then 2 else 0 }

/-- The receive marker is stamped at the receive-in exit (R266, R384, R407). -/
def markReceive (l : Nat) (s : State) : State :=
  let w := witness s l
  if !w.enabled then s
  else setWitness s l { w with
    rxBefore := w.rxMark, rxMark := some (s.now, receiveStamp (0x40 + l) (portTimeBase (0x40 + l) s) s) }

/-- The stamp that a message pairs with: that of the marker before the one that began its multiframe, IM having held through both
(R407). -/
def pairedStamp (l : Nat) (s : State) : Option Nat :=
  match (witness s l).rxBefore with
  | some (at_, stamp) => if (framer s l).im && decide ((framer s l).mfSince ≤ at_) then some stamp else none
  | none => none

/-- A pair forms ψ and is judged against ψ_ref (R408, R409). [log 93 DEDUCED] -/
def judgePair (l : Nat) (m : WitnessMsg) (stamp : Nat) (s : State) : State :=
  let w := witness s l
  let psi : Int := stamp - m.txStamp
  let w1 := { w with psi := psi, pairs := satur 32 (w.pairs + 1), rxStamp := stamp, rxMfSeq := m.mfSeq }
  let unc := lineUncertainty l s
  if m.tbStepped || w.tbStepped then
    setWitness s l { w1 with window := [], reference := none, runDev := [], tbStepped := false }
  else if w.step || w.refLost then setWitness s l w1
  else match w.reference with
    | none =>
      let win := (psi :: w.window).take 16
      setWitness s l { w1 with window := win, refUncLocal := unc, refUncPeer := m.uncertaintyNs,
                               reference := if win.length = 16 then some (meanInt win) else none }
    | some r =>
      let dev := psi - r
      let thr := (w.thresholdNs + (unc - w.refUncLocal) + (m.uncertaintyNs - w.refUncPeer)) * 65536
      if thr ≤ dev.natAbs then
        match w.runDev with
        | d :: _ =>
          if decide (0 ≤ d) = decide (0 ≤ dev) then declareStep l false ((d + dev) / 2) (setWitness s l w1)
          else setWitness s l { w1 with runDev := [dev] }
        | [] => setWitness s l { w1 with runDev := [dev] }
      else
        let win := (psi :: w.window).take 16
        setWitness s l { w1 with window := win, reference := some (meanInt win), runDev := [],
                                 refUncLocal := unc, refUncPeer := m.uncertaintyNs }

/-- The n-bit two's complement number that `v` spells. -/
def signedOf (n v : Nat) : Int := if 2 ^ (n - 1) ≤ v % 2 ^ n then (v % 2 ^ n : Int) - 2 ^ n else v % 2 ^ n

/-- The 48 bytes of a witness message (R406), none where their CRC fails. -/
def parseWitness (bs : List Byte) : Option WitnessMsg :=
  let at_ (o n : Nat) : Nat := leNat ((bs.drop o).take n)
  let flags := at_ 1 1
  if bs.length ≠ 48 ∨ be 2 (crc16 (bs.take 46)) ≠ bs.drop 46 then none
  else some {
    version := at_ 0 1, txValid := Nat.testBit flags 0, rxValid := Nat.testBit flags 1, tbStepped := Nat.testBit flags 3, mfSeq := at_ 2 2,
    txStamp := witnessValue ((bs.drop 4).take 12), rxMfSeq := at_ 0x1C 2, uncertaintyNs := at_ 0x1E 4,
    deviation := signedOf 32 (at_ 0x22 4) }

/-- WITNESS_HOLD_EXPIRY: IM has been lost for HOLD_S (R409, R410). [log 94 DEDUCED] -/
def execWitnessHoldExpiry (line : Fin 4) (s : State) : Host.Outcome State Fault Refusal :=
  let w := witness s line.val
  if w.enabled && w.reference.isSome && !w.refLost && !lineStamps line.val s &&
      lapsed (framer s line.val).mfSince (w.holdS * 1000000000) s then
    .next (declareStep line.val true 0 s)
  else .next s

/-- WITNESS_CONFIGURE (R416). -/
def execWitnessConfigure (h : Caller) (p : WitnessP) (s : State) : Host.Outcome State Fault Refusal :=
  perform 0x0A0A none noCupola h (fun s =>
    let w := witness s p.line.val
    if !owns h kLine p.line.val s then refuse 4 s
    else if !p.wf then .hostError [(kLine, p.line.val)]
    else if line400zr p.line.val s then refuse 0xA09 s
    else okay (setWitness s p.line.val { w with
      enabled := p.enable, thresholdNs := orDefault 20 p.thresholdNs, holdS := orDefault 60 p.holdS,
      window := if p.enable && w.enabled then w.window else [],
      reference := if p.enable && w.enabled then w.reference else none })) s

def witnessStatus (w : Witness) : List Byte :=
  fields 64 [(2, bit w.reference.isSome 0 + bit w.step 1 + bit w.refLost 2 + bit w.peerStep.isSome 3), (2, w.stepSeq),
    (4, twos 32 (saturInt 32 (w.localStep.tdiv 4096))), (4, twos 32 (w.peerStep.getD 0)), (8, twos 64 w.psi),
    (8, twos 64 (w.reference.getD 0)), (4, w.pairs), (4, w.crcErrors), (4, w.rebases)]

/-- WITNESS_STATUS (R416). -/
def execWitnessStatus (h : Caller) (line : Fin 4) (s : State) : Host.Outcome State Fault Refusal :=
  perform 0x0A0B none noCupola h (fun s => okResp (witnessStatus (witness s line.val)) s) s

/-- The servo may use the line's PTP ports again; `corr` (2⁻¹⁶ ns) is added to slave ports and taken from master ports
(R411). -/
def releasePtp (l : Nat) (corr : Int) (s : State) : State :=
  let port := 0x40 + l
  let s1 := { s with time := { s.time with clocks := tmap {} (fun _ c => { c with
    ports := c.ports.map (fun p => if p.port = port then { p with
      blocked := false,
      delayAsymmetry := if p.state = 9 then p.delayAsymmetry + corr
        else if p.state = 6 then p.delayAsymmetry - corr else p.delayAsymmetry } else p) }) s.time.clocks } }
  rejudgeInputs s1

/-- WITNESS_APPLY (R411). -/
def execWitnessApply (h : Caller) (line : Fin 4) (stepSeq : Nat) (rebase : Bool) (s : State) :
    Host.Outcome State Fault Refusal :=
  perform 0x0A0C none noCupola h (fun s =>
    let w := witness s line.val
    let cleared := { w with step := false, refLost := false, window := [], reference := none, runDev := [],
                            peerRun := 0 }
    if !owns h kLine line.val s then refuse 4 s
    else if !(w.step || w.refLost) then emptyReply s
    else if w.stepSeq ≠ stepSeq then refuse 0xA02 s
    else if rebase then
      okay (releasePtp line.val 0 (postWitness line.val 3 (w.localStep.tdiv 4096)
        (setWitness s line.val { cleared with rebases := satur 32 (w.rebases + 1) })))
    else match w.peerStep with
      | none => refuse 0xA05 s
      | some peer =>
        if w.refLost then refuse 0xA05 s
        else
          let corr := (w.localStep.tdiv 4096 - peer) * 2048
          okay (releasePtp line.val corr (postWitness line.val 2 (corr.tdiv 4096) (setWitness s line.val cleared)))) s

end Sys2Proof.Machine
end

