-- ==== Sys2Proof/Machine/Overhead.lean ====
section
/-!
DEFINITION. The OTUCn frame as sent: tributary slots, GMP, justification copies, PSI, the overhead of each frame (R247–R266).
-/
namespace Sys2Proof.Machine

/-! ## Tributaries -/

/-- Words that the slots of a mask provide in a multiframe (R257). -/
def slotWords (n : Nat) (sealed : Bool) (mask : Nat) : Nat :=
  (List.range (20 * n)).foldl (fun a i =>
    if Nat.testBit mask i then a + (if sealed then 12138 else if i < 12 * n then 12186 else 12185) else a) 0

/-- Slots of a mask. -/
def slotCount (n mask : Nat) : Nat := ((List.range (20 * n)).filter (fun i => Nat.testBit mask i)).length

/-- ODUflex words owed by k slots in one multiframe, as a numerator over `owedDenominator` (R249, R258, R260); the OTUCn
clock is `ppb` slower than the ODUflex's. [log 66 DEDUCED] -/
def owedNumerator (k : Nat) (ppb : Int) : Nat := k * 5200000000 * 256 * 122368 * 226 * (1000000000 + ppb).toNat
def owedDenominator : Nat := 239 * 99532800000 * 128 * 1000000000

/-- n of the framer. -/
def framerRate (l : Nat) (s : State) : Nat := match (framer s l).cfg with | some c => c.rate | none => 0
def framerSealed (l : Nat) (s : State) : Bool := match (framer s l).cfg with | some c => c.sealedLayout | none => false

/-- Words that the tributary's slots provide in a multiframe: Pserver of R260. -/
def serverWords (l t : Nat) (s : State) : Nat := slotWords (framerRate l s) (framerSealed l s) (tributary s l t).slots

/-- The number of payload word `i` of a multiframe; a tag word, the last of every 256 of a sealed layout, takes none (R257,
R265). -/
def wordNumber (sealed : Bool) (i : Nat) : Option Nat :=
  if !sealed then some i else if i % 256 = 255 then none else some (i - i / 256)

/-- The tributary slot of a numbered word (R257). -/
def slotOfWord (n j : Nat) : Nat := j % (20 * n)

/-- Word j' = 1, 2, … of a tributary's slots carries data (R260). -/
def carriesData (cm server j : Nat) : Bool := decide (j * cm % server < cm)

/-- How many of the words before numbered word `j` lie in the slots of a mask. -/
def wordsBefore (n mask j : Nat) : Nat :=
  slotCount n mask * (j / (20 * n)) + ((List.range (j % (20 * n))).filter (fun i => Nat.testBit mask i)).length

/-- What payload word `i` of the multiframe under way carries: a data word of a tributary, by its number among that tributary's, or
nothing (R257, R260). -/
def wordSource (l i : Nat) (s : State) : Option (Nat × Nat) :=
  match wordNumber (framerSealed l s) i with
  | none => none
  | some j =>
    match (configured l s).find? (fun t => Nat.testBit (tributary s l t).slots (slotOfWord (framerRate l s) j)) with
    | none => none
    | some t =>
      let k := wordsBefore (framerRate l s) (tributary s l t).slots j
      let cm := (tributary s l t).sentCm
      if carriesData cm (serverWords l t s) (k + 1) then some (t, k * cm / serverWords l t s) else none

/-- PM status of the ODUflex of a tributary: BDI while it receives ODU-AIS, STAT 0b001; all ones, ODU-AIS, while the line is
UNSERVED (R258, R316). -/
def oduflexStatus (l t : Nat) (s : State) : Nat :=
  if (portEnt s (0x40 + l)).unserved then 0xFF else bit (aisIn l t s || (tributary s l t).statAis) 3 + 1

/-! ## Justification control and PSI -/

/-- JC1–JC6 of a tributary (R261). [log 185 DEDUCED] -/
def jcBytes (t cm : Nat) : List Byte :=
  let body := be 3 cm ++ [BitVec.ofNat 8 t]
  body ++ be 2 (crc16 body)

/-- The tributary and Cm of a received copy, none where its CRC fails (R261, R262). -/
def jcCopy (bs : List Byte) : Option (Nat × Nat) :=
  if bs.length ≠ 6 ∨ be 2 (crc16 (bs.take 4)) ≠ bs.drop 4 then none
  else some (((bs.drop 3).headD 0).toNat % 32, leNat (bs.take 3).reverse)

/-- MSI of the configured layout (R263). -/
def msiBytes (l : Nat) (s : State) : List Byte :=
  (List.range (20 * framerRate l s)).map (fun i =>
    match (configured l s).find? (fun t => Nat.testBit (tributary s l t).slots i) with
    | some t => BitVec.ofNat 8 (0x80 + t)
    | none => 0)

/-- Byte `i` of the PSI of slice `k` (from 0): payload type 0x22, zero, the MSI of its 20 slots, zero (R263). -/
def psiByte (l k i : Nat) (s : State) : Byte :=
  if i = 0 then BitVec.ofNat 8 0x22
  else if 2 ≤ i ∧ i < 22 then (msiBytes l s).getD (20 * k + (i - 2)) 0 else 0

/-! ## The overhead of a frame (R250) -/

/-- The SM and PM status bytes of slice `k`; a received IAE is sent back as BIAE (R250, R268). [log 184 PRESUMED] -/
def smStatus (l k : Nat) (s : State) : Nat :=
  let g := framer s l
  (if g.smIae then 11 else g.smBeiOut.getD k 0 % 16) * 16 + bit (smBdiSent l s) 3
def pmStatus (l k : Nat) (s : State) : Nat := (framer s l).pmBeiOut.getD k 0 % 16 * 16 + bit (pmBdiSent l s) 3 + 1

/-- A byte only slice 1 carries. -/
def onSlice (k n : Nat) (b : Byte) : Byte := if k = n then b else 0

/-- The 16 bytes of word 0 of a row of slice `k` (from 0) in the frame with MFAS `f`; `bip` spells the BIP-8 bytes. -/
def overheadWord (l f row k bip : Nat) (s : State) : List Byte :=
  let g := framer s l
  let jc := jcBytes (f % 32) (if (tributary s l (f % 32)).slots = 0 then 0 else (tributary s l (f % 32)).sentCm)
  let jcAt (i : Nat) : Byte := onSlice k 0 (jc.getD i 0)
  match row with
  | 0 => [0xF6, 0xF6, 0xF6, 0x28, 0x28, 0x28, BitVec.ofNat 8 f, onSlice k 0 (g.sm.sent.getD (f % 64) 0), BitVec.ofNat 8 (bip / 256 ^ (2 * k)),
          BitVec.ofNat 8 (smStatus l k s), 0, 0, 0, 0, jcAt 0, jcAt 1]
  | 1 => [0, 0, onSlice k 0 (BitVec.ofNat 8 (bit g.dmpOut 1)), 0, 0, 0, 0, 0, 0, 0, 0, 0, 0, 0, jcAt 2, jcAt 3]
  | 2 => [0, 0, 0, 0, 0, 0, 0, 0, 0, onSlice k 0 (g.pm.sent.getD (f % 64) 0), BitVec.ofNat 8 (bip / 256 ^ (2 * k + 1)),
          BitVec.ofNat 8 (pmStatus l k s), 0, 0, jcAt 4, jcAt 5]
  | _ =>
    let channel := if k = 0 then g.witnessOut else if k = 1 then g.sealOut else []
    let part := ((channel.drop (6 * f)).take 6 ++ List.replicate 6 0).take 6
    List.replicate 8 0 ++ part ++ [psiByte l k f s, 0]

/-- The overhead of the frame with MFAS `f`: word 0 of every row, slice after slice (R248, R250). -/
def overheadBytes4 (l f bip : Nat) (s : State) : List Byte :=
  (List.range 4).flatMap (fun row => (List.range (framerRate l s)).flatMap (fun k => overheadWord l f row k bip s))

/-- The trace that a 64-frame cycle begins with (R255, R272). -/
def turnTrace (f : Nat) (t : Trace) : Trace := if f % 64 = 0 then { t with sent := t.next.getD t.sent, next := none } else t

/-- DMp of a frame: the received value back, unless DM_NO_REFLECT is set or a measurement runs, whose first frame is stamped
(R271). -/
def turnDmp (l : Nat) (s : State) (g : Framer) : Framer :=
  if g.measuring then
    { g with dmSent := some (g.dmSent.getD (shiftedStamp (portTimeBase (0x40 + l) s) 0 s / 4096)) }
  else match g.cfg with
    | some c => if c.dmNoReflect then g else { g with dmpOut := g.dmpIn }
    | none => g

/-- A frame leaves; the BIP-8 of its payload, which the model does not hold, is a free value (R250). [log 186 DEDUCED] -/
def sendFrame (l f : Nat) (s : State) : State :=
  let g := framer s l
  let s1 := setFramer s l (turnDmp l s { g with sm := turnTrace f g.sm, pm := turnTrace f g.pm })
  let (bip, s2) := draw s1
  emit (.otuFrame l f (overheadBytes4 l f bip s2)) s2

/-- Frames begun `t` ns after their multiframe began, less one: 1,162.551 ns each (R249). -/
def framesWithin (t : Nat) : Nat := t * 239 * 995328 / (122368 * 226 * 10000)

/-- The line runs multiframes: enabled, native, its framer configured. -/
def framing (l : Nat) (s : State) : Bool := (line s l).enabled && !line400zr l s && (framer s l).cfg.isSome

/-- The frames of the multiframes under way that begin by the end of this cycle leave. -/
def sendFrames (s : State) : State :=
  (List.range 4).foldl (fun st l =>
    match (framer st l).txStart with
    | none => st
    | some t0 =>
      let f := framesWithin (st.now + 1 - t0)
      if framing l st && decide (framesWithin (st.now - t0) < f) && decide (f < 256) then sendFrame l f st else st) s

end Sys2Proof.Machine
end

