-- ==== Sys2Proof/Machine/Framing.lean ====
section
/-!
DEFINITION. Line framers: alignment, traces, tributaries, delay measurement, the transmit multiframe (R247–R273).
-/
namespace Sys2Proof.Machine

/-! ## Tributaries -/

/-- A tributary exists, configured or about to be (R272). -/
def tributaryExists (b : Tributary) : Bool := decide (b.slots ≠ 0) || (match b.change with | some m => decide (m ≠ 0) | none => false)

/-- Source 0x290 + l (R273). -/
def postTributary (l t kind : Nat) (s : State) : State := post (0x290 + l) .warning (t + kind * 2 ^ 5) s

/-- A change of layout takes effect (R264). -/
def applyChange (l t : Nat) (s : State) : State :=
  let b := tributary s l t
  match b.change with
  | none => setTributary s l t { b with newLayout := false }
  | some m =>
    if m = 0 then completeRunning 0x0602 (l * 32 + t) stOk 0 0 [] (setTributary s l t {})
    else setTributary s l t { b with slots := m, change := none, newLayout := true, remainder := 0 }

/-- Put a change of layout: it waits for the multiframe boundary, and takes effect at once where none comes (R264).
[log 63 DEDUCED] -/
def changeLayout (l t m : Nat) (s : State) : State :=
  let s1 := setTributary s l t { tributary s l t with change := some m }
  if framing l s then s1 else applyChange l t s1

def framerCupola (h : Caller) (l : Nat) (s : State) : Option Nat := if owns h kLine l s then some (64 + l) else none

/-- TRIBUTARY_CONFIGURE (R264). -/
def execTributaryConfigure (h : Caller) (l : Fin 4) (t : Fin 32) (mask : Nat) (s : State) :
    Host.Outcome State Fault Refusal :=
  perform 0x0601 none (framerCupola h l.val) h (fun s =>
    let taken := (List.range 32).any (fun u => decide (u ≠ t.val) &&
      decide (((tributary s l.val u).slots ||| ((tributary s l.val u).change.getD 0)) &&& mask ≠ 0))
    if !owns h kLine l.val s then refuse 4 s
    else if taken then refuse 0x601 s
    else if mask = 0 ∨ 2 ^ (20 * framerRate l.val s) ≤ mask then refuse 0x602 s
    else if tributaryExists (tributary s l.val t.val) then refuse 0x603 s
    else okay (changeLayout l.val t.val mask s)) s

/-- TRIBUTARY_REMOVE (R264). -/
def execTributaryRemove (h : Caller) (l : Fin 4) (t : Fin 32) (s : State) : Host.Outcome State Fault Refusal :=
  perform 0x0602 none (framerCupola h l.val) h (fun s =>
    if !owns h kLine l.val s then refuse 4 s
    else if !tributaryExists (tributary s l.val t.val) then .done stNotPresent 0 0 [] s
    else if framing l.val s then .later (l.val * 32 + t.val) (changeLayout l.val t.val 0 s)
    else okay (changeLayout l.val t.val 0 s)) s

/-! ## Commands -/

/-- FRAMER_CONFIGURE (R272). -/
def execFramerConfigure (h : Caller) (p : FramerP) (s : State) : Host.Outcome State Fault Refusal :=
  perform 0x0600 none (framerCupola h p.line.val) h (fun s =>
    if !owns h kLine p.line.val s then refuse 4 s
    else if (line s p.line.val).enabled then refuse 0x600 s
    else if !p.wf then .hostError [(kLine, p.line.val), (kFramer, p.line.val)]
    else okay (setFramer s p.line.val { framer s p.line.val with cfg := some { p with
      nConfirm := orDefault 3 p.nConfirm, mLoss := orDefault 5 p.mLoss, mfConfirm := orDefault 2 p.mfConfirm,
      mfLoss := orDefault 5 p.mfLoss } })) s

def framerStatus (l : Nat) (s : State) : List Byte :=
  let f := framer s l
  let st := match f.state with | .held => 0 | .search => 1 | .candidate => 2 | .inFrame => 3
  let mask (p : Nat → Bool) : Nat := (List.range 32).foldl (fun a t => a + bit (p t) t) 0
  fields 64 [(1, l), (1, st), (1, bit f.im 0), (1, f.candidates.length), (4, defects l s), (4, f.oofEntries),
    (4, f.framesMarked), (8, f.smBip), (8, f.smBei), (8, f.pmBip), (8, f.pmBei),
    (4, mask (fun t => decide ((tributary s l t).slots ≠ 0))),
    (4, mask (fun t => (tributary s l t).msim || (tributary s l t).jcLoss ||
      (decide ((tributary s l t).slots ≠ 0) && aisIn l t s))), (4, f.jcErrors)]

/-- FRAMER_STATUS (R272). -/
def execFramerStatus (h : Caller) (l : Fin 4) (s : State) : Host.Outcome State Fault Refusal :=
  perform 0x0603 none (fun _ => some (64 + l.val)) h (fun s => okResp (framerStatus l.val s) s) s

/-- TTI_SET (R272): a transmitted trace changes at the next 64-frame cycle. -/
def execTtiSet (h : Caller) (p : TtiP) (s : State) : Host.Outcome State Fault Refusal :=
  perform 0x0604 none (framerCupola h p.line.val) h (fun s =>
    let f := framer s p.line.val
    let put (t : Trace) : Trace := if p.expected then { t with expected := p.tti }
      else if framing p.line.val s then { t with next := some p.tti } else { t with sent := p.tti, next := none }
    if !owns h kLine p.line.val s then refuse 4 s
    else if !p.wf then .hostError [(kFramer, p.line.val)]
    else okay (setFramer s p.line.val (if p.pm then { f with pm := put f.pm } else { f with sm := put f.sm }))) s

/-- A trace as 64 bytes. -/
def traceBytes (t : List Byte) : List Byte := (t ++ List.replicate 64 0).take 64

/-- TTI_READ (R272). -/
def execTtiRead (h : Caller) (l : Fin 4) (s : State) : Host.Outcome State Fault Refusal :=
  perform 0x0606 none (fun _ => some (64 + l.val)) h (fun s =>
    let f := framer s l.val
    if f.sm.accepted.isNone && f.pm.accepted.isNone then emptyReply s
    else okResp (traceBytes (f.sm.accepted.getD []) ++ traceBytes (f.pm.accepted.getD [])) s) s

/-- DELAY_MEASURE: the transmitted DMp is inverted from the next frame on (R271). -/
def execDelayMeasure (h : Caller) (l : Fin 4) (s : State) : Host.Outcome State Fault Refusal :=
  perform 0x0605 none (framerCupola h l.val) h (fun s =>
    let g := framer s l.val
    if !owns h kLine l.val s then refuse 4 s
    else if !framing l.val s then .done stNotPresent 0 0 [] s
    else if g.measuring then .done stBusy 0 0 [] s
    else .later l.val (setFramer s l.val { g with measuring := true, dmpOut := !g.dmpOut, dmSent := none })) s

/-- DMP_RETURN: the frame that first returns the inverted value enters the deframer; the interval between the two stamps, in
units of 62.5 ps (R271). -/
def execDmpReturn (l : Fin 4) (s : State) : Host.Outcome State Fault Refusal :=
  let g := framer s l.val
  match g.measuring, g.dmSent with
  | true, some sent =>
    let stamp := shiftedStamp (portTimeBase (0x40 + l.val) s) 0 s / 4096
    .next (completeRunning 0x0605 l.val stOk 0 ((stamp + 2 ^ 80 - sent % 2 ^ 80) % 2 ^ 40) []
      (setFramer s l.val { g with measuring := false, dmSent := none, dmpIn := g.dmpOut }))
  | _, _ => .next s

/-! ## Alignment -/

/-- Frame alignment at one position at instant `now`, with `places` places for candidates (R251). -/
def alignFrame (now : Nat) (c : FramerP) (f : Framer) (pos : Nat) (correct : Bool) (places : Nat) : Framer :=
  let align : Framer := { f with state := .inFrame, candidates := [], aligned := pos, frameErrors := 0, since := now, mfSince := now }
  match f.state with
  | .held => f
  | .inFrame =>
    if pos ≠ f.aligned then f
    else if correct then { f with frameErrors := 0 }
    else if c.mLoss ≤ f.frameErrors + 1 then leaveFrame now .search f
    else { f with frameErrors := f.frameErrors + 1 }
  | _ =>
    match f.candidates.find? (fun e => decide (e.1 = pos)) with
    | some (_, n) =>
      if correct then
        (if c.nConfirm ≤ n + 1 then align
         else { f with candidates := f.candidates.map (fun e => if e.1 = pos then (pos, n + 1) else e) })
      else
        let rest := f.candidates.filter (fun e => decide (e.1 ≠ pos))
        { f with candidates := rest, state := if rest = [] then .search else .candidate }
    | none =>
      if !correct || decide (places ≤ f.candidates.length) then f
      else if c.nConfirm ≤ 1 then align
      else { f with candidates := f.candidates ++ [(pos, 1)], state := .candidate }

/-- Places for candidates in this cycle: 16, and one for each that the cycle still discards (R252). -/
def candidatePlaces (l : Nat) (s : State) : Nat :=
  16 + (s.pending.filter (fun c => match c with
    | .frameAlignment k f => decide (k.val = l) && !f.correct && (framer s l).candidates.any (fun e => decide (e.1 = f.position))
    | _ => false)).length

/-- The position reaches N with this correct frame. -/
def reachesN (c : FramerP) (g : Framer) (pos : Nat) : Bool :=
  decide (c.nConfirm ≤ (match g.candidates.find? (fun e => decide (e.1 = pos)) with | some e => e.2 | none => 0) + 1)

/-- Of two candidates that reach N in one cycle, the one whose pattern began earlier wins (R252): one that began earlier is
still to come. -/
def earlierWins (l : Nat) (c : FramerP) (f : FrameFacts) (s : State) : Bool :=
  let g := framer s l
  decide (g.state ≠ .inFrame) && f.correct && reachesN c g f.position &&
  s.pending.any (fun x => match x with
    | .frameAlignment k e => decide (k.val = l) && e.correct && decide (e.position < f.position) && reachesN c g e.position
    | _ => false)

/-- Multiframe alignment at one frame in IF at instant `now` (R254). -/
def alignMultiframe (now : Nat) (c : FramerP) (f : Framer) (mfas : Nat) : Framer :=
  let inc := match f.lastMfas with | some p => decide (mfas = (p + 1) % 256) | none => false
  let g := { f with lastMfas := some mfas }
  if f.im then
    if inc then { g with mfErrors := 0 }
    else if c.mfLoss ≤ f.mfErrors + 1 then leaveMultiframe now g
    else { g with mfErrors := f.mfErrors + 1 }
  else if inc then
    (if c.mfConfirm ≤ f.mfRun + 1 then { g with im := true, mfRun := 0, mfErrors := 0, mfSince := now }
     else { g with mfRun := f.mfRun + 1 })
  else { g with mfRun := 0 }

/-- The framer after one frame position, before what the frame carries is read. -/
def framerAfter (l : Nat) (c : FramerP) (f : FrameFacts) (s : State) : Framer :=
  let g := framer s l
  let g1 := alignFrame s.now c g f.position f.correct (candidatePlaces l s)
  if g1.state = .inFrame ∧ f.position = g1.aligned then
    (if g.state = .inFrame then alignMultiframe s.now c g1 f.mfas else { g1 with lastMfas := some f.mfas, mfRun := 0 })
  else g1

/-- The accepted trace differs from the expected one in the fields that TIM_MODE selects (R256). -/
def timOf (mode : Nat) (expected accepted : List Byte) : Bool :=
  let e := traceBytes expected
  (decide (mode % 2 = 1) && decide (accepted.take 16 ≠ e.take 16)) ||
  (decide (2 ≤ mode) && decide ((accepted.drop 16).take 16 ≠ (e.drop 16).take 16))

/-- One trace byte in IM: accepted at the third identical cycle in succession; a cycle that is not whole breaks the succession
(R255, R256). -/
def feedTrace (mode mfas : Nat) (b : Byte) (t : Trace) : Trace :=
  let i := mfas % 64
  let whole := decide (t.cycle.length = i)
  let cyc := if i = 0 then [b] else if whole then t.cycle ++ [b] else []
  let t0 := if whole then t else { t with last := [], runs := 0 }
  if i = 63 ∧ cyc.length = 64 then
    let runs := if cyc = t0.last then min 3 (t0.runs + 1) else 1
    if runs = 3 then { t0 with cycle := [], last := cyc, runs := runs, accepted := some cyc, tim := timOf mode t.expected cyc }
    else { t0 with cycle := [], last := cyc, runs := runs }
  else { t0 with cycle := cyc }

/-- A justification copy: the first that passes with Cm ≤ Pserver is used, a later one that passes and differs is counted (R261,
R262). -/
def takeCopy (l : Nat) (f : FrameFacts) (s : State) : State :=
  let t := f.mfas % 32
  let b := tributary s l t
  match jcCopy f.jc with
  | none => s
  | some (named, cm) =>
    if decide (b.slots = 0) || decide (named ≠ t) then s
    else if !b.copySeen then
      (if cm ≤ serverWords l t s then setTributary s l t { b with cm := cm, copySeen := true } else s)
    else if b.cm ≠ cm then setFramer s l { framer s l with jcErrors := satur 32 ((framer s l).jcErrors + 1) }
    else s

/-- The end of a received multiframe for tributary `t`: JC loss and its end (R262). -/
def judgeCopies (l t : Nat) (s : State) : State :=
  let b := tributary s l t
  if b.copySeen then
    let s1 := setTributary s l t { b with copySeen := false, jcMisses := 0, jcLoss := false }
    if b.jcLoss then postTributary l t 3 s1 else s1
  else
    let s1 := setFramer s l { framer s l with jcErrors := satur 32 ((framer s l).jcErrors + 1) }
    let lost := decide (3 ≤ b.jcMisses + 1)
    let s2 := setTributary s1 l t { b with jcMisses := min 3 (b.jcMisses + 1), jcLoss := b.jcLoss || lost }
    if lost && !b.jcLoss then postTributary l t 2 s2 else s2

/-- MSIM of tributary `t` under the accepted MSI (R263). [log 65 DEDUCED] -/
def judgeMsi (l t : Nat) (msi : List Byte) (s : State) : State :=
  let b := tributary s l t
  let differs := (List.range (20 * framerRate l s)).any (fun i =>
    Nat.testBit b.slots i && decide (msi.getD i 0 ≠ BitVec.ofNat 8 (0x80 + t)))
  if differs = b.msim then s
  else postTributary l t (bit (!differs) 0) (setTributary s l t { b with msim := differs })

/-- STAT of tributary `t` (R269, R273). -/
def judgeStat (l t : Nat) (ais : Bool) (s : State) : State :=
  let b := tributary s l t
  if ais = b.statAis then s
  else postTributary l t (if ais then 4 else 5) (setTributary s l t { b with statAis := ais })

/-- A frame that contains bits marked errored is counted (R251). -/
def countMarked (l : Nat) (f : FrameFacts) (s : State) : State :=
  let g := framer s l
  if f.failedWords = 0 ∨ (g.state = .inFrame ∧ f.position ≠ g.aligned) then s
  else setFramer s l { g with framesMarked := satur 32 (g.framesMarked + 1) }

/-- The overhead of a frame in IF (R250, R271). -/
def readOverhead (l : Nat) (f : FrameFacts) (s : State) : State :=
  let g := framer s l
  let sum (xs : List Nat) : Nat := xs.foldl (· + ·) 0
  setFramer s l { g with
    smBip := satur 64 (g.smBip + sum f.smBip), smBei := satur 64 (g.smBei + sum f.smBei), pmBip := satur 64 (g.pmBip + sum f.pmBip),
    pmBei := satur 64 (g.pmBei + sum f.pmBei), smBdi := f.smBdi, pmBdi := f.pmBdi, smIae := f.smIae, pmStat := f.pmStat % 8,
    dmpIn := f.dmp, smBeiOut := f.smBip, pmBeiOut := f.pmBip }

/-- A received multiframe ends: its copies are judged, and its MSI where the last frame brought it (R262, R263). -/
def endMultiframe (l : Nat) (msi : Option (List Byte)) (s : State) : State :=
  let s3 := (configured l s).foldl (fun st t => judgeCopies l t st) s
  let h := framer s3 l
  let acc := match msi with | some m => if m = h.msiLast then some m else h.msiAccepted | none => h.msiAccepted
  let s4 := setFramer s3 l { h with msiLast := msi.getD [], msiAccepted := acc, mfOpen := false }
  match acc with
  | none => s4
  | some m => (configured l s).foldl (fun st t => judgeMsi l t m st) s4

/-- What IM adds: traces, justification, MSI, STAT, the receive marker (R254–R263, R266). [log 64 DEDUCED] -/
def readMultiframe (l : Nat) (c : FramerP) (f : FrameFacts) (s0 : State) : State :=
  let s := if f.mfas = 0 ∧ (framer s0 l).mfOpen = true then endMultiframe l none s0 else s0
  let g := framer s l
  let s1 := setFramer s l { g with mfOpen := true, sm := feedTrace c.timSm.val f.mfas f.smByte g.sm,
                                   pm := feedTrace c.timPm.val f.mfas f.pmByte g.pm }
  let s2 := if f.mfas = 0 then markReceive l s1 else s1
  let s3 := (configured l s).foldl (fun st t => judgeStat l t (f.statAis.contains t) st) (takeCopy l f s2)
  if f.mfas = 255 then endMultiframe l (some f.msi) s3 else s3

/-- FRAME_ALIGNMENT (R251, R252, R254, R256, R262, R263). -/
def execFrameAlignment (l : Fin 4) (f : FrameFacts) (s0 : State) : Host.Outcome State Fault Refusal :=
  let s := portBoundary (0x40 + l.val) s0
  match (framer s l.val).cfg with
  | none => .next s
  | some c =>
    if !lineLocked l.val s || line400zr l.val s || earlierWins l.val c f s then .next s
    else
      let d := defects l.val s
      let s1 := countMarked l.val f s
      let g := framer s1 l.val
      let g1 := framerAfter l.val c f s1
      let s2 := setFramer (if g.im && !g1.im then dropCopies l.val s1 else s1) l.val g1
      if g1.state = .inFrame ∧ f.position = g1.aligned then
        let s3 := readOverhead l.val f s2
        .next (postDefects l.val d (if g1.im then readMultiframe l.val c f s3 else s3))
      else .next (postDefects l.val d s2)

/-- A frame of this cycle still to come brings the framer out of IM: a witness message that ends in the cycle is not accepted
(R407). -/
def leavesIm (l : Nat) (s : State) : Bool :=
  match (framer s l).cfg with
  | none => false
  | some c => s.pending.any (fun x => match x with
    | .frameAlignment k f => decide (k.val = l) && !(framerAfter l c f s).im
    | .lossOfLock k => decide (k.val = l)
    | _ => false)

/-- WITNESS_MESSAGE: accepted only in IM, on a native-mode line with its witness enabled (R267, R406, R407). -/
def execWitnessMessage (line : Fin 4) (bytes : List Byte) (s : State) : Host.Outcome State Fault Refusal :=
  let w := witness s line.val
  if !w.enabled || !lineStamps line.val s || line400zr line.val s || leavesIm line.val s then .next s
  else match parseWitness bytes with
    | none => .next (setWitness s line.val { w with crcErrors := satur 32 (w.crcErrors + 1) })
    | some m =>
      let s1 := learnPeer line.val m s
      match m.txValid, pairedStamp line.val s1 with
      | true, some stamp => .next (judgePair line.val m stamp s1)
      | _, _ => .next s1

/-- LOF_DECLARE: OOF has lasted 3 ms, IF reached in the same cycle winning; LOM with it at once (R41, R253, R254). -/
def execLofDeclare (l : Fin 4) (s : State) : Host.Outcome State Fault Refusal :=
  let f := framer s l.val
  if framing l.val s && oof f && lapsed f.since 3000000 s then
    .next (postDefects l.val (defects l.val s) (setFramer s l.val { f with lof := true, lom := true }))
  else .next s

/-- LOF_CLEAR: IF has lasted 3 ms (R253). -/
def execLofClear (l : Fin 4) (s : State) : Host.Outcome State Fault Refusal :=
  let f := framer s l.val
  if oof f || !lapsed f.since 3000000 s then .next s
  else .next (postDefects l.val (defects l.val s) (setFramer s l.val { f with lof := false }))

/-- LOM_DECLARE: OOM has lasted 3 ms in IF (R254). -/
def execLomDeclare (l : Fin 4) (s : State) : Host.Outcome State Fault Refusal :=
  let f := framer s l.val
  if oof f || f.im || !lapsed f.mfSince 3000000 s then .next s
  else .next (postDefects l.val (defects l.val s) (setFramer s l.val { f with lom := true }))

/-- LOM_CLEAR: IM has lasted 3 ms (R254). -/
def execLomClear (l : Fin 4) (s : State) : Host.Outcome State Fault Refusal :=
  let f := framer s l.val
  if f.im && lapsed f.mfSince 3000000 s then
    .next (postDefects l.val (defects l.val s) (setFramer s l.val { f with lom := false }))
  else .next s

/-! ## Transmit multiframe -/

/-- Cm of tributary `t` for the next multiframe (R260). -/
def justify (l t : Nat) (ppb : Int) (s : State) : State :=
  let b := tributary s l t
  let total := owedNumerator (slotCount (framerRate l s) b.slots) ppb + b.remainder
  setTributary s l t { b with sentCm := total / owedDenominator, remainder := total % owedDenominator }

/-- The witness message of the multiframe that begins: the stamp of the marker before (R406, R407). -/
def witnessMessage (l : Nat) (s : State) : List Byte :=
  let w := witness s l
  let tb := timeBase s (portTimeBase (0x40 + l) s)
  let dev := match w.reference with | some r => (w.psi - r).tdiv 4096 | none => 0
  let body := [BitVec.ofNat 8 1, BitVec.ofNat 8 (bit (decide (0 < w.txMarkers)) 0 + bit (decide (0 < w.pairs)) 1 +
      bit (decide (tb.servo = .locked)) 2 + bit w.txStepped 3 + bit (w.step || w.refLost) 4)] ++
    le 2 w.txMarkers ++ witnessTime w.txStamp ++ witnessTime w.rxStamp.toNat ++ le 2 w.rxMfSeq ++
    le 4 (satur 32 (uncertainty tb s.now)) ++ le 4 (twos 32 (saturInt 32 dev)) ++ le 2 w.stepSeq ++ List.replicate 6 0
  body ++ be 2 (crc16 body)

/-- The transmit marker is stamped against the line port's time base, at the transmit-out exit, and the message for the
multiframe is formed (R266, R384, R407). -/
def stampMarker (l : Nat) (s : State) : State :=
  let w := witness s l
  let bytes := witnessMessage l s
  let s1 := setFramer s l { framer s l with witnessOut := if w.enabled then bytes else [] }
  if !w.enabled then s1
  else emit (.witness l bytes) (setWitness s1 l { w with
    txStepped := false, txMarkers := (w.txMarkers + 1) % 2 ^ 16, txStamp := sendStamp (0x40 + l) (portTimeBase (0x40 + l) s) s })

/-- A transmit multiframe begins (R249, R260, R263, R264, R266, R283, R290, R297). -/
def beginMultiframe (l : Nat) (c : FramerP) (clockPpb : Int) (s : State) : State :=
  let s1 := (List.range 32).foldl (fun st t => applyChange l t st) (setFramer s l { framer s l with boundaryDue := none })
  let ppb := if c.lineTiming then clockPpb else 0
  let s2 := (configured l s1).foldl (fun st t => justify l t ppb st) s1
  let s3 := if c.sealedLayout then sealBoundary l (c.rate * 952) s2 else s2
  let s4 := stampMarker l s3
  let control := if c.sealedLayout then sealMessage (sealOf s4 l) else []
  let s5 := setFramer s4 l { framer s4 l with txStart := some s.now, sealOut := control }
  sendFrame l 0 (emit (.multiframe l ((configured l s5).map (fun t => (t, (tributary s5 l t).sentCm))) (msiBytes l s5) control) s5)

/-- A change of layout, a key or a change of sealing that commits in this cycle counts as arrived at a boundary of the cycle (R41,
R264, R284, R297). -/
def boundaryAwaits (l : Nat) (s : State) : Bool :=
  sealAwaits l s || s.pending.any (fun c => match c with
    | .tributaryConfigure _ k _ _ => decide (k.val = l)
    | .tributaryRemove _ k _ => decide (k.val = l)
    | _ => false)

/-- MULTIFRAME_BOUNDARY (R260, R264). [log 67 DEDUCED] -/
def execMultiframeBoundary (l : Fin 4) (clockPpb : Int) (s0 : State) : Host.Outcome State Fault Refusal :=
  let s := portBoundary (0x40 + l.val) s0
  match (framer s l.val).cfg with
  | none => .next s
  | some c =>
    if !framing l.val s then .next s
    else if boundaryAwaits l.val s then .next (setFramer s l.val { framer s l.val with boundaryDue := some clockPpb })
    else .next (beginMultiframe l.val c clockPpb s)

/-- The multiframes that begin at the end of the cycle. -/
def beginDueMultiframes (s : State) : State :=
  (List.range 4).foldl (fun st l =>
    match (framer st l).boundaryDue, (framer st l).cfg with
    | some ppb, some c => beginMultiframe l c ppb st
    | _, _ => st) s

end Sys2Proof.Machine
end

