-- ==== Sys2Proof/Machine/Counting.lean ====
section
/-!
DEFINITION. Programmable counters: increment, carry into a chained counter, overflow (R542–R551), and how an occurrence
reaches the counters that select it.
-/
namespace Sys2Proof.Machine

/-- The odd counter above an even one is chained to it (R545). -/
def chainedAbove (c : Nat) (s : State) : Bool := decide (c % 2 = 0) && (counter s (c + 1)).chain

/-- This odd counter is chained, so that its own event number is ignored (R545). -/
def isChainedOdd (c : Nat) (s : State) : Bool := decide (c % 2 = 1) && (counter s c).chain

/-- An overflow of an unchained counter or of the odd counter of a pair: its flag, and source 0x500 + n at most once per
millisecond per block, the count carrying those not reported. A pair counts the even counter's event, the odd one's own
number being ignored (R545, R551, R563; DEDUCED). [log 135 DEDUCED] -/
def overflowCounter (c : Nat) (pair : Bool) (s : State) : State :=
  let v := counter s c
  let event := if pair then (counter s (c - 1)).event else v.event
  postLimited (0x500 + c / 64) 1000000 .info
    (fun n => c % 64 + event * 2 ^ 6 + bit pair 18 + satur 25 n * 2 ^ 19) (setCounter s c { v with overflow := true })

/-- Add to a counter, with any carry into the odd counter and any overflow (R542, R545, R549). -/
def addCounter (c n : Nat) (s : State) : State :=
  let v := counter s c
  let sum := v.value + n
  let s1 := setCounter s c { v with value := sum % 2 ^ 48 }
  if sum < 2 ^ 48 then s1
  else if chainedAbove c s then
    let w := counter s1 (c + 1)
    let s2 := setCounter s1 (c + 1) { w with value := (w.value + 1) % 2 ^ 48 }
    if w.value + 1 < 2 ^ 48 then s2 else overflowCounter (c + 1) true s2
  else overflowCounter c (isChainedOdd c s) s1

/-- The counter selects the event at the instance, for a packet of the domain (none: not a packet event) (R543, R544). -/
def selects (ev inst : Nat) (domain : Option Nat) (v : Counter) : Bool :=
  decide (v.event = ev) && decide (v.inst = inst) &&
  (match domain with | some d => decide (v.domain = 0xFFFF) || decide (v.domain = d) | none => true)

/-- A packet that carries no domain tag yet: only device counters count it (R544). -/
def untagged : Option Nat := some 4096

/-- An increment of this cycle: it is added at its end, behind the latches and clears (R549). -/
def addInc (c n : Nat) (s : State) : State := setCounter s c { counter s c with inc := (counter s c).inc + n }

/-- An event occurs `n` times at an instance: every counter that selects it counts (R543). -/
def count (ev inst n : Nat) (domain : Option Nat) (s : State) : State :=
  if n = 0 then s
  else (s.ev.counters.filter (fun e => selects ev inst domain e.2 && !isChainedOdd e.1 s)).foldl
    (fun st e => addInc e.1 n st) s

/-- What CLEAR, CLEAR_OVF and a CLEAR of the cycle before leave of a counter (R549, R562). -/
def cleared (v : Counter) : Counter :=
  { v with value := if v.clearNow then 0 else v.value, overflow := v.overflow && !v.clearOvf, clearNow := v.clearNext,
           clearNext := false, clearOvf := false }

/-- The configuration that takes effect at the cycle's end (R550). -/
def reconfigured (v : Counter) : Counter :=
  match v.next with
  | some (ev, i, d, ch) => { v with event := ev, inst := i, domain := d, chain := ch, next := none }
  | none => v

def mapCounters (f : Counter → Counter) (s : State) : State :=
  { s with ev := { s.ev with counters := tmap {} (fun _ v => f v) s.ev.counters } }

/-- The end of a counter's cycle, after its latches: the clears, then the increments with their carries and overflows under the old
configuration, then the new configuration (R549, R550). -/
def finishCounters (s : State) : State :=
  let s1 := mapCounters cleared s
  let s2 := s1.ev.counters.foldl (fun st e =>
    let n := (counter st e.1).inc
    if n = 0 then st else addCounter e.1 n (setCounter st e.1 { counter st e.1 with inc := 0 })) s1
  mapCounters reconfigured s2

/-- A packet crosses a port's measuring point: every enabled meter of the port and direction takes it into its running
window, which takes in the cycle in which it ends (R35, R552). [log 140 DEDUCED] -/
def meterPacket (port : Nat) (egress : Bool) (bytes : Nat) (s : State) : State :=
  let take (v : Meter) : Meter :=
    if v.enabled && decide (v.port = port) && decide (v.egress = egress) then
      (if s.now ≤ v.since + usNs v.windowUs then { v with bytes := v.bytes + bytes, packets := v.packets + 1 }
       else { v with laterBytes := v.laterBytes + bytes, laterPackets := v.laterPackets + 1 })
    else v
  { s with ev := { s.ev with meters := tmap {} (fun _ v => take v) s.ev.meters } }

/-- A meter's window ends and the next begins (R552, R553). -/
def endWindow (v : Meter) : Meter :=
  { v with lastBytes := v.bytes % 2 ^ 48, lastPackets := satur 32 v.packets, peak := max v.peak (v.bytes % 2 ^ 48),
           seq := (v.seq + 1) % 2 ^ 32, bytes := v.laterBytes, packets := v.laterPackets, laterBytes := 0, laterPackets := 0,
           since := v.since + usNs v.windowUs, endDue := false }

/-- The end of the meters' cycle: windows that end in it, then a CLEAR by COUNTER_READ (R552, R562). -/
def finishMeters (s : State) : State :=
  { s with ev := { s.ev with meters := tmap {} (fun _ v =>
      let w := if v.endDue then endWindow v else v
      if w.clearPeak then { w with peak := 0, clearPeak := false } else w) s.ev.meters } }

end Sys2Proof.Machine
end

