-- ==== Sys2Proof/Machine/Trees.lean ====
section
/-!
DEFINITION. Tree ports: configuration, burst profiles, the burst receiver and its records (R127–R158, R170).
-/
namespace Sys2Proof.Machine

/-! ## Modes -/

/-- Upstream symbol rate in kBd (R127). -/
def upSymbolKbd (mode upRate : Nat) : Nat :=
  match mode with
  | 0 => 9953280
  | 1 => (match upRate with | 0 => 12441600 | 1 => 24883200 | _ => 49766400)
  | _ => 53125000

/-- Upstream line rate in kbit/s (R127, R179). -/
def upLineKbps (mode upRate : Nat) : Nat := if mode = 2 then 106250000 else upSymbolKbd mode upRate

/-- Symbols in an upstream frame of 125 µs (R188). -/
def frameSymbols (mode upRate : Nat) : Nat := upSymbolKbd mode upRate / 8

/-- Budget rate of a tree in Gbit/s (R28). -/
def treeRate (mode : Nat) : Nat := match mode with | 0 => 10 | 1 => 50 | _ => 100

/-- The least TEQD_NS of R141: 35,000 ns + 2 × MAX_REACH_M × GROUP_INDEX / c, rounded up to a whole ns. -/
def minTeqd (maxReach groupIndex : Nat) : Nat := 35000 + (2 * maxReach * groupIndex * 1000 + 299792457) / 299792458

/-! ## Configuration and enable -/

/-- TEQD_NS and GROUP_INDEX with their defaults (R140). -/
def givenTeqd (p : TreeP) : Nat := if p.teqdNs = 0 then 250000 else p.teqdNs
def givenIndex (p : TreeP) : Nat := if p.groupIndex = 0 then 1468200 else p.groupIndex

/-- A tree port configured (R140). -/
def withTree (t : Tree) (p : TreeP) : Tree :=
  { t with
    configured := true, mode := p.mode.val, upRate := p.upRate, timeBase := p.timeBase.val, teqdNs := givenTeqd p,
    ponId := p.ponId, minReach := p.minReach, maxReach := p.maxReach, groupIndex := givenIndex p,
    idleEnter := p.idleEnter, discPeriodMs := p.discPeriodMs,
    driftLimit := if p.driftLimit = 0 then 32 else p.driftLimit,
    rangeAttempts := if p.rangeAttempts = 0 then 3 else p.rangeAttempts }

/-- TREE_CONFIGURE (R140). -/
def execTreeConfigure (h : Caller) (p : TreeP) (s : State) : Host.Outcome State Fault Refusal :=
  perform 0x0200 none noCupola h (fun s =>
    let t := tree s p.tree.val
    if !owns h kTree p.tree.val s then refuse 4 s
    else if !p.wf then .hostError [(kTree, p.tree.val)]
    else if t.enabled || (portEnt s p.tree.val).enabled then refuse 0x200 s
    else if givenTeqd p < minTeqd p.maxReach (givenIndex p) then refuse 0x204 s
    else okay (setTree s p.tree.val (withTree t p))) s

/-- A profile with its defaults applied (R142). -/
def profileDefaults (p : ProfileP) : ProfileP :=
  { p with delimWindow := if p.delimWindow = 0 then p.preambleLen + 128 else p.delimWindow,
           minRelock := if p.minRelock = 0 then 64 else p.minRelock,
           rssiWidthNs := if p.rssiWidthNs = 0 then 50 else p.rssiWidthNs,
           relockDb := if p.relockDb = 0 then 3 else p.relockDb }

def profileOf (s : State) (t p : Nat) : Option ProfileP := tget none p (tree s t).profiles

/-- An admitted terminal of the tree uses the profile. -/
def profileUsed (t p : Nat) (s : State) : Bool :=
  s.tr.terminals.any (fun e => decide (e.1 / 512 = t) && e.2.admitted && decide (e.2.profile = p))

/-- BURST_PROFILE_SET (R142); a FEC of 0 for a double-rate tree is stored, and the tree encodes all the same (R133).
[log 175 DESIGN CHOICE] -/
def execBurstProfileSet (h : Caller) (t : Fin 64) (profile : Fin 4) (p : ProfileP) (s : State) :
    Host.Outcome State Fault Refusal :=
  perform 0x0203 none noCupola h (fun s =>
    let v := tree s t.val
    if !owns h kTree t.val s then refuse 4 s
    else if !p.wf then .hostError [(kTree, t.val)]
    else if v.enabled && profileUsed t.val profile.val s then refuse 0x202 s
    else okay (setTree s t.val { v with profiles := tset none profile.val (some (profileDefaults p)) v.profiles })) s

/-- A tree enters operation: counts from zero, its first frame to come on the time base's grid, its transmitter driven
unless a lease decides it (R135, R144, R403, R590). -/
def startTree (t : Nat) (drive : Bool) (s : State) : State :=
  setTree s t { tree s t with
    enabled := true, duty := false, started := false, aligned := false, txen := drive, idleRun := 0, upstreamBusy := false, downBusy := false,
    window := none, scheduled := [], quiet := [], lastDisc := none, txFault := false, rxFault := false,
    countBursts := 0, countLateLock := 0, countNoDelimiter := 0, countCollision := 0, countOutOfWindow := 0,
    countCorrected := 0, countFailed := 0, dutyFrames := 0 }

/-- TREE_ENABLE (R143). -/
def execTreeEnable (h : Caller) (t : Fin 64) (s : State) : Host.Outcome State Fault Refusal :=
  perform 0x0201 none (fun s => if owns h kTree t.val s then some t.val else none) h (fun s =>
    let v := tree s t.val
    if !owns h kTree t.val s then refuse 4 s
    else if protConfigured t.val s then refuse 0x203 s
    else if !v.configured || (profileOf s t.val 0).isNone then refuse 0x201 s
    else match enablePort t.val (treeRate v.mode) s with
      | .already => okay s
      | .overBudget => limitReply 0 s
      | .noRoom => limitReply 0x800 s
      | .placed s1 => okay (startTree t.val true s1)) s

/-- The tree sends frames: enabled, its transmitter driven, its port not UNSERVED (R135, R316, R430). -/
def sendsFrames (t : Nat) (s : State) : Bool := (tree s t).enabled && (tree s t).txen && !(portEnt s t).unserved

/-- TREE_DISABLE: transmission stops at the next frame boundary (R143). -/
def execTreeDisable (h : Caller) (t : Fin 64) (s : State) : Host.Outcome State Fault Refusal :=
  perform 0x0202 none noCupola h (fun s =>
    if !owns h kTree t.val s then refuse 4 s
    else if protConfigured t.val s then refuse 0x203 s
    else if sendsFrames t.val s then .later t.val s
    else okay (stopTree t.val s)) s

/-- STATE of TREE_STATUS (R144). -/
def treeStateCode (t : Nat) (s : State) : Nat :=
  let v := tree s t
  if (cup s t).state = .fenced then 4
  else if v.enabled then (if v.duty then 3 else 2)
  else if v.configured then 1 else 0

def treeStatus (t : Nat) (s : State) : List Byte :=
  let v := tree s t
  let mine := s.tr.terminals.filter (fun e => decide (e.1 / 512 = t) && e.2.admitted)
  fields 64 [(1, treeStateCode t s), (1, v.mode), (2, (mine.filter (fun e => decide (e.2.state = 4))).length),
    (2, mine.length), (2, 0), (8, v.countBursts), (4, v.countLateLock), (4, v.countNoDelimiter), (4, v.countCollision),
    (4, v.countOutOfWindow), (8, v.countCorrected), (8, v.countFailed), (4, v.dutyFrames)]

/-- TREE_STATUS (R144). -/
def execTreeStatus (h : Caller) (t : Fin 64) (s : State) : Host.Outcome State Fault Refusal :=
  perform 0x0204 none noCupola h (fun s => okResp (treeStatus t.val s) s) s

/-- FLAGS of a burst record (R157). -/
def recordFlags (r : BurstRecord) : Nat :=
  bit r.ranging 0 + bit r.relocked 1 + bit r.lateLock 2 + bit r.noDelimiter 3 + bit r.collision 4 + bit r.fecFail 5 +
  bit r.rssiValid 6 + bit r.rssiLate 7 + bit r.rssiSkipped 8 + bit r.drift 9 + bit r.noSignal 10

def recordBytes (t : Nat) (r : BurstRecord) : List Byte :=
  fields 32 [(2, r.terminal), (1, t), (1, r.profile), (2, recordFlags r), (2, twos 16 r.amplitude),
    (2, twos 16 r.amplitude2), (2, twos 16 r.rssi), (4, twos 32 r.offset), (8, r.stamp), (2, r.cwTotal),
    (2, r.cwCorrected), (2, r.cwFailed)]

/-- BURST_RECORD_READ (R143). -/
def execBurstRecordRead (h : Caller) (t : Fin 64) (exceptions : Bool) (count : Nat) (s : State) :
    Host.Outcome State Fault Refusal :=
  perform 0x0205 none noCupola h (fun s =>
    let rs := if exceptions then (tree s t.val).exceptions else (tree s t.val).bursts
    if count = 0 ∨ 1024 < count then .hostError [(kTree, t.val)]
    else if rs = [] then emptyReply s
    else okResp ((rs.take count).flatMap (recordBytes t.val)) s) s

/-! ## Burst receiver -/

/-- A record carries one of the exceptions of R158. -/
def isException (r : BurstRecord) : Bool := r.lateLock || r.noDelimiter || r.collision || r.fecFail || r.drift

/-- Place a finished record in the rings; the newest replaces the oldest (R158). -/
def placeRecord (t : Nat) (r0 : BurstRecord) (s : State) : State :=
  let v := tree s t
  let r := { r0 with num := v.placed + 1 }
  setTree s t { v with bursts := (r :: v.bursts).take 4096, placed := v.placed + 1,
                       exceptions := if isException r then (r :: v.exceptions).take 1024 else v.exceptions }

/-- Source 0x100 + t (R170). [log 176 DEDUCED] -/
def treeAlarm (t kind : Nat) (s : State) : State := post (0x100 + t) .warning kind s

/-- When a granted window opens, in ns of `now`: TEQD after its frame's start and at its place there, FEEDER_DELTA / 2 later
(R145, R164, R421). -/
def windowOpens (t : Nat) (g : Granted) (s : State) : Int :=
  let v := tree s t
  let frames : Int := ((g.superframe + 2 ^ 51 + 2 ^ 50 - v.superframe) % 2 ^ 51 : Nat) - 2 ^ 50
  v.frameStart + frames * 125000 + v.teqdNs + feederDelta t s / 32 + g.start * 125000 / frameSymbols v.mode v.upRate

/-- BURST_WINDOW_START: the receiver is powered for a window that a map has granted, and searches it (R139, R145, R185); a
protected tree outside transmission receives nothing in its own grants (R421). -/
def execBurstWindowStart (t : Fin 64) (w : WindowFacts) (s : State) : Host.Outcome State Fault Refusal :=
  let v := tree s t.val
  if !v.enabled || !protTransmits t.val s then .next s
  else
    let i := w.terminal.val
    match v.scheduled.find? (fun g => decide (g.terminal = i) && decide (g.ranging = w.ranging) &&
        decide (windowOpens t.val g s ≤ s.now)) with
    | none => .next s
    | some g =>
      let r : BurstRecord := { terminal := i, profile := (terminal s t.val i).profile, ranging := w.ranging }
      .next (setTerminal (setTree s t.val { v with window := some { record := r }, scheduled := v.scheduled.erase g }) t.val i
        { terminal s t.val i with windowMap := g.superframe, windowCtxs := g.ctxs })

/-- The profile of the window's terminal. -/
def windowProfile (t : Nat) (w : RxWindow) (s : State) : Option ProfileP := profileOf s t w.record.profile

/-- The signal-detect comparator of the tree's receiver fires: a gated tree cupola wakes (R139, R531). -/
def wakeTree (t : Nat) (s : State) : State := if (cup s t).state = .gated then moveCup t .active 2 s else s

/-- PROVISIONAL_LOCK on the preamble opens the delimiter window; the signal wakes a gated tree (R146, R531). -/
def execProvisionalLock (t : Fin 64) (symbol : Nat) (_amplitude : Int) (s : State) : Host.Outcome State Fault Refusal :=
  match (tree s t.val).window with
  | none => .next s
  | some w =>
    match windowProfile t.val w s with
    | none => .next s
    | some p =>
      if w.final || w.lock.isSome then .next s
      else .next (setTree (wakeTree t.val s) t.val { tree s t.val with
        window := some { w with lock := some symbol, close := symbol + p.delimWindow } })

/-- Re-lock (R148): a new provisional lock, on an amplitude step or at the close of the delimiter window. -/
def relockAt (t symbol : Nat) (step : Bool) (s : State) : State :=
  match (tree s t).window with
  | none => s
  | some w =>
    match windowProfile t w s with
    | none => s
    | some p =>
      if w.final || w.lock.isNone then s
      else setTree s t { tree s t with window := some { w with
        lock := some symbol, close := symbol + p.delimWindow, stepRelock := w.stepRelock || step,
        record := { w.record with relocked := true } } }

/-- The 64-bit delimiter in upstream symbols (R131, R188). -/
def delimSymbols (mode : Nat) : Nat := if mode = 2 then 32 else 64

/-- A delimiter whose last symbol is `symbol` is accepted: within the delimiter window, and begun at least MIN_RELOCK symbols after
the lock (R146, R149). -/
def accepts (t symbol : Nat) (s : State) : Bool :=
  match (tree s t).window with
  | none => false
  | some w =>
    match windowProfile t w s, w.lock with
    | some p, some l =>
      !w.final && decide (l + p.minRelock + delimSymbols (tree s t).mode ≤ symbol + 1) && decide (symbol ≤ w.close)
    | _, _ => false

/-- A delimiter that is accepted is presented in this cycle: it wins (R41, R151). -/
def delimiterComes (t : Nat) (s : State) : Bool :=
  s.pending.any (fun c => match c with | .delimiterAccept u y _ _ => decide (u.val = t) && accepts t y s | _ => false)

/-- RELOCK: an amplitude step of at least RELOCK_DB before the delimiter (R148, R151, R152). -/
def execRelock (t : Fin 64) (symbol : Nat) (_amplitude : Int) (s : State) : Host.Outcome State Fault Refusal :=
  .next (if delimiterComes t.val s then s else relockAt t.val symbol true s)

/-- DELIM_WINDOW_CLOSE: the delimiter window closes without a delimiter (R148, R151). -/
def execDelimWindowClose (t : Fin 64) (symbol : Nat) (s : State) : Host.Outcome State Fault Refusal :=
  .next (if delimiterComes t.val s then s else relockAt t.val symbol false s)

/-- The profile's RSSI_MODE selects the burst (R142, R147). -/
def rssiSelected (p : ProfileP) (ranging : Bool) : Bool :=
  decide (p.rssiMode = 2) || (decide (p.rssiMode = 1) && ranging)

/-- The stamp of the first delimiter symbol, taken at the delimiter's last: the tree's time base less the 64 bits of the
delimiter (R133, R146). [log 45 DEDUCED] -/
def delimiterStamp (t : Nat) (s : State) : Nat :=
  let v := tree s t
  stampOf (((timeBase s v.timeBase).value + timeModulus - 64 * 1000000 * unitNs / upLineKbps v.mode v.upRate) % timeModulus)

/-- DELIMITER_ACCEPT: the lock becomes final, the amplitude is latched, the arrival stamped (R146, R149, R151, R169).
[log 46 DEDUCED] -/
def execDelimiterAccept (t : Fin 64) (symbol : Nat) (amplitude offset : Int) (s : State) :
    Host.Outcome State Fault Refusal :=
  match (tree s t.val).window with
  | none => .next s
  | some w =>
    match windowProfile t.val w s with
    | none => .next s
    | some p =>
      if !accepts t.val symbol s then .next s
      else
        let i := w.record.terminal
        .next (setTerminal (setTree s t.val { tree s t.val with window := some { w with
          final := true,
          record := { w.record with
            amplitude := amplitude, offset := offset, stamp := delimiterStamp t.val s,
            strobe := if rssiSelected p w.record.ranging then 1 else 0 } } }) t.val i
          { terminal s t.val i with amplitude := amplitude })

/-- A reading of the tree is issued and not read (R147). -/
def readingPending (v : Tree) : Bool :=
  v.await.any (fun r => decide (r.strobe = 2)) ||
  (match v.window with | some w => decide (w.record.strobe = 2) | none => false)

/-- RSSI_TRIG: a strobe falls due (R147). -/
def execRssiTrig (t : Fin 64) (burstEnded : Bool) (s : State) : Host.Outcome State Fault Refusal :=
  let v := tree s t.val
  let busy := readingPending v
  let issue (r : BurstRecord) (late : Bool) : BurstRecord :=
    if busy then { r with rssiSkipped := true, strobe := 3 } else { r with rssiLate := late, strobe := 2 }
  let pulse (r : BurstRecord) (st : State) : State :=
    match profileOf s t.val r.profile with
    | some p => if busy then st else emit (.rssiStrobe t.val p.rssiOffsetNs p.rssiWidthNs) st
    | none => st
  if burstEnded then
    match v.await.find? (fun r => decide (r.strobe = 1)) with
    | none => .next s
    | some r =>
      let r1 := issue r true
      let rest := v.await.erase r
      if busy then .next (placeRecord t.val r1 (setTree s t.val { v with await := rest }))
      else .next (pulse r (setTree s t.val { v with await := rest ++ [r1] }))
  else
    match v.window with
    | none => .next s
    | some w =>
      if w.record.strobe ≠ 1 then .next s
      else .next (pulse w.record (setTree s t.val { v with window := some { w with record := issue w.record false } }))

/-- RSSI_READING: firmware writes the optics' reading into the record (R147, R158, R588); a bus that does not answer is alarmed,
and the record stays without a reading (R170). [log 12 DESIGN CHOICE] -/
def execRssiReading (t : Fin 64) (raw : Nat) (busOk : Bool) (s0 : State) : Host.Outcome State Fault Refusal :=
  let s := if busOk then s0 else treeAlarm t.val 3 s0
  let v := tree s t.val
  let dbm := Config.rssiCentiDbm (raw % 65536)
  let done (r : BurstRecord) : BurstRecord :=
    if busOk then { r with rssi := dbm, rssiValid := true, strobe := 3 } else { r with strobe := 3 }
  let kept (i : Nat) : State := if busOk then setTerminal s t.val i { terminal s t.val i with rssi := dbm } else s
  match v.await.find? (fun r => decide (r.strobe = 2)) with
  | some r => .next (placeRecord t.val (done r) (setTree (kept r.terminal) t.val { v with await := v.await.erase r }))
  | none =>
    match v.window with
    | some w =>
      if w.record.strobe = 2 then
        .next (setTree (kept w.record.terminal) t.val { v with window := some { w with record := done w.record } })
      else .next s
    | none => .next s

/-- ROGUE_SUSPICION: four collisions within 1 s in the windows of one terminal (R154, R170). -/
def rogueCheck (t i : Nat) (amp2 : Int) (s : State) : State :=
  let n := (terminal s t i).collisions.length
  let key := 0x100000 + t * 512 + i
  if 4 ≤ n ∧ due key 1000000000 s = true then
    post (0x180 + t) .security (i + min n 127 * 2 ^ 9 + twos 16 amp2 * 2 ^ 16) (markPost key s)
  else s

/-- Count a collision of the terminal; those that have left the 1 s interval are dropped (R154). -/
def countCollision (t i : Nat) (s : State) : State :=
  let m := terminal s t i
  setTerminal s t i { m with collisions := s.now :: m.collisions.filter (fun c => decide (s.now < c + 1000000000)) }

/-- The run that a burst of the terminal belongs to: the one under way, else a new one (R167). -/
def joinRun (t i : Nat) (s : State) : State :=
  let m := terminal s t i
  let v := tree s t
  if m.state = 4 ∧ m.driftCount = 0 then
    setTerminal (setTree s t { v with runs := v.runs + 1 }) t i { m with run := v.runs + 1 }
  else s

/-- Average OFFSET over each run of 16 bursts in O5; beyond DRIFT_LIMIT a correction is due and the run's records carry
DRIFT (R167). -/
def driftRun (t i : Nat) (offset : Int) (s : State) : State × Bool :=
  let m := terminal s t i
  if m.state ≠ 4 then (s, false)
  else
    let sum := m.driftSum + offset
    if m.driftCount + 1 < 16 then
      (setTerminal s t i { m with driftSum := sum, driftCount := m.driftCount + 1 }, false)
    else
      let avg := sum.tdiv 16
      let beyond := decide (((tree s t).driftLimit : Int) * 16 < sum.natAbs)
      (setTerminal s t i { m with driftSum := 0, driftCount := 0,
                                  driftDue := if beyond then some avg else m.driftDue }, beyond)

/-- Mark the records of a run with DRIFT, wherever they are; the marked ones of the all-bursts ring are exceptions, each in its
place (R158, R167). -/
def markDrift (t i run : Nat) (s : State) : State :=
  let v := tree s t
  let mark (r : BurstRecord) : BurstRecord := if r.terminal = i ∧ r.run = run then { r with drift := true } else r
  let bursts := v.bursts.map mark
  let oldest := match bursts.getLast? with | some r => r.num | none => 0
  setTree s t { v with
    bursts := bursts, await := v.await.map mark,
    exceptions := (bursts.filter isException ++ (v.exceptions.map mark).filter (fun r => decide (r.num < oldest))).take 1024 }

/-- A window of a terminal in operation passes without a delimiter; after as many as its standard gives, the signal is lost: O6
(R128, R170). [log 177 DEDUCED] -/
def missWindow (t i : Nat) (s : State) : State :=
  let m := terminal s t i
  if m.state ≠ 4 then s
  else if m.missed < Config.lostAfter (tree s t).mode then setTerminal s t i { m with missed := m.missed + 1 }
  else
    post (0x140 + t) .info (i + 5 * 2 ^ 9 + 2 * 2 ^ 12)
      (setTerminal s t i { m with state := 5, missed := 0, driftSum := 0, driftCount := 0, driftDue := none })

/-- The receiver's fault as a window's end shows it: kind 1 at its onset (R170). -/
def noteReceiver (t : Nat) (fault : Bool) (s : State) : State :=
  let v := tree s t
  let s1 := setTree s t { v with rxFault := fault }
  if fault && !v.rxFault then treeAlarm t 1 s1 else s1

/-- The end of a window in which no delimiter was accepted (R150, R158). -/
def endUnlocked (t : Nat) (w : RxWindow) (signalSeen : Bool) (s : State) : State :=
  let v := tree s t
  let i := w.record.terminal
  let m := terminal s t i
  let r := { w.record with lateLock := w.stepRelock, noDelimiter := !w.stepRelock, noSignal := !w.stepRelock && !signalSeen }
  let s1 := if w.stepRelock then setTerminal s t i { m with lateLock := satur 32 (m.lateLock + 1) } else missWindow t i s
  placeRecord t r (setTree s1 t { tree s1 t with
    window := none, countBursts := satur 64 (v.countBursts + 1),
    countLateLock := if w.stepRelock then satur 32 (v.countLateLock + 1) else v.countLateLock,
    countNoDelimiter := if w.stepRelock then v.countNoDelimiter else satur 32 (v.countNoDelimiter + 1) })

/-- Framing-sublayer content received in the grants of a window, of the terminal's own allocations (R183, R543). -/
def receiveContent (t i : Nat) (content : List (Fin 65536 × Nat)) (s : State) : State :=
  content.foldl (fun st e =>
    let a := alloc st e.1.val
    if a.present && decide (a.tree = t) && decide (a.terminal = i) then
      count 0x053 t e.2 none (count 0x061 e.1.val e.2 none
        (setAlloc st e.1.val { a with received := satur 64 (a.received + e.2) }))
    else count 0x053 t e.2 none st) s

/-- The end of a window in which a burst was received (R153, R157, R158, R167, R183). -/
def endReceived (t : Nat) (w : RxWindow) (e : WindowEndFacts) (s00 : State) : State :=
  let i := w.record.terminal
  let s0 := receiveContent t i e.content s00
  let coll := e.stepAfter.isSome && e.failedAfterStep
  let amp2 := if coll then e.stepAfter.getD 0 else 0
  let s := joinRun t i (setTerminal s0 t i { terminal s0 t i with missed := 0 })
  let run := if (terminal s t i).state = 4 then (terminal s t i).run else 0
  let (s1, drift) := driftRun t i w.record.offset s
  let s2 := if drift then markDrift t i run s1 else s1
  let r := { w.record with collision := coll, amplitude2 := amp2, fecFail := decide (0 < e.cwFailed), run := run,
                           cwTotal := satur 16 e.cwTotal, cwCorrected := satur 16 e.cwCorrected,
                           cwFailed := satur 16 e.cwFailed, drift := drift }
  let s3 := if coll then rogueCheck t i amp2 (countCollision t i s2) else s2
  let v := tree s3 t
  let s4 := count 0x051 t e.cwCorrected none (count 0x052 t e.cwFailed none
    (setTree s3 t { v with
      window := none, countBursts := satur 64 (v.countBursts + 1),
      countCollision := if coll then satur 32 (v.countCollision + 1) else v.countCollision,
      countCorrected := satur 64 (v.countCorrected + e.cwCorrected),
      countFailed := satur 64 (v.countFailed + e.cwFailed) }))
  if decide ((r : BurstRecord).strobe = 1) || decide (r.strobe = 2) then
    setTree s4 t { tree s4 t with await := (tree s4 t).await ++ [r] }
  else placeRecord t r s4

/-- GRANTED_WINDOW_END: the window's record is produced; a signal that found no lock woke a gated tree (R150, R153, R157,
R158, R531). -/
def execGrantedWindowEnd (t : Fin 64) (e : WindowEndFacts) (s : State) : Host.Outcome State Fault Refusal :=
  match (tree s t.val).window with
  | none => .next s
  | some w =>
    let s1 := count 0x050 t.val 1 none (noteReceiver t.val e.rxFault
      (if e.signalSeen && w.lock.isNone then wakeTree t.val s else s))
    .next (if w.final then endReceived t.val w e s1 else endUnlocked t.val w e.signalSeen s1)

/-- OUT_OF_WINDOW_ENERGY: the signal-detect comparator fires outside every granted window: the receiver is powered and
the cupola woken from Gated, counted, alarmed at most once per second; a probe notes it (R139, R155, R168, R531). -/
def execOutOfWindowEnergy (t : Fin 64) (amplitude : Int) (s : State) : Host.Outcome State Fault Refusal :=
  if (cup s t.val).state = .fenced then .next s
  else
    let s1 := wakeTree t.val s
    let v := tree s1 t.val
    let s2 := setTree s1 t.val { v with
      countOutOfWindow := satur 32 (v.countOutOfWindow + 1),
      probes := v.probes.map (fun p => { p with energy := true, maxAmp := if p.energy then max p.maxAmp amplitude else amplitude }) }
    let key := 0x110000 + t.val
    if due key 1000000000 s2 then .next (treeAlarm t.val 2 (markPost key s2)) else .next s2

end Sys2Proof.Machine
end

