-- ==== Sys2Proof/Machine/Bursts.lean ====
section
/-!
DEFINITION. The symbols of upstream bursts, pinned positions, quiet windows, grant warnings (R161, R166, R188, R189, R194,
R205).
-/
namespace Sys2Proof.Machine

/-! ## Cost of a burst -/

/-- Guard, preamble and 64-bit delimiter of a terminal's profile, in symbols of the mode (R188). -/
def burstOverhead (t i : Nat) (s : State) : Nat :=
  match profileOf s t (terminal s t i).profile with
  | some p => p.guard + p.preambleLen + delimSymbols (tree s t).mode
  | none => 0

/-- Bytes of header with trailer, and of `reports` reports (R188). [log 50 DEDUCED] -/
def overheadBytes (mode reports : Nat) : Nat :=
  if mode = 2 then 12 + 4 * reports else Config.burstHeaderBytes mode + Config.reportBytes mode * reports

/-- Symbols of framing-sublayer content with its parity: RS(248,216) in XGS mode, the last codeword shortened; none where the
profile has FEC off (R127, R133, R142, R188). [log 178 DEDUCED] -/
def contentSymbols (mode : Nat) (fec : Bool) (bytes : Nat) : Nat :=
  if mode = 2 then 4 * bytes + 960 * ((bytes + 1919) / 1920)
  else if !fec then 8 * bytes
  else if mode = 0 then 8 * (bytes + 32 * ((bytes + 215) / 216))
  else Config.ldpcSymbols bytes

/-- The terminal's profile has FEC on (R142). -/
def fecOf (t i : Nat) (s : State) : Bool :=
  match profileOf s t (terminal s t i).profile with | some p => p.fec | none => true

/-- Symbols of a burst of terminal `i` with payload bytes and reports (R188). -/
def burstSymbols (t i bytes reports : Nat) (s : State) : Nat :=
  let m := (tree s t).mode
  burstOverhead t i s + contentSymbols m (fecOf t i s) (bytes + overheadBytes m reports)

/-- Round a grant down to the mode's unit (R189). -/
def roundGrant (mode bytes : Nat) : Nat :=
  let g := if mode = 2 then 16 else Config.grantGranule mode
  if g = 0 then bytes else bytes / g * g

/-- Symbols of the tree's upstream frame (R188). -/
def treeFrame (t : Nat) (s : State) : Nat := frameSymbols (tree s t).mode (tree s t).upRate

/-! ## Pinned positions -/

/-- The bytes of each pinned position: an equal split, the remainder in the last (R194), each in whole units (R189). -/
def pinShares (mode share n : Nat) : List Nat :=
  (List.range n).map (fun i => roundGrant mode (if i + 1 = n then share / n + share % n else share / n))

/-- The shares that a rate in kbit/s takes from frame to frame: R / 64 bytes, rounded down and up (R176). -/
def frameShares (rate : Nat) : List Nat := [rate / 64, (rate + 63) / 64]

/-- Symbols of the longest pinned burst that an allocation's share of any frame can make (R194). -/
def pinLength (a : Alloc) (s : State) : Nat :=
  let shares := (frameShares a.fixed).flatMap (fun f => (frameShares a.maximum).map (fun m => min f m))
  let longest := (shares.flatMap (fun x => pinShares (tree s a.tree).mode x a.grantsPerFrame)).foldl max 0
  burstSymbols a.tree a.terminal longest (bit a.report 0) s

/-- The pinned spans of a tree as (start, length), other than those of context `but`, in order of start. -/
def insertSpan (x : Nat × Nat) : List (Nat × Nat) → List (Nat × Nat)
  | [] => [x]
  | y :: r => if x.1 < y.1 then x :: y :: r else y :: insertSpan x r

def pinnedSpans (t : Nat) (but : Option Nat) (s : State) : List (Nat × Nat) :=
  ((s.tr.allocs.filter (fun e => e.2.present && decide (e.2.tree = t) && decide (e.2.cls = 0) &&
      decide (some e.1 ≠ but))).flatMap (fun e => e.2.pins.map (fun p => (p, pinLength e.2 s)))).foldl
    (fun acc x => insertSpan x acc) []

/-- A span is free among others. -/
def spanFree (p len : Nat) (spans : List (Nat × Nat)) : Bool :=
  spans.all (fun x => decide (p + len ≤ x.1) || decide (x.1 + x.2 ≤ p))

/-- A free position within one burst length of a nominal one, the nearest first (R194). -/
def nearPosition (frame len nominal : Nat) (spans : List (Nat × Nat)) : Option Nat :=
  let cand := nominal :: spans.flatMap (fun x => [x.1 + x.2, x.1 - len])
  cand.find? (fun p => decide (p + len ≤ frame) && decide (p ≤ nominal + len) && decide (nominal ≤ p + len) &&
    spanFree p len spans)

/-- Positions from a first offset, spaced frame / g apart (R194). -/
def pinsFrom (frame len g first : Nat) (spans : List (Nat × Nat)) : Option (List Nat) :=
  if !spanFree first len spans || decide (frame < first + len) then none
  else (List.range (g - 1)).foldl (fun acc k =>
    match acc with
    | none => none
    | some ps =>
      match nearPosition frame len (first + (k + 1) * frame / g) (spans ++ ps.map (fun p => (p, len))) with
      | some p => some (ps ++ [p])
      | none => none) (some [first])

/-- The pinned positions of a class 0 allocation, the least first offset that serves (R194). -/
def findPins (frame len g : Nat) (spans : List (Nat × Nat)) : Option (List Nat) :=
  let crit := spans.flatMap (fun x => [x.1 + x.2, x.1 - len])
  let cand := 0 :: crit ++ (List.range g).flatMap (fun k => crit.flatMap (fun e =>
    let back := k * frame / g
    [e - back, e + len - back, e - len - back]))
  (cand.foldl (fun (best : Option (List Nat)) c =>
    match pinsFrom frame len g c spans with
    | none => best
    | some ps => match best with
      | some (b :: _) => if c < b then some ps else best
      | _ => some ps) none)

/-! ## Frames -/

/-- The frame of 125 µs in which an instant of a time base lies, as a superframe count (R403). -/
def frameAt (v : Nat) : Nat := (secOf v * 8000 + nsOf v / 125000) % 2 ^ 51

/-! ## Contexts that change -/

/-- A context is about to change: those of the cycle's frames are checked against what stood before it (R199). -/
def beforeChange (s : State) : State :=
  if s.tr.changedAt = some s.now then s
  else { s with tr := { s.tr with changedAt := some s.now, allocsBefore := s.tr.allocs, portsBefore := s.tr.ports } }

/-- The contexts that a frame of this cycle is checked against (R199). -/
def checkedAlloc (ctx : Nat) (s : State) : Alloc :=
  if s.tr.changedAt = some s.now then tget {} ctx s.tr.allocsBefore else alloc s ctx
def checkedPorts (s : State) : Table PortCtx :=
  if s.tr.changedAt = some s.now then s.tr.portsBefore else s.tr.ports

/-! ## Quiet windows -/

/-- Symbols of the round-trip spread of the configured reach (R161). -/
def reachSpread (t : Nat) (s : State) : Nat :=
  let v := tree s t
  let kbd := upSymbolKbd v.mode v.upRate
  (2 * (v.maxReach - v.minReach) * v.groupIndex * kbd + 299792458000 - 1) / 299792458000

/-- The first symbol of an upstream frame that no pinned burst occupies (R161). -/
def firstFree (t : Nat) (s : State) : Nat :=
  (pinnedSpans t none s).foldl (fun p x => if x.1 ≤ p ∧ p < x.1 + x.2 then x.1 + x.2 else p) 0

/-- Open a quiet window of `span` symbols (R161, R166, R191). -/
def openQuiet (t : Nat) (i : Option Nat) (span : Nat) (s : State) : State :=
  let st := firstFree t s
  let v := tree s t
  emit (.quietWindow t i st span) (setTree s t { v with quiet := { start := st, left := span } :: v.quiet })

/-- The symbol of the upstream frame at which a stamp lies, the upstream frame beginning TEQD after the downstream one (R184). -/
def upstreamSymbol (t stamp : Nat) (s : State) : Nat :=
  let v := tree s t
  let ns := (stamp / 2 ^ 16 % 2 ^ 30 + 125000 * 8 - v.teqdNs % 125000) % 125000
  (ns * 2 ^ 16 + stamp % 2 ^ 16) * upSymbolKbd v.mode v.upRate / (1000000 * 2 ^ 16)

/-- A burst whose first delimiter symbol was stamped so overlaps a pinned burst of the tree (R191). -/
def strikesPinned (t stamp : Nat) (s : State) : Bool :=
  let p := upstreamSymbol t stamp s
  !spanFree p (Config.responseSymbols (tree s t).mode) (pinnedSpans t none s)

/-- A rogue probe withholds every upstream grant of the tree (R168, R192). -/
def probing (v : Tree) : Bool := !v.probes.isEmpty

/-! ## Warnings -/

/-- Source 0x200 + t, at most once per second per tree and kind (R205). -/
def grantWarning (t kind ctx : Nat) (s : State) : State :=
  let key := 0x140000 + t * 16 + kind
  let s1 := addUnreported key 1 s
  if due key 1000000000 s1 then
    post (0x200 + t) .warning (kind + ctx * 2 ^ 4 + satur 24 (unreported key s1) * 2 ^ 20) (markPost key s1)
  else s1

/-- Source 0x140 + t (R170). -/
def postTerminal (t i state reason : Nat) (s : State) : State :=
  post (0x140 + t) .info (i + state * 2 ^ 9 + reason * 2 ^ 12) s

end Sys2Proof.Machine
end

