-- ==== Sys2Proof/Machine/MarlBytes.lean ====
section
/-!
DEFINITION. The bytes of a Marl image: its header and maps, the parameter blocks of its configuration section, its key blobs
(R433–R436).
-/
namespace Sys2Proof.Machine

/-! ## Frames that leave -/

/-- A frame can leave for the address; one that cannot is discarded and counted (R471, R472). -/
def canSend (dst : Nat) (s : State) : Bool := s.fab.address.isSome && reachable dst s
def countUnsent (s : State) : State :=
  if s.fab.address.isNone then { s with fab := { s.fab with noAddress := satur 32 (s.fab.noAddress + 1) } }
  else { s with fab := { s.fab with noRoute := satur 32 (s.fab.noRoute + 1) } }

/-! ## Parameter blocks -/

/-- TREE_CONFIGURE (R140). -/
def treeBlock (t : Nat) (v : Tree) : List Byte :=
  fields 64 [(1, t), (1, v.mode), (1, v.upRate), (1, v.timeBase), (4, v.teqdNs), (8, v.ponId), (4, v.minReach), (4, v.maxReach),
    (4, v.groupIndex), (2, v.idleEnter), (2, v.discPeriodMs), (2, v.driftLimit), (1, v.rangeAttempts)]
def readTreeBlock (b : List Byte) : TreeP :=
  { tree := Fin.ofNat 64 (fieldAt b 0 1), mode := Fin.ofNat 3 (fieldAt b 1 1), upRate := fieldAt b 2 1,
    timeBase := Fin.ofNat 8 (fieldAt b 3 1), teqdNs := fieldAt b 4 4, ponId := fieldAt b 8 8 % 2 ^ 51,
    minReach := fieldAt b 0x10 4, maxReach := fieldAt b 0x14 4, groupIndex := fieldAt b 0x18 4, idleEnter := fieldAt b 0x1C 2,
    discPeriodMs := fieldAt b 0x1E 2, driftLimit := fieldAt b 0x20 2, rangeAttempts := fieldAt b 0x22 1 }

/-- BURST_PROFILE_SET (R142); zero bytes for a profile that is unset. [log 191 DEDUCED] -/
def profileBlock (t k : Nat) (p : Option ProfileP) : List Byte :=
  match p with
  | none => fields 64 [(1, t), (1, k)]
  | some p => fields 64 [(1, t), (1, k), (1, bit p.fec 0), (1, p.rssiMode), (2, p.guard), (2, p.preambleLen), (8, p.preamblePattern),
      (8, p.delimiter), (2, p.delimWindow), (2, p.minRelock), (2, p.rssiOffsetNs), (2, p.rssiWidthNs), (1, p.relockDb)]
def readProfileBlock (b : List Byte) : Option (Nat × ProfileP) :=
  if fieldAt b 6 2 = 0 then none
  else some (fieldAt b 1 1 % 4,
    { fec := flagAt b 2 0, rssiMode := fieldAt b 3 1, guard := fieldAt b 4 2, preambleLen := fieldAt b 6 2,
      preamblePattern := fieldAt b 8 8, delimiter := fieldAt b 0x10 8, delimWindow := fieldAt b 0x18 2,
      minRelock := fieldAt b 0x1A 2, rssiOffsetNs := fieldAt b 0x1C 2, rssiWidthNs := fieldAt b 0x1E 2,
      relockDb := fieldAt b 0x20 1 })

/-- TERMINAL_ADMIT (R160). -/
def admitBlock (t i : Nat) (m : Terminal) : List Byte :=
  fields 64 [(1, t), (1, m.profile), (2, i), (2, m.domain), (2, 0), (8, m.serial), (4, bit m.autoRange 0 + bit m.regCheck 1),
    (36, m.regId)]
def readAdmitBlock (b : List Byte) : AdmitP :=
  { tree := Fin.ofNat 64 (fieldAt b 0 1), profile := Fin.ofNat 4 (fieldAt b 1 1), terminal := Fin.ofNat 512 (fieldAt b 2 2),
    domain := Fin.ofNat 4096 (fieldAt b 4 2), serial := fieldAt b 8 8, autoRange := flagAt b 0x10 0, regCheck := flagAt b 0x10 1,
    regId := fieldAt b 0x14 36 }

/-- ALLOC_CONFIGURE (R175). -/
def allocBlock (k : Nat) (a : Alloc) : List Byte :=
  fields 64 [(1, a.tree), (1, a.cls), (2, a.terminal), (2, k), (2, a.allocId), (4, a.fixed), (4, a.assured), (4, a.nonAssured),
    (4, a.maximum), (2, a.beWeight), (2, bit a.report 0 + bit a.coop 1), (1, a.grantsPerFrame)]
def readAllocBlock (b : List Byte) : AllocP :=
  { tree := Fin.ofNat 64 (fieldAt b 0 1), cls := Fin.ofNat 4 (fieldAt b 1 1), terminal := Fin.ofNat 512 (fieldAt b 2 2),
    ctx := Fin.ofNat 65536 (fieldAt b 4 2), allocId := fieldAt b 6 2 % 2 ^ 14, fixed := fieldAt b 8 4, assured := fieldAt b 0x0C 4,
    nonAssured := fieldAt b 0x10 4, maximum := fieldAt b 0x14 4, beWeight := fieldAt b 0x18 2, report := flagAt b 0x1A 0,
    coop := flagAt b 0x1A 1, grantsPerFrame := fieldAt b 0x1C 1 }

/-- PORT_CONFIGURE (R180). -/
def portBlock (k : Nat) (c : PortCtx) : List Byte :=
  fields 64 [(1, c.tree), (1, bit c.down 0 + bit c.up 1 + bit c.encrypt 2), (2, c.terminal), (4, k), (2, c.portId), (2, 0),
    (2, c.downQueue)]
def readPortBlock (b : List Byte) : PortCtxP :=
  { tree := Fin.ofNat 64 (fieldAt b 0 1), down := flagAt b 1 0, up := flagAt b 1 1, encrypt := flagAt b 1 2,
    terminal := Fin.ofNat 512 (fieldAt b 2 2), ctx := Fin.ofNat 131072 (fieldAt b 4 4), portId := fieldAt b 8 2,
    downQueue := Fin.ofNat 65536 (fieldAt b 0x0C 2) }

/-! ## What an image carries of a tree -/

def marlTerminals (t : Nat) (s : State) : List (Nat × Terminal) :=
  (s.tr.terminals.filter (fun e => decide (e.1 / 512 = t) && e.2.admitted)).map (fun e => (e.1 % 512, e.2))
def marlAllocs (t : Nat) (s : State) : List (Nat × Alloc) := s.tr.allocs.filter (fun e => e.2.present && decide (e.2.tree = t))
def marlPorts (t : Nat) (s : State) : List (Nat × PortCtx) := s.tr.ports.filter (fun e => e.2.present && decide (e.2.tree = t))

/-- The configuration section (R435). -/
def configSection (t : Nat) (s : State) : List Byte :=
  let v := tree s t
  treeBlock t v ++ (List.range 4).flatMap (fun k => profileBlock t k (tget none k v.profiles)) ++
  (marlTerminals t s).flatMap (fun e => admitBlock t e.1 e.2) ++ (marlAllocs t s).flatMap (fun e => allocBlock e.1 e.2) ++
  (marlPorts t s).flatMap (fun e => portBlock e.1 e.2)

def terminalOf (i : Nat) (m : Terminal) : MarlTerminal :=
  { terminal := Fin.ofNat 512 i, state := Fin.ofNat 7 m.state, profile := Fin.ofNat 4 m.profile, rtd := m.rtd, eqd := m.eqd,
    driftSum := m.driftSum, driftCount := m.driftCount, collisions := m.collisions }
def allocOf (k : Nat) (a : Alloc) : MarlAlloc :=
  { ctx := Fin.ofNat 65536 k, demand := a.demand, remFixed := a.remFixed, remAssured := a.remAssured, remNon := a.remNon,
    remMax := a.remMax, carry := (a.carry.map (fun x => x.2)).foldl (· + ·) 0, lastPoll := a.lastPoll }

/-! ## Key blobs -/

def halfState (n : Nat) : HalfState := match n with | 0 => .empty | 1 => .loaded | 2 => .active | _ => .refusing

/-- The tree's key halves that hold a key, as (slot, half number, half) (R275, R436). -/
def heldKeys (t : Nat) (s : State) : List (Nat × Bool × Half) :=
  (s.cph.slots.filter (fun e => decide (e.1 / 65536 = kindTree) && decide (e.1 % 65536 / 1024 = t))).flatMap (fun e =>
    ([false, true].filter (fun b => decide ((halfOf e.2 b).state ≠ .empty))).map (fun b => (e.1 % 1024, b, halfOf e.2 b)))

/-- A half differs from what the last image carried of it by more than its count. -/
def sameHalf (a b : Half) : Bool := decide (a.state = b.state) && decide (a.key = b.key) && decide (a.number = b.number)

/-- The halves written, flipped or erased since the previous image (R435). [log 192 DEDUCED] -/
def changedKeys (before now : List (Nat × Bool × Half)) : List (Nat × Bool × Half) :=
  now.filter (fun e => !before.any (fun x => decide (x.1 = e.1) && decide (x.2.1 = e.2.1) && sameHalf x.2.2 e.2.2)) ++
  (before.filter (fun e => !now.any (fun x => decide (x.1 = e.1) && decide (x.2.1 = e.2.1)))).map (fun e => (e.1, e.2.1, ({} : Half)))

/-- The pairing key of a group as an AES-256 key schedule (R436, R582). -/
def pairingSchedule (g : Nat) (s : State) : Option (List (List Nat)) :=
  (tget none g s.boot.pairingKeys).map (fun k => roundKeys (natsOf (le 32 k)))

/-- A key blob sealed under the group's pairing key, with the IV of a running number (R436). -/
def blobBytes (keys : List (List Nat)) (iv : Nat) (e : Nat × Bool × Half) : List Byte :=
  let aad := fields 16 [(2, e.1), (1, bit e.2.1 0), (1, e.2.2.number), (1, halfCode e.2.2.state), (3, 0), (6, e.2.2.count)]
  let wrapped := gcmStream keys (natsOf (le 12 iv)) (natsOf (le 16 e.2.2.key))
  aad ++ le 12 iv ++ le 4 0 ++ wrapped.map (BitVec.ofNat 8) ++
    (gcmTag keys (natsOf (le 12 iv)) (natsOf aad) wrapped).map (BitVec.ofNat 8)

def readBlob (b : List Byte) : KeyBlob :=
  { slot := fieldAt b 0 2 % 1024, half := flagAt b 2 0, keyNumber := fieldAt b 3 1, state := fieldAt b 4 1, count := fieldAt b 8 6,
    bytes := b }

/-- The key of a blob whose tag checks (R436). -/
def openBlob (keys : List (List Nat)) (b : KeyBlob) : Option Nat :=
  let iv := natsOf ((b.bytes.drop 0x10).take 12)
  let wrapped := natsOf ((b.bytes.drop 0x20).take 16)
  if gcmTag keys iv (natsOf (b.bytes.take 16)) wrapped = natsOf ((b.bytes.drop 0x30).take 16) then
    some (leNat ((gcmStream keys iv wrapped).map (BitVec.ofNat 8)))
  else none

/-! ## The parts -/

/-- MAPS of R434. -/
def mapsCarried (teqdNs : Nat) : Nat := (teqdNs + 124999) / 125000 + 1

/-- A map with its prefix (R435). -/
def mapBytes (mode : Nat) (ids : Nat → Nat) (m : Nat × List (Nat × Nat × Nat)) : List Byte :=
  fields 8 [(4, m.1), (2, m.2.length)] ++
  m.2.flatMap (fun x => fit 8 (Config.mapStructure mode (ids x.2.1) x.1 x.2.2))

/-- The header of R434, with CRC_A as given. -/
def marlHeader (mode t maps group terminals k epoch gen allocs blobs lenB lenConfig crcA crcB : Nat) : List Byte :=
  fields 64 [(1, 1), (1, mode), (1, t), (1, maps), (2, group), (2, terminals), (8, k), (4, epoch), (4, gen), (4, allocs), (2, blobs),
    (2, 0), (4, lenB), (4, lenConfig), (8, 0), (8, 0), (4, crcA), (4, crcB)]

/-- The two parts of image `k`, and the member with what they carried (R433–R436). -/
def marlImage (t k : Nat) (s : State) : List Byte × List Byte × State :=
  let m := member s t
  let v := tree s t
  let g := match m.cfg with | some c => c.group.val | none => 0
  let section_ := configSection t s
  let same := decide (section_ = m.sentConfig)
  let gen := if same then m.configGen else (m.configGen + 1) % 2 ^ 32
  let held := heldKeys t s
  let changed := changedKeys m.sentKeys held
  let iv := tget 0 g s.prot.blobIvs
  let role := match m.cfg with | some c => bit c.secondary 95 | none => 0
  let blobs := match pairingSchedule g s with
    | some keys => ((List.range changed.length).zip changed).map (fun (x : Nat × Nat × Bool × Half) => blobBytes keys (iv + x.1 + role) x.2)
    | none => []
  let config := if same then [] else section_
  let partB := (marlTerminals t s).flatMap (fun e => fit 64 (Config.terminalEntry (terminalOf e.1 e.2))) ++
    (marlAllocs t s).flatMap (fun e => fit 32 (Config.allocEntry (allocOf e.1 e.2))) ++ config ++ blobs.flatten
  let maps := (v.maps.take (mapsCarried v.teqdNs)).reverse
  let head (crcA : Nat) := marlHeader v.mode t maps.length g (marlTerminals t s).length k m.epoch gen (marlAllocs t s).length
    blobs.length partB.length config.length crcA (crc32 partB)
  let body := maps.flatMap (mapBytes v.mode (fun c => (alloc s c).allocId))
  let s1 := setMember s t { m with configGen := gen, sentConfig := section_, sentKeys := held }
  (head (crc32 (head 0 ++ body)) ++ body, partB,
   { s1 with prot := { s1.prot with blobIvs := tset 0 g (iv + blobs.length) s1.prot.blobIvs } })

/-- The holder streams the image of frame `k` to the peer's slot k mod 4 (R433, R480). -/
def sendImage (t k : Nat) (s : State) : State :=
  match (member s t).cfg with
  | none => s
  | some c =>
    let (a, b, s1) := marlImage t k s
    if canSend c.peer.val s then
      emit (.marlPart c.peer.val c.group.val true (k % 4) k b) (emit (.marlPart c.peer.val c.group.val false (k % 4) k a) s1)
    else countUnsent s1

/-! ## Reading an image -/

/-- The maps that follow the header of part A: superframe bits and structures (R435). -/
def readMaps : Nat → List Byte → List (Nat × List (List Byte))
  | 0, _ => []
  | n + 1, b =>
    let c := fieldAt b 4 2
    (fieldAt b 0 4, (List.range c).map (fun i => (b.drop (8 + 8 * i)).take 8)) :: readMaps n (b.drop (8 + 8 * c))

/-- Bytes of part A. -/
def partALength (a : List Byte) : Nat :=
  64 + ((readMaps (fieldAt a 3 1) (a.drop 64)).map (fun m => 8 + 8 * m.2.length)).foldl (· + ·) 0

/-- CRC_A of R434 checks. -/
def crcAOk (a : List Byte) : Bool := decide (crc32 (a.take 0x38 ++ le 4 0 ++ a.drop 0x3C) = fieldAt a 0x38 4)

/-- The entries of a size from an offset. -/
def entriesAt (b : List Byte) (off size n : Nat) : List (List Byte) := (List.range n).map (fun i => (b.drop (off + size * i)).take size)

/-- Part B as its image's header describes it (R434, R435). -/
def readPartB (header b : List Byte) : MarlPart :=
  let nt := fieldAt header 6 2
  let na := fieldAt header 0x18 4
  let lc := fieldAt header 0x24 4
  let oa := 64 * nt
  let oc := oa + 32 * na
  let np := lc / 64 - (5 + nt + na)
  { terminals := (entriesAt b 0 64 nt).map Config.readTerminal
    allocs := (entriesAt b oa 32 na).map Config.readAlloc
    config := if lc = 0 then none else some {
      tree := readTreeBlock ((b.drop oc).take 64)
      profiles := (entriesAt b (oc + 64) 64 4).filterMap readProfileBlock
      admits := (entriesAt b (oc + 320) 64 nt).map readAdmitBlock
      allocs := (entriesAt b (oc + 320 + 64 * nt) 64 na).map readAllocBlock
      ports := (entriesAt b (oc + 320 + 64 * (nt + na)) 64 np).map readPortBlock }
    blobs := (entriesAt b (oc + lc) 64 (fieldAt header 0x1C 2)).map readBlob }

end Sys2Proof.Machine
end

