-- ==== Sys2Proof/Machine/PoolOps.lean ====
section
/-!
DEFINITION. The buffer pool manager's operations: pointers, free lists, levels, allocation with class spill, reference
counts, rejections (R351–R372).
-/
namespace Sys2Proof.Machine

/-! ## Pools -/

def pool (s : State) (q : Nat) : Pool := tget {} q s.pool.pools
def setPool (s : State) (q : Nat) (v : Pool) : State := { s with pool := { s.pool with pools := tset {} q v s.pool.pools } }
def header (s : State) (ptr : Nat) : Header := tget {} ptr s.pool.headers
def setHeader (s : State) (ptr : Nat) (h : Header) : State :=
  { s with pool := { s.pool with headers := tset {} ptr h s.pool.headers } }

/-- Buffer size of a class (R351). -/
def classBytes (c : Nat) : Nat := 256 * 4 ^ c

/-- The configuration after reset classes 2 and 3 (R354). -/
def resetPool (q : Fin 16) : PoolP :=
  let e := match q.val with
    | 0 => (0, 16384) | 4 => (16384, 32768) | 8 => (49152, 49152) | 12 => (98304, 32768) | _ => (0, 0)
  { pool := q, enable := decide (e.2 ≠ 0), spillUp := false, bpHold := 64, baseKib := e.1, sizeKib := e.2, early := 0,
    late := 0, critical := 0, hysteresis := 0 }

def poolCfg (q : Nat) (s : State) : PoolP := (pool s q).cfg.getD (resetPool (Fin.ofNat 16 q))

/-- Buffers that a configuration holds. -/
def cfgBuffers (p : PoolP) : Nat := if p.enable then p.sizeKib * 1024 / classBytes (p.pool.val / 4) else 0

/-- BUFFERS: less the quarantined ones (R368, R374). -/
def poolBuffers (q : Nat) (s : State) : Nat := cfgBuffers (poolCfg q s) - (pool s q).quarantined.length

/-- The byte offset lies in the pool. -/
def inPool (q ptr : Nat) (s : State) : Bool :=
  let c := poolCfg q s
  c.enable && decide (c.baseKib * 1024 ≤ ptr) && decide (ptr < (c.baseKib + c.sizeKib) * 1024)

/-- The pool of a valid pointer (R358). -/
def pointerPool (ptr : Nat) (s : State) : Option Nat :=
  if 2 ^ 27 ≤ ptr then none
  else (List.range 16).find? (fun q => inPool q ptr s &&
    decide ((ptr - (poolCfg q s).baseKib * 1024) % classBytes (q / 4) = 0))

/-- Buffers of the pool that are allocated. -/
def allocated (q : Nat) (s : State) : Nat := (s.pool.headers.filter (fun e => inPool q e.1 s)).length

/-- FREE: the buffers in the list and in the cache (R360). -/
def freeCount (q : Nat) (s : State) : Nat :=
  if (pool s q).corrupt then (pool s q).freed.length else poolBuffers q s - allocated q s

/-- The first buffer number from `i` on that is neither allocated nor quarantined nor on the list of freed ones.
[log 88 DEDUCED] -/
def firstFresh (base size : Nat) (v : Pool) (s : State) : Nat → Nat → Nat
  | 0, i => i
  | n + 1, i =>
    let ptr := base + i * size
    if (header s ptr).refs ≠ 0 ∨ v.quarantined.contains ptr = true ∨ v.freed.contains ptr = true then
      firstFresh base size v s n (i + 1) else i

/-- The head of the free list: its pointer, and the pool without it (R360). -/
def takeHead (q : Nat) (s : State) : Nat × Pool :=
  let v := pool s q
  match v.freed with
  | b :: rest => (b, { v with freed := rest })
  | [] =>
    let c := poolCfg q s
    let i := firstFresh (c.baseKib * 1024) (classBytes (q / 4)) v s (s.pool.headers.length + v.quarantined.length) v.fresh
    (c.baseKib * 1024 + i * classBytes (q / 4), { v with fresh := i + 1 })

/-- The first `n` pointers of the free list: the prefetch cache (R360). -/
def listPrefix (q : Nat) : Nat → State → List Nat
  | 0, _ => []
  | n + 1, s =>
    if freeCount q s = 0 then []
    else
      let r := takeHead q s
      r.1 :: listPrefix q n (setHeader (setPool s q r.2) r.1 { owner := 0xFF, refs := 1 })

/-! ## Levels -/

/-- Threshold of level 1 EARLY, 2 LATE, 3 CRITICAL, and HYSTERESIS, with their defaults (R370). -/
def threshold (q l : Nat) (s : State) : Nat :=
  let c := poolCfg q s
  let b := poolBuffers q s
  match l with
  | 1 => if c.early = 0 then b / 8 else c.early
  | 2 => if c.late = 0 then b / 16 else c.late
  | _ => if c.critical = 0 then b / 64 else c.critical
def hysteresis (q : Nat) (s : State) : Nat :=
  let c := poolCfg q s
  if c.hysteresis = 0 then max 1 (poolBuffers q s / 256) else c.hysteresis

/-- The pool is in level `l` with FREE as it is now: below its threshold, or in it since an earlier cycle and not yet past the
hysteresis (R370). -/
def holdsLevel (q l : Nat) (s : State) : Bool :=
  decide (freeCount q s < threshold q l s) ||
  (decide (l ≤ (pool s q).posted) && decide (freeCount q s < threshold q l s + hysteresis q s))

/-- Source 0x2E0 + q (R375). -/
def postLevel (q lvl : Nat) (entered : Bool) (s : State) : State :=
  post (0x2E0 + q) .warning (lvl + bit entered 2 + freeCount q s * 2 ^ 3) s

/-- Judge the level after an operation, and keep LOW_WATER (R364, R370, R374). -/
def judgePool (q : Nat) (s : State) : State :=
  if !(poolCfg q s).enable then s
  else
    let v := pool s q
    let new := if holdsLevel q 3 s then 3 else if holdsLevel q 2 s then 2 else if holdsLevel q 1 s then 1 else 0
    setPool s q { v with level := new, lowWater := some (match v.lowWater with
      | some w => min w (freeCount q s) | none => freeCount q s) }

/-- The level at the end of a cycle: what was entered or left since the cycle before is posted (R370, R372). -/
def postLevels (q : Nat) (s : State) : State :=
  let s0 := judgePool q s
  let v := pool s0 q
  let s1 := setPool s0 q { v with posted := v.level }
  if v.level = v.posted then s0
  else if v.posted < v.level then
    (List.range (v.level - v.posted)).foldl (fun st i => postLevel q (v.posted + i + 1) true st) s1
  else (List.range (v.posted - v.level)).foldl (fun st i => postLevel q (v.posted - i - 1) false st) s1

/-! ## Requesters -/

/-- The IDs of R355. -/
def requesterOk (r : Nat) : Bool :=
  decide (r < 8) || decide (r = 0x10) || decide (r = 0x11) || (decide (0x20 ≤ r) && decide (r ≤ 0x5F)) ||
  (decide (0x60 ≤ r) && decide (r ≤ 0x6B))

/-- The pool that a requester's class maps to (R356). -/
def mappedPool (r c : Nat) (s : State) : Nat := c * 4 + tget 0 (r * 4 + c) s.pool.map

/-! ## Allocation -/

/-- The level admits the priority, 0 BULK, 1 CONTROL, 2 SYSTEM (R371). -/
def admits (level priority : Nat) : Bool :=
  match level with
  | 0 => true | 1 => true | 2 => decide (1 ≤ priority) | _ => decide (priority = 2)

/-- Take the head for a requester. `listOk` that the next pointer and the header check; else the list ends there and only
the cache remains (R361, R362). -/
def serveAlloc (q r : Nat) (listOk : Bool) (s : State) : Nat × State :=
  let h := takeHead q s
  let s1 := setHeader (setPool s q { h.2 with allocs := satur 64 (h.2.allocs + 1), lastServed := r }) h.1 { owner := r, refs := 1 }
  let s2 := if listOk then s1
    else post 0x2F1 .fault (q + 2 ^ 4 + h.1 * 2 ^ 5)
      (setPool s1 q { pool s1 q with corrupt := true, freed := listPrefix q 31 s1 })
  (h.1, judgePool q (count 0x040 q 1 none s2))

/-- Ingress and spill read-back present a held request again where it started (R363). -/
def restarts (r : Nat) : Bool := decide (r < 8) || decide (r = 0x11)

/-- An ALLOC judged in one pool: served, or the pool is EMPTY for it (R362, R371). -/
def judgeAlloc (r priority q : Nat) (listOk : Bool) (s : State) : Option Nat × State :=
  if admits (pool s q).level priority && decide (0 < freeCount q s) then
    let p := serveAlloc q r listOk s
    (some p.1, p.2)
  else (none, count 0x041 q 1 none (setPool s q { pool s q with emptyReturns := satur 32 ((pool s q).emptyReturns + 1) }))

/-- The pool of the next class that an EMPTY pool passes a request to (R363). -/
def spillUp (r q : Nat) (s : State) : Option Nat :=
  if (poolCfg q s).spillUp && decide (q / 4 < 3) then some (mappedPool r (q / 4 + 1) s) else none

def countSpillUp (q : Nat) (s : State) : State :=
  setPool s q { pool s q with spillUpOut := satur 32 ((pool s q).spillUpOut + 1) }

/-- An ALLOC judged in a pool, spilling up by class; the pointer, or the pool it is held for (R362, R363). -/
def tryAlloc (r priority : Nat) (listOk : Bool) : Nat → Nat → State → (Nat ⊕ Nat) × State
  | 0, q, s => (.inr q, s)
  | n + 1, q, s =>
    match judgeAlloc r priority q listOk s with
    | (some ptr, s1) => (.inl ptr, s1)
    | (none, s1) => match spillUp r q s with
      | some up => tryAlloc r priority listOk n up (countSpillUp q s1)
      | none => (.inr q, s1)

/-- A request is held, for the pool it started in or the last it reached (R363). -/
def holdAlloc (h : HeldAlloc) (q : Nat) (s : State) : State :=
  let h1 := { h with pool := if restarts h.requester then h.pool else q }
  emit (.buffer h.requester 1 none) { s with pool := { s.pool with held := s.pool.held ++ [h1] } }

/-- Present an ALLOC: served, or held (R363). -/
def presentAlloc (h : HeldAlloc) (listOk : Bool) (s : State) : State :=
  match tryAlloc h.requester h.priority listOk 4 h.pool s with
  | (.inl ptr, s1) => emit (.buffer h.requester 0 (some ptr)) s1
  | (.inr q, s1) => holdAlloc h q s1

/-! ## Rejections -/

/-- Count a rejection: 0 DOUBLE_FREE, 1 NON_OWNER_FREE, 2 BAD_POINTER, 3 LIMIT (R362, R369). -/
def countRejection (kind r ptr : Nat) (v : Pool) : Pool :=
  let w := { v with lastRequester := r, lastPointer := ptr }
  match kind with
  | 0 => { w with doubleFree := satur 32 (v.doubleFree + 1) }
  | 1 => { w with nonOwnerFree := satur 32 (v.nonOwnerFree + 1) }
  | 2 => { w with badPointer := satur 32 (v.badPointer + 1) }
  | _ => { w with limit := satur 32 (v.limit + 1) }

/-- Source 0x2F0, at most once per millisecond per pool and kind (R369, R375). -/
def reject (q kind r ptr : Nat) (s : State) : State :=
  let key := 0x150000 + q * 4 + kind
  let s1 := emit (.buffer r (kind + 2) (some ptr)) (addUnreported key 1 (setPool s q (countRejection kind r ptr (pool s q))))
  if due key 1000000 s1 then
    post 0x2F0 .error (q + kind * 2 ^ 4 + r % 256 * 2 ^ 6 + ptr % 2 ^ 27 * 2 ^ 14 + satur 3 (unreported key s1) * 2 ^ 41)
      (markPost key s1)
  else s1

/-- A header with an uncorrectable error: the buffer is quarantined (R368). -/
def quarantine (q ptr : Nat) (s : State) : State :=
  let v := pool s q
  judgePool q (post 0x2F1 .fault (q + ptr * 2 ^ 5) (setHeader (setPool s q { v with
    eccFailed := satur 16 (v.eccFailed + 1), freed := v.freed.filter (fun b => decide (b ≠ ptr)),
    quarantined := if v.quarantined.contains ptr then v.quarantined else ptr :: v.quarantined }) ptr {}))

/-- Checks 1 to 3 of SHARE, GIVE and FREE: pointer, header ECC (0 good, 1 corrected, 2 uncorrectable), FREE 0; then the
operation on the pool that holds the buffer (R359, R362). -/
def onBuffer (r ptr ecc : Nat) (f : Nat → State → State) (s : State) : State :=
  match pointerPool ptr s with
  | none => reject (mappedPool r 0 s) 2 r ptr s
  | some q =>
    if ecc = 2 then quarantine q ptr s
    else
      let v := pool s q
      let s1 := if ecc = 1 then setPool s q { v with eccCorrected := satur 16 (v.eccCorrected + 1) } else s
      if (header s1 ptr).refs = 0 then reject q 0 r ptr s1 else f q s1

/-- SHARE (R362). -/
def shareBuffer (r ptr k ecc : Nat) (s : State) : State :=
  onBuffer r ptr ecc (fun q s =>
    let h := header s ptr
    if 4095 < h.refs + k then reject q 3 r ptr s else setHeader s ptr { h with refs := h.refs + k }) s

/-- GIVE (R362). -/
def giveBuffer (r ptr owner ecc : Nat) (s : State) : State :=
  onBuffer r ptr ecc (fun q s =>
    let h := header s ptr
    if h.owner ≠ r then reject q 1 r ptr s else setHeader s ptr { h with owner := owner }) s

/-- FREE (R362): the last reference belongs to the owner; the buffer is linked at the head, in a pool whose list is
CORRUPT only its header changes. [log 89 DEDUCED] -/
def freeBuffer (r ptr ecc : Nat) (s : State) : State :=
  onBuffer r ptr ecc (fun q s =>
    let h := header s ptr
    if 1 < h.refs then setHeader s ptr { h with refs := h.refs - 1 }
    else if h.owner ≠ r then reject q 1 r ptr s
    else
      let v := pool s q
      judgePool q (setHeader (setPool s q (if v.corrupt then v else { v with freed := ptr :: v.freed })) ptr {})) s

/-! ## One cycle -/

/-- FREE, SHARE or GIVE. -/
def performOp (o : BufferOp) (s : State) : State :=
  match o with
  | .share r ptr k ecc => shareBuffer r ptr k ecc s
  | .give r ptr owner ecc => giveBuffer r ptr owner ecc s
  | .free r ptr ecc => freeBuffer r ptr ecc s

/-- The rank of a FREE among those of its cycle: non-owners in ascending requester ID, then the owner; none for another operation
(R366). -/
def freeRank (s : State) (o : BufferOp) : Option Nat :=
  match o with
  | .free r ptr _ => some (if (header s ptr).owner = r then 256 + r else r)
  | _ => none

def insertFree (s : State) (o : BufferOp) : List BufferOp → List BufferOp
  | [] => [o]
  | x :: rest => if (freeRank s o).getD 0 < (freeRank s x).getD 0 then o :: x :: rest else x :: insertFree s o rest

/-- The operations of a cycle on buffers: the FREEs, then SHAREs and GIVEs (R364, R366, R367). -/
def runOps (s : State) : State :=
  let frees := (s.pool.opsDue.filter (fun o => (freeRank s o).isSome)).foldl (fun acc o => insertFree s o acc) []
  let others := s.pool.opsDue.filter (fun o => (freeRank s o).isNone)
  (frees ++ others).foldl (fun st o => performOp o st) { s with pool := { s.pool with opsDue := [] } }

/-- The place of a request in its pool's order: those not reached before, then ascending IDs from the one after the last served
(R365). -/
def turnOf (last : Nat) (a : AllocReq) : Nat := (if a.carried then 0 else 256) + (a.req.requester + 255 - last) % 256

def insertTurn (last : Nat) (a : AllocReq) : List AllocReq → List AllocReq
  | [] => [a]
  | x :: rest => if turnOf last a < turnOf last x then a :: x :: rest else x :: insertTurn last a rest

/-- The arbiter of pool `q` over its requests in order, at most four of them served: what goes up to another pool, and what is not
reached (R363, R365). [log 188 DEDUCED] -/
def arbitratePool (q : Nat) : Nat → List AllocReq → State → List (Nat × AllocReq) × List AllocReq × State
  | _, [], s => ([], [], s)
  | 0, l, s => ([], l.map (fun a => { a with carried := true }), s)
  | n + 1, a :: rest, s =>
    match judgeAlloc a.req.requester a.req.priority q a.listOk s with
    | (some ptr, s1) => arbitratePool q n rest (emit (.buffer a.req.requester 0 (some ptr)) s1)
    | (none, s1) =>
      match spillUp a.req.requester q s with
      | some up => let r := arbitratePool q (n + 1) rest (countSpillUp q s1); ((up, a) :: r.1, r.2)
      | none => arbitratePool q (n + 1) rest (holdAlloc a.req q s1)

/-- One pool's turn: `reqs` are the requests with the pool each has reached. -/
def poolTurn (acc : List (Nat × AllocReq) × State) (q : Nat) : List (Nat × AllocReq) × State :=
  let mine := (acc.1.filter (fun e => decide (e.1 = q))).map (fun e => e.2)
  let ordered := mine.foldl (fun l a => insertTurn (pool acc.2 q).lastServed a l) []
  let r := arbitratePool q 4 ordered acc.2
  (acc.1.filter (fun e => decide (e.1 ≠ q)) ++ r.1,
    { r.2.2 with pool := { r.2.2.pool with allocsDue := r.2.2.pool.allocsDue ++ r.2.1 } })

/-- The allocations of a cycle, class by class (R363, R365). -/
def runAllocs (s : State) : State :=
  ((List.range 16).foldl poolTurn (s.pool.allocsDue.map (fun a => (a.req.pool, a)),
    { s with pool := { s.pool with allocsDue := [] } })).2

/-- What the pool manager does at the end of a cycle (R364–R367, R370). -/
def runPools (s : State) : State := (List.range 16).foldl (fun st q => postLevels q st) (runAllocs (runOps s))

/-- Other operations of this cycle are waiting or still to come: an operation waits for its end (R364). -/
def poolAwaits (s : State) : Bool :=
  !s.pool.opsDue.isEmpty || !s.pool.allocsDue.isEmpty || s.pending.any (fun c => match c with
    | .alloc _ _ _ _ => true | .allocRetry _ _ _ => true | .share _ _ _ _ => true | .give _ _ _ _ => true | .free _ _ _ => true
    | .packetEgress _ _ _ _ => true | .packetIngress _ => true | .upstreamXgemFrame _ _ => true | .spillReadback _ => true
    | _ => false)

/-- An operation on a buffer: now, or in its place among those of the cycle (R364). -/
def takeOp (o : BufferOp) (s : State) : State :=
  if poolAwaits s then { s with pool := { s.pool with opsDue := s.pool.opsDue ++ [o] } } else performOp o s

/-- An allocation request: now, or in its place among the operations of the cycle (R364, R365). -/
def takeAlloc (h : HeldAlloc) (listOk : Bool) (s : State) : State :=
  if poolAwaits s then
    { s with pool := { s.pool with allocsDue := s.pool.allocsDue ++ [{ req := h, listOk := listOk, carried := false }] } }
  else presentAlloc h listOk s

end Sys2Proof.Machine
end

