-- ==== Sys2Proof/Machine/TableOps.lean ====
section
/-!
DEFINITION. Learn tables and the service table: hashing, lookup, insertion, eviction, removal, learning (R321–R331).
-/
namespace Sys2Proof.Machine

/-! ## Hashing -/

/-- Buckets of a learn key and of a service key (R321, R329). -/
def learnBucket (key : Nat) : Nat := crc32 (le 8 key) % 65536
def serviceBucket (key : Nat) : Nat := crc32 (le 16 key) % 65536

/-! ## One cycle -/

/-- An operation is about to write a table: what stood before the cycle is kept for the cycle's lookups (R335). -/
def noteTables (s : State) : State :=
  if s.pe.writtenAt = s.now + 1 then s
  else { s with pe := { s.pe with writtenAt := s.now + 1, learnedBefore := s.pe.learned, serviceBefore := s.pe.service } }

/-- What a packet's lookups of this cycle see: the tables as they stood before the cycle's writes (R335). -/
def lookupView (s : State) : State :=
  if s.pe.writtenAt = s.now + 1 then
    { s with pe := { s.pe with learned := s.pe.learnedBefore, service := s.pe.serviceBefore } }
  else s

/-- The learn entries that lookups have hit in this cycle (R327). -/
def hitsOf (s : State) : List Nat := if s.pe.hitsAt = s.now + 1 then s.pe.hitsNow else []

/-! ## Learn tables -/

def learnEntry (s : State) (p i : Nat) : Option LearnEntry := tget none (p * 262144 + i) s.pe.learned
def setLearn (s : State) (p i : Nat) (e : Option LearnEntry) : State :=
  { s with pe := { s.pe with learned := tset none (p * 262144 + i) e s.pe.learned } }

/-- MAC with DOMAIN as a learn key (R322). -/
def learnKey (mac : BitVec 48) (domain : Nat) : Nat := mac.toNat + domain * 2 ^ 48

/-- DATA of a learn entry (R322). -/
def learnData (e : LearnEntry) : Nat :=
  2 ^ 16 + bit e.isStatic 17 + bit e.hit 18 + e.age % 16 * 2 ^ 19 + bit e.parity 23 + e.queue * 2 ^ 32 +
  e.movedMs % 2 ^ 32 * 2 ^ 64

/-- The device millisecond count (R322). -/
def nowMs (s : State) : Nat := s.now / 1000000

/-- A learn entry from KEY and DATA as software gives them (R322, R333). -/
def learnOf (key data : Nat) (s : State) : LearnEntry :=
  { key := key % 2 ^ 60, queue := data / 2 ^ 32 % 65536, isStatic := Nat.testBit data 17, hit := Nat.testBit data 18,
    age := data / 2 ^ 19 % 16, parity := false, movedMs := nowMs s }

/-- The way of a bucket whose entry satisfies `p`. -/
def wayWhere (s : State) (p b : Nat) (f : Option LearnEntry → Bool) : Option Nat :=
  (List.range 4).find? (fun w => f (learnEntry s p (b * 4 + w)))

/-- A lookup: the index and entry of a key, a parity error being a miss (R326). -/
def findLearn (p key : Nat) (s : State) : Option (Nat × LearnEntry) :=
  let b := learnBucket key
  match wayWhere s p b (fun e => match e with | some x => decide (x.key = key) && !x.parity | none => false) with
  | some w => (learnEntry s p (b * 4 + w)).map (fun e => (b * 4 + w, e))
  | none => none

/-- The non-static way to evict (R325): the highest AGE and the lowest way, or one the generator draws. [log 15 DESIGN CHOICE] -/
def evictWay (p b : Nat) (s : State) : Option Nat :=
  let ways := (List.range 4).filter (fun w => match learnEntry s p (b * 4 + w) with | some e => !e.isStatic | none => false)
  if s.pe.learn.random then ways[Config.evictionDraw s.pe.evictions % max 1 ways.length]?
  else ways.foldl (fun best w =>
    let age (v : Nat) : Nat := match learnEntry s p (b * 4 + v) with | some e => e.age | none => 0
    match best with
    | none => some w
    | some v => if age v < age w then some w else best) none

/-- Where an entry goes: the way of its key, a free way, a way marked PARITY_ERROR, an evicted one (R325, R326). -/
def learnWay (p key : Nat) (s : State) : Option Nat :=
  let b := learnBucket key
  ((wayWhere s p b (fun e => match e with | some x => decide (x.key = key) | none => false)).or
    ((wayWhere s p b (fun e => e.isNone)).or
      ((wayWhere s p b (fun e => match e with | some x => x.parity | none => false)).or (evictWay p b s)))).map
    (fun w => b * 4 + w)

/-- Insert or replace by key: the index, or none when the bucket holds four static entries (R325, R333). -/
def insertLearn (p : Nat) (e : LearnEntry) (s : State) : Option Nat × State :=
  match learnWay p e.key s with
  | none => (none, s)
  | some i => (some i, { setLearn s p i (some e) with pe := { (setLearn s p i (some e)).pe with
      evictions := s.pe.evictions + 1 } })

/-! ## Service table -/

def serviceEntry (s : State) (i : Nat) : Option ServiceEntry := tget none i s.pe.service
def setService (s : State) (i : Nat) (e : Option ServiceEntry) : State :=
  { s with pe := { s.pe with service := tset none i e s.pe.service } }

/-- Overflow entries chained to a bucket, as (index, entry) (R329). -/
def chained (b : Nat) (s : State) : List (Nat × ServiceEntry) :=
  s.pe.service.filterMap (fun e => match e.2 with
    | some x => if 524288 ≤ e.1 ∧ serviceBucket x.key = b then some (e.1, x) else none
    | none => none)

/-- The way of an on-die bucket whose entry satisfies `f`. -/
def serviceWay (s : State) (b : Nat) (f : Option ServiceEntry → Bool) : Option Nat :=
  ((List.range 8).find? (fun w => f (serviceEntry s (b * 8 + w)))).map (fun w => b * 8 + w)

/-- The index of a key, on die or in the overflow region. -/
def serviceIndex (key : Nat) (s : State) : Option Nat :=
  (serviceWay s (serviceBucket key) (fun e => match e with | some x => decide (x.key = key) | none => false)).or
    (((chained (serviceBucket key) s).find? (fun e => decide (e.2.key = key))).map (fun e => e.1))

/-- A lookup: a parity error is a miss (R326). -/
def findService (key : Nat) (s : State) : Option (Nat × ServiceEntry) :=
  match serviceIndex key s with
  | none => none
  | some i => match serviceEntry s i with
    | some e => if e.parity then none else some (i, e)
    | none => none

/-- The lookup of a key consults an overflow entry (R347). -/
def consultsOverflow (key : Nat) (s : State) : Bool :=
  (serviceWay s (serviceBucket key) (fun e => match e with | some x => decide (x.key = key) | none => false)).isNone &&
  !(chained (serviceBucket key) s).isEmpty

/-- The lowest free overflow entry from `i` on. -/
def freeOverflow (s : State) : Nat → Nat → Nat
  | 0, i => i
  | n + 1, i => if (serviceEntry s i).isSome then freeOverflow s n (i + 1) else i

/-- Where an entry goes: its key's place, a free way, a way marked PARITY_ERROR, the overflow region (R326, R329). -/
def servicePlace (key : Nat) (s : State) : Option Nat :=
  let b := serviceBucket key
  ((serviceIndex key s).or ((serviceWay s b (fun e => e.isNone)).or
    (serviceWay s b (fun e => match e with | some x => x.parity | none => false)))).or
    (let i := freeOverflow s s.pe.service.length 524288
     if i < 8388608 then some i else none)

def insertService (key data : Nat) (s : State) : Option Nat × State :=
  match servicePlace key s with
  | none => (none, s)
  | some i => (some i, setService s i (some { key := key, data := data ||| 2 ^ 16, parity := false }))

/-- Kind of a service key, and its domain field (R330). -/
def serviceKind (key : Nat) : Nat := key % 16
def keyDomain (key : Nat) : Nat := key / 16 % 4096

/-- The domains that a service entry names (R330). -/
def serviceDomains (key data : Nat) : List Nat :=
  match serviceKind key with
  | 0 => [data % 4096] | 1 => [keyDomain key, data % 4096] | _ => [keyDomain key]

/-- Service keys of a classification, a bridge and a static forwarding entry (R330). -/
def classKey (port trib vlan : Nat) : Nat := port * 2 ^ 16 + trib * 2 ^ 32 + vlan * 2 ^ 37
def bridgeKey (domain : Nat) (mac : BitVec 48) : Nat := 1 + domain * 2 ^ 4 + mac.toNat * 2 ^ 16
def staticKey (domain : Nat) (mac : BitVec 48) : Nat := 2 + domain * 2 ^ 4 + mac.toNat * 2 ^ 16
def dataQueue (data : Nat) : Nat := data / 2 ^ 32 % 65536

/-! ## Parity -/

/-- A lookup's parity check fails at an entry: marked at first, always counted; source 0x2D0 + p at most once per
millisecond (R326, R350). [log 84 DEDUCED, 153 DEDUCED] -/
def parityError (p : Nat) (isService : Bool) (i : Nat) (s : State) : State :=
  let v := pipe s p
  let s1 := setPipe s p { v with parity := satur 32 (v.parity + 1) }
  let mark : Option State := if isService then
      (match serviceEntry s i with
        | some e => if e.parity then none else some (setService s1 i (some { e with parity := true }))
        | none => none)
    else (match learnEntry s p i with
        | some e => if e.parity then none else some (setLearn s1 p i (some { e with parity := true }))
        | none => none)
  match mark with
  | none => s1
  | some s2 =>
    let key := 0x160000 + p
    let s3 := addUnreported key 1 s2
    if due key 1000000 s3 then
      post (0x2D0 + p) .error (i + bit isService 23 + satur 20 (unreported key s3) * 2 ^ 24) (markPost key s3)
    else countOccurrence (0x2D0 + p) s3

/-! ## Learning -/

/-- Source 0x2C8 + p, at most once per second per kind: 0 move, 1 flap, 2 table full, 3 static conflict (R324, R350). -/
def learnEvent (p kind domain : Nat) (s : State) : State :=
  let key := 0x170000 + p * 4 + kind
  let s1 := addUnreported key 1 s
  if due key 1000000000 s1 then
    post (0x2C8 + p) .warning (kind + domain * 2 ^ 2 + satur 18 (unreported key s1) * 2 ^ 14) (markPost key s1)
  else s1

/-- A learn request in pipeline `p` (R324, R325). -/
def learnRequest (p : Nat) (src : BitVec 48) (domain q : Nat) (s : State) : State :=
  let key := learnKey src domain
  let v := pipe s p
  match findLearn p key s with
  | some (i, e) =>
    if e.isStatic then
      if e.queue = q then s
      else learnEvent p 3 domain (setPipe s p { v with staticConflicts := satur 32 (v.staticConflicts + 1) })
    else if e.queue = q then setLearn s p i (some { e with hit := true })
    else if (nowMs s + 2 ^ 32 - e.movedMs % 2 ^ 32) % 2 ^ 32 < s.pe.learn.moveHoldMs then
      learnEvent p 1 domain (setPipe s p { v with flaps := satur 32 (v.flaps + 1) })
    else learnEvent p 0 domain (count 0x033 p 1 (some domain) (setPipe
      (setLearn s p i (some { e with queue := q, movedMs := nowMs s, age := 0 })) p { v with moves := satur 32 (v.moves + 1) }))
  | none =>
    match insertLearn p { key := key, queue := q, isStatic := false, hit := false, age := 0, parity := false,
                          movedMs := nowMs s } s with
    | (some _, s1) => count 0x033 p 1 (some domain) s1
    | (none, s1) => learnEvent p 2 domain (setPipe s1 p { v with tableFull := satur 32 (v.tableFull + 1) })

/-- One aging pass over an entry (R327). -/
def ageEntry (limit : Nat) (e : LearnEntry) : Option LearnEntry :=
  if e.parity then none
  else if e.isStatic then some e
  else if e.hit then some { e with age := 0, hit := false }
  else if e.age + 1 < limit then some { e with age := e.age + 1 }
  else none

/-- AGE_SCAN of a learn table; an entry hit in this cycle keeps HIT and stays (R327). [log 86 DEDUCED] -/
def ageScan (p : Nat) (s : State) : State :=
  let hits := hitsOf s
  { s with pe := { s.pe with learned := tmap none (fun k e =>
      if k / 262144 = p ∧ hits.contains k = false then e.bind (ageEntry s.pe.learn.ageLimit) else e) s.pe.learned } }

/-- The aging passes that waited for the cycle's lookups (R327). -/
def runScans (s : State) : State :=
  s.pe.scansDue.foldl (fun st p => ageScan p st) { s with pe := { s.pe with scansDue := [] } }

/-- A learn request in the order of its cycle: the lower PORT first (R324). -/
def insertRequest (r : LearnReq) : List LearnReq → List LearnReq
  | [] => [r]
  | x :: rest => if r.port < x.port then r :: x :: rest else x :: insertRequest r rest

/-- The learn requests that waited for the end of the cycle commit (R324, R335). -/
def commitLearns (s : State) : State :=
  (s.pe.learnsDue.foldl (fun acc r => insertRequest r acc) []).foldl
    (fun st r => learnRequest r.pipeline r.src r.domain r.queue st) { s with pe := { s.pe with learnsDue := [] } }

end Sys2Proof.Machine
end

