-- ==== Sys2Proof/Machine/Grants.lean ====
section
/-!
DEFINITION. Allocation and port contexts, queue reports, the cooperative input and the bandwidth map (R171–R197).
-/
namespace Sys2Proof.Machine

/-! ## Context commands -/

/-- GUARANTEED_LIMIT_KBPS of a tree: as set, or 75 % of its upstream line rate (R179). -/
def guaranteedLimit (t : Nat) (s : State) : Nat :=
  let v := tree s t
  if v.guaranteedKbps = 0 then upLineKbps v.mode v.upRate * 3 / 4 else v.guaranteedKbps

/-- Fixed and assured rates over the allocations of a tree other than one (R177). -/
def admittedSum (t : Nat) (but : Option Nat) (s : State) : Nat :=
  ((s.tr.allocs.filter (fun e => e.2.present && decide (e.2.tree = t) && decide (some e.1 ≠ but))).map
    (fun e => e.2.fixed + e.2.assured)).foldl (· + ·) 0

/-- Further allocations of a tree and of one terminal (R171). -/
def furtherAllocs (t : Nat) (i : Option Nat) (s : State) : Nat :=
  (s.tr.allocs.filter (fun e => e.2.present && decide (32768 ≤ e.1) && decide (e.2.tree = t) &&
    (match i with | some n => decide (e.2.terminal = n) | none => true))).length
def furtherPorts (t : Nat) (i : Option Nat) (s : State) : Nat :=
  (s.tr.ports.filter (fun e => e.2.present && decide (32768 ≤ e.1) && decide (e.2.tree = t) &&
    (match i with | some n => decide (e.2.terminal = n) | none => true))).length

/-- The context index is one that this terminal may not use (R177, R181): another's context, or another's default. -/
def foreignCtx (ctx t i : Nat) (present : Bool) (ct ci : Nat) : Bool :=
  (present && !(decide (ct = t) && decide (ci = i))) || (decide (ctx < 32768) && decide (ctx ≠ t * 512 + i))

/-- The identifier lies in the range that R171 gives the context. -/
def idInRange (ctx i id lo hi : Nat) : Bool :=
  if ctx < 32768 then decide (id = i) else decide (lo ≤ id) && decide (id ≤ hi)

/-- The allocation with its new parameters; remainders are kept (R178). -/
def withParams (a : Alloc) (p : AllocP) (pins : List Nat) : Alloc :=
  { a with present := true, tree := p.tree.val, terminal := p.terminal.val, allocId := p.allocId, cls := p.cls.val,
           fixed := p.fixed, assured := p.assured, nonAssured := p.nonAssured, maximum := p.maximum, beWeight := p.beWeight,
           report := p.report, coop := p.coop, grantsPerFrame := p.grantsPerFrame, pins := pins }

/-- The pinned positions that a configuration keeps or finds (R193, R194). -/
def pinsFor (p : AllocP) (s : State) : Option (List Nat) :=
  if p.cls.val ≠ 0 then some []
  else
    let a := alloc s p.ctx.val
    let len := pinLength (withParams a p []) s
    let spans := pinnedSpans p.tree.val (some p.ctx.val) s
    let frame := treeFrame p.tree.val s
    if a.present && decide (a.cls = 0) && decide (a.pins.length = p.grantsPerFrame) &&
        a.pins.all (fun o => spanFree o len spans && decide (o + len ≤ frame)) then some a.pins
    else findPins frame len p.grantsPerFrame spans

/-- The session may act on an allocation of the terminal: it owns the tree, or, of a VF, the terminal's service domain
(R89, R109). -/
def ownsAlloc (h : Caller) (t i : Nat) (s : State) : Bool :=
  if isVf h.id.fn then (terminal s t i).admitted && ownsDomain h (terminal s t i).domain s else owns h kTree t s

/-- ALLOC_CONFIGURE (R177). [log 51 DEDUCED] -/
def execAllocConfigure (h : Caller) (p : AllocP) (s : State) : Host.Outcome State Fault Refusal :=
  perform 0x0400 none noCupola h (fun s =>
    let t := p.tree.val
    let i := p.terminal.val
    let a := alloc s p.ctx.val
    let sum := admittedSum t (some p.ctx.val) s + p.fixed + p.assured
    if !ownsAlloc h t i s then refuse 4 s
    else if s.tr.allocs.any (fun e => e.2.present && decide (e.2.tree = t) && decide (e.1 ≠ p.ctx.val) &&
        decide (e.2.allocId = p.allocId)) then refuse 0x400 s
    else if !(terminal s t i).admitted then refuse 0x401 s
    else if foreignCtx p.ctx.val t i a.present a.tree a.terminal ||
        (decide (p.ctx.val < 32768) && decide (p.allocId ≠ i)) then refuse 0x402 s
    else if !(tree s t).configured then refuse 0x409 s
    else if !p.wf || !idInRange p.ctx.val i p.allocId 1024 16383 then .hostError [(kAlloc, p.ctx.val)]
    else if !a.present && decide (32768 ≤ p.ctx.val) &&
        (decide (4096 ≤ furtherAllocs t none s) || decide (15 ≤ furtherAllocs t (some i) s)) then limitReply 0x403 s
    else if guaranteedLimit t s < sum ∧ admittedSum t none s < sum then limitReply 0x404 s
    else match pinsFor p s with
      | none => limitReply 0x405 s
      | some pins => okResult (pins.headD 0) (setAlloc (beforeChange s) p.ctx.val (withParams a p pins))) s

/-- ALLOC_REMOVE (R182). -/
def execAllocRemove (h : Caller) (t : Fin 64) (ctx : Fin 65536) (s : State) : Host.Outcome State Fault Refusal :=
  perform 0x0401 none noCupola h (fun s =>
    let a := alloc s ctx.val
    if !ownsAlloc h t.val a.terminal s then refuse 4 s
    else if ctx.val < 32768 then refuse 0x402 s
    else if !a.present || decide (a.tree ≠ t.val) then okay s
    else if (tree s t.val).enabled then .later ctx.val (setAlloc s ctx.val { a with removing := true })
    else okay (setAlloc (beforeChange s) ctx.val {})) s

/-- A port context of tree `t` (R180). -/
def portOf (t : Nat) (p : PortCtxP) : PortCtx :=
  { present := true, tree := t, terminal := p.terminal.val, portId := p.portId, down := p.down, up := p.up,
    encrypt := p.encrypt, downQueue := p.downQueue.val }

/-- PORT_CONFIGURE (R181). -/
def execPortConfigure (h : Caller) (p : PortCtxP) (s : State) : Host.Outcome State Fault Refusal :=
  perform 0x0402 none noCupola h (fun s =>
    let t := p.tree.val
    let i := p.terminal.val
    let c := portCtx s p.ctx.val
    if !owns h kTree t s then refuse 4 s
    else if !(terminal s t i).admitted then refuse 0x401 s
    else if s.tr.ports.any (fun e => e.2.present && decide (e.2.tree = t) && decide (e.1 ≠ p.ctx.val) &&
        decide (e.2.portId = p.portId)) then refuse 0x406 s
    else if foreignCtx p.ctx.val t i c.present c.tree c.terminal then refuse 0x407 s
    else if p.down && decide (queueDomain p.downQueue.val s ≠ some (terminal s t i).domain) then refuse 0x408 s
    else if !p.wf || !idInRange p.ctx.val i p.portId 1024 65534 then .hostError [(kPortCtx, p.ctx.val)]
    else if !c.present && decide (32768 ≤ p.ctx.val) &&
        (decide (16384 ≤ furtherPorts t none s) || decide (256 ≤ furtherPorts t (some i) s)) then limitReply 0x403 s
    else okay (setPortCtx (beforeChange s) p.ctx.val (portOf t p))) s

/-- PORT_REMOVE (R182). -/
def execPortRemove (h : Caller) (t : Fin 64) (ctx : Fin 131072) (s : State) : Host.Outcome State Fault Refusal :=
  perform 0x0403 none noCupola h (fun s =>
    if !owns h kTree t.val s then refuse 4 s
    else if ctx.val < 32768 then refuse 0x407 s
    else if (portCtx s ctx.val).tree = t.val then okay (setPortCtx (beforeChange s) ctx.val {})
    else okay s) s

/-- GRANT_POLICY_SET (R179). -/
def execGrantPolicySet (h : Caller) (t : Fin 64) (maxStructures guaranteedKbps : Nat) (s : State) :
    Host.Outcome State Fault Refusal :=
  perform 0x0404 none noCupola h (fun s =>
    let v := tree s t.val
    if !owns h kTree t.val s then refuse 4 s
    else if !v.configured then refuse 0x409 s
    else if (maxStructures ≠ 0 ∧ (maxStructures < 64 ∨ 1024 < maxStructures)) ∨ 2 ^ 32 ≤ guaranteedKbps then .hostError [(kTree, t.val)]
    else
      let s1 := setTree s t.val { v with maxStructures := if maxStructures = 0 then 1024 else maxStructures,
                                         guaranteedKbps := guaranteedKbps }
      if guaranteedLimit t.val s1 < admittedSum t.val none s then limitReply 0x404 s else okay s1) s

def allocStatus (a : Alloc) : List Byte :=
  fields 64 [(2, a.terminal), (2, a.allocId), (4, satur 32 a.demand), (8, a.granted), (8, a.received), (4, a.spoof),
    (4, a.unknownPort), (4, a.stale), (4, a.coopAccepted), (4, a.coopLate), (4, a.pins.headD 0)]

/-- ALLOC_STATUS (R183). -/
def execAllocStatus (h : Caller) (t : Fin 64) (ctx : Fin 65536) (s : State) : Host.Outcome State Fault Refusal :=
  perform 0x0405 none noCupola h (fun s =>
    let a := alloc s ctx.val
    if isVf h.id.fn && !ownsAlloc h t.val a.terminal s then refuse 4 s
    else if a.present && decide (a.tree = t.val) then okResp (allocStatus a) s else .done stNotPresent 0 0 [] s) s

/-- COOP_INPUT_CONFIGURE (R195). -/
def execCoopInputConfigure (h : Caller) (p : CoopP) (s : State) : Host.Outcome State Fault Refusal :=
  perform 0x0406 none noCupola h (fun s =>
    if !ownsDevice h s then refuse 4 s
    else if !p.wf then .hostError [(kDevice, 0)]
    else okay { s with tr := { s.tr with coop := { enable := p.enable, etherType := p.etherType,
                                                   laneMask := p.laneMask } } }) s

/-! ## Reports and announcements -/

/-- QUEUE_REPORT: the demand of the next map that closes; the burst is the one in its terminal's window, of the map that opened it
(R185, R186). -/
def execQueueReport (t : Fin 64) (ctx : Fin 65536) (bytes : Nat) (fecOk : Bool) (s : State) :
    Host.Outcome State Fault Refusal :=
  let a := alloc s ctx.val
  let k := (terminal s t.val a.terminal).windowMap
  if !fecOk || !a.present || decide (a.tree ≠ t.val) then .next s
  else .next (setAlloc s ctx.val { a with reported := bytes, reportMap := k,
                                          grants := a.grants.filter (fun g => decide (k < g.1)) })

/-- The lane positions of a client or fabric port (R196, R452, R468). -/
def portLanes (port : Nat) (s : State) : List Nat :=
  if isFabricPort port then [portLink port / 2]
  else if 0x80 ≤ port then (List.range (client s (port - 0x80)).width).map (fun i => port - 0x80 + i)
  else []

/-- The service domain into which the announcement's frame is classified (R196, R318). -/
def coopDomain (c : CoopFrame) (s : State) : Option Nat :=
  if isFabricPort c.port then some (c.tag.toNat % 4096)
  else (findService (classKey c.port 0 c.vlan) s).map (fun e => e.2.data % 4096)

/-- One entry of an announcement whose frame is of domain `d`; one that names a further context not present belongs to no tree.
[log 180 DESIGN CHOICE] -/
def coopEntry (d : Option Nat) (e : CoopEntry) (s : State) : State :=
  let a := alloc s e.ctx.val
  let ahead := (e.target + 65536 - (tree s a.tree).lastMap % 65536) % 65536
  if !a.present then (if e.ctx.val < 32768 then grantWarning (e.ctx.val / 512) 4 e.ctx.val s else s)
  else if !a.coop || decide (some (terminal s a.tree a.terminal).domain ≠ d) then grantWarning a.tree 4 e.ctx.val s
  else if ahead = 0 ∨ 64 < ahead then
    grantWarning a.tree 3 e.ctx.val (setAlloc s e.ctx.val { a with coopLate := satur 32 (a.coopLate + 1) })
  else setAlloc s e.ctx.val { a with coopAccepted := satur 32 (a.coopAccepted + 1),
                                     coops := ((tree s a.tree).lastMap + ahead, e.bytes) :: a.coops }

/-- VERSION and the entries of an announcement's payload: COUNT of them, 1–32, that are whole (R196). -/
def coopVersion (bs : List Byte) : Nat := (bs.headD 0).toNat
def coopEntries (bs : List Byte) : List CoopEntry :=
  (List.range (min 32 (min (bs.getD 1 0).toNat ((bs.length - 8) / 8)))).map (fun i =>
    let e := (bs.drop (8 + 8 * i)).take 8
    { ctx := Fin.ofNat 65536 (leNat (e.take 2)), target := leNat ((e.drop 2).take 2), bytes := leNat (e.drop 4) })

/-- COOP_ANNOUNCEMENT (R195, R196). -/
def execCoopAnnouncement (c : CoopFrame) (s : State) : Host.Outcome State Fault Refusal :=
  let k := s.tr.coop
  let lanes := portLanes c.port s
  if !k.enable || decide (c.etherType ≠ k.etherType) || decide (coopVersion c.payload ≠ 1) || !(portEnt s c.port).enabled ||
      lanes.isEmpty || !lanes.all (fun i => Nat.testBit k.laneMask i) then .next s
  else .next ((coopEntries c.payload).foldl (fun st e => coopEntry (coopDomain c s) e st) s)

/-! ## The map -/

/-- An allocation in the map under construction: shares of R176, demand of R185, `g1` what its pinned positions carry, `g2` to `g6`
what each pass of R187 has granted. -/
structure Claim where
  ctx : Nat
  a : Alloc
  fixed : Nat
  assured : Nat
  nonAssured : Nat
  maximum : Nat
  demand : Nat
  g1 : Nat := 0
  g2 : Nat := 0
  g3 : Nat := 0
  g5 : Nat := 0
  g6 : Nat := 0
  poll : Bool := false
deriving DecidableEq, Repr

/-- Bytes of the claim's structure outside its pinned positions. -/
def Claim.total (c : Claim) : Nat := c.g2 + c.g3 + c.g5 + c.g6
def Claim.placed (c : Claim) : Bool := decide (0 < c.total) || c.poll

/-- The terminal is granted anything at all (R160, R192): in O5, its profile set. [log 48 DEDUCED] -/
def grantable (t i : Nat) (s : State) : Bool :=
  decide ((terminal s t i).state = 4) && (profileOf s t (terminal s t i).profile).isSome

/-- Demand of an allocation for map k (R185, R196). -/
def demandFor (k : Nat) (a : Alloc) : Nat :=
  let given := (a.grants.map (fun g => g.2)).foldl (· + ·) 0
  (a.coops.filter (fun c => decide (c.1 = k))).foldl (fun d c => max d c.2) (a.reported - given)

/-- Assured shortfalls carried into map k: those of the last 16 frames (R187). -/
def carriedInto (k : Nat) (a : Alloc) : Nat :=
  ((a.carry.filter (fun c => decide (k ≤ c.1 + 16))).map (fun c => c.2)).foldl (· + ·) 0

/-- Shortfalls left when `n` bytes of them have been made good, the oldest first (R187). -/
def payCarry : Nat → List (Nat × Nat) → List (Nat × Nat)
  | _, [] => []
  | n, (k, x) :: r => if x ≤ n then payCarry (n - x) r else (k, x - n) :: r

/-- The claims on map k. -/
def claims (t k : Nat) (s : State) : List Claim :=
  (s.tr.allocs.filter (fun e => e.2.present && decide (e.2.tree = t) && !e.2.removing &&
      grantable t e.2.terminal s)).map (fun e =>
    { ctx := e.1, a := e.2, fixed := (e.2.fixed + e.2.remFixed) / 64, assured := (e.2.assured + e.2.remAssured) / 64,
      nonAssured := (e.2.nonAssured + e.2.remNon) / 64, maximum := (e.2.maximum + e.2.remMax) / 64,
      demand := demandFor k e.2 })

/-- Order of placement: what the last map could not hold, fixed grants, then class, then context (R189, R190, R193). -/
def placeKey (c : Claim) : Nat :=
  (if c.a.moved.isSome then 0 else if 0 < c.g2 then 262144 else 524288) + c.a.cls * 65536 + c.ctx
def insertClaim (c : Claim) : List Claim → List Claim
  | [] => [c]
  | x :: r => if placeKey c < placeKey x then c :: x :: r else x :: insertClaim c r
def placeOrder (cs : List Claim) : List Claim := cs.foldl (fun acc c => insertClaim c acc) []

/-- Bursts of a placement order: neighbours of one terminal share one (R188). -/
def groupBursts : List Claim → List (List Claim)
  | [] => []
  | c :: r =>
    match groupBursts r with
    | (x :: xs) :: bs => if x.a.terminal = c.a.terminal then (c :: x :: xs) :: bs else [c] :: (x :: xs) :: bs
    | bs => [c] :: bs

def burstBytes (b : List Claim) : Nat := (b.map Claim.total).foldl (· + ·) 0
def burstReports (b : List Claim) : Nat := (b.filter (fun c => c.a.report)).length

/-- Symbols of a burst. -/
def costOf (t : Nat) (s : State) (b : List Claim) : Nat :=
  match b with
  | [] => 0
  | c :: _ => burstSymbols t c.a.terminal (burstBytes b) (burstReports b) s

/-- Symbols that the claims of classes 1–3 need (R188). -/
def symbolsNeeded (t : Nat) (s : State) (cs : List Claim) : Nat :=
  ((groupBursts (placeOrder (cs.filter Claim.placed))).map (costOf t s)).foldl (· + ·) 0

/-- The largest number below lo + 2ⁿ that `ok` accepts, `ok` holding up to some number and not beyond. [log 49 DEDUCED] -/
def searchMax (ok : Nat → Bool) : Nat → Nat → Nat
  | 0, lo => lo
  | n + 1, lo => if ok (lo + 2 ^ n) then searchMax ok n (lo + 2 ^ n) else searchMax ok n lo

/-- A pass shared in proportion to weights up to caps: all caps where they fit, else the largest common factor that fits
(R187). `put` writes a claim's grant. -/
def sharePass (mode : Nat) (fits : List Claim → Bool) (weight cap : Claim → Nat) (put : Claim → Nat → Claim)
    (cs : List Claim) : List Claim :=
  let full := cs.map (fun c => put c (roundGrant mode (cap c)))
  if fits full then full
  else
    let at_ (m : Nat) := cs.map (fun c => put c (roundGrant mode (min (cap c) (weight c * m / 2 ^ 20))))
    at_ (searchMax (fun m => fits (at_ m)) 50 0)

/-- Report poll interval of a class, in frames (R193). -/
def pollInterval (cls : Nat) : Nat := match cls with | 0 => 1 | 1 => 1 | 2 => 4 | _ => 16

/-- A report poll is due in map k (R187). -/
def pollDue (k : Nat) (c : Claim) : Bool :=
  c.a.report && decide (c.demand = 0) && decide (c.g1 + c.total = 0) &&
  (match c.a.lastPoll with | none => true | some p => decide (p + pollInterval c.a.cls ≤ k))

/-- Polls placed one by one while they fit (R187). -/
def pollPass (k : Nat) (fits : List Claim → Bool) : List Claim → List Claim → List Claim
  | done, [] => done
  | done, c :: r =>
    let d := { c with poll := true }
    if pollDue k c && fits (done ++ d :: r) then pollPass k fits (done ++ [d]) r else pollPass k fits (done ++ [c]) r

/-- The deepest level of the pools that the tree's ingress pipeline maps to (R371). -/
def ingressLevel (t : Nat) (s : State) : Nat :=
  match (portEnt s t).pipeline with
  | none => 0
  | some p => (List.range 4).foldl (fun m c => max m (pool s (mappedPool p c s)).level) 0

/-- Passes 1 and 2 of one claim: the pinned share of class 0, the fixed share of the others, whatever the demand, with a structure
that the last map could not hold; demand is reduced by it (R187, R190). -/
def fixedPass (mode : Nat) (c : Claim) : Claim :=
  let share := min c.fixed c.maximum
  let held := c.a.moved.getD 0
  let g1 := if c.a.cls = 0 then (pinShares mode share c.a.pins.length).foldl (· + ·) 0 else 0
  let g2 := held + (if c.a.cls = 0 then 0 else roundGrant mode (min share (c.maximum - held)))
  { c with g1 := g1, g2 := g2, demand := c.demand - (g1 + g2), poll := decide (c.a.moved = some 0) }

/-- What MAXIMUM still allows the claim (R187). -/
def Claim.room (c : Claim) : Nat := c.maximum - (c.g1 + c.total)

/-- Passes 1 to 6 (R187); at pool level 1 pass 6 is omitted, from level 2 pass 5 as well (R371). -/
def fillPasses (level k mode : Nat) (fits : List Claim → Bool) (cs : List Claim) : List Claim :=
  let c2 := cs.map (fixedPass mode)
  let c3 := sharePass mode fits (fun c => c.assured)
    (fun c => min c.demand (min (c.assured + carriedInto k c.a) c.room)) (fun c g => { c with g3 := g }) c2
  let c4 := pollPass k fits [] c3
  let c5 := if 2 ≤ level then c4 else sharePass mode fits (fun c => c.a.nonAssured)
    (fun c => min (c.demand - c.g3) (min c.nonAssured c.room)) (fun c g => { c with g5 := g }) c4
  if 1 ≤ level then c5 else sharePass mode fits (fun c => c.a.beWeight)
    (fun c => if c.a.beWeight = 0 then 0 else min (c.demand - c.g3 - c.g5) c.room) (fun c g => { c with g6 := g }) c5

/-- Take up to `n` bytes of one pass away from a list of claims, the first first; with what is still to be taken. -/
def takePass (get : Claim → Nat) (put : Claim → Nat → Claim) : Nat → List Claim → List Claim × Nat
  | n, [] => ([], n)
  | n, c :: r =>
    let x := min n (get c)
    let rest := takePass get put (n - x) r
    (put c (get c - x) :: rest.1, rest.2)

/-- Shorten a burst to at most `bytes`: from the allocations granted last in pass order, best effort before non-assured before
assured, fixed bytes never (R189). -/
def shortenBurst (mode bytes : Nat) (b : List Claim) : List Claim :=
  let r6 := takePass (fun c => c.g6) (fun c g => { c with g6 := roundGrant mode g }) (burstBytes b - bytes) b.reverse
  let r5 := takePass (fun c => c.g5) (fun c g => { c with g5 := roundGrant mode g }) r6.2 r6.1
  let r3 := takePass (fun c => c.g3) (fun c g => { c with g3 := roundGrant mode g }) r5.2 r5.1
  r3.1.reverse

/-- The start of a burst of `len` symbols from `p` on, past the pinned bursts it would overlap (R189). -/
def pastPins (spans : List (Nat × Nat)) (p len : Nat) : Nat :=
  spans.foldl (fun q x => if q < x.1 + x.2 ∧ x.1 < q + len then x.1 + x.2 else q) p

/-- Place the bursts in order from symbol `p`: each with its start, shortened at the end of the frame, left out when
nothing remains (R189). -/
def placeBursts (t mode frame : Nat) (s : State) (spans : List (Nat × Nat)) : Nat → List (List Claim) →
    List (Nat × List Claim)
  | _, [] => []
  | p, b :: r =>
    let len := costOf t s b
    let q := pastPins spans p len
    if q + len ≤ frame then (q, b) :: placeBursts t mode frame s spans (q + len) r
    else
      match b with
      | [] => placeBursts t mode frame s spans p r
      | c :: _ =>
        let fit := searchMax (fun n => decide (q + burstSymbols t c.a.terminal n (burstReports b) s ≤ frame)) 28 0
        let b1 := (shortenBurst mode fit b).filter Claim.placed
        if burstBytes b1 = 0 ∨ frame < q + costOf t s b1 then placeBursts t mode frame s spans p r
        else (q, b1) :: placeBursts t mode frame s spans (q + costOf t s b1) r

/-- Keep the first `n` structures; the others move to the next map (R190). [log 52 DEDUCED] -/
def limitStructures : Nat → List (Nat × List Claim) → List (Nat × List Claim) × List Claim
  | _, [] => ([], [])
  | n, (p, b) :: r =>
    let rest := limitStructures (n - b.length) r
    (if n = 0 then rest.1 else (p, b.take n) :: rest.1, b.drop n ++ rest.2)

/-- What map k leaves with an allocation: remainders, grants since the report, shortfalls carried and made good, counts (R176,
R183, R185, R187, R190). `g` is what the map grants it, `got3` what pass 3 gave, `moved` the bytes of a structure that the map
could not hold. -/
def settleAlloc (k : Nat) (c : Claim) (g got3 : Nat) (polled : Bool) (moved : Option Nat) : Alloc :=
  let a := c.a
  let due := min (demandFor k a - (c.g1 + c.g2)) c.assured
  { a with
    remFixed := (a.fixed + a.remFixed) % 64, remAssured := (a.assured + a.remAssured) % 64,
    remNon := (a.nonAssured + a.remNon) % 64, remMax := (a.maximum + a.remMax) % 64,
    demand := demandFor k a, granted := satur 64 (a.granted + g),
    grants := if g = 0 then a.grants else a.grants ++ [(k, g)],
    coops := a.coops.filter (fun x => decide (k < x.1)),
    carry := payCarry (got3 - due) (a.carry.filter (fun x => decide (k < x.1 + 16))) ++
      (if due ≤ got3 then [] else [(k, due - got3)]),
    moved := moved,
    lastPoll := if polled || decide (0 < g) then some k else a.lastPoll }

/-- Insert a grant in order of start. -/
def insertGrant (x : Nat × Nat × Nat) : List (Nat × Nat × Nat) → List (Nat × Nat × Nat)
  | [] => [x]
  | y :: r => if x.1 < y.1 then x :: y :: r else y :: insertGrant x r

/-- The pinned grants of the map as (start, context, bytes), in order of start (R187, R194). -/
def pinnedGrants (mode : Nat) (cs : List Claim) : List (Nat × Nat × Nat) :=
  ((cs.filter (fun c => decide (c.a.cls = 0))).flatMap (fun c =>
    (c.a.pins.zip (pinShares mode (min c.fixed c.maximum) c.a.pins.length)).map (fun x => (x.1, c.ctx, x.2)))).foldl
    (fun acc x => insertGrant x acc) []

/-- Bytes that a context has in a list of pinned grants. -/
def pinnedBytes (ctx : Nat) (gs : List (Nat × Nat × Nat)) : Nat :=
  ((gs.filter (fun x => decide (x.2.1 = ctx))).map (fun x => x.2.2)).foldl (· + ·) 0

/-- A claim's grant in the placed bursts. -/
def placedClaim (bursts : List (Nat × List Claim)) (ctx : Nat) : Option Claim :=
  (bursts.flatMap (fun b => b.2)).find? (fun c => decide (c.ctx = ctx))

/-- The grants of one map: pinned ones, the other bursts, and the structures that it cannot hold, pinned and other (R190). -/
structure Plan where
  pins : List (Nat × Nat × Nat) := []
  bursts : List (Nat × List Claim) := []
  latePins : List (Nat × Nat × Nat) := []
  late : List Claim := []

/-- The bytes of a context's structures that move to the next map, with what it still holds of an older one (R190). -/
def Plan.moves (p : Plan) (c : Claim) : Option Nat :=
  let pinned := pinnedBytes c.ctx p.latePins
  match p.late.find? (fun x => decide (x.ctx = c.ctx)), placedClaim p.bursts c.ctx with
  | some x, _ => some (x.total + pinned)
  | none, some _ => if p.latePins.any (fun x => decide (x.2.1 = c.ctx)) then some pinned else none
  | none, none => if p.latePins.any (fun x => decide (x.2.1 = c.ctx)) then some (c.a.moved.getD 0 + pinned) else c.a.moved

/-- Write a finished claim back, counting its bytes (R543). -/
def finishClaim (k mode : Nat) (p : Plan) (c0 : Claim) (s : State) : State :=
  let c := fixedPass mode c0
  let g1 := pinnedBytes c.ctx p.pins
  let moved := p.moves c
  match placedClaim p.bursts c.ctx with
  | some x => count 0x060 c.ctx (g1 + x.total) none (setAlloc s c.ctx
      (settleAlloc k { c with g2 := x.g2 } (g1 + x.total) x.g3 x.poll moved))
  | none =>
    let got3 := match p.late.find? (fun x => decide (x.ctx = c.ctx)) with | some x => x.g3 | none => 0
    count 0x060 c.ctx g1 none (setAlloc s c.ctx (settleAlloc k { c with g2 := 0 } g1 got3 false moved))

/-- The superframe of the map that closes next, 10 µs before its frame (R184); before the tree's first frame, that of the
frame to come on the time base's grid (R403). [log 47 DEDUCED] -/
def nextMap (t : Nat) (s : State) : Nat :=
  let v := tree s t
  if v.started then (v.superframe + 1) % 2 ^ 51
  else frameAt (((timeBase s v.timeBase).value + 10000 * unitNs) % timeModulus)

/-- Contexts being removed get no grant in this map, and are gone (R182). -/
def finishRemovals (t : Nat) (s : State) : State :=
  (s.tr.allocs.filter (fun e => e.2.present && decide (e.2.tree = t) && e.2.removing)).foldl
    (fun st e => completeRunning 0x0401 e.1 stOk 0 0 [] (setAlloc (beforeChange st) e.1 {})) s

/-- Quiet windows shorten by one frame (R161). -/
def passQuiet (frame : Nat) (qs : List Quiet) : List Quiet :=
  (qs.filter (fun q => decide (frame < q.start + q.left))).map (fun q => { start := 0, left := q.start + q.left - frame })

/-- Where grants other than pinned ones may begin in the frame (R191). -/
def quietEnd (frame : Nat) (qs : List Quiet) : Nat := qs.foldl (fun m q => max m (min frame (q.start + q.left))) 0

/-- Map k of the tree: passes 1–6, placement, structure limit; a rogue probe leaves it empty (R187–R192). -/
def buildMap (t k : Nat) (cs : List Claim) (s : State) : Plan :=
  let v := tree s t
  if probing v then {}
  else
    let frame := treeFrame t s
    let base := quietEnd frame v.quiet
    let spans := pinnedSpans t none s
    let pinned := ((spans.filter (fun x => decide (base ≤ x.1))).map (fun x => x.2)).foldl (· + ·) 0
    let fits (l : List Claim) : Bool := decide (symbolsNeeded t s l + pinned + base ≤ frame)
    let filled := if frame ≤ base then [] else fillPasses (ingressLevel t s) k v.mode fits cs
    let pins := pinnedGrants v.mode cs
    let (bursts, late) := limitStructures (v.maxStructures - pins.length)
      (placeBursts t v.mode frame s spans base (groupBursts (placeOrder (filled.filter Claim.placed))))
    { pins := pins.take v.maxStructures, latePins := pins.drop v.maxStructures, bursts := bursts, late := late }

/-- The windows that the grants of map k open (R139, R145, R185). -/
def windowsOf (k : Nat) (p : Plan) (s : State) : List Granted :=
  p.pins.map (fun x => { terminal := (alloc s x.2.1).terminal, ranging := false, superframe := k, ctxs := [x.2.1], start := x.1 }) ++
  p.bursts.map (fun b => { terminal := (match b.2 with | c :: _ => c.a.terminal | [] => 0), ranging := false, superframe := k,
                           ctxs := b.2.map (fun c => c.ctx), start := b.1 })

/-- The map for the next downstream frame closes (R184–R193); a duty-cycled tree is awake for it (R137). -/
def closeMap (t : Nat) (s0 : State) : State :=
  let s := if (tree s0 t).duty then moveCup t .active 0 s0 else s0
  let v := tree s t
  let k := nextMap t s
  let cs := claims t k s
  let p := buildMap t k cs s
  let s1 := cs.foldl (fun st c => finishClaim k v.mode p c st) s
  let s2 := (p.late.map (fun c => c.ctx) ++ p.latePins.map (fun x => x.2.1)).foldl (fun st c => grantWarning t 2 c st) s1
  let w := tree s2 t
  let grants := p.pins ++ p.bursts.flatMap (fun b => b.2.map (fun c => (b.1, c.ctx, c.total)))
  let s3 := finishRemovals t (setTree s2 t { w with
    maps := ((k, grants) :: w.maps).take 7, quiet := passQuiet (treeFrame t s) w.quiet, scheduled := w.scheduled ++ windowsOf k p s, lastMap := k, closeDue := false })
  let s4 := emit (.map t k grants) s3
  if protConfigured t s then sendImage t k (setMember s4 t { member s4 t with mapAt := some s.now, lastImage := k }) else s4

/-- A commit, a report or an announcement of this cycle counts as arrived at a map close of the cycle (R41, R178, R185, R196). -/
def mapAwaits (t : Nat) (s : State) : Bool :=
  s.pending.any (fun c => match c with
    | .allocConfigure _ p => decide (p.tree.val = t)
    | .queueReport u _ _ _ => decide (u.val = t)
    | .coopAnnouncement _ => true
    | _ => false)

/-- MAP_CLOSE, 10 µs before each frame of an enabled tree that transmits (R184). -/
def execMapClose (t : Fin 64) (s : State) : Host.Outcome State Fault Refusal :=
  if !(tree s t.val).enabled || !protTransmits t.val s then .next s
  else if mapAwaits t.val s then .next (setTree s t.val { tree s t.val with closeDue := true })
  else .next (closeMap t.val s)

/-- The maps that close at the end of the cycle. -/
def closeDueMaps (s : State) : State :=
  (s.tr.trees.filter (fun e => e.2.closeDue)).foldl (fun st e => closeMap e.1 st) s

end Sys2Proof.Machine
end

