-- ==== Sys2Proof/Machine/SdFec.lean ====
section
/-!
DEFINITION. The soft-decision FEC: the outer BCH code, the inner LDPC code, and the placement of OTUCn bits in codewords
(R224–R228).
-/
namespace Sys2Proof.Machine

/-! ## GF(2¹¹) -/

/-- Multiplication by α (R224). -/
def timesAlpha (a : Nat) : Nat := if 1024 ≤ a then (a * 2) ^^^ 0x805 else a * 2

/-- Product in GF(2¹¹), by the bits of `b` from the lowest. -/
def gfMulFrom : Nat → Nat → Nat → Nat
  | 0, _, _ => 0
  | n + 1, a, b => (if b % 2 = 1 then a else 0) ^^^ gfMulFrom n (timesAlpha a) (b / 2)
def gfMul (a b : Nat) : Nat := gfMulFrom 11 a b

/-- αⁿ. -/
def alphaPow (n : Nat) : Nat := (List.range (n % 2047)).foldl (fun a _ => timesAlpha a) 1

/-- aⁿ by squaring. -/
def gfPow (a : Nat) : Nat → Nat → Nat
  | 0, _ => 1
  | f + 1, n => if n = 0 then 1 else gfMul (if n % 2 = 1 then a else 1) (gfPow (gfMul a a) f (n / 2))

/-- 1/a. -/
def gfInv (a : Nat) : Nat := gfPow a 11 2046

/-- Value of a polynomial, coefficients from the constant on. -/
def gfEval (cs : List Nat) (x : Nat) : Nat := cs.foldr (fun c acc => c ^^^ gfMul acc x) 0

/-! ## The outer code (R224) -/

/-- A polynomial times (x + r). -/
def timesRoot (cs : List Nat) (r : Nat) : List Nat :=
  (List.range (cs.length + 1)).map (fun i => (if i = 0 then 0 else cs.getD (i - 1) 0) ^^^ gfMul r (cs.getD i 0))

/-- The minimal polynomial of αⁱ for i in 1, 3, 5, 7, whose 11 conjugates differ, times `cs`. -/
def timesMinimal (cs : List Nat) (i : Nat) : List Nat :=
  (List.range 11).foldl (fun acc j => timesRoot acc (alphaPow (i * 2 ^ j))) cs

/-- The generator polynomial, of degree 44: the four minimal polynomials have no root in common. -/
def bchGenerator : List Nat := [1, 3, 5, 7].foldl timesMinimal [1]

/-- The generator without its leading term, bit i the coefficient of xⁱ. -/
def bchTaps : Nat := ((List.range 44).map (fun i => bchGenerator.getD i 0 * 2 ^ i)).foldl (· + ·) 0

def bchInfo : Nat := 1767
def bchLength : Nat := 1811

/-- The 44 parity bits of information bits, the first to be sent first. -/
def bchParity (info : List Bool) : List Bool :=
  let taps := bchTaps
  let r := info.foldl (fun r b =>
    let fb := decide (r / 2 ^ 43 % 2 = 1) != b
    (r * 2 % 2 ^ 44) ^^^ (if fb then taps else 0)) 0
  (List.range 44).map (fun i => Nat.testBit r (43 - i))

/-- A systematic codeword. -/
def bchEncode (info : List Bool) : List Bool := info ++ bchParity info

/-- Syndrome j of a received word, whose first bit is the coefficient of the highest power. -/
def bchSyndrome (word : List Bool) (j : Nat) : Nat :=
  let a := alphaPow j
  word.foldl (fun acc b => gfMul acc a ^^^ (if b then 1 else 0)) 0

/-- The state of the search for the error locator. -/
structure Locator where
  c : List Nat := [1]
  b : List Nat := [1]
  l : Nat := 0
  m : Nat := 1
  d : Nat := 1

/-- One step of the search with syndrome number `n` (from 0). -/
def locatorStep (syn : List Nat) (k : Locator) (n : Nat) : Locator :=
  let d := (List.range (k.l + 1)).foldl (fun a i => a ^^^ gfMul (k.c.getD i 0) (syn.getD (n - i) 0)) 0
  if d = 0 then { k with m := k.m + 1 }
  else
    let f := gfMul d (gfInv k.d)
    let shifted := List.replicate k.m 0 ++ k.b.map (gfMul f)
    let c := (List.range (max k.c.length shifted.length)).map (fun i => k.c.getD i 0 ^^^ shifted.getD i 0)
    if 2 * k.l ≤ n then { c := c, b := k.c, l := n + 1 - k.l, m := 1, d := d }
    else { k with c := c, m := k.m + 1 }

/-- The positions of at most four errors in a word of 1,811 bits, none where there is no such set (R224). -/
def bchErrors (word : List Bool) : Option (List Nat) :=
  let syn := (List.range 8).map (fun j => bchSyndrome word (j + 1))
  if syn.all (fun x => decide (x = 0)) then some []
  else
    let k := (List.range 8).foldl (locatorStep syn) {}
    let hits := (List.range bchLength).filter (fun i => decide (gfEval k.c (alphaPow (2047 - (bchLength - 1 - i))) = 0))
    if k.l ≤ 4 ∧ hits.length = k.l then some hits else none

/-- What the outer decoder passes on of a word: its information bits, and whether it could correct them; an uncorrectable word's
pass uncorrected and are marked errored (R228). -/
def bchDecode (word : List Bool) : List Bool × Bool :=
  match bchErrors word with
  | some es => (((word.zip (List.range word.length)).map (fun x => x.1 != es.contains x.2)).take bchInfo, true)
  | none => (word.take bchInfo, false)

/-! ## The inner code (R225) -/

def ldpcInfo : Nat := 57952
def ldpcParity : Nat := 7244
def ldpcLength : Nat := 65196

/-- The information bits of row `k` of Hᵢ. -/
def ldpcRow (k : Nat) : List Nat :=
  let i := k / 1811
  let a := k % 1811
  (List.range 32).map (fun j => j * 1811 + (a + i * j % 1811) % 1811)

/-- Row `k` of Hᵢ times the information. -/
def ldpcRowSum (info : Array Bool) (k : Nat) : Bool := (ldpcRow k).foldl (fun a i => a != info.getD i false) false

/-- The parity bits: each the one before it plus its row's sum. -/
def ldpcEncode (info : List Bool) : List Bool :=
  let v := info.toArray
  let p := (List.range ldpcParity).foldl (fun (acc : List Bool × Bool) k =>
    let b := acc.2 != ldpcRowSum v k
    (b :: acc.1, b)) ([], false)
  info ++ p.1.reverse

/-- The bits that check `k` of H takes in: its row of Hᵢ, and its parity bit with the one before. -/
def ldpcCheck (k : Nat) : List Nat := ldpcRow k ++ (if k = 0 then [ldpcInfo] else [ldpcInfo + k - 1, ldpcInfo + k])

/-- Every check holds. -/
def ldpcOk (word : Array Bool) : Bool :=
  (List.range ldpcParity).all (fun k => !(ldpcCheck k).foldl (fun a i => a != word.getD i false) false)

/-- Soft values of the bits, positive for 0, and the messages of each check from the iteration before (R227). -/
structure Soft where
  bits : Array Int
  msgs : Array (List Int)

/-- The min-sum message to each bit of a check from what the other bits say. -/
def minSum (ext : List Int) : List Int :=
  (List.range ext.length).map (fun i =>
    let others := ext.eraseIdx i
    let mag := (others.map Int.natAbs).foldl min (others.headD 0).natAbs
    if (others.filter (fun x => decide (x < 0))).length % 2 = 1 then -(mag : Int) else (mag : Int))

/-- Check `k` updates its bits. -/
def checkUpdate (v : Soft) (k : Nat) : Soft :=
  let idx := ldpcCheck k
  let old := v.msgs.getD k []
  let ext := (idx.zip (List.range idx.length)).map (fun x => v.bits.getD x.1 0 - old.getD x.2 0)
  let new := minSum ext
  { bits := ((idx.zip ext).zip new).foldl (fun b x => b.setIfInBounds x.1.1 (x.1.2 + x.2)) v.bits,
    msgs := v.msgs.setIfInBounds k new }

def hardBits (v : Soft) : Array Bool := v.bits.map (fun x => decide (x < 0))

/-- Layered min-sum, one layer for each row of blocks: at most `n` more iterations, stopped early on a zero syndrome; with the
iterations it took (R227). -/
def minSumIterate : Nat → Nat → Soft → Soft × Nat
  | 0, done, v => (v, done)
  | n + 1, done, v =>
    if ldpcOk (hardBits v) then (v, done)
    else minSumIterate n (done + 1) ((List.range ldpcParity).foldl checkUpdate v)

/-- A received codeword's bits after at most 16 iterations, the iterations, and whether its syndrome is zero (R227, R243). -/
def ldpcDecode (soft : List Int) : List Bool × Nat × Bool :=
  let r := minSumIterate 16 0 { bits := soft.toArray, msgs := Array.replicate ldpcParity [] }
  ((hardBits r.1).toList, r.2, ldpcOk (hardBits r.1))

/-! ## Placement (R226, R228) -/

/-- Lists of `n` bits each. -/
def chunks (n : Nat) : Nat → List Bool → List (List Bool)
  | 0, _ => []
  | k + 1, l => l.take n :: chunks n k (l.drop n)

/-- One LDPC codeword of 56,544 bits of the OTUCn stream, in transmission order, BCH codeword 0 first. -/
def fecEncode (otu : List Bool) : List Bool := ldpcEncode ((chunks bchInfo 32 otu).flatMap bchEncode)

/-- What a received LDPC codeword gives: its 56,544 bits, each with the mark that its outer codeword was uncorrectable, and the
counts of R243. -/
structure FecResult where
  bits : List (Bool × Bool)
  iterations : Nat
  ldpcFailed : Bool
  bchCorrected : Nat
  bchFailed : Nat

def fecDecode (soft : List Int) : FecResult :=
  let r := ldpcDecode soft
  let words := chunks bchLength 32 (r.1.take ldpcInfo)
  let outs := words.map bchDecode
  { bits := outs.flatMap (fun o => o.1.map (fun b => (b, !o.2))), iterations := r.2.1, ldpcFailed := !r.2.2,
    bchCorrected := (words.filter (fun w => match bchErrors w with | some (_ :: _) => true | _ => false)).length,
    bchFailed := (outs.filter (fun o => !o.2)).length }

end Sys2Proof.Machine
end

