-- ==== Sys2Proof/Machine/Spectrum.lean ====
section
/-!
DEFINITION. Line rates and formats, the transmit spectrum and its mask, predistortion (R210–R217, R229).
-/
namespace Sys2Proof.Machine

/-! ## Rates -/

/-- 20 × H of R210. -/
def entropyX20 (p : LineP) : Nat := match p.modulation with | 0 => 40 | 1 => 80 | _ => p.entropyX20

/-- 62.320447 GBd × n × 20, in kBd: the symbol rate is this over 20 × H (R211). [log 55 DEDUCED] -/
def rateNumerator (p : LineP) : Nat := 62320447 * p.rate * 20

/-- The symbol rate as a fraction in kBd (R211, R238). [log 62 DEDUCED] -/
def symbolRate (p : LineP) : Nat × Nat :=
  if p.mode.val = 1 then (59843750, 1) else (rateNumerator p, entropyX20 p)

/-- The symbol rate in kBd, rounded to nearest (R240). -/
def symbolKbd (p : LineP) : Nat := let r := symbolRate p; (2 * r.1 + r.2) / (2 * r.2)

/-- 60 ≤ B ≤ 240 GBd (R212). -/
def rateValid (p : LineP) : Bool :=
  let r := symbolRate p
  decide (p.mode.val = 1) || (decide (60000000 * r.2 ≤ r.1) && decide (r.1 ≤ 240000000 * r.2))

/-- B × (1 + β) ≤ W − 3.0 GHz (R216). -/
def fitsSlot (p : LineP) : Bool :=
  let r := symbolRate p
  decide (r.1 * (100 + p.rolloff) ≤ (12500000 * p.slotM - 3000000) * 100 * r.2)

/-- D_max in ps/nm (R229). -/
def cdLimit (p : LineP) : Nat :=
  let r := symbolRate p
  min 200000 (60000 * (240000000 * r.2) ^ 2 / r.1 ^ 2)

/-- FORMAT of a frame header (R221). -/
def formatOf (p : LineP) : Nat := match p.modulation with | 0 => 0 | 1 => 1 | _ => p.entropyX20

/-- Budget rate in Gbit/s (R28, R239). -/
def lineRate (p : LineP) : Nat := if p.mode.val = 1 then 400 else p.rate * 100

/-! ## Predistortion -/

/-- The identity filters of R214: tap 31 at 1.0, 14 fraction bits. -/
def identityFilters : List Int :=
  let f : List Int := List.replicate 31 0 ++ 16384 :: List.replicate 32 0
  f ++ f ++ f ++ f

/-- The filters that the DAC streams XI, XQ, YI, YQ pass: the loaded ones while PREDIST_ENABLE is set (R214). -/
def filtersInUse (p : LineP) (loaded : Option (List Int)) : List Int :=
  if p.predistEnable then loaded.getD identityFilters else identityFilters

/-- The 64 taps of stream `i`. -/
def streamTaps (filters : List Int) (i : Nat) : List Int := (filters.drop (64 * i)).take 64

/-- One sample of a stream after its filter, in units of 2⁻¹⁴ of a sample's: `samples` holds the newest first (R214). -/
def predistort (taps samples : List Int) : Int := ((taps.zip samples).map (fun x => x.1 * x.2)).foldl (· + ·) 0

/-! ## Cosines in units of 2⁻⁶⁰ -/

def piFix : Nat := 3622009729038561421

/-- Terms of the cosine series from the `k`-th on, `x2` the square of the angle. -/
def cosTerms (x2 : Int) : Nat → Nat → Int → Int
  | 0, _, _ => 0
  | n + 1, k, t => t + cosTerms x2 n (k + 1) (-(t * x2 / 2 ^ 60) / ((2 * k + 1) * (2 * k + 2)))

/-- The cosine of num / den turns. -/
def cosFix (num den : Nat) : Int :=
  let n := num % den
  let x : Int := 2 * piFix * (min n (den - n)) / den
  cosTerms (x * x / 2 ^ 60) 24 0 (2 ^ 60)

/-- The sine of num / den turns. -/
def sinFix (num den : Nat) : Int := cosFix (4 * num + 3 * den) (4 * den)

/-! ## The spectrum that the transmit path produces (R213, R214, R217) -/

/-- Power response of the root-raised-cosine filter at `m` × 100 MHz from the carrier (R213). -/
def shapingPower (p : LineP) (m : Nat) : Int :=
  let r := symbolRate p
  let f := 200 * (100000 * m) * r.2
  if f ≤ r.1 * (100 - p.rolloff) then 2 ^ 60
  else if r.1 * (100 + p.rolloff) ≤ f then 0
  else (2 ^ 60 + cosFix (f - r.1 * (100 - p.rolloff)) (4 * p.rolloff * r.1)) / 2

/-- Power response of one stream's filter at `m` × 100 MHz: 2,560 such steps make the sample rate (R209, R214). -/
def tapsPower (taps : List Int) (m : Nat) : Int :=
  let at_ (g : Nat → Int) := ((taps.zip (List.range 64)).map (fun x => x.1 * g x.2)).foldl (· + ·) 0
  let re := at_ (fun k => cosFix (m * k) 2560)
  let im := at_ (fun k => sinFix (m * k) 2560)
  (re * re + im * im) / 2 ^ 88

/-- Power response of the four streams together. -/
def filterPower (filters : List Int) (m : Nat) : Int :=
  ((List.range 4).map (fun i => tapsPower (streamTaps filters i) m)).foldl (· + ·) 0

/-- Power response of the sample-and-hold at `m` × 100 MHz (R217). -/
def holdPower (m : Nat) : Int :=
  if m = 0 then 2 ^ 60 else (sinFix m 5120) ^ 2 * 2560 ^ 2 * 2 ^ 60 / ((piFix : Int) ^ 2 * m ^ 2)

/-- Power spectral density of the transmit path at `m` × 100 MHz, the same on both sides of the carrier (R217).
[log 11 DEDUCED] -/
def pathPower (p : LineP) (filters : List Int) (m : Nat) : Int :=
  if shapingPower p m = 0 then 0 else shapingPower p m * filterPower filters m * holdPower m / 2 ^ 120

/-- Points of the grid on one side, beyond every signal band (R212, R213). -/
def gridPoints : Nat := 1500

/-- The sum of the power spectral density over |f| ≤ B(1 − β)/2, and the points of it (R217). -/
def bandSum (p : LineP) (filters : List Int) : Int × Int :=
  let r := symbolRate p
  let ms := (List.range gridPoints).filter (fun m => decide (200 * (100000 * m) * r.2 ≤ r.1 * (100 - p.rolloff)))
  ms.foldl (fun a m => if m = 0 then (a.1 + pathPower p filters 0, a.2 + 1) else (a.1 + 2 * pathPower p filters m, a.2 + 2)) (0, 0)

/-- The point lies at or below the mask: no limit up to W/2 − 1.5 GHz, −20 dB up to W/2, from −25 to −40 dB over the next 6.25 GHz,
−40 dB beyond (R217). -/
def underMask (p : LineP) (filters : List Int) (m : Nat) : Bool :=
  let edge := 125 * p.slotM
  let v := pathPower p filters m
  let b := bandSum p filters
  if 2 * m + 30 ≤ edge then true
  else if shapingPower p m = 0 then true
  else if 2 * m ≤ edge then decide (v * b.2 * 100 ≤ b.1)
  else if 2 * m ≤ edge + 125 then decide ((v * b.2) ^ 250 * 10 ^ (625 + 3 * (2 * m - edge)) ≤ b.1 ^ 250)
  else decide (v * b.2 * 10000 ≤ b.1)

/-- The spectrum lies under the mask (R217). -/
def spectrumOk (p : LineP) (loaded : Option (List Int)) : Bool :=
  (List.range gridPoints).all (underMask p (filtersInUse p loaded))

end Sys2Proof.Machine
end

