-- ==== Sys2Proof/Machine/DspFrame.lean ====
section
/-!
DEFINITION. The DSP frame: training, header, pilots, shaping blocks and the mapping of coded bits to symbols (R220–R223, R226).
-/
namespace Sys2Proof.Machine

/-! ## Pseudo-random sequences -/

/-- One step of a shift register of `n` stages, fed back from stages n and `tap`; its output is the last stage.
[log 182 DEDUCED] -/
def prbsStep (n tap v : Nat) : Nat := v * 2 % 2 ^ n + (v / 2 ^ (n - 1) + v / 2 ^ (tap - 1)) % 2

/-- `k` bits of the sequence from state `v`. -/
def prbsBits (n tap : Nat) : Nat → Nat → List Bool
  | 0, _ => []
  | k + 1, v => Nat.testBit v (n - 1) :: prbsBits n tap k (prbsStep n tap v)

/-- The state after `k` steps. -/
def prbsAfter (n tap : Nat) : Nat → Nat → Nat
  | 0, v => v
  | k + 1, v => prbsAfter n tap k (prbsStep n tap v)

/-! ## Symbols -/

/-- A symbol: its two dimensions in the units of R223; `mean` marks a training, header or pilot symbol, whose signs are given and
which is sent at the mean energy of the payload constellation (R220). -/
structure Symbol where
  i : Int
  q : Int
  mean : Bool
deriving DecidableEq, Repr, Inhabited

def signed (neg : Bool) (a : Int) : Int := if neg then -a else a

/-- QPSK symbols of pairs of bits, the first giving the sign of I, the second that of Q (R220). -/
def qpskSymbols : List Bool → List Symbol
  | a :: b :: r => { i := signed a 1, q := signed b 1, mean := true } :: qpskSymbols r
  | _ => []

/-- The training of X (false) and of Y (true) (R220). -/
def training (y : Bool) : List Symbol := qpskSymbols (prbsBits 11 9 96 (if y then 0x1B3 else 0x5A5))

/-- The pilots of the frame with count `k`, the generator having run since the frame with count 0 (R220). -/
def pilots (k : Nat) : List Symbol := qpskSymbols (prbsBits 9 5 1600 (prbsAfter 9 5 (k % 65536 * 1600 % 511) 0x1FF))

/-! ## The frame header (R221) -/

/-- Bits [47:0] of a header. -/
def headerBody (pointer count format rate : Nat) : Nat :=
  pointer % 65536 + count % 65536 * 2 ^ 16 + format % 256 * 2 ^ 32 + rate % 256 * 2 ^ 40

/-- A header, its CRC over bits [47:0], most significant bit first. -/
def frameHeader (pointer count format rate : Nat) : Nat :=
  let b := headerBody pointer count format rate
  b + crc16 (be 6 b) * 2 ^ 48

/-- The CRC of a received header passes. -/
def headerOk (w : Nat) : Bool := decide (w / 2 ^ 48 = crc16 (be 6 (w % 2 ^ 48)))

def headerPointer (w : Nat) : Nat := w % 2 ^ 16
def headerCount (w : Nat) : Nat := w / 2 ^ 16 % 2 ^ 16
def headerFormat (w : Nat) : Nat := w / 2 ^ 32 % 2 ^ 8
def headerRate (w : Nat) : Nat := w / 2 ^ 40 % 2 ^ 8

/-- The `n` low bits of a number, the most significant first. -/
def bitsMsb (n v : Nat) : List Bool := (List.range n).map (fun i => Nat.testBit v (n - 1 - i))

/-- The number that bits spell, the most significant first. -/
def natOfBits (bs : List Bool) : Nat := bs.foldl (fun a b => 2 * a + bit b 0) 0

/-- The header's 16 symbols on X, bits [31:0], and on Y, bits [63:32]. -/
def headerSymbols (y : Bool) (w : Nat) : List Symbol := qpskSymbols (bitsMsb 32 (if y then w / 2 ^ 32 else w % 2 ^ 32))

/-! ## Shaping blocks (R222, R223) -/

/-- For d = 0, 1, …, `n`, the numbers of sequences of d amplitudes whose energy is at most d + 8j, for j = 0 … 240: an amplitude
of 1, 3, 5 or 7 adds 0, 1, 3 or 6 to j. -/
def sequenceCounts : Nat → List (List Nat)
  | 0 => [List.replicate 241 1]
  | n + 1 =>
    let rows := sequenceCounts n
    let last := rows.getLastD []
    rows ++ [(List.range 241).map (fun j =>
      last.getD j 0 + (if 1 ≤ j then last.getD (j - 1) 0 else 0) + (if 3 ≤ j then last.getD (j - 3) 0 else 0) +
      (if 6 ≤ j then last.getD (j - 6) 0 else 0))]

/-- j of E_max = 40 + 8j: the least with at least 2ᵏ sequences of 40 amplitudes (R223). -/
def energyIndex (k : Nat) : Nat :=
  ((List.range 241).find? (fun j => decide (2 ^ k ≤ ((sequenceCounts 40).getD 40 []).getD j 0))).getD 240

/-- The amplitudes of a sequence by its index in lexicographic order among those of `d` amplitudes within j. -/
def amplitudesAt (counts : List (List Nat)) : Nat → Nat → Nat → List Int
  | 0, _, _ => []
  | d + 1, j, index =>
    let n (x : Nat) : Nat := if x ≤ j then (counts.getD d []).getD (j - x) 0 else 0
    if index < n 0 then 1 :: amplitudesAt counts d j index
    else if index < n 0 + n 1 then 3 :: amplitudesAt counts d (j - 1) (index - n 0)
    else if index < n 0 + n 1 + n 3 then 5 :: amplitudesAt counts d (j - 3) (index - n 0 - n 1)
    else 7 :: amplitudesAt counts d (j - 6) (index - n 0 - n 1 - n 3)

/-- The 40 dimensions of a shaping block of 20 × H coded bits (R222, R223). -/
def mapBlock (modulation : Nat) (bits : List Bool) : List Int :=
  match modulation with
  | 0 => bits.map (fun b => signed b 1)
  | 1 => (List.range 40).map (fun d => signed (bits.getD (2 * d) false) (if bits.getD (2 * d + 1) false then 3 else 1))
  | _ =>
    let k := bits.length - 40
    let amps := amplitudesAt (sequenceCounts 40) 40 (energyIndex k) (natOfBits (bits.take k))
    (amps.zip (bits.drop k)).map (fun x => signed x.2 x.1)

/-- Symbols of dimensions taken I then Q. -/
def payloadSymbols : List Int → List Symbol
  | i :: q :: r => { i := i, q := q, mean := false } :: payloadSymbols r
  | _ => []

/-- The payload symbols of a frame on one polarisation: 1,600 blocks, each after the X block of its number comes the Y block
(R222). -/
def framePayload (p : LineP) (y : Bool) (coded : List Bool) : List Symbol :=
  let h := entropyX20 p
  payloadSymbols ((List.range 1600).flatMap (fun b => mapBlock p.modulation ((coded.drop ((2 * b + bit y 0) * h)).take h)))

/-- Each group of 41 symbols: a pilot, then 40 of payload (R220). -/
def groups : List Symbol → List Symbol → List Symbol
  | [], _ => []
  | p :: ps, payload => p :: payload.take 40 ++ groups ps (payload.drop 40)

/-! ## The frame (R220, R226) -/

/-- Coded bits that a frame carries: 64,000 × H. -/
def frameBits (p : LineP) : Nat := 3200 * entropyX20 p

/-- CW_POINTER of frame `k` of a stream whose frame 0 begins with a codeword (R221, R226). [log 183 DESIGN CHOICE] -/
def cwPointer (p : LineP) (k : Nat) : Nat := (ldpcLength - k * frameBits p % ldpcLength) % ldpcLength

/-- The 32,864 symbols that frame `k` of the stream sends on a polarisation, of the coded bits that it carries.
[log 167 DESIGN CHOICE] -/
def dspFrame (p : LineP) (k : Nat) (y : Bool) (coded : List Bool) : List Symbol :=
  training y ++ headerSymbols y (frameHeader (cwPointer p k) k (formatOf p) p.rate) ++
    groups (pilots k) (framePayload p y coded)

/-- The coded bits from the first codeword that begins in a received frame (R226). -/
def fromPointer (header : Nat) (coded : List Bool) : List Bool := coded.drop (headerPointer header)

/-- DSP frames begun `t` ns after the transmitter's start, less one (R211, R220); the length of a 400ZR frame is the
agreement's. -/
def framesBy (p : LineP) (t : Nat) : Nat := let r := symbolRate p; t * r.1 / (r.2 * 32864 * 1000000)

end Sys2Proof.Machine
end

