-- ==== Sys2Proof/Machine/Lines.lean ====
section
/-!
DEFINITION. Line engines: configuration, acquisition, monitors, quality (R206–R246).
-/
namespace Sys2Proof.Machine

/-! ## State and events -/

/-- LOS as reported (R208): the receive monitor's, or the laser's. -/
def losOf (v : LineEngine) : Bool := v.rxLos || v.laserLow

/-- The transmitter is muted: an engine not enabled, a mask or Lantern monitor mute, a fenced cupola, the thermal trip (R208, R219,
R240, R605). [log 56 DEDUCED] -/
def mutedOf (l : Nat) (s : State) : Bool :=
  let v := line s l
  !v.enabled || v.maskMuted || v.laserLow || v.biasLost || v.shutdown || decide ((cup s (64 + l)).state = .fenced) || s.pwr.tripped

/-- Source 0x284 + l (R246). -/
def postQuality (l kind value : Nat) (s : State) : State :=
  post (0x284 + l) .warning (kind + satur 32 value * 2 ^ 4 + bit (mutedOf l s) 36) s

/-- The output power at present: TX_POWER, ramped at 1 dB per ms from what it was when LINE_ADJUST changed it (R240). -/
def txPowerNow (v : LineEngine) (now : Nat) : Int :=
  let target := match v.cfg with | some c => c.txPower | none => 0
  let moved : Int := (now - v.powerSince) / 10000
  if v.powerFrom ≤ target then min target (v.powerFrom + moved) else max target (v.powerFrom - moved)

/-- A command of the line engine is under way: another that starts completes with BUSY (R240). [log 58 DESIGN CHOICE] -/
def lineBusy (l : Nat) (s : State) : Bool := runsOn 0x0502 l s

/-- Acquisition starts at a step, or waits while LOS stops it (R208, R236). -/
def acquireFrom (step : Nat) (now : Nat) (v : LineEngine) : LineEngine :=
  { v with locked := false, step := if losOf v then 0 else step, acqStart := now, stepStart := now, mismatch := false }

/-! ## Commands -/

/-- Source 0x288 + l (R246). -/
def postLantern (l monitor : Nat) (asserted : Bool) (reading : Int) (s : State) : State :=
  post (0x288 + l) .fault (monitor + bit asserted 4 + twos 16 reading * 2 ^ 5) s

/-- The Lantern self-test at a wake of its line engine from Retained or Off (R614). -/
def lanternTest (l : Nat) (ok : Bool) (s : State) : State :=
  if !s.line.lanternMask.getLsbD l then s
  else
    let others := s.line.lanterns &&& ~~~(BitVec.ofNat 4 (2 ^ l))
    let s1 := { s with line := { s.line with lanterns := if ok then others ||| BitVec.ofNat 4 (2 ^ l) else others } }
    if ok then s1 else postLantern l 5 true 0 s1

/-- The line-engine cupola rises to its votes; from Retained or Off, its Lantern is tested (R515, R614). -/
def riseLine (l : Nat) (ok : Bool) (s : State) : State :=
  let c := (cup s (64 + l)).state
  let s1 := riseCup (64 + l) 0 s
  if decide (2 ≤ cupCode c) && decide ((cup s1 (64 + l)).state = .active) then lanternTest l ok s1 else s1

/-- The line-engine cupola that a LINE_ENABLE wakes, once the caller owns the line; an enabled line needs no wake, a fenced one
completes by its LANTERNS bit (R92, R611, R614). -/
def lineCupola (h : Caller) (l : Nat) (s : State) : Option Nat :=
  if owns h kLine l s && !(portEnt s (0x40 + l)).enabled && decide ((cup s (64 + l)).state ≠ .fenced) then some (64 + l) else none

/-- LINE_CONFIGURE (R241). -/
def execLineConfigure (h : Caller) (p : LineP) (s : State) : Host.Outcome State Fault Refusal :=
  perform 0x0500 none noCupola h (fun s =>
    let v := line s p.line.val
    if !owns h kLine p.line.val s then refuse 4 s
    else if lineBusy p.line.val s then .done stBusy 0 0 [] s
    else if v.enabled then refuse 0x501 s
    else if p.mode.val = 1 ∧ ¬(p.modulation = 1 ∧ p.rate = 4) then refuse 0x503 s
    else if !p.wf then .hostError [(kLine, p.line.val)]
    else if !rateValid p then limitReply 0x500 s
    else if !fitsSlot p || !spectrumOk p v.filters then refuse 0x502 s
    else okResult (symbolKbd p) (setLine s p.line.val { v with cfg := some { p with
      mimoTaps := if p.mimoTaps = 0 then 31 else p.mimoTaps,
      sdThreshold := if p.sdThreshold = 0 then 1500 else p.sdThreshold } })) s

/-- The framer is configured for the line's n, or the line needs none (R240). -/
def framerFits (l : Nat) (c : LineP) (s : State) : Bool :=
  decide (c.mode.val = 1) ||
  (match (framer s l).cfg with | some f => decide (f.rate = c.rate) | none => false)

/-- A line engine enters operation: its counts begin anew (R242, R272, R307). -/
def startLine (k : Nat) (s : State) : State :=
  let v := line s k
  let v1 := { v with enabled := true, lockedOnce := false, maskMuted := false, maskViolation := false, degrade := false,
                     acqCount := 0, acqRetry := 0, quality := {}, early := {}, txSince := s.now,
                     powerFrom := (match v.cfg with | some c => c.txPower | none => 0), powerSince := s.now }
  postLine k 0 (clearSealCounts k (clearFramerCounts k (putLine k (acquireFrom 1 s.now v1) s)))

/-- LINE_ENABLE (R240). -/
def execLineEnable (h : Caller) (l : Fin 4) (laserPower : Int) (s : State) : Host.Outcome State Fault Refusal :=
  perform 0x0501 (some { kind := 8, scope := l.val }) (lineCupola h l.val) h (fun s =>
    let v := line s l.val
    if !owns h kLine l.val s then refuse 4 s
    else if lineBusy l.val s then .done stBusy 0 0 [] s
    else if (portEnt s (0x40 + l.val)).enabled then okay s
    else match v.cfg with
      | none => refuse 0x504 s
      | some c =>
        if !framerFits l.val c s then refuse 0x504 s
        else if laserPower < 1300 then .done stFaulted 0x505 0 [] s
        else if !lanternOf l.val s then .done stFaulted 0x506 0 [] s
        else match enablePort (0x40 + l.val) (lineRate c) s with
          | .already => okay s
          | .overBudget => limitReply 0 s
          | .noRoom => limitReply 0x800 s
          | .placed s1 => okay (startLine l.val s1)) s

/-- LINE_DISABLE: the port leaves the budget at once, and the command completes when the output is muted (R31, R240). -/
def execLineDisable (h : Caller) (l : Fin 4) (s : State) : Host.Outcome State Fault Refusal :=
  perform 0x0502 none noCupola h (fun s =>
    if !owns h kLine l.val s then refuse 4 s
    else if lineBusy l.val s then .done stBusy 0 0 [] s
    else if (line s l.val).enabled then .later l.val (stopLine l.val s)
    else okay s) s

/-- The LINE_DISABLE commands of this cycle complete: the outputs are muted (R240). -/
def finishMutes (s : State) : State :=
  (List.range 4).foldl (fun st l => if runsOn 0x0502 l st then completeRunning 0x0502 l stOk 0 0 [] st else st) s

/-- STATUS FLAGS of R242. -/
def lineFlags (l : Nat) (s : State) : Nat :=
  let v := line s l
  bit (losOf v) 0 + bit v.laserLow 1 + bit v.maskViolation 2 + bit (mutedOf l s) 3 + bit v.mismatch 4 + bit v.degrade 5 +
  bit v.tempWarning 6

/-- LINE_STATUS's response, with the Lantern's readings at the time. -/
def lineStatus (l : Nat) (laserPower caseTemp : Int) (s : State) : List Byte :=
  let v := line s l
  fields 64 [(1, l), (1, lineState l s), (1, v.step), (1, lineFlags l s),
    (4, match v.cfg with | some c => symbolKbd c | none => 0), (4, match v.cfg with | some c => cdLimit c | none => 0),
    (4, if v.locked then Config.rxLatency l v.locks else 0), (4, Config.txLatency l v.locks), (4, v.acqCount),
    (4, v.acqRetry), (4, v.lockTimeUs), (2, twos 16 laserPower), (2, twos 16 caseTemp)]

/-- LINE_STATUS (R242). [log 212 DEDUCED] -/
def execLineStatus (h : Caller) (l : Fin 4) (laserPower caseTemp : Int) (s : State) : Host.Outcome State Fault Refusal :=
  perform 0x0503 none noCupola h (fun s =>
    if lineBusy l.val s then .done stBusy 0 0 [] s
    else okResp (lineStatus l.val (saturInt 16 laserPower) (saturInt 16 caseTemp) s) s) s

/-- Counts added to a window (R243). -/
def addCounts (q : QualityWindow) (c : LineCounts) : QualityWindow :=
  { q with ldpcFailed := q.ldpcFailed + c.ldpcFailed, bits := q.bits + c.bits, preFecErrors := q.preFecErrors + c.preFecErrors,
           bchCorrected := q.bchCorrected + c.bchCorrected, bchFailed := q.bchFailed + c.bchFailed }

/-- Counts that have not entered a window yet. -/
def countsLess (c d : LineCounts) : LineCounts :=
  { bits := c.bits - d.bits, preFecErrors := c.preFecErrors - d.preFecErrors, bchFailed := c.bchFailed - d.bchFailed,
    ldpcFailed := c.ldpcFailed - d.ldpcFailed, bchCorrected := c.bchCorrected - d.bchCorrected }

/-- LINE_QUALITY's response: the window's counts and the receiver's readings at the time; at most 16 iterations a codeword (R227,
R243). [log 59 DEDUCED] -/
def lineQuality (v : LineEngine) (m : LineReadings) (now : Nat) : List Byte :=
  let q := v.quality
  fields 64 [(4, (now - q.since) / 1000000), (4, satur 32 q.ldpcFailed), (8, satur 64 q.bits),
    (8, satur 64 q.preFecErrors), (4, satur 32 q.bchCorrected), (4, satur 32 q.bchFailed), (2, satur 16 m.snrX), (2, satur 16 m.snrY),
    (2, satur 16 m.osnr), (2, twos 16 (saturInt 16 m.freqOffset)), (4, twos 32 (saturInt 32 m.cd)), (2, satur 16 m.dgd),
    (2, satur 16 m.sopRate), (2, twos 16 (saturInt 16 m.rxPower)), (2, twos 16 (txPowerNow v now)), (1, min 128 m.avgIter8)]

/-- LINE_QUALITY (R243): `counts` are those since the second under way began, which enter the window at the read. -/
def execLineQuality (h : Caller) (l : Fin 4) (clear : Bool) (counts : LineCounts) (readings : LineReadings) (s : State) :
    Host.Outcome State Fault Refusal :=
  perform 0x0504 none noCupola h (fun s =>
    let v := line s l.val
    if clear && !owns h kLine l.val s then refuse 4 s
    else if lineBusy l.val s then .done stBusy 0 0 [] s
    else if !v.lockedOnce then emptyReply s
    else
      let v1 := if v.locked then { v with quality := addCounts v.quality (countsLess counts v.early), early := counts } else v
      okResp (lineQuality v1 readings s.now)
        (setLine s l.val (if clear then { v1 with quality := { since := s.now } } else v1))) s

/-- 256 signed 16-bit taps (R244). -/
def tapsOk (taps : List Int) : Bool :=
  decide (taps.length = 256) && taps.all (fun x => decide (-32768 ≤ x) && decide (x < 32768))

/-- PREDISTORTION_LOAD (R244): the filters change at the next DSP frame boundary of an engine that transmits. [log 61 DEDUCED] -/
def execPredistortionLoad (h : Caller) (l : Fin 4) (taps : List Int) (s : State) : Host.Outcome State Fault Refusal :=
  perform 0x0505 none noCupola h (fun s =>
    let v := line s l.val
    if !owns h kLine l.val s then refuse 4 s
    else if !tapsOk taps then .hostError [(kLine, l.val)]
    else if lineBusy l.val s then .done stBusy 0 0 [] s
    else if (match v.cfg with | some c => !spectrumOk c (some taps) | none => false) then refuse 0x502 s
    else okay (setLine s l.val (if v.enabled then { v with filtersNext := some taps } else { v with filters := some taps }))) s

/-- A DSP frame of engine `l` begins in this cycle; a 400ZR frame's length is not in the spec, and one is taken to (R220, R244). -/
def frameBegins (v : LineEngine) (now : Nat) : Bool :=
  match v.cfg with
  | none => true
  | some c => decide (c.mode.val = 1) || !v.enabled || decide (framesBy c (now - v.txSince) < framesBy c (now + 1 - v.txSince))

/-- Filters that wait replace all four at a frame boundary of the cycle (R244). -/
def loadFilters (s : State) : State :=
  (List.range 4).foldl (fun st l =>
    let v := line st l
    match v.filtersNext with
    | none => st
    | some f => if frameBegins v st.now then setLine st l { v with filters := some f, filtersNext := none } else st) s

/-- LINE_ADJUST (R240). -/
def execLineAdjust (h : Caller) (p : AdjustP) (s : State) : Host.Outcome State Fault Refusal :=
  perform 0x0506 none noCupola h (fun s =>
    let v := line s p.line.val
    if !owns h kLine p.line.val s then refuse 4 s
    else if !p.wf then .hostError [(kLine, p.line.val)]
    else if lineBusy p.line.val s then .done stBusy 0 0 [] s
    else match v.enabled, v.cfg with
      | true, some c => okay (setLine s p.line.val { v with
          powerFrom := txPowerNow v s.now, powerSince := s.now,
          cfg := some { c with txPower := p.txPower, sdThreshold := if p.sdThreshold = 0 then 1500 else p.sdThreshold,
                               maskMute := p.maskMute } })
      | _, _ => .done stNotPresent 0 0 [] s) s

/-! ## Acquisition -/

/-- The dispersion window searched in step 3: the hint's, clipped to ±D_max, or all of it (R233, R241). -/
def searchWindow (c : LineP) : Int × Int :=
  let d : Int := cdLimit c
  if c.cdHintValid then (max (-d) (c.cdHint - c.cdWindow), min d (c.cdHint + c.cdWindow)) else (-d, d)

/-- The bound of a step in ns; step 3 takes 1 ms and 0.02 ms for each 1,000 ps/nm searched (R233). -/
def stepBound (c : LineP) (step : Nat) : Nat :=
  match step with
  | 1 => 20000
  | 3 => 1000000 + 20 * ((searchWindow c).2 - (searchWindow c).1).toNat
  | 4 => 300000
  | 5 => 1000000
  | 6 => 200000
  | _ => 100000

/-- The steps that follow one another; step 2 takes no time (R233). -/
def nextStep (n : Nat) : Nat := if n = 1 then 3 else n + 1

/-- FEC lock (R232, R242): a new latency, the quality window begins. -/
def lockLine (l : Nat) (s : State) : State :=
  let v := line s l
  postLine l 1 (putLine l { v with
    locked := true, lockedOnce := true, step := 0, acqCount := satur 32 (v.acqCount + 1), locks := v.locks + 1,
    lockTimeUs := satur 32 ((s.now - v.acqStart) / 1000), quality := { since := s.now }, early := {} } s)

/-- ACQUISITION_STEP_END (R233). -/
def execAcquisitionStepEnd (l : Fin 4) (format rate : Nat) (s : State) : Host.Outcome State Fault Refusal :=
  let v := line s l.val
  match v.cfg with
  | none => .next s
  | some c =>
    if !v.enabled || decide (v.step = 0) then .next s
    else if v.step = 7 ∧ c.mode.val = 0 ∧ ¬(format = formatOf c ∧ rate = c.rate) then
      .next (postLine l.val 6 (setLine s l.val { v with mismatch := true, mismatchAt := s.now, step := 0 }))
    else if v.step = 9 then .next (lockLine l.val s)
    else .next (setLine s l.val { v with step := nextStep v.step, stepStart := s.now })

/-- Restart acquisition at step 1; reason 5 at most once per second (R234, R246). -/
def restartLine (l : Nat) (v : LineEngine) (s : State) : State :=
  let s1 := setLine s l (acquireFrom 1 s.now v)
  if due (0x130000 + l) 1000000000 s1 then postLine l 5 (markPost (0x130000 + l) s1) else s1

/-- ACQUISITION_STEP_TIMEOUT: the step has exceeded its bound; a condition met in the cycle of the bound wins (R41, R234). -/
def execAcquisitionStepTimeout (l : Fin 4) (s : State) : Host.Outcome State Fault Refusal :=
  let v := line s l.val
  let bound := match v.cfg with | some c => stepBound c v.step | none => 0
  if !v.enabled || decide (v.step = 0) || !lapsed v.stepStart bound s then .next s
  else .next (restartLine l.val { v with acqRetry := satur 32 (v.acqRetry + 1) } s)

/-- MISMATCH_RESTART, 10 ms after the mismatch (R235). -/
def execMismatchRestart (l : Fin 4) (s : State) : Host.Outcome State Fault Refusal :=
  let v := line s l.val
  if v.enabled && v.mismatch && decide (v.mismatchAt + 10000000 ≤ s.now) then .next (restartLine l.val v s) else .next s

/-- LOSS_OF_LOCK (R236). -/
def execLossOfLock (l : Fin 4) (s : State) : Host.Outcome State Fault Refusal :=
  let v := line s l.val
  if v.enabled && v.locked then .next (postLine l.val 2 (putLine l.val (acquireFrom 4 s.now v) s)) else .next s

/-! ## Monitors -/

/-- Set a monitor's condition. -/
def setMonitor (m : Nat) (b : Bool) (v : LineEngine) : LineEngine :=
  match m with
  | 0 => { v with laserLow := b } | 1 => { v with rxLos := b } | 2 => { v with tempWarning := b }
  | 3 => { v with shutdown := b } | _ => { v with biasLost := b }

/-- The condition a monitor is in. -/
def monitorOf (m : Nat) (v : LineEngine) : Bool :=
  match m with
  | 0 => v.laserLow | 1 => v.rxLos | 2 => v.tempWarning | 3 => v.shutdown | _ => v.biasLost

/-- LOS of an enabled engine has changed: acquisition stops, or restarts at step 1; nothing restarts while the cupola is fenced
(R208, R236, R523). [log 57 DEDUCED] -/
def losChanged (l : Nat) (before : Bool) (s : State) : State :=
  let v := line s l
  if !v.enabled || decide (losOf v = before) then s
  else if losOf v then postLine l 3 (putLine l { v with locked := false, step := 0, mismatch := false } s)
  else if (cup s (64 + l)).state = .fenced then postLine l 4 s
  else postLine l 4 (setLine s l (acquireFrom 1 s.now v))

/-- LANTERN_MONITOR_ASSERT (R208). -/
def execLanternMonitorAssert (l : Fin 4) (monitor : Fin 5) (reading : Int) (s : State) :
    Host.Outcome State Fault Refusal :=
  let v := line s l.val
  let s1 := postLantern l.val monitor.val true reading
    (setLine s l.val (setMonitor monitor.val true v))
  let s2 := losChanged l.val (losOf v) s1
  if monitor.val = 3 then .next (failWaits (64 + l.val) (fenceLine l.val s2)) else .next s2

/-- LANTERN_MONITOR_CLEAR (R208). -/
def execLanternMonitorClear (l : Fin 4) (monitor : Fin 5) (reading : Int) (s : State) :
    Host.Outcome State Fault Refusal :=
  let v := line s l.val
  .next (losChanged l.val (losOf v) (postLantern l.val monitor.val false reading
    (setLine s l.val (setMonitor monitor.val false v))))

/-- MASK_CHECK: while the engine transmits (R219). -/
def execMaskCheck (l : Fin 4) (pass : Bool) (s : State) : Host.Outcome State Fault Refusal :=
  let v := line s l.val
  if mutedOf l.val s then .next s
  else if pass then .next (setLine s l.val { v with maskViolation := false })
  else
    let mute := match v.cfg with | some c => c.maskMute | none => false
    .next (postQuality l.val 3 0 (setLine s l.val { v with maskViolation := true, maskMuted := v.maskMuted || mute }))

/-- SIGNAL_DEGRADE_CHECK: the second's counts enter the window, less those that a read has entered, and the counters, and the ratio
is compared (R243, R245). [log 60 DEDUCED] -/
def execSignalDegradeCheck (l : Fin 4) (counts : LineCounts) (s : State) : Host.Outcome State Fault Refusal :=
  let v := line s l.val
  if !v.enabled || !v.locked then .next s
  else
    let thr := match v.cfg with | some c => c.sdThreshold | none => 1500
    let worse := decide (thr * counts.bits < counts.preFecErrors * 100000)
    let better := decide (counts.preFecErrors * 1000000 < 9 * thr * counts.bits)
    let s1 := setLine s l.val { v with
      degrade := if worse then true else if better then false else v.degrade,
      quality := addCounts v.quality (countsLess counts v.early), early := {} }
    let s2 := count 0x070 l.val (counts.bits / 65196) none (count 0x071 l.val counts.ldpcFailed none
      (count 0x072 l.val counts.bchCorrected none s1))
    let s3 := if worse && !v.degrade then postQuality l.val 0 (counts.preFecErrors / 1000000) s2
      else if better && v.degrade then postQuality l.val 1 (counts.preFecErrors / 1000000) s2 else s2
    if counts.bchFailed = 0 then .next s3 else .next (postQuality l.val 2 counts.bchFailed s3)

end Sys2Proof.Machine
end

