-- ==== Sys2Proof/Machine/MemCode.lean ====
section
/-!
DEFINITION. The outer code of board memory: RS(72, 64) over GF(2⁸), its carriage on the DQ signals, and the decoder with and without a
marked lane (R491, R492).
-/
namespace Sys2Proof.Machine

/-! ## GF(2⁸) with x⁸ + x⁴ + x³ + x² + 1 (R491) -/

/-- Multiplication by α. -/
def byteAlpha (a : Nat) : Nat := if 128 ≤ a then (a * 2) ^^^ 0x11D else a * 2

/-- Product, by the bits of `b` from the lowest. -/
def byteMulFrom : Nat → Nat → Nat → Nat
  | 0, _, _ => 0
  | n + 1, a, b => (if b % 2 = 1 then a else 0) ^^^ byteMulFrom n (byteAlpha a) (b / 2)
def byteMul (a b : Nat) : Nat := byteMulFrom 8 a b

/-- αⁿ. -/
def bytePow (n : Nat) : Nat := (List.range (n % 255)).foldl (fun a _ => byteAlpha a) 1

/-- a²⁵⁴, which is 1/a. -/
def byteInv (a : Nat) : Nat :=
  ((List.range 7).foldl (fun (x : Nat × Nat) _ => let q := byteMul x.1 x.1; (q, byteMul x.2 q)) (a, 1)).2

/-- Value of a polynomial, coefficients from the constant on. -/
def byteEval (cs : List Nat) (x : Nat) : Nat := cs.foldr (fun c acc => c ^^^ byteMul acc x) 0

/-- Product of two polynomials, coefficients from the constant on. -/
def polyMul (a b : List Nat) : List Nat :=
  (List.range (a.length + b.length - 1)).map (fun n =>
    (List.range (n + 1)).foldl (fun acc i => acc ^^^ byteMul (a.getD i 0) (b.getD (n - i) 0)) 0)

/-! ## The code -/

/-- (x − α⁰)(x − α¹)…(x − α⁷) (R491). -/
def rsGenerator : List Nat := (List.range 8).foldl (fun g i => polyMul g [bytePow i, 1]) [1]

/-- The eight check bytes of 64 data bytes: the remainder, the highest power first (R491). -/
def rsCheck (data : List Byte) : List Byte :=
  let g := rsGenerator
  let r := data.foldl (fun (r : List Nat) b =>
    let fb := b.toNat ^^^ r.getD 0 0
    (List.range 8).map (fun i => r.getD (i + 1) 0 ^^^ byteMul fb (g.getD (7 - i) 0))) (List.replicate 8 0)
  r.map (fun x => BitVec.ofNat 8 x)

/-- The 72-byte codeword: data bytes in address order, then the check bytes (R491). -/
def rsEncode (data : List Byte) : List Byte := data ++ rsCheck data

/-- The locator of byte `b`, the coefficient of x^(71 − b) (R491). -/
def byteLocator (b : Nat) : Nat := bytePow (71 - b)

/-- The eight syndromes of a word. -/
def rsSyndromes (word : List Byte) : List Nat :=
  (List.range 8).map (fun i =>
    let a := bytePow i
    word.foldl (fun acc b => byteMul acc a ^^^ b.toNat) 0)

/-! ## The DQ signals (R491, R492) -/

/-- The DQ signal, and byte lane, that carries byte `b`. -/
def laneOf (b : Nat) : Nat := b % 24

/-- The byte and the bit that a DQ signal carries in a beat. -/
def beatByte (dq beat : Nat) : Nat := dq + 24 * (beat / 8)
def beatBit (beat : Nat) : Nat := beat % 8

/-- What a DQ signal carries of a word in a beat. -/
def dqBeat (word : List Byte) (dq beat : Nat) : Bool := (word.getD (beatByte dq beat) 0).getLsbD (beatBit beat)

/-- The word read where some DQ signals are wrong in some beats, as (DQ, beat). -/
def wordRead (word : List Byte) (flips : List (Fin 24 × Fin 24)) : List Byte :=
  flips.foldl (fun w f =>
    let b := beatByte f.1.val f.2.val
    w.set b (w.getD b 0 ^^^ (BitVec.ofNat 8 (2 ^ beatBit f.2.val)))) word

/-! ## The decoder (R492) -/

/-- The state of the search for the error locator. -/
structure ByteLocator where
  c : List Nat := [1]
  b : List Nat := [1]
  l : Nat := 0
  m : Nat := 1
  d : Nat := 1

/-- One step of the search with syndrome number `n` (from 0). -/
def byteLocatorStep (syn : List Nat) (k : ByteLocator) (n : Nat) : ByteLocator :=
  let d := (List.range (k.l + 1)).foldl (fun a i => a ^^^ byteMul (k.c.getD i 0) (syn.getD (n - i) 0)) 0
  if d = 0 then { k with m := k.m + 1 }
  else
    let f := byteMul d (byteInv k.d)
    let shifted := List.replicate k.m 0 ++ k.b.map (byteMul f)
    let c := (List.range (max k.c.length shifted.length)).map (fun i => k.c.getD i 0 ^^^ shifted.getD i 0)
    if 2 * k.l ≤ n then { c := c, b := k.c, l := n + 1 - k.l, m := 1, d := d }
    else { k with c := c, m := k.m + 1 }

/-- The bytes of a marked lane, which the decoder treats as erasures. -/
def erasures (marked : Option Nat) : List Nat := match marked with
  | some q => [q, q + 24, q + 48]
  | none => []

/-- The error value at byte `b`, from the errata locator and evaluator. -/
def erratum (locator evaluator : List Nat) (b : Nat) : Nat :=
  let x := byteLocator b
  let xi := byteInv x
  let odd := (List.range locator.length).foldl (fun acc i =>
    if i % 2 = 1 then acc ^^^ byteMul (locator.getD i 0) ((List.range (i - 1)).foldl (fun p _ => byteMul p xi) 1) else acc) 0
  byteMul x (byteMul (byteEval evaluator xi) (byteInv odd))

/-- The erroneous bytes of a word and what each is wrong by: at most four without a marked lane, at most two beside the marked
lane's erasures; none for a word that the decoder reports as uncorrectable (R492). -/
def rsErrors (marked : Option Nat) (word : List Byte) : Option (List (Nat × Nat)) :=
  let syn := rsSyndromes word
  if syn.all (fun x => decide (x = 0)) then some []
  else
    let er := erasures marked
    let gamma := er.foldl (fun g b => polyMul g [1, byteLocator b]) [1]
    let forney := ((polyMul syn gamma).take 8).drop er.length
    let k := (List.range forney.length).foldl (byteLocatorStep forney) {}
    let limit := if er.isEmpty then 4 else 2
    let hits := (List.range 72).filter (fun b => !er.contains b && decide (byteEval k.c (byteInv (byteLocator b)) = 0))
    if limit < k.l ∨ hits.length ≠ k.l then none
    else
      let locator := polyMul gamma (k.c.take (k.l + 1))
      let evaluator := (polyMul syn locator).take 8
      let errs := ((er ++ hits).map (fun b => (b, erratum locator evaluator b))).filter (fun e => decide (e.2 ≠ 0))
      let fixed := errs.foldl (fun w e => w.set e.1 (w.getD e.1 0 ^^^ BitVec.ofNat 8 e.2)) word
      if (rsSyndromes fixed).all (fun x => decide (x = 0)) then some errs else none

/-- What the decoder makes of a word read: the 64 data bytes and the bytes corrected, or none, uncorrectable (R492, R494). -/
def rsDecode (marked : Option Nat) (word : List Byte) : Option (List Byte × List Nat) :=
  (rsErrors marked word).map (fun errs =>
    ((errs.foldl (fun w e => w.set e.1 (w.getD e.1 0 ^^^ BitVec.ofNat 8 e.2)) word).take 64, errs.map (fun e => e.1)))

end Sys2Proof.Machine
end

