-- ==== Sys2Proof/Machine/Pipelines.lean ====
section
/-!
DEFINITION. Pipelines: failure, remap, restoration, domain-tag intervals, port placement commands (R202, R311–R317, R349,
R536).
-/
namespace Sys2Proof.Machine

/-! ## Failure -/

/-- A pipeline is declared failed (R314): reason 1 cupola fenced, 2 watchdog, 3 memory error. -/
def failPipeline (p reason : Nat) (s : State) : State :=
  if !inService p s then s
  else
    let s1 := moveCup (68 + p) .fenced 3 s
    setPipe { s1 with pe := { s1.pe with failedPipes := s1.pe.failedPipes ||| BitVec.ofNat 8 (2 ^ p) } } p
      { pipe s1 p with remap := some reason }

/-- PIPELINE_WATCHDOG (R314). [log 164 DEDUCED] -/
def execPipelineWatchdog (p : Fin 8) (s : State) : Host.Outcome State Fault Refusal := .next (failPipeline p.val 2 s)

/-- PIPELINE_MEMORY_ERROR (R314). -/
def execPipelineMemoryError (p : Fin 8) (s : State) : Host.Outcome State Fault Refusal := .next (failPipeline p.val 3 s)

/-! ## Remap -/

/-- A port in remap order: REMAP_PRIORITY ascending, budget rate descending, PORT ascending (R315). -/
def remapBefore (s : State) (a b : Nat) : Bool :=
  let ra := remapOf a s
  let rb := remapOf b s
  let ea := (portEnt s a).rate
  let eb := (portEnt s b).rate
  decide (ra < rb) || (decide (ra = rb) && (decide (eb < ea) || (decide (eb = ea) && decide (a < b))))

def insertBy (lt : Nat → Nat → Bool) (x : Nat) : List Nat → List Nat
  | [] => [x]
  | y :: r => if lt x y then x :: y :: r else y :: insertBy lt x r

def remapOrder (s : State) (ports : List Nat) : List Nat := ports.foldl (fun acc x => insertBy (remapBefore s) x acc) []

/-- Displacement order: highest REMAP_PRIORITY value, highest budget rate, highest PORT first (R315). -/
def displaceBefore (s : State) (a b : Nat) : Bool :=
  let ra := remapOf a s
  let rb := remapOf b s
  let ea := (portEnt s a).rate
  let eb := (portEnt s b).rate
  decide (rb < ra) || (decide (ra = rb) && (decide (eb < ea) || (decide (eb = ea) && decide (b < a))))

/-- Enabled ports on a pipeline. -/
def portsOn (p : Nat) (s : State) : List Nat :=
  (s.pe.ports.filter (fun e => e.2.enabled && decide (e.2.pipeline = some p))).map (fun e => e.1)

def unservedPorts (s : State) : List Nat := (s.pe.ports.filter (fun e => e.2.enabled && e.2.unserved)).map (fun e => e.1)

/-- The first ports of a displacement order that free what is needed; none when all do not. -/
def takeUntil (s : State) (need : Nat) : List Nat → Nat → List Nat → Option (List Nat)
  | acc, freed, [] => if need ≤ freed then some acc else none
  | acc, freed, x :: r => if need ≤ freed then some acc else takeUntil s need (acc ++ [x]) (freed + (portEnt s x).rate) r

/-- Ports to displace from pipeline `p` for a port (R315). -/
def displacedFrom (port p : Nat) (s : State) : Option (List Nat) :=
  let cands := ((portsOn p s).filter (fun x => decide (remapOf port s < remapOf x s))).foldl
    (fun acc x => insertBy (displaceBefore s) x acc) []
  takeUntil s ((portEnt s port).rate) [] (pipeRoom p s) cands

/-- The pipeline on which fewest ports are displaced, the lowest on a tie (R315). -/
def bestDisplacement (port : Nat) (s : State) : Option (Nat × List Nat) :=
  (servingPipes s).foldl (fun best p =>
    match displacedFrom port p s with
    | none => best
    | some l => match best with
      | none => some (p, l)
      | some (_, m) => if l.length < m.length then some (p, l) else best) none

def placeOn (port p : Nat) (s : State) : State :=
  setPortEnt s port { portEnt s port with pipeline := some p, unserved := false }
def liftPort (port : Nat) (s : State) : State := setPortEnt s port { portEnt s port with pipeline := none, unserved := true }

/-- Steps 1 and 2 of R315 for one port; the displaced ports are collected. -/
def placeOrDisplace (acc : State × List Nat) (port : Nat) : State × List Nat :=
  let s := acc.1
  match bestFit (portEnt s port).rate s with
  | some p => (placeOn port p s, acc.2)
  | none => match bestDisplacement port s with
    | some (p, l) => (placeOn port p (l.foldl (fun st x => liftPort x st) s), acc.2 ++ l)
    | none => (s, acc.2)

/-- Step 3 of R315, and R317: place a port by R311, without displacing. -/
def placePlain (usePreference : Bool) (s : State) (port : Nat) : State :=
  let e := portEnt s port
  match placement (if usePreference then e.preferred else none) e.rate s with
  | some p => placeOn port p s
  | none => s

/-- Source 0x2D9 (R316, R350). -/
def postService (port : Nat) (s : State) : State :=
  let e := portEnt s port
  post 0x2D9 .warning (port + bit e.unserved 16 + e.pipeline.getD 0 * 2 ^ 17) s

/-- Post 0x2D9 for every port whose service differs from what it was in `s0`. -/
def postServiceChanges (s0 s : State) : State :=
  (s.pe.ports.filter (fun e => e.2.enabled && decide (e.2.unserved ≠ (portEnt s0 e.1).unserved))).foldl
    (fun st e => postService e.1 st) s

/-- Remap the ports of failed pipeline `p` (R315): the state, the ports moved, those left UNSERVED. -/
def remapPipeline (p : Nat) (s : State) : State × Nat × Nat :=
  let mine := remapOrder s (portsOn p s)
  let s1 := mine.foldl (fun st x => liftPort x st) s
  let r := mine.foldl placeOrDisplace (s1, [])
  let s2 := (remapOrder r.1 r.2).foldl (placePlain false) r.1
  let all := mine ++ r.2
  (s2, (all.filter (fun x => !(portEnt s2 x).unserved)).length, (all.filter (fun x => (portEnt s2 x).unserved)).length)

/-- PIPELINE_REMAP_COMPLETE (R314–R316). -/
def execPipelineRemapComplete (p : Fin 8) (s : State) : Host.Outcome State Fault Refusal :=
  match (pipe s p.val).remap with
  | none => .next s
  | some reason =>
    let r := remapPipeline p.val s
    let s1 := postServiceChanges s (setPipe r.1 p.val { pipe r.1 p.val with remap := none })
    .next (post (0x2C0 + p.val) .fault (reason + satur 8 r.2.1 * 2 ^ 3 + satur 8 r.2.2 * 2 ^ 11) s1)

/-! ## Restoration -/

/-- PIPELINE_RESTORE (R317). -/
def execPipelineRestore (h : Caller) (p : Fin 8) (s : State) : Host.Outcome State Fault Refusal :=
  perform 0x0802 none noCupola h (fun s =>
    if !ownsDevice h s then refuse 4 s
    else if inService p.val s then emptyReply s
    else .later p.val s) s

/-- The self-test of a failed pipeline has passed: in service, its fence and safe state left, UNSERVED ports placed
(R317, R524). -/
def restorePipeline (p : Nat) (s : State) : State :=
  let s1 := moveCup (68 + p) .off 4 s
  let s2 := setPipe { s1 with pe := { s1.pe with failedPipes := s1.pe.failedPipes &&& ~~~(BitVec.ofNat 8 (2 ^ p)) } } p
    { pipe s1 p with remap := none, dtCount := 0, dtRun := 0, dtTimes := [] }
  let s3 := setDtFenced p false s2
  let s4 := (remapOrder s3 (unservedPorts s3)).foldl (placePlain true) s3
  let s5 := riseCup (68 + p) 0 s4
  post (0x2C0 + p) .fault 0 (postServiceChanges s s5)

/-- The end of PIPELINE_RESTORE's self-test (R317, R615). -/
def endPipelineTest (p : Nat) (pass : Bool) (s : State) : State :=
  if !runsOn 0x0802 p s then s
  else if pass then completeRunning 0x0802 p stOk 0 0 [] (restorePipeline p s)
  else completeRunning 0x0802 p stFaulted 0 0 [] s

/-! ## Domain tags -/

/-- A domain-tag fence (R536): the pipeline's cupola is fenced, so that R314 follows. -/
def fenceDomainTag (p : Nat) (s : State) : State :=
  if inService p s then failPipeline p 1 (setDtFenced p true s) else s

/-- A packet discarded at egress: counted, remembered for the interval; 256 within 1 s fence the pipeline (R202, R536). -/
def discardTag (p queueDom tagDom q : Nat) (parity : Bool) (s : State) : State :=
  let v := pipe s p
  let times := s.now :: (v.dtTimes.filter (fun t => decide (s.now < t + 1000000000)))
  let s1 := count 0x034 p 1 (some tagDom) (setPipe s p { v with
    dtCount := v.dtCount + 1, dtLatest := queueDom + tagDom * 2 ^ 12 + bit parity 24 + q * 2 ^ 25, dtTimes := times.take 256 })
  if 256 ≤ times.length then fenceDomainTag p s1 else s1

/-- DOMAIN_TAG_INTERVAL_END, 125 µs after the last: source 0x240 + p, and the successive intervals of R536 (R202, R205). -/
def execDomainTagIntervalEnd (p : Fin 8) (s0 : State) : Host.Outcome State Fault Refusal :=
  let s := setPipe s0 p.val { pipe s0 p.val with dtSince := s0.now }
  let v := pipe s p.val
  if s0.now < (pipe s0 p.val).dtSince + 125000 then .next s0
  else if v.dtCount = 0 then .next (setPipe s p.val { v with dtRun := 0 })
  else
    let s1 := post (0x240 + p.val) .safety (v.dtLatest + satur 3 v.dtCount * 2 ^ 41)
      (setPipe s p.val { v with dtCount := 0, dtRun := v.dtRun + 1 })
    if 8 ≤ v.dtRun + 1 then .next (fenceDomainTag p.val s1) else .next s1

/-! ## Commands -/

/-- What a pipeline can take besides a port that it may hold already. -/
def roomBut (port p : Nat) (s : State) : Nat :=
  pipeRoom p s + (if (portEnt s port).enabled && decide ((portEnt s port).pipeline = some p) then (portEnt s port).rate else 0)

/-- PORT_PIPELINE_SET (R311). -/
def execPortPipelineSet (h : Caller) (p : PortPipeP) (s : State) : Host.Outcome State Fault Refusal :=
  perform 0x0800 none noCupola h (fun s =>
    let e := portEnt s p.port
    let e1 := { e with preferred := p.pipeline.map (fun x => x.val), remapPriority := some p.remapPriority.val }
    if !portExists p.port then .hostError []
    else if !ownsPort h p.port s then refuse 4 s
    else match p.pipeline with
      | none => okay (setPortEnt s p.port e1)
      | some x =>
        if !e.enabled || !inService x.val s then okay (setPortEnt s p.port e1)
        else if roomBut p.port x.val s < e.rate then limitReply 0x800 s
        else
          let s1 := setPortEnt s p.port { e1 with pipeline := some x.val, unserved := false }
          okay (if e.unserved then postService p.port s1 else s1)) s

def pipelineStatus (p : Nat) (s : State) : List Byte :=
  let v := pipe s p
  fields 64 [(1, bit (!inService p s) 0), (1, (portsOn p s).length), (2, 0), (4, pipeLoad p s),
    (4, (s.pe.learned.filter (fun e => decide (e.1 / 262144 = p))).length), (4, 0), (8, v.noDomain), (4, v.moves),
    (4, v.flaps), (4, v.staticConflicts), (4, v.tableFull), (4, v.parity), (4, v.spillDropped)]

/-- PIPELINE_STATUS (R349). -/
def execPipelineStatus (h : Caller) (p : Fin 8) (s : State) : Host.Outcome State Fault Refusal :=
  perform 0x0801 none noCupola h (fun s => okResp (pipelineStatus p.val s) s) s

end Sys2Proof.Machine
end

