-- ==== Sys2Proof/Machine/Queues.lean ====
section
/-!
DEFINITION. Hardware queues: domain tags, targets, shapers, enqueue and spill, and the queue commands (R201, R309,
R336–R349).
-/
namespace Sys2Proof.Machine

/-! ## Domain tags -/

/-- The even parity of bits i, i+2, … of a 12-bit domain. -/
def parityFrom (i d : Nat) : Nat := ((List.range 6).foldl (fun a k => a + d / 2 ^ (2 * k + i) % 2) 0) % 2

/-- A domain with its two parity bits (R201). -/
def domainTag (d : Nat) : BitVec 14 := BitVec.ofNat 14 (d % 4096 + parityFrom 0 d * 2 ^ 12 + parityFrom 1 d * 2 ^ 13)
def tagDomain (t : BitVec 14) : Nat := t.toNat % 4096
def tagParityOk (t : BitVec 14) : Bool := decide (t = domainTag (tagDomain t))

/-! ## Targets -/

/-- The port context that sends from a downstream queue: the lowest that names it, of a terminal of the queue's domain (R197,
R338). -/
def downCtx (q : Nat) (s : State) : Option (Nat × PortCtx) :=
  s.tr.ports.find? (fun e => e.2.present && e.2.down && decide (e.2.downQueue = q) &&
    decide (queueDomain q s = some (terminal s e.2.tree e.2.terminal).domain))

/-- The binding of a destination queue (R476). -/
def bindingOf (q : Nat) (s : State) : Option Binding := s.fab.binds.find? (fun b => decide (b.queue = q))

/-- FLOW_HASH of a packet (R473). -/
def flowHash (domain : Nat) (dst src : BitVec 48) (vlan : Nat) : Nat :=
  crc32 (le 2 domain ++ le 6 dst.toNat ++ le 6 src.toNat ++ le 2 vlan)

/-- The parameters that the packet at the queue's head was enqueued with; of an empty queue, those that stand (R339). -/
def headParams (q : Nat) (s : State) : Option QueueP :=
  match (queue s q).onDie with
  | pk :: _ => pk.params.or (queue s q).cfg
  | [] => (queue s q).cfg

/-- The PORT that a packet with these parameters of its queue leaves on, with its flow hash; none without a target (R338, R476). -/
def portBy (params : Option QueueP) (q hash : Nat) (s : State) : Option Nat :=
  match params with
  | none => none
  | some c => match c.targetKind.val with
    | 0 => (downCtx q s).map (fun e => e.2.tree)
    | 1 => some (0x40 + c.target % 256)
    | 2 => some c.target
    | _ => match bindingOf q s with
      | some b => chooseLink b.dest hash s
      | none => some c.target

/-- The port of an arrival at a queue, and of the packet at its head. -/
def queuePort (q hash : Nat) (s : State) : Option Nat := portBy (queue s q).cfg q hash s
def headPort (q hash : Nat) (s : State) : Option Nat := portBy (headParams q s) q hash s

/-- The target is the fabric. -/
def fabricTarget (q : Nat) (s : State) : Bool :=
  match (queue s q).cfg with | some c => decide (c.targetKind.val = 3) | none => false

/-! ## Shapers -/

/-- Depth of a shaper in 10⁻⁶ bit. -/
def shaperDepth (burst : Nat) : Int := burst * 8000000

/-- The balance at present: PEAK_KBPS is as many 10⁻⁶ bit per ns, up to BURST_BYTES (R341). -/
def shaperNow (peak burst : Nat) (v : Shaper) (now : Nat) : Int :=
  min (shaperDepth burst) (v.balance + peak * (now - v.since))

/-- A shaper lets a packet start (R341). -/
def shaperOpen (peak burst : Nat) (v : Shaper) (now : Nat) : Bool :=
  decide (peak = 0) || decide (0 < shaperNow peak burst v now)

/-- Deduct a packet. -/
def shaperTake (peak burst bytes : Nat) (v : Shaper) (now : Nat) : Shaper :=
  if peak = 0 then v else { balance := shaperNow peak burst v now - bytes * 8000000, since := now }

/-- A configured shaper starts full. -/
def shaperFull (burst now : Nat) : Shaper := { balance := shaperDepth burst, since := now }

/-- The queue's shaper and its group's shaper both hold a positive balance (R341). -/
def shapersOpen (q : Nat) (s : State) : Bool :=
  match headParams q s with
  | none => false
  | some c => shaperOpen c.peakKbps c.burstBytes (queue s q).shaper s.now &&
    (match c.group with
      | none => true
      | some g => match (group s g.val).cfg with
        | some gc => shaperOpen gc.peakKbps gc.burstBytes (group s g.val).shaper s.now
        | none => true)

/-! ## Contents -/

def bytesOf (l : List Packet) : Nat := (l.map (fun p => p.length)).foldl (· + ·) 0

/-- Bytes of all queues in DRAM. -/
def dramHeld (s : State) : Nat := (s.pe.queues.map (fun e => bytesOf e.2.dram)).foldl (· + ·) 0

/-- The port can transmit: enabled, on a pipeline in service, and not UNSERVED (R314–R316). -/
def portServes (port : Nat) (s : State) : Bool :=
  (portEnt s port).enabled && !(portEnt s port).unserved &&
  (match (portEnt s port).pipeline with | some p => inService p s | none => false)

/-- The packet at a queue's head on die can be scheduled (R341, R344). -/
def eligible (q : Nat) (s : State) : Bool := !(queue s q).onDie.isEmpty && shapersOpen q s

def queuePriority (q : Nat) (s : State) : Nat := match headParams q s with | some c => c.priority.val | none => 0

/-- Source 0x2D8, at most once per second per kind: 0 SPILL_DROPPED, 1 SPILL_FULL, 2 SPILL_ERROR (R346, R350). -/
def postSpill (kind q : Nat) (s : State) : State :=
  let key := 0x190000 + kind
  let s1 := addUnreported key 1 s
  if due key 1000000000 s1 then
    post 0x2D8 .warning (kind + q * 2 ^ 2 + satur 26 (unreported key s1) * 2 ^ 18) (markPost key s1)
  else s1

/-! ## Enqueue -/

/-- What became of an arrival at a queue: held on die, held in DRAM, or dropped. -/
inductive Arrival where
  | onDie | inDram | dropped
deriving DecidableEq, Repr

/-- The pool of the packet's buffer is at level Early or beyond (R371). -/
def poolEarly (ptr : Nat) (s : State) : Bool :=
  match pointerPool ptr s with | some q => decide (1 ≤ (pool s q).level) | none => false

/-- The arrival puts or finds the queue in SPILLING (R343, R371). -/
def spills (c : QueueP) (v : Queue) (pk : Packet) (s : State) : Bool :=
  v.spilling || (decide (c.spillThreshold ≠ 0) &&
    (decide (c.spillThreshold < bytesOf v.onDie + pk.length) || poolEarly pk.buffer s))

/-- Downstream data has come for the tree of the queue (R136, R138). -/
def markDown (q : Nat) (s : State) : State :=
  match downCtx q s with
  | some (_, c) => setTree s c.tree { tree s c.tree with downBusy := true }
  | none => s

/-- An arrival that is written to the spill partition, or dropped (R343, R345, R346). -/
def spillArrival (p q : Nat) (pk : Packet) (stagingFull : Bool) (s : State) : State × Arrival :=
  let v := queue s q
  let d := some (tagDomain pk.tag)
  if stagingFull then
    let w := pipe s p
    (postSpill 0 q (setPipe (setQueue s q { v with spillDropped := satur 32 (v.spillDropped + 1) }) p
      { w with spillDropped := satur 32 (w.spillDropped + 1) }), .dropped)
  else if s.mem.spillGib * 2 ^ 30 < dramHeld s + pk.length then
    (postSpill 1 q (setQueue s q { v with spillFull := satur 32 (v.spillFull + 1) }), .dropped)
  else
    (markDown q (count 0x024 q pk.length d (count 0x021 q pk.length d (count 0x020 q 1 d
      (setQueue s q { v with spilling := true, dram := v.dram ++ [pk] })))), .inDram)

/-- A packet arrives at an egress queue from pipeline `p` (R136, R339, R342, R343). -/
def enqueue (p q : Nat) (pk0 : Packet) (stagingFull : Bool) (s : State) : State × Arrival :=
  let v := queue s q
  let pk := { pk0 with params := v.cfg }
  let d := some (tagDomain pk.tag)
  match v.cfg with
  | none => (discardTag p 0 (tagDomain pk.tag) q (!tagParityOk pk.tag) s, .dropped)
  | some c =>
    if c.maxDepth < bytesOf v.onDie + bytesOf v.dram + pk.length then
      (count 0x023 q 1 d (setQueue s q { v with tailDropped := satur 32 (v.tailDropped + 1) }), .dropped)
    else if spills c v pk s then spillArrival p q pk stagingFull s
    else
      (markDown q (count 0x021 q pk.length d (count 0x020 q 1 d (setQueue s q { v with onDie := v.onDie ++ [pk] }))), .onDie)

/-! ## Cut-through -/

/-- The rate of a port or of a line tributary, in units of 0.1 Gbit/s (R258, R347). -/
def portRate10 (port trib : Nat) (s : State) : Nat :=
  if 0x40 ≤ port ∧ port < 0x44 ∧ line400zr (port - 0x40) s = false then
    52 * slotCount (framerRate (port - 0x40) s) (tributary s (port - 0x40) trib).slots
  else (portEnt s port).rate * 10

def queueTributary (q : Nat) (s : State) : Nat :=
  match headParams q s with | some c => c.target / 256 % 256 | none => 0

/-- No packet is in transmission on the port and no other queue of equal or higher priority is eligible there (R347). -/
def portFree (port q : Nat) (s : State) : Bool :=
  decide ((portEnt s port).txUntil ≤ s.now) && s.pe.queues.all (fun e =>
    decide (e.1 = q) || decide (headPort e.1 0 s ≠ some port) || !(e.2.onDie.any (fun x => x.cut) ||
      (eligible e.1 s && decide (queuePriority q s ≤ queuePriority e.1 s))))

/-- The egress tree, if the port is one, is awake and not duty-cycled (R138, R347). -/
def portAwake (port : Nat) (s : State) : Bool :=
  if port < 0x40 then decide ((cup s port).state = .active) && !(tree s port).duty else true

/-- The conditions of R347; `onDieOnly` that no overflow entry was consulted. [log 79 DEDUCED] -/
def cutsThrough (ingressRate q hash len : Nat) (onDieOnly : Bool) (s : State) : Bool :=
  let v := queue s q
  match queuePort q hash s with
  | none => false
  | some port =>
    decide (portRate10 port (queueTributary q s) s ≤ ingressRate) && v.onDie.isEmpty && v.dram.isEmpty && !v.spilling &&
    portFree port q s && shapersOpen q s && onDieOnly && portAwake port s && portServes port s && decide (len ≤ 16352)

/-! ## Commands -/

/-- The queue is another domain's, not the caller's to change (R88, R109). [log 53 DEDUCED] -/
def foreignQueue (h : Caller) (v : Queue) (s : State) : Bool :=
  match v.cfg with | some c => !ownsDomain h c.domain.val s | none => false

/-- QUEUE_CONFIGURE (R339). -/
def execQueueConfigure (h : Caller) (p : QueueP) (s : State) : Host.Outcome State Fault Refusal :=
  perform 0x0808 none noCupola h (fun s =>
    let q := p.queue.val
    let v := queue s q
    let held := !v.onDie.isEmpty || !v.dram.isEmpty
    let moves : Bool := match v.cfg with | some c => decide (c.domain ≠ p.domain) | none => held
    if !ownsDomain h p.domain.val s || foreignQueue h v s then refuse 4 s
    else if !p.wf then .hostError [(kQueue, q)]
    else if held && moves then refuse 0x806 s
    else okay (setQueue s q { v with cfg := some p, domTag := domainTag p.domain.val, shaper := shaperFull p.burstBytes s.now })) s

/-- QUEUE_STATUS's response (R349). [log 78 DEDUCED] -/
def queueStatus (q : Nat) (s : State) : List Byte :=
  let v := queue s q
  if q < 65536 ∧ v.cfg = none then fields 64 []
  else
    let up := decide (65536 ≤ q)
    let z (n : Nat) : Nat := if up then 0 else n
    fields 64 [(1, z (bit v.spilling 0)), (7, 0), (8, bytesOf v.onDie), (8, z (bytesOf v.dram)),
      (8, v.onDie.length + v.dram.length), (8, v.txBytes), (4, v.tailDropped), (4, z v.spillDropped), (4, z v.spillFull),
      (4, z v.spillError), (4, z v.cutThrough), (4, z v.ctStomped)]

/-- The queue belongs to a domain of the caller's session. -/
def ownsQueue (h : Caller) (q : Nat) (s : State) : Bool :=
  match queueDomain q s with | some d => ownsDomain h d s | none => false

/-- QUEUE_STATUS (R349). -/
def execQueueStatus (h : Caller) (q : Fin 131072) (s : State) : Host.Outcome State Fault Refusal :=
  perform 0x0809 none noCupola h (fun s =>
    if isVf h.id.fn && !ownsQueue h q.val s then refuse 4 s
    else okResp (queueStatus q.val s) s) s

/-- Queues of the group that belong to a port other than `port`. -/
def groupElsewhere (g port : Nat) (s : State) : Bool :=
  s.pe.queues.any (fun e => (match e.2.cfg with | some c => decide (c.group.map (fun x => x.val) = some g) | none => false) &&
    decide (queuePort e.1 0 s ≠ some port))

/-- SCHED_GROUP_CONFIGURE (R340). -/
def execSchedGroupConfigure (h : Caller) (p : GroupP) (s : State) : Host.Outcome State Fault Refusal :=
  perform 0x080A none noCupola h (fun s =>
    if !ownsPort h p.port s then refuse 4 s
    else if !p.wf || !portExists p.port then .hostError (if groupElsewhere p.group.val p.port s then [] else [(kGroup, p.group.val)])
    else if groupElsewhere p.group.val p.port s then refuse 0x804 s
    else okay (setGroup s p.group.val { group s p.group.val with cfg := some p, shaper := shaperFull p.burstBytes s.now })) s

end Sys2Proof.Machine
end

