-- ==== Sys2Proof/Machine/BoardMemory.lean ====
section
/-!
DEFINITION. Board memory: channels, partitions, error correction, refresh, row disturbance, training (R486–R501, R512,
R513).
-/
namespace Sys2Proof.Machine

def channel (s : State) (c : Nat) : Channel := tget {} c s.mem.channels
def setChannel (s : State) (c : Nat) (v : Channel) : State :=
  { s with mem := { s.mem with channels := tset {} c v s.mem.channels } }
def bankOf (s : State) (c sub b : Nat) : MemBank := tget {} (c * 32 + sub * 16 + b) s.mem.banks
def setBank (s : State) (c sub b : Nat) (v : MemBank) : State :=
  { s with mem := { s.mem with banks := tset {} (c * 32 + sub * 16 + b) v s.mem.banks } }

/-- The DRAM-channel cupola (R515). -/
def channelCupola (c : Nat) : Nat := 76 + c

/-- Channel of a device physical address (R487, R489). -/
def channelAt (pa : Nat) : Nat :=
  if 0x140000000 ≤ pa ∧ pa < 0x160000000 then 14 + (pa / 2 ^ 8 % 2 ^^^ pa / 2 ^ 20 % 2)
  else pa / 2 ^ 8 % 16 ^^^ pa / 2 ^ 20 % 16

/-- The general partition (R489, R490). -/
def generalBase : Nat := 0x180000000
def generalEnd (spillGib : Nat) : Nat := (128 - spillGib) * 2 ^ 30

/-- Source 0x400 + c, the occurrences since the last of that kind with it (R513); kinds 0, 5 and 6 at most once per
second. -/
def postChannel (c kind lane bank requester : Nat) (s : State) : State :=
  let key := 0x1A0000 + c * 16 + kind
  let s1 := addUnreported key 1 s
  let limited := decide (kind = 0) || decide (kind = 5) || decide (kind = 6)
  if limited && !due key (msNs 1000) s1 then s1
  else post (0x400 + c) .warning (kind + lane * 2 ^ 4 + bank * 2 ^ 9 + requester * 2 ^ 13 +
    satur 23 (unreported key s1) * 2 ^ 21) (markPost key s1)

/-! ## Status and configuration -/

/-- Number of the 32 ms refresh window (R500). -/
def refreshWindow (s : State) : Nat := s.now / msNs 32

/-- The values of MEM_CONFIGURE in force: the new ones from the next refresh window on (R512). -/
def memNow (s : State) : MemNext :=
  let old : MemNext := { window := 0, hotC := s.mem.hotC, rhSample := s.mem.rhSample, rhLimit := s.mem.rhLimit, scrubHours := s.mem.scrubHours }
  match s.mem.next with
  | some n => if n.window < refreshWindow s then n else old
  | none => old

/-- A full retraining waits for the maintenance arbiter (R501, R512). -/
def fullDeferred (c : Nat) (s : State) : Bool := s.pwr.waiting.any (fun e => decide (e.activity = { kind := 1, scope := c }))

/-- STATE of MEM_STATUS (R512): a channel whose cupola is not Active is in self-refresh. -/
def channelCode (c : Nat) (s : State) : Nat :=
  let k := (cup s (channelCupola c)).state
  if k = .fenced then 3 else if (channel s c).training then 2 else if k = .active then 0 else 1

def memStatus (c : Nat) (s : State) : List Byte :=
  let v := channel s c
  fields 64 [(1, channelCode c s), (1, bit v.hot 0 + bit v.marked.isSome 1 + bit (fullDeferred c s) 2),
    (1, v.marked.getD 0xFF), (1, v.tempC), (2, s.mem.rateMts), (2, 0), (8, v.corrected), (8, v.uncorrectable),
    (4, v.directed), (4, v.throttles), (4, v.forced), (4, v.shortTrains), (4, v.fullTrains)]

/-- MEM_STATUS (R512). -/
def execMemStatus (h : Caller) (c : Fin 16) (s : State) : Host.Outcome State Fault Refusal :=
  perform 0x0D00 none noCupola h (fun s => okResp (memStatus c.val s) s) s

/-- A window lies in the general partition. -/
def inGeneral (spillGib base size : Nat) : Bool :=
  decide (generalBase ≤ base) && decide (base + size ≤ generalEnd spillGib)

/-- MEM_PARTITION_SET (R490). -/
def execMemPartitionSet (h : Caller) (spillGib : Nat) (s : State) : Host.Outcome State Fault Refusal :=
  perform 0x0D01 none noCupola h (fun s =>
    if !ownsDevice h s then refuse 4 s
    else if spillGib < 32 ∨ 112 < spillGib then .hostError [(kDevice, 0)]
    else if dramHeld s ≠ 0 then .done stBusy 0 0 [] s
    else if s.mem.windows.any (fun w => !inGeneral spillGib w.2.1 w.2.2) then refuse 0x0D00 s
    else okay { s with mem := { s.mem with spillGib := spillGib } }) s

/-- MEM_CONFIGURE (R512). -/
def execMemConfigure (h : Caller) (p : MemCfgP) (s : State) : Host.Outcome State Fault Refusal :=
  perform 0x0D03 none noCupola h (fun s =>
    let d (v dflt : Nat) : Nat := if v = 0 then dflt else v
    if !ownsDevice h s then refuse 4 s
    else if !p.wf then .hostError [(kDevice, 0)]
    else
      let o := memNow s
      okay { s with mem := { s.mem with hotC := o.hotC, rhSample := o.rhSample, rhLimit := o.rhLimit, scrubHours := o.scrubHours, next := some {
        window := refreshWindow s, hotC := d p.hotC 85, rhSample := d p.rhSample 16, rhLimit := d p.rhLimit 32,
        scrubHours := d p.scrubHours 24 } } }) s

/-- MEM_WINDOW_SET (R504). -/
def execMemWindowSet (h : Caller) (p : WindowP) (s : State) : Host.Outcome State Fault Refusal :=
  perform 0x0D0A none noCupola h (fun s =>
    let fn := pciKey p.fn
    let k := fn * 4 + p.window.val
    let put (v : Nat × Nat) : State := { s with mem := { s.mem with windows := tset (0, 0) k v s.mem.windows } }
    if !ownsDevice h s then refuse 4 s
    else if !p.wf then .hostError [(kDevice, 0)]
    else if p.size = 0 then okay (put (0, 0))
    else if !inGeneral s.mem.spillGib p.base p.size ||
        s.mem.windows.any (fun w => decide (w.1 / 4 ≠ fn) && decide (p.base < w.2.1 + w.2.2) &&
          decide (w.2.1 < p.base + p.size)) then refuse 0x0D03 s
    else okay (put (p.base, p.size))) s

/-! ## Error correction -/

/-- Corrected bytes by lane, those lanes with two or more (R493). -/
def heavyLanes (bytes : List Nat) : List Nat :=
  (List.range 24).filter (fun q => decide (2 ≤ (bytes.filter (fun b => decide (laneOf b = q))).length))

/-- Lanes that needed two or more bytes corrected count towards the mark (R493). -/
def noteLanes (c : Nat) (bytes : List Nat) (s : State) : State :=
  let v := channel s c
  let hits := (heavyLanes bytes).map (fun q => (q, s.now)) ++ v.hits.filter (fun h => decide (s.now < h.2 + msNs 1))
  let bad := hits.find? (fun h => decide (16 ≤ (hits.filter (fun x => decide (x.1 = h.1))).length))
  match v.marked, bad with
  | none, some h => postChannel c 2 h.1 0 0 (setChannel s c { v with hits := [], marked := some h.1 })
  | _, _ => setChannel s c { v with hits := hits }

/-- One word read and decoded: its data, none where uncorrectable; counts, the lane's mark, the events (R492–R494, R513). -/
def decodeAccess (c bank : Nat) (word : List Byte) (s : State) : State × Option (List Byte) :=
  let v := channel s c
  match rsDecode v.marked word with
  | some (data, []) => (s, some data)
  | some (data, b :: rest) =>
    (postChannel c 0 (laneOf b) bank 0 (noteLanes c (b :: rest) (setChannel s c { v with corrected := satur 64 (v.corrected + 1) })),
      some data)
  | none => (postChannel c 1 0 bank 0 (setChannel s c { v with uncorrectable := satur 64 (v.uncorrectable + 1) }), none)

/-! ## Refresh -/

def lastCmd (v : Channel) (sub : Nat) : Option Nat := if sub = 0 then v.lastCmdA else v.lastCmdB
def setLastCmd (v : Channel) (sub : Nat) (t : Nat) : Channel :=
  if sub = 0 then { v with lastCmdA := some t } else { v with lastCmdB := some t }
def urgentOf (v : Channel) (sub : Nat) : Bool := if sub = 0 then v.urgentA else v.urgentB
def setUrgent (v : Channel) (sub : Nat) (u : Bool) : Channel := if sub = 0 then { v with urgentA := u } else { v with urgentB := u }

/-- The bank may receive a command now: 140 ns after its last REFRESH (R496). -/
def bankReady (v : MemBank) (now : Nat) : Bool := match v.refreshedAt with | some t => decide (t + 140 ≤ now) | none => true

/-- A request's half on a sub-channel is issued. -/
def halfDone (sub : Nat) (r : MemRequest) : Bool := if sub = 0 then r.doneA else r.doneB

def lineBank (line : Nat) : Nat := Config.dramBank line % 16
def lineRow (line : Nat) : Nat := Config.dramRow line

/-- The requests in the queue of a bank of a sub-channel, the oldest first (R498). -/
def bankQueue (c sub b : Nat) (s : State) : List MemRequest :=
  (channel s c).requests.filter (fun r => !halfDone sub r && decide (lineBank r.line = b))

/-- No row of the bank is open. -/
def bankIdle (c sub b : Nat) (s : State) : Bool := (bankOf s c sub b).openRow.isNone

/-- The refresh target of a sub-channel: a bank that owes eight; once urgent, an idle owing bank, else a busy one; else an idle
owing bank whose queue is empty; among several, the lowest (R497). [log 196 DESIGN CHOICE] -/
def refreshTarget (c sub : Nat) (s : State) : Option Nat :=
  let owing := (List.range 16).filter (fun b => decide (0 < (bankOf s c sub b).debt))
  let ready := owing.filter (fun b => bankReady (bankOf s c sub b) s.now)
  match owing.find? (fun b => decide (8 ≤ (bankOf s c sub b).debt)) with
  | some b => if bankReady (bankOf s c sub b) s.now then some b else none
  | none =>
    if urgentOf (channel s c) sub then (ready.find? (fun b => bankIdle c sub b s)).or ready.head?
    else ready.find? (fun b => bankIdle c sub b s && (bankQueue c sub b s).isEmpty)

/-- Issue one REFRESH where the spacing of 90 ns allows one; the bank's open row is closed first (R496, R497). -/
def payRefresh (c sub : Nat) (s : State) : State :=
  let v := channel s c
  let free := match lastCmd v sub with | some t => decide (t + 90 ≤ s.now) | none => true
  if !free then s
  else match refreshTarget c sub s with
    | none => s
    | some b =>
      let k := bankOf s c sub b
      let forced := decide (8 ≤ k.debt)
      emit (.refresh c sub b) <| count 0x083 c 1 none (setBank (setChannel s c { setLastCmd v sub s.now with
        forced := if forced then satur 32 (v.forced + 1) else v.forced }) c sub b
          { k with debt := k.debt - 1, refreshedAt := some s.now, openRow := none, hitRun := 0 })

/-- A bank of the sub-channel still owes a refresh. -/
def owes (c sub : Nat) (s : State) : Bool := (List.range 16).any (fun b => decide (0 < (bankOf s c sub b).debt))

/-- urgent ends when no bank owes (R497). -/
def endUrgent (c sub : Nat) (s : State) : State :=
  if urgentOf (channel s c) sub && !owes c sub s then setChannel s c (setUrgent (channel s c) sub false) else s

/-- Directed refreshes whose bank may receive a command; a debt-forced refresh of the bank goes first (R500). -/
def payDirected (c : Nat) (s : State) : State :=
  (channel s c).directedDue.foldl (fun st d =>
    let k := bankOf st c d.1 d.2.1
    if k.debt < 8 ∧ bankReady k st.now = true then
      emit (.directedRefresh c d.1 d.2.1 d.2.2) (setChannel st c { channel st c with
        directedDue := (channel st c).directedDue.erase d })
    else st) s

/-- The refreshes of a cycle, for each sub-channel (R497). -/
def payRefreshes (c : Nat) (s : State) : State :=
  payDirected c (endUrgent c 1 (payRefresh c 1 (endUrgent c 0 (payRefresh c 0 s))))

/-- tREFIpb, in ns (R496). -/
def refreshNs (v : Channel) : Nat := if v.hot then 1952 else 3904

/-- REFRESH_INTERVAL: at the end of the bank's interval it accrues one refresh, at most 8 owed; the end of the cycle pays what
may be paid. In self-refresh the memory refreshes itself (R496, R497). [log 122 DEDUCED] -/
def execRefreshInterval (c : Fin 16) (sub : Fin 2) (b : Fin 16) (s : State) : Host.Outcome State Fault Refusal :=
  let k := bankOf s c.val sub.val b.val
  if s.now < k.accrueAt then .next s
  else
    let n := if channelCode c.val s = 1 then k.debt else min 8 (k.debt + 1)
    .next (setBank s c.val sub.val b.val { k with debt := n, accrueAt := k.accrueAt + refreshNs (channel s c.val) })

/-- At the crossing a running interval ends within 1.952 µs (R497). -/
def shortenIntervals (c : Nat) (s : State) : State :=
  (List.range 32).foldl (fun st i =>
    let k := bankOf st c (i / 16) (i % 16)
    setBank st c (i / 16) (i % 16) { k with accrueAt := min k.accrueAt (st.now + 1952) }) s

/-- MEMORY_TEMPERATURE_READ, every 4 ms: the doubled rate begins above REFRESH_HOT_C, what is owed then being urgent, and ends 3
°C below it (R497, R513). -/
def execMemoryTemperatureRead (c : Fin 16) (tempC : Nat) (s : State) : Host.Outcome State Fault Refusal :=
  let hotC := (memNow s).hotC
  if s.now < (channel s c.val).tempAt then .next s
  else
    let v := { channel s c.val with tempC := tempC, tempAt := s.now + msNs 4 }
    if !v.hot && decide (hotC < tempC) then
      .next (postChannel c.val 3 0 0 0 (shortenIntervals c.val
        (setChannel s c.val { v with hot := true, urgentA := true, urgentB := true })))
    else if v.hot && decide (tempC + 3 ≤ hotC) then
      .next (postChannel c.val 4 0 0 0 (setChannel s c.val { v with hot := false }))
    else .next (setChannel s c.val v)

/-! ## Row disturbance (R500) -/

/-- One sample of a row in the table of 16: its count one up; a full table gives up its row with the lowest count. -/
def sampleRow (row : Nat) (rows : List (Nat × Nat)) : List (Nat × Nat) :=
  match rows.find? (fun r => decide (r.1 = row)) with
  | some x => rows.map (fun r => if r.1 = row then (row, x.2 + 1) else r)
  | none =>
    if rows.length < 16 then rows ++ [(row, 1)]
    else
      let low := rows.foldl (fun m r => min m r.2) (rows.headD (0, 0)).2
      match rows.find? (fun r => decide (r.2 = low)) with
      | some x => rows.erase x ++ [(row, 1)]
      | none => rows

/-- An activate of a row, every RH_SAMPLE-th one sampled; a counter that reaches RH_LIMIT within the refresh window is noted with
the requester. -/
def noteActivate (c sub b row requester : Nat) (s : State) : State :=
  let p := memNow s
  let k := bankOf s c sub b
  if k.activates + 1 < p.rhSample then setBank s c sub b { k with activates := k.activates + 1 }
  else
    let rows := sampleRow row (if k.window = refreshWindow s then k.rows else [])
    let s1 := setBank s c sub b { k with activates := 0, rows := rows, window := refreshWindow s }
    let hit := (sub, b, row, requester)
    let v := channel s1 c
    if rows.any (fun r => decide (r.1 = row) && decide (p.rhLimit ≤ r.2)) && !v.disturbed.contains hit then
      setChannel s1 c { v with disturbed := v.disturbed ++ [hit] }
    else s1

/-- ROW_DISTURBANCE: the counter of a sampled row has reached RH_LIMIT: a directed refresh of its neighbours is due, the counter is
cleared, the requester throttled for 1 ms (R500, R513). -/
def execRowDisturbance (c : Fin 16) (sub : Fin 2) (b : Fin 16) (row requester : Nat) (s : State) : Host.Outcome State Fault Refusal :=
  let v := channel s c.val
  let hit := (sub.val, b.val, row, requester)
  if !v.disturbed.contains hit then .next s
  else
    let last := match v.throttled.find? (fun t => decide (t.requester = requester)) with | some t => t.last | none => none
    let s1 := setChannel s c.val { v with
      disturbed := v.disturbed.erase hit,
      directed := satur 32 (v.directed + 1), throttles := satur 32 (v.throttles + 1),
      directedDue := v.directedDue ++ [(sub.val, b.val, row)],
      throttled := { requester := requester, until_ := s.now + msNs 1, last := last } ::
        v.throttled.filter (fun t => decide (s.now < t.until_) && decide (t.requester ≠ requester)) }
    let k := bankOf s1 c.val sub.val b.val
    .next (postChannel c.val 5 0 b.val (requester % 256)
      (setBank s1 c.val sub.val b.val { k with rows := k.rows.map (fun r => if r.1 = row then (row, 0) else r) }))

/-! ## Training -/

/-- A retraining begins, or waits for the one under way to end (R501). -/
def startMemTraining (c : Nat) (full : Bool) (s : State) : State :=
  let v := channel s c
  if v.training then setChannel s c { v with trainNext := v.trainNext ++ [full] }
  else setChannel s c { v with training := true, trainFull := full, trainSince := s.now }

/-- A retraining stalls the channel for at most 2 µs, a full one for at most 300 µs (R501). -/
def stalled (c : Nat) (s : State) : Bool :=
  let v := channel s c
  v.training && decide (s.now < v.trainSince + (if v.trainFull then 300000 else 2000))

/-- MEM_TRAIN; a full one also of a fenced channel (R501, R524). -/
def execMemTrain (h : Caller) (c : Fin 16) (full : Bool) (s : State) : Host.Outcome State Fault Refusal :=
  perform 0x0D02 (if full then some { kind := 1, scope := c.val } else none)
      (fun s => if ownsDevice h s && !(full && decide ((cup s (channelCupola c.val)).state = .fenced))
        then some (channelCupola c.val) else none) h (fun s =>
    if !ownsDevice h s then refuse 4 s
    else .later (c.val * 2 + bit full 0) (startMemTraining c.val full s)) s

/-- The next retraining that waits begins. -/
def nextTraining (c : Nat) (s : State) : State :=
  let v := channel s c
  match v.trainNext with
  | f :: rest => startMemTraining c f (setChannel s c { v with trainNext := rest })
  | [] => s

/-- A fenced channel that a full retraining has restored enters Off and follows its votes (R524). -/
def restoreChannel (c : Nat) (s : State) : State :=
  if (cup s (channelCupola c)).state = .fenced then riseCup (channelCupola c) 4 (moveCup (channelCupola c) .off 4 s) else s

/-- MEM_TRAINING_END: the retraining under way ends (R493, R501, R512, R513, R524). [log 197 DEDUCED] -/
def execMemTrainingEnd (c : Fin 16) (full ok lanesClean : Bool) (s : State) : Host.Outcome State Fault Refusal :=
  let v := channel s c.val
  if !v.training || v.trainFull != full then .next s
  else
    let key := c.val * 2 + bit full 0
    let done (st : State) : State := if full then endActivity { kind := 1, scope := c.val } st else st
    if ok then
      let (m, s1) := draw s
      let s2 := setChannel s1 c.val { v with
        training := false, marked := if full && lanesClean then none else v.marked,
        shortTrains := if full then v.shortTrains else satur 32 (v.shortTrains + 1),
        fullTrains := if full then satur 32 (v.fullTrains + 1) else v.fullTrains }
      let s3 := if full then restoreChannel c.val s2 else s2
      .next (nextTraining c.val (done (completeRunning 0x0D02 key stOk 0 (m % 256) [] s3)))
    else
      let s1 := postChannel c.val 7 0 0 0 (setChannel s c.val { v with training := false })
      .next (nextTraining c.val (failWaits (channelCupola c.val)
        (done (completeRunning 0x0D02 key stFaulted 0x0D01 0 [] (moveCup (channelCupola c.val) .fenced 3 s1)))))

/-- DQS_DRIFT_CHECK, every 100 ms: short beyond 2 %, a full one asked for at 6 %; while a full one is deferred, short only, and
source 0x400 + c says so (R501). -/
def execDqsDriftCheck (c : Fin 16) (driftPermille : Nat) (s : State) : Host.Outcome State Fault Refusal :=
  let v := channel s c.val
  if s.now < v.dqsAt then .next s
  else
    let s1 := setChannel s c.val { v with dqsAt := s.now + msNs 100 }
    if v.training then .next s1
    else if fullDeferred c.val s then
      let s2 := postChannel c.val 6 0 0 0 s1
      .next (if 20 < driftPermille then startMemTraining c.val false s2 else s2)
    else if 60 ≤ driftPermille then
      if arbiterAwaits s then .next (askLater { kind := 1, scope := c.val } s1)
      else match firmwareActivity { kind := 1, scope := c.val } s1 with
      | (s2, true) => .next (startMemTraining c.val true s2)
      | (s2, false) => .next (startMemTraining c.val false (postChannel c.val 6 0 0 0 s2))
    else if 20 < driftPermille then .next (startMemTraining c.val false s1)
    else .next s1

end Sys2Proof.Machine
end

