-- ==== Sys2Proof/Machine/MemQueue.lean ====
section
/-!
DEFINITION. Requests to board memory: their classes, the bank queues, the scheduler of a sub-channel, and the order of accesses to the
same 64 bytes (R486, R488, R498, R499).
-/
namespace Sys2Proof.Machine

def isWrite (c : MemClient) : Bool := decide (c = .write) || decide (c = .writeBack)

/-- Every request that has not completed. -/
def openRequests (s : State) : List MemRequest := s.mem.waiting ++ s.mem.channels.flatMap (fun e => e.2.requests)

/-- A write goes before the reads of the same bytes that entered in its cycle (R499). -/
def queueRequest (r : MemRequest) : List MemRequest → List MemRequest
  | [] => [r]
  | x :: rest =>
    if isWrite r.client && !isWrite x.client && decide (x.line = r.line) && decide (x.entered = r.entered) then r :: x :: rest
    else x :: queueRequest r rest

/-- A write to the bytes has come after them (R495). -/
def overwrite (line : Nat) (rs : List MemRequest) : List MemRequest :=
  rs.map (fun r => if r.line = line then { r with overwritten := true } else r)

/-- A request enters. [log 198 DEDUCED] -/
def enterRequest (line requester : Nat) (client : MemClient) (word : Option (List Byte)) (flips : DqFlips) (s : State) : State :=
  let r : MemRequest := { num := s.mem.requestNum, line := line, requester := requester, client := client, entered := s.now,
                          word := word, flips := flips,
                          overwritten := (openRequests s).any (fun x => decide (x.client = .write) && decide (x.line = line)) }
  let s1 := if client = .write then { s with mem := { s.mem with
      waiting := overwrite line s.mem.waiting,
      channels := tmap {} (fun _ v => { v with requests := overwrite line v.requests }) s.mem.channels } } else s
  { s1 with mem := { s1.mem with waiting := queueRequest r s1.mem.waiting, requestNum := s.mem.requestNum + 1 } }

/-- The accesses that hold the bytes at some addresses, each once. -/
def accessesOf (pas : List Nat) : List Nat := (pas.map (fun a => a / 64)).eraseDups

/-- Reads, or writes, of the accesses enter; `flips` gives the DQ signals wrong in some. -/
def enterAll (requester : Nat) (client : MemClient) (flips : List (Nat × DqFlips)) (lines : List Nat) (s : State) : State :=
  lines.foldl (fun st l =>
    let f := match flips.find? (fun e => decide (e.1 = l)) with | some e => e.2 | none => []
    enterRequest l requester client none f st) s

/-- A read finds what memory holds at the end of its cycle: every earlier write, and none that comes later (R499). -/
def sampleReads (s : State) : State :=
  { s with mem := { s.mem with waiting := s.mem.waiting.map (fun r =>
      if r.word.isNone && !isWrite r.client then { r with word := some (readBytes (r.line * 64) 64 s) } else r) } }

/-! ## Into the bank queues (R488, R498) -/

/-- The class: 0 SYSTEM, 1 spill read-backs, 2 DMA, BAR2 and the scrub (R488). -/
def classOf : MemClient → Nat
  | .reader (.spill _) => 1
  | .reader _ => 0
  | _ => 2

/-- 64 bytes, in 1/64 byte. -/
def accessShare : Nat := 4096

/-- What a cycle of 1 ns adds to the shares: 60 GB/s; 1.8 Tbit/s × rate / 14,400 (R488). -/
def addShares (s : State) : State :=
  { s with mem := { s.mem with
      systemShare := min (s.mem.systemShare + 3840) (accessShare + 3840),
      spillShare := min (s.mem.spillShare + s.mem.rateMts) (accessShare + s.mem.rateMts) } }

def shareLeft (k : Nat) (s : State) : Bool := match k with
  | 0 => decide (accessShare ≤ s.mem.systemShare)
  | 1 => decide (accessShare ≤ s.mem.spillShare)
  | _ => true
def takeShare (k : Nat) (s : State) : State := match k with
  | 0 => { s with mem := { s.mem with systemShare := s.mem.systemShare - accessShare } }
  | 1 => { s with mem := { s.mem with spillShare := s.mem.spillShare - accessShare } }
  | _ => s

/-- The queue of the access's bank has room on both sub-channels. -/
def bankRoom (line : Nat) (s : State) : Bool :=
  let c := channelAt (line * 64)
  decide ((bankQueue c 0 (lineBank line) s).length < 16) && decide ((bankQueue c 1 (lineBank line) s).length < 16)

/-- A request of class `k` enters its bank's queue, unless its share, an earlier request of its unit or of the same bytes, or a
full queue holds it back; the others keep waiting. -/
def takeRequest (k : Nat) (acc : List MemRequest × State) (r : MemRequest) : List MemRequest × State :=
  let held := acc.1.any (fun x => decide (x.line = r.line) ||
    (decide (x.requester = r.requester) && decide (classOf x.client = classOf r.client)))
  if classOf r.client ≠ k ∨ held = true ∨ bankRoom r.line acc.2 = false ∨ shareLeft k acc.2 = false then (acc.1 ++ [r], acc.2)
  else
    let c := channelAt (r.line * 64)
    (acc.1, takeShare k (setChannel acc.2 c { channel acc.2 c with requests := (channel acc.2 c).requests ++ [r] }))

/-- Waiting requests enter the bank queues, class after class. -/
def takeRequests (s : State) : State :=
  [0, 1, 2].foldl (fun st k =>
    let r := st.mem.waiting.foldl (takeRequest k) ([], st)
    { r.2 with mem := { r.2.mem with waiting := r.1 } }) (addShares s)

/-! ## The scheduler of a sub-channel (R498) -/

def lastAct (v : Channel) (sub : Nat) : Nat := if sub = 0 then v.lastActA else v.lastActB
def actsOf (v : Channel) (sub : Nat) : List Nat := if sub = 0 then v.actsA else v.actsB
def takenOf (v : Channel) (sub : Nat) : Nat := if sub = 0 then v.takenA else v.takenB

/-- The row of the request may be activated: the four-activate window, and the throttle of its requester (R498, R500). -/
def mayActivate (c sub : Nat) (r : MemRequest) (s : State) : Bool :=
  let v := channel s c
  decide (((actsOf v sub).filter (fun t => decide (s.now < t + Config.fourActivateNs))).length < 4) &&
  (match v.throttled.find? (fun t => decide (t.requester = r.requester) && decide (s.now < t.until_)) with
   | some t => (match t.last with | some i => decide (i + 100 ≤ s.now) | none => true)
   | none => true)

/-- An earlier request to the same bytes has not been issued on the sub-channel (R499). -/
def behind (c sub : Nat) (r : MemRequest) (s : State) : Bool :=
  ((channel s c).requests.takeWhile (fun x => decide (x.num ≠ r.num))).any (fun x => decide (x.line = r.line) && !halfDone sub x)

/-- The request that a bank would issue: one that hits its open row, up to 4 in a row, else the oldest, and whether it needs an
activate. None while the bank pays what it must owe no longer (R496–R498). -/
def issuable (c sub b : Nat) (s : State) : Option (MemRequest × Bool) :=
  let k := bankOf s c sub b
  if !bankReady k s.now || decide (8 ≤ k.debt) || (urgentOf (channel s c) sub && decide (0 < k.debt)) then none
  else
    let es := (bankQueue c sub b s).filter (fun r => !behind c sub r s)
    let hit := if k.hitRun < 4 then es.find? (fun r => decide (k.openRow = some (lineRow r.line))) else none
    match hit.or es.head? with
    | none => none
    | some r =>
      if k.openRow = some (lineRow r.line) then some (r, false)
      else if mayActivate c sub r s then some (r, true) else none

/-- The bank picked, by rotation from the one after the last that issued an activate. -/
def pickBank (c sub : Nat) (s : State) : Option (Nat × MemRequest × Bool) :=
  ((List.range 16).map (fun i => (lastAct (channel s c) sub + 1 + i) % 16)).findSome? (fun b =>
    (issuable c sub b s).map (fun x => (b, x.1, x.2)))

/-- A burst of 24 beats, in ps (R486). -/
def burstPs (s : State) : Nat := 24000000 / s.mem.rateMts

/-- A row is activated: noted for the window, the throttle and the sampling (R498, R500). -/
def activateRow (c sub b : Nat) (r : MemRequest) (s : State) : State :=
  let v := channel s c
  let acts := s.now :: (actsOf v sub).take 3
  let w := if sub = 0 then { v with lastActA := b, actsA := acts } else { v with lastActB := b, actsB := acts }
  let th := w.throttled.map (fun t => if t.requester = r.requester then { t with last := some s.now } else t)
  noteActivate c sub b (lineRow r.line) r.requester (count 0x082 c 1 none (setChannel s c { w with throttled := th }))

/-- Issue a request's half: the row it leaves open closes with the bank's last request. [log 195 DESIGN CHOICE] -/
def issueRequest (c sub b : Nat) (r : MemRequest) (act : Bool) (s : State) : State :=
  let s1 := if act then activateRow c sub b r s else s
  let v := channel s1 c
  let rs := v.requests.map (fun x =>
    if x.num = r.num then (if sub = 0 then { x with doneA := true } else { x with doneB := true }) else x)
  let till := max (takenOf v sub) (s.now * 1000) + burstPs s
  let w := { v with requests := rs }
  let s2 := setChannel s1 c (if sub = 0 then { w with takenA := till } else { w with takenB := till })
  let k := bankOf s2 c sub b
  let last := (bankQueue c sub b s2).isEmpty
  setBank s2 c sub b { k with
    openRow := if last then none else some (lineRow r.line),
    hitRun := if last || act || decide (4 ≤ k.hitRun) then 0 else k.hitRun + 1 }

/-- One cycle of a sub-channel's scheduler. -/
def scheduleSub (c sub : Nat) (s : State) : State :=
  if (s.now + 1) * 1000 ≤ takenOf (channel s c) sub then s
  else match pickBank c sub s with
    | some x => issueRequest c sub x.1 x.2.1 x.2.2 s
    | none => s

/-- The channel serves requests: its cupola Active, its data rate set, no retraining in the way (R486, R501). -/
def serves (c : Nat) (s : State) : Bool :=
  decide ((cup s (channelCupola c)).state = .active) && !stalled c s && decide (s.mem.rateMts ≠ 0)

/-- Requests wake a channel that sleeps, by hardware's vote, which ends with them (R516). -/
def wakeChannel (c : Nat) (s : State) : State :=
  let k := channelCupola c
  let u := cup s k
  if (channel s c).requests.isEmpty then (if u.hwVote then setCup s k { u with hwVote := false } else s)
  else if u.state = .active ∨ u.state = .fenced ∨ u.waking.isSome = true then s
  else setCup s k { u with hwVote := true, waking := some s.now }

/-- The requests of a channel that have been issued on both sub-channels leave its queues. -/
def takeDone (c : Nat) (s : State) : List MemRequest × State :=
  let v := channel s c
  let fenced := decide ((cup s (channelCupola c)).state = .fenced)
  let out (r : MemRequest) : Bool := fenced || (r.doneA && r.doneB)
  (v.requests.filter out, setChannel s c { v with requests := v.requests.filter (fun r => !out r) })

end Sys2Proof.Machine
end

