-- ==== Sys2Proof/Machine/Mmu.lean ====
section
/-!
DEFINITION. The device MMU: the table walk, windows, faults, invalidation, and BAR2 (R55, R56, R502–R507).
-/
namespace Sys2Proof.Machine

def mmuPage (s : State) (fn : Nat) : MmuPage := tget {} fn s.mem.pages
def setMmuPage (s : State) (fn : Nat) (v : MmuPage) : State :=
  { s with mem := { s.mem with pages := tset {} fn v s.mem.pages } }

/-! ## Translation -/

/-- The bytes from `a` on lie in one window of the function (R504). -/
def inWindows (fn a n : Nat) (s : State) : Bool :=
  (List.range 4).any (fun w =>
    let x := tget (0, 0) (fn * 4 + w) s.mem.windows
    decide (x.2 ≠ 0) && decide (x.1 ≤ a) && decide (a + n ≤ x.1 + x.2))

/-- What a translation comes to: an address, or KIND of R506: 0 INVALID, 1 PERMISSION, 2 RANGE, 3 TABLE. -/
inductive Translation where
  | at (pa : Nat)
  | fault (kind : Nat)
deriving DecidableEq, Repr

/-- Entries of the table whose entries cover 2^sh bytes (R502). -/
def tableEntries (sh : Nat) : Nat := if sh = 39 then 8192 else 512

/-- What a walk comes to: a page, or the kind of the fault before PERMISSION. -/
inductive Walk where
  | page (e : TlbEntry)
  | fault (kind : Nat)
deriving DecidableEq, Repr

/-- The walk from a table of the level that covers 2^sh bytes per entry, the levels below it in `rest`; the first kind of
fault that applies (R502, R505). -/
def walk (fn va : Nat) (s : State) : List Nat → Nat → Walk
  | [], _ => .fault 0
  | sh :: rest, table =>
    let ea := table + va / 2 ^ sh % tableEntries sh * 8
    if !inWindows fn ea 8 s then .fault 3
    else
      let e := leNat (readBytes ea 8 s)
      let addr := e / 2 ^ 12 % 2 ^ 36 * 2 ^ 12
      let leaf := Nat.testBit e 1 && decide (sh ≠ 39)
      if !Nat.testBit e 0 || (rest.isEmpty && !leaf) then .fault 0
      else if leaf then
        let page := addr / 2 ^ sh * 2 ^ sh
        if !inWindows fn page (2 ^ sh) s then .fault 2
        else .page { page := va / 2 ^ sh, size := sh, base := page, read := Nat.testBit e 2, write := Nat.testBit e 3 }
      else walk fn va s rest addr

/-- The page of a translation made since the last invalidation, if it is used: the tables are read anew otherwise (R507).
[log 119 DESIGN CHOICE] -/
def keptPage (fn va : Nat) (s : State) : Option TlbEntry :=
  match (mmuPage s fn).tlb.find? (fun e =>
      decide (12 ≤ e.size) && decide (va / 2 ^ e.size = e.page) && inWindows fn e.base (2 ^ e.size) s) with
  | some e => if Config.tlbUsed fn (va / 4096) s.now then some e else none
  | none => none

/-- The page of a virtual address: kept, or walked for. -/
def pageOf (fn va : Nat) (s : State) : Walk :=
  match keptPage fn va s with
  | some e => .page e
  | none => walk fn va s [39, 30, 21, 12] (mmuPage s fn).root

/-- Translate a device virtual address in a function's context (R502–R505, R507). -/
def translate (fn va : Nat) (write : Bool) (s : State) : Translation :=
  match pageOf fn (va % 2 ^ 52) s with
  | .fault k => .fault k
  | .page e => if (if write then e.write else e.read) then .at (e.base + va % 2 ^ e.size) else .fault 1

/-- The translations of some addresses are kept. -/
def keepPages (fn : Nat) (vas : List Nat) (s : State) : State :=
  vas.foldl (fun st va => match pageOf fn (va % 2 ^ 52) st with
    | .page e =>
      let p := mmuPage st fn
      if p.tlb.contains e then st else setMmuPage st fn { p with tlb := p.tlb ++ [e] }
    | .fault _ => st) s

/-- A fault recorded in the function's MMU page, and source 0x410 (R505, R506, R513). [log 120 DEDUCED] -/
def mmuFault (fn va kind : Nat) (write bar2 : Bool) (ch : Nat) (s : State) : State :=
  let p := mmuPage s fn
  let p1 := if p.valid then { p with count := satur 16 (p.count + 1) }
    else { p with valid := true, faultVa := va % 2 ^ 52, kind := kind, write := write, bar2 := bar2, channel := ch,
                  count := satur 16 (p.count + 1) }
  post 0x410 .error (bit bar2 0 + ch * 2 + kind * 2 ^ 7 + bit write 9 + fn % 64 * 2 ^ 10 +
    bit (decide (fn / 64 = 1)) 16 + va / 2 ^ 12 % 2 ^ 27 * 2 ^ 17) (setMmuPage s fn p1)

/-! ## Contexts and invalidation -/

/-- MMU_CONTEXT_SET (R503). [log 118 DEDUCED, 163 DEDUCED] -/
def execMmuContextSet (h : Caller) (root : Nat) (s : State) : Host.Outcome State Fault Refusal :=
  perform 0x0D04 none noCupola h (fun s =>
    let fn := fnKey h.id.fn
    if root % 65536 ≠ 0 ∨ 2 ^ 48 ≤ root then .hostError [(kMmu, fn)]
    else if 128 ≤ fn then okay (setMmuPage s fn { mmuPage s fn with root := root, tlb := [] })
    else .later fn (setMmuPage s fn { mmuPage s fn with root := root, before := (mmuPage s fn).root, busy := 2,
                                                        busySince := s.now, tlb := [] })) s

/-- A write of MMU_TLB_INVAL: merged into a running invalidation, ALL prevailing; a translation that begins after the write
reads the tables anew: all (kind 2), or those that cover MMU_INVAL_VA (R507). -/
def invalidate (fn : PciFn) (kind : Nat) (s : State) : State :=
  if windowsDown s then s
  else
    let p := mmuPage s (pciKey fn)
    let va := p.invalVa % 2 ^ 52
    setMmuPage s (pciKey fn) { p with
      busy := max p.busy kind, busySince := if p.busy = 0 then s.now else p.busySince,
      tlb := if kind = 2 then [] else p.tlb.filter (fun e => decide (va / 2 ^ e.size ≠ e.page)) }

/-- MMU_TLB_INVAL_ALL (R507). -/
def execMmuTlbInvalAll (fn : PciFn) (s : State) : Host.Outcome State Fault Refusal := .next (invalidate fn 2 s)
/-- MMU_TLB_INVAL_PAGE (R507). -/
def execMmuTlbInvalPage (fn : PciFn) (s : State) : Host.Outcome State Fault Refusal := .next (invalidate fn 1 s)

/-- An invalidation of function key `k` has completed: BUSY clears (R507, R512). -/
def endInvalidation (k : Nat) (s : State) : State :=
  completeRunning 0x0D04 k stOk 0 0 [] (setMmuPage s k { mmuPage s k with busy := 0 })

/-- TLB_INVALIDATION_COMPLETE (R507, R512). -/
def execTlbInvalidationComplete (fn : PciFn) (s : State) : Host.Outcome State Fault Refusal :=
  if (mmuPage s (pciKey fn)).busy = 0 then .next s else .next (endInvalidation (pciKey fn) s)

/-- Invalidations complete within 2 µs (R507). -/
def endDueInvalidations (s : State) : State :=
  (s.mem.pages.filter (fun e => decide (e.2.busy ≠ 0) && decide (e.2.busySince + 2000 ≤ s.now))).foldl
    (fun st e => endInvalidation e.1 st) s

/-! ## BAR2 -/

/-- The first fault of an access of `n` bytes. -/
def firstFault (fn va n : Nat) (write : Bool) (s : State) : Option (Nat × Nat) :=
  (List.range n).findSome? (fun i => match translate fn (va + i) write s with
    | .fault k => some (va + i, k)
    | .at _ => none)

/-- The unit for which BAR2 accesses and the scrub reach memory: R355 lists none for them. [log 199 DESIGN CHOICE] -/
def spineRequester : Nat := 0x60

/-- The four bytes of one word: 0xFFFF_FFFF without a translation, or where an access that holds it was poisoned (R56, R494). -/
def busWord (got : List (Nat × Option (List Byte))) (pa : Option Nat) : List Byte :=
  match pa with
  | none => List.replicate 4 0xFF
  | some a =>
    let bs := (List.range 4).map (fun i =>
      match got.find? (fun g => decide (g.1 = (a + i) / 64)) with
      | some (_, some w) => w[(a + i) % 64]?
      | _ => none)
    if bs.any (fun b => b.isNone) then List.replicate 4 0xFF else bs.map (fun b => b.getD 0)

/-- The accesses that a read needs. -/
def busAccesses (words : List (Option Nat)) : List Nat :=
  accessesOf (words.flatMap (fun w => match w with | some a => [a, a + 1, a + 2, a + 3] | none => []))

/-- The read answers, once every access that it needs has been made (R49). -/
def answerBusRead (r : BusRead) (s : State) : State :=
  if (busAccesses r.words).all (fun l => r.got.any (fun g => decide (g.1 = l))) then
    emit (.busRead r.linkB r.va (r.words.flatMap (busWord r.got)))
      { s with mem := { s.mem with busReads := s.mem.busReads.filter (fun x => decide (x.num ≠ r.num)) } }
  else { s with mem := { s.mem with busReads := s.mem.busReads.map (fun x => if x.num = r.num then r else x) } }

/-- BAR2_READ through the PF's context: its accesses enter, and it answers once they have been made; at once without any (R55, R56,
R494). -/
def execBar2Read (linkB : Bool) (va words : Nat) (flips : List (Nat × DqFlips)) (s : State) : Host.Outcome State Fault Refusal :=
  let fn := if linkB then 64 else 0
  let vas := (List.range words).map (fun i => va + 4 * i)
  let ws := vas.map (fun a => match translate fn a false s with | .at pa => some pa | .fault _ => none)
  let r : BusRead := { num := s.mem.requestNum, linkB := linkB, va := va, words := ws, got := [] }
  let s1 := keepPages fn vas { s with mem := { s.mem with busReads := s.mem.busReads ++ [r] } }
  let s2 := answerBusRead r (enterAll spineRequester (.bar2 r.num) flips (busAccesses ws) s1)
  match firstFault fn va (4 * words) false s with
  | some (a, k) => .next (mmuFault fn a k false true 0 s2)
  | none => .next s2

/-- The channel of an address is fenced: a write to it is discarded (R53, R523). -/
def fencedAt (pa : Nat) (s : State) : Bool := decide ((cup s (channelCupola (channelAt pa))).state = .fenced)

/-- Write the bytes whose addresses translate; the others are discarded (R56). -/
def bar2Bytes (fn : Nat) : Nat → List Byte → State → State
  | _, [], s => s
  | va, b :: rest, s =>
    bar2Bytes fn (va + 1) rest (match translate fn va true s with
      | .at pa => if fencedAt pa s then s else writeByte pa b s
      | .fault _ => s)

/-- BAR2_WRITE (R55, R56). -/
def execBar2Write (linkB : Bool) (va : Nat) (data : List Byte) (s : State) : Host.Outcome State Fault Refusal :=
  let fn := if linkB then 64 else 0
  let vas := (List.range data.length).map (fun i => va + i)
  let pas := vas.flatMap (fun a => match translate fn a true s with | .at pa => [pa] | .fault _ => [])
  let s1 := enterAll spineRequester .write [] (accessesOf pas) (keepPages fn vas (bar2Bytes fn va data s))
  match firstFault fn va data.length true s with
  | some (a, k) => .next (mmuFault fn a k true true 0 s1)
  | none => .next s1

end Sys2Proof.Machine
end

