-- ==== Sys2Proof/Machine/Dma.lean ====
section
/-!
DEFINITION. DMA channels: descriptors moved step by step, suspension and resumption (R26, R27, R508–R512).
-/
namespace Sys2Proof.Machine

def dmaChannel (s : State) (d : Nat) : DmaChannel := tget {} d s.mem.dma
def setDmaChannel (s : State) (d : Nat) (v : DmaChannel) : State :=
  { s with mem := { s.mem with dma := tset {} d v s.mem.dma } }

/-- Source 0x440 + d (R513). -/
def postDma (d kind index : Nat) (s : State) : State := post (0x440 + d) .info (kind + index * 2 ^ 2) s

def ringSize (v : DmaChannel) : Nat := 2 ^ (v.log2 + 6)

/-- EVQ of a channel routes source 0x440 + d to that queue, where it is the issuing function's (R513). [log 205 DESIGN CHOICE] -/
def routeDma (d q fn : Nat) (s : State) : State :=
  if (evq s q).owner = fn then setRoute s (0x440 + d) { route s (0x440 + d) with queue := q, valid := true, remote := false } else s

/-- DMA_CHANNEL_CONFIGURE (R508). -/
def execDmaChannelConfigure (h : Caller) (p : DmaP) (s : State) : Host.Outcome State Fault Refusal :=
  perform 0x0D05 none noCupola h (fun s =>
    if !owns h kDma p.channel.val s then refuse 4 s
    else if !p.wf then .hostError [(kDma, p.channel.val)]
    else if (dmaChannel s p.channel.val).state ≠ 0 then refuse 0x0D02 s
    else okay (routeDma p.channel.val p.evq.val (fnKey h.id.fn) (setDmaChannel s p.channel.val {
      log2 := p.log2, priority := p.priority.val, evq := p.evq.val, ringBase := p.ringBase }))) s

/-- A channel with descriptors to move runs; without any it is idle. -/
def settleDma (v : DmaChannel) : DmaChannel := { v with state := if v.head = v.tail then 0 else 1 }

/-- DMA_POST (R512). -/
def execDmaPost (h : Caller) (d : Fin 64) (tail : Nat) (s : State) : Host.Outcome State Fault Refusal :=
  perform 0x0D06 none noCupola h (fun s =>
    let v := dmaChannel s d.val
    if !owns h kDma d.val s then refuse 4 s
    else if ringSize v ≤ tail then .hostError [(kDma, d.val)]
    else
      let w := { v with tail := tail }
      okay (setDmaChannel s d.val (if v.state ≤ 1 then settleDma w else w))) s

/-- Go on with the next descriptor. -/
def nextDescriptor (v : DmaChannel) : DmaChannel :=
  settleDma { v with head := (v.head + 1) % ringSize v, offset := 0, current := none, move := none, starved := false }

/-- DMA_RESUME (R510). -/
def execDmaResume (h : Caller) (d : Fin 64) (abandon : Bool) (s : State) : Host.Outcome State Fault Refusal :=
  perform 0x0D07 none noCupola h (fun s =>
    let v := dmaChannel s d.val
    if !owns h kDma d.val s then refuse 4 s
    else if v.state ≠ 2 then emptyReply s
    else okay (postDma d.val 3 v.head (setDmaChannel s d.val
      (if abandon then nextDescriptor v else { v with state := 1 })))) s

def dmaStatus (v : DmaChannel) : List Byte :=
  fields 32 [(1, v.state), (1, 0), (2, v.head), (4, v.tag), (4, v.offset), (4, 0), (8, v.faultVa), (1, v.faultKind)]

/-- DMA_STATUS (R512). -/
def execDmaStatus (h : Caller) (d : Fin 64) (s : State) : Host.Outcome State Fault Refusal :=
  perform 0x0D08 none noCupola h (fun s =>
    if !owns h kDma d.val s then refuse 4 s else okResp (dmaStatus (dmaChannel s d.val)) s) s

/-! ## Steps -/

/-- Bytes to the next 4 KiB boundary. -/
def toBoundary (a : Nat) : Nat := 4096 - a % 4096

/-- Bytes of the step that begins at an offset (R509). -/
def stepBytes (d : Descriptor) (offset : Nat) : Nat :=
  let n := min (d.length - offset) (toBoundary (d.dst + offset))
  if d.fill then n else min n (toBoundary (d.src + offset))

/-- An address of a step: a bus address as it is, else translated (R508, R509). -/
def stepAddress (fn : Nat) (host : Bool) (a : Nat) (write : Bool) (s : State) : Translation :=
  if host then .at a else translate fn a write s

/-- The first address of a step that does not translate: the source's, then the destination's. -/
def stepFault (fn : Nat) (d : Descriptor) (offset : Nat) (s : State) : Option (Nat × Nat × Bool) :=
  let src := if d.fill then none else match stepAddress fn d.srcHost (d.src + offset) false s with
    | .fault k => some (d.src + offset, k, false)
    | .at _ => none
  src.or (match stepAddress fn d.dstHost (d.dst + offset) true s with
    | .fault k => some (d.dst + offset, k, true)
    | .at _ => none)

/-- The physical address of a translation. -/
def physical (t : Translation) : Option Nat := match t with | .at pa => some pa | .fault _ => none

/-- Write the bytes of a step: to the host's address, or to board memory, where the write also takes its turn in the controller. -/
def stepWrite (c fn : Nat) (d : Descriptor) (offset : Nat) (dest : Option Nat) (data : List Byte) (s : State) : State :=
  match dest with
  | none => emit (.hostWrite fn (d.dst + offset) data) s
  | some pa =>
    enterAll (0x20 + c) .write [] (accessesOf ((List.range data.length).map (fun i => pa + i)))
      (if fencedAt pa s then s else writeBytes pa data s)

/-- After a step: the next offset, or the descriptor complete, with its event (R508, R512, R513). -/
def stepDone (c : Nat) (d : Descriptor) (n : Nat) (s : State) : State :=
  let v := { dmaChannel s c with tag := d.tag, move := none, starved := false }
  if v.offset + n < d.length then setDmaChannel s c { v with offset := v.offset + n }
  else
    let s1 := setDmaChannel s c (nextDescriptor v)
    if d.notify then postDma c 0 v.head s1 else s1

/-- The data of a step are there: they are written, and the step is done. -/
def endStep (c fn : Nat) (d : Descriptor) (offset : Nat) (dest : Option Nat) (data : List Byte) (s : State) : State :=
  stepDone c d data.length (count 0x090 c data.length none (stepWrite c fn d offset dest data s))

/-- The function in whose context a channel translates (R503). [log 213 DEDUCED] -/
def dmaFn (c : Nat) (s : State) : Option Nat :=
  let h := (own s kDma c).session
  if h = 0 then none else some (session s h).fn

/-! ## Descriptors (R508) -/

/-- The descriptor that 64 bytes of the ring hold. -/
def readDescriptor (b : List Byte) : Descriptor :=
  let f := fieldAt b 1 1
  { fill := decide (fieldAt b 0 1 = 1), srcHost := Nat.testBit f 0, dstHost := Nat.testBit f 1, notify := Nat.testBit f 2,
    fence := Nat.testBit f 3, length := fieldAt b 4 4, src := fieldAt b 8 8, dst := fieldAt b 0x10 8, tag := fieldAt b 0x18 4 }

/-- The descriptor is one that R508 defines, its reserved bits and bytes zero (R8). -/
def descriptorOk (b : List Byte) : Bool :=
  decide (fieldAt b 0 1 ≤ 1) && decide (fieldAt b 1 1 < 16) && decide (fieldAt b 2 2 = 0) &&
  (b.drop 0x1C).all (fun x => decide (x = 0)) && (readDescriptor b).wf

/-- A descriptor that is a host error: the channel stops with error, or is left in any configuration, and firmware may restart the
session (R8, R13, R508). -/
def dmaHostError (c fn : Nat) (s : State) : State :=
  let (k, s1) := draw s
  let v := dmaChannel s1 c
  mayRestart fn (if k % 2 = 0 then postDma c 2 v.head (setDmaChannel s1 c { v with state := 3 }) else scrambleAll [(kDma, c)] s1)

/-! ## The engine (R509–R511) -/

/-- A channel that could take a step. -/
def dmaReady (c : Nat) (s : State) : Bool :=
  let v := dmaChannel s c
  decide (v.state = 1) && decide (v.head ≠ v.tail) && !v.starved && (dmaFn c s).isSome

/-- The channel's turn: no step is under way, no ready channel has a higher priority, and none of its own comes before it in the
rotation from the channel of the last step (R509). -/
def dmaTurn (c : Nat) (s : State) : Bool :=
  let p := (dmaChannel s c).priority
  let rank (k : Nat) : Nat := (k + 63 - s.mem.lastDma) % 64
  !s.mem.dma.any (fun e => e.2.move.isSome) &&
  (List.range 64).all (fun k => decide (k = c) || !dmaReady k s || decide ((dmaChannel s k).priority < p) ||
    (decide ((dmaChannel s k).priority = p) && decide (rank c < rank k)))

/-- A step has faulted: nothing of it is written; the channel is SUSPENDED at it. On channels 60–63 the descriptor is abandoned
instead (R510, R511). -/
def stepFaults (c fn : Nat) (d : Descriptor) (f : Nat × Nat × Bool) (s : State) : State :=
  let v := { dmaChannel s c with tag := d.tag, faultVa := f.1 % 2 ^ 52, faultKind := f.2.1 }
  if 60 ≤ c then mmuFault fn f.1 f.2.1 f.2.2 false c (setDmaChannel s c (nextDescriptor v))
  else postDma c 1 v.head (mmuFault fn f.1 f.2.1 f.2.2 false c (setDmaChannel s c { v with state := 2 }))

/-- The engine takes a step of a descriptor: both addresses are translated first; from a fill or the host the bytes are there, from
board memory they are read first. A step that lacks the host's bytes is not yet ready (R509). -/
def takeStep (c fn : Nat) (d : Descriptor) (hostData : List Byte) (flips : List (Nat × DqFlips)) (s : State) : State :=
  let v := dmaChannel s c
  match stepFault fn d v.offset s with
  | some f => stepFaults c fn d f { s with mem := { s.mem with lastDma := c } }
  | none =>
    let n := stepBytes d v.offset
    let dest := if d.dstHost then none else physical (translate fn (d.dst + v.offset) true s)
    let vas := (if d.fill || d.srcHost then [] else [d.src + v.offset]) ++ (if d.dstHost then [] else [d.dst + v.offset])
    let s1 := keepPages fn vas { s with mem := { s.mem with lastDma := c } }
    if d.fill then
      endStep c fn d v.offset dest ((List.range n).map (fun i => BitVec.ofNat 8 (d.src / 256 ^ ((v.offset + i) % 8)))) s1
    else if d.srcHost then
      if hostData.length < n then setDmaChannel s c { v with starved := true }
      else endStep c fn d v.offset dest (hostData.take n) s1
    else match translate fn (d.src + v.offset) false s with
      | .fault _ => s
      | .at pa =>
        enterAll (0x20 + c) (.dma c) flips (accessesOf ((List.range n).map (fun i => pa + i)))
          (setDmaChannel s1 c { dmaChannel s1 c with tag := d.tag, starved := false,
                                                     move := some { bytes := n, source := pa, dest := dest, got := [] } })

/-- DMA_STEP: in the channel's turn, the descriptor at HEAD is read from the ring (its 64 bytes, as the host returned them)
unless it is under way, and one step of it is taken (R508–R511). [log 121 DEDUCED] -/
def execDmaStep (c : Fin 64) (descriptor hostData : List Byte) (flips : List (Nat × DqFlips)) (s : State) :
    Host.Outcome State Fault Refusal :=
  let v := dmaChannel s c.val
  match dmaFn c.val s with
  | none => .next s
  | some fn =>
    if v.state ≠ 1 ∨ v.head = v.tail ∨ dmaTurn c.val s = false then .next s
    else match v.current with
      | some d => .next (takeStep c.val fn d hostData flips s)
      | none =>
        if descriptor.length < 64 then .next (setDmaChannel s c.val { v with starved := true })
        else if !descriptorOk (descriptor.take 64) then .next (dmaHostError c.val fn s)
        else
          let d := readDescriptor descriptor
          .next (takeStep c.val fn d hostData flips (setDmaChannel s c.val { v with current := some d, tag := d.tag }))

/-- The bytes of a step from what its accesses gave; none where one was poisoned. -/
def moveData (m : DmaMove) : Option (List Byte) :=
  ((List.range m.bytes).map (fun i =>
    match m.got.find? (fun g => decide (g.1 = (m.source + i) / 64)) with
    | some (_, some w) => w[(m.source + i) % 64]?
    | _ => none)).mapM id

/-- An access of a step has been read: with the last of them the step is done; poisoned data stop the channel with error kind 2,
the destination incomplete (R26, R494, R509). -/
def dmaArrives (c line : Nat) (data : Option (List Byte)) (s : State) : State :=
  let v := dmaChannel s c
  match v.move, v.current, dmaFn c s with
  | some m, some d, some fn =>
    let m1 := { m with got := m.got ++ [(line, data)] }
    if !(accessesOf ((List.range m.bytes).map (fun i => m.source + i))).all (fun l => m1.got.any (fun g => decide (g.1 = l))) then
      setDmaChannel s c { v with move := some m1 }
    else match moveData m1 with
      | some bytes => endStep c fn d v.offset m.dest bytes s
      | none => postDma c 2 v.head (setDmaChannel s c { v with state := 3, move := none })
  | _, _, _ => s

end Sys2Proof.Machine
end

