-- ==== Sys2Proof/Machine/Ecdsa.lean ====
section
/-!
DEFINITION. Elliptic curves P-256 and P-384 and ECDSA verification (FIPS 186-5), for images, endorsements and pairing (R572, R573,
R580–R582).
-/
namespace Sys2Proof.Machine

/-! ## Arithmetic of a prime field -/

/-- `b` to the power `e` modulo `m`, by squaring over `bits` bits. -/
def powMod (b e m bits : Nat) : Nat :=
  ((List.range bits).foldl (fun (acc : Nat × Nat) i =>
    (if Nat.testBit e i then acc.1 * acc.2 % m else acc.1, acc.2 * acc.2 % m)) (1 % m, b % m)).1

/-- The inverse modulo a prime `m` of at most `bits` bits. -/
def invMod (a m bits : Nat) : Nat := powMod a (m - 2) m bits

/-! ## Curves -/

/-- A curve y² = x³ − 3x + b of prime order: its size in bytes, its field, b, its order and its base point. -/
structure Curve where
  size : Nat
  p : Nat
  b : Nat
  n : Nat
  gx : Nat
  gy : Nat

def p256 : Curve :=
  { size := 32, p := 2 ^ 256 - 2 ^ 224 + 2 ^ 192 + 2 ^ 96 - 1,
    b := 0x5AC635D8AA3A93E7B3EBBD55769886BC651D06B0CC53B0F63BCE3C3E27D2604B,
    n := 0xFFFFFFFF00000000FFFFFFFFFFFFFFFFBCE6FAADA7179E84F3B9CAC2FC632551,
    gx := 0x6B17D1F2E12C4247F8BCE6E563A440F277037D812DEB33A0F4A13945D898C296,
    gy := 0x4FE342E2FE1A7F9B8EE7EB4A7C0F9E162BCE33576B315ECECBB6406837BF51F5 }

def p384 : Curve :=
  { size := 48, p := 2 ^ 384 - 2 ^ 128 - 2 ^ 96 + 2 ^ 32 - 1,
    b := 0xB3312FA7E23EE7E4988E056BE3F82D19181D9C6EFE8141120314088F5013875AC656398D8A2ED19D2A85C8EDD3EC2AEF,
    n := 0xFFFFFFFFFFFFFFFFFFFFFFFFFFFFFFFFFFFFFFFFFFFFFFFFC7634D81F4372DDF581A0DB248B0A77AECEC196ACCC52973,
    gx := 0xAA87CA22BE8B05378EB1C71EF320AD746E1D3B628BA79B9859F741E082542A385502F25DBF55296C3A545E3872760AB7,
    gy := 0x3617DE4A96262C6F5D9E98BF9292DC29F8F41DBD289A147CE9DA3113B5F0B8C00A60B1CE1D7E819D7A431D7C90EA0E5F }

/-- A point of a curve; none is the point at infinity. -/
abbrev CurvePoint := Option (Nat × Nat)

def onCurve (c : Curve) (x y : Nat) : Bool :=
  decide (x < c.p) && decide (y < c.p) && decide (y * y % c.p = (x * x * x + (c.p - 3) * x + c.b) % c.p)

/-- The sum along a line of slope `l` through (x1, y1) and a point of abscissa x2. -/
def alongLine (c : Curve) (l x1 y1 x2 : Nat) : CurvePoint :=
  let x := (l * l + 2 * c.p - x1 - x2) % c.p
  some (x, (l * (x1 + c.p - x) + c.p - y1) % c.p)

def pointAdd (c : Curve) (a b : CurvePoint) : CurvePoint :=
  match a, b with
  | none, q => q
  | q, none => q
  | some (x1, y1), some (x2, y2) =>
    if x1 ≠ x2 then
      alongLine c ((y2 + c.p - y1) * invMod (x2 + c.p - x1) c.p (8 * c.size) % c.p) x1 y1 x2
    else if (y1 + y2) % c.p = 0 then none
    else alongLine c ((3 * x1 * x1 + c.p - 3) * invMod (2 * y1) c.p (8 * c.size) % c.p) x1 y1 x2

/-- The multiple `k` of a point. -/
def pointMul (c : Curve) (k : Nat) (q : CurvePoint) : CurvePoint :=
  ((List.range (8 * c.size)).foldl (fun (acc : CurvePoint × CurvePoint) i =>
    (if Nat.testBit k i then pointAdd c acc.1 acc.2 else acc.1, pointAdd c acc.2 acc.2)) (none, q)).1

def basePoint (c : Curve) : CurvePoint := some (c.gx, c.gy)

/-! ## Signatures -/

/-- A public key of X then Y, most significant byte first, that lies on the curve. -/
def publicKey (c : Curve) (bs : List Nat) : CurvePoint :=
  let x := numberBe (bs.take c.size)
  let y := numberBe ((bs.drop c.size).take c.size)
  if onCurve c x y then some (x, y) else none

/-- The hash of a curve's signatures: SHA-256 for P-256, SHA-384 for P-384 (R572, R580, R581). -/
def curveHash (c : Curve) (m : List Nat) : List Nat := if c.size = 32 then sha256Of m else sha384Of m

/-- ECDSA verification of a signature r then s over a message. -/
def ecdsaOk (c : Curve) (key signature message : List Nat) : Bool :=
  let r := numberBe (signature.take c.size)
  let s := numberBe ((signature.drop c.size).take c.size)
  match publicKey c key with
  | none => false
  | some q =>
    decide (0 < r) && decide (r < c.n) && decide (0 < s) && decide (s < c.n) &&
    (let w := invMod s c.n (8 * c.size)
     let z := numberBe (curveHash c message)
     match pointAdd c (pointMul c (z * w % c.n) (basePoint c)) (pointMul c (r * w % c.n) (some q)) with
     | none => false
     | some (x, _) => decide (x % c.n = r))

/-- The x-coordinate of the shared point of a Diffie-Hellman exchange. -/
def sharedX (c : Curve) (d : Nat) (q : CurvePoint) : Nat :=
  match pointMul c d q with | some (x, _) => x | none => 0

/-- X then Y of a public key, most significant byte first. -/
def keyBytes (c : Curve) (q : CurvePoint) : List Nat :=
  match q with | some (x, y) => bytesBe c.size x ++ bytesBe c.size y | none => List.replicate (2 * c.size) 0

end Sys2Proof.Machine
end

