-- ==== Sys2Proof/Machine/Images.lean ====
section
/-!
DEFINITION. The bytes of a firmware image and of a directory record (R569, R572, R573).
-/
namespace Sys2Proof.Machine

/-! ## Sections -/

/-- A section of an image: TYPE, OFFSET, SIZE and DIGEST (R572). -/
structure Section where
  kind : Nat
  offset : Nat
  size : Nat
  digest : List Nat
deriving DecidableEq, Repr, Inhabited

/-- A little-endian field of `n` bytes at an offset. -/
def imageField (d : List Byte) (offset n : Nat) : Nat := leNat ((d.drop offset).take n)

/-- Bytes of an image as numbers. -/
def imageBytes (d : List Byte) (offset n : Nat) : List Nat := natsOf ((d.drop offset).take n)

/-- The entries of SECTION_TABLE that SECTIONS counts (R572). -/
def imageSections (d : List Byte) (hashSize : Nat) : List Section :=
  (List.range (min 8 (imageField d 0x18 2))).map (fun i =>
    let at' := 0x80 + 64 * i
    { kind := imageField d at' 1, offset := imageField d (at' + 4) 4, size := imageField d (at' + 8) 4,
      digest := imageBytes d (at' + 16) hashSize })

/-- A section lies in the image, behind the header (R573 step 1). -/
def sectionInBounds (length : Nat) (x : Section) : Bool :=
  decide (1 ≤ x.kind) && decide (x.kind ≤ 3) && decide (768 ≤ x.offset) && decide (x.offset + x.size ≤ length) &&
    (decide (x.kind ≠ 2) || decide (x.size = 64))

/-- Step 1 of R573: MAGIC, FORMAT, LENGTH and the bounds of the sections, one of each type among them (R572, R573).
[log 206 DEDUCED] -/
def imageWellFormed (d : List Byte) (sections : List Section) : Bool :=
  decide (imageField d 0 4 = 0x57465A54) && decide (imageField d 4 2 = 1) && decide (768 ≤ d.length) &&
  decide (d.length ≤ 33554432) && decide (imageField d 0x14 4 = d.length) &&
  decide (1 ≤ imageField d 0x18 2) && decide (imageField d 0x18 2 ≤ 8) && decide (imageField d 0xC 4 ≤ 64) &&
  sections.all (sectionInBounds d.length) &&
  [1, 2, 3].all (fun k => decide ((sections.filter (fun x => x.kind = k)).length = 1))

/-- The digests of the sections of a type are those of the image's bytes (R573 step 6, R577). -/
def digestsMatch (c : Curve) (d : List Byte) (sections : List Section) (stageTwo : Bool) : Bool :=
  (sections.filter (fun x => decide ((x.kind = 3) = stageTwo))).all
    (fun x => decide (curveHash c (imageBytes d x.offset x.size) = x.digest))

/-- The hash of PUBLIC_KEY as the fuses hold it: SHA-256 for key set 0, SHA-384 for key set 1 (R574). -/
def keyHashOf (d : List Byte) (keySet : Nat) (c : Curve) : Nat :=
  let key := (d.drop 0x20).take (2 * c.size)
  if keySet = 0 then sha256 key else sha384 key

/-- What the device keeps of an image's bytes (R572, R573). [log 141 DEDUCED] -/
def readImage (d : List Byte) : ImageFacts :=
  let c := if imageField d 8 1 = 1 then p384 else p256
  let sections := imageSections d c.size
  let board := ((sections.find? (fun x => decide (x.kind = 2))).map (fun x => x.offset)).getD 0
  { wellFormed := imageWellFormed d sections, keySet := imageField d 6 1, keyIndex := imageField d 7 1, curve := imageField d 8 1,
    keyHash := keyHashOf d (imageField d 6 1) c,
    signatureOk := ecdsaOk c (imageBytes d 0x20 (2 * c.size)) (imageBytes d 0x280 (2 * c.size)) (imageBytes d 0 0x280),
    digestsOk := digestsMatch c d sections false, secondStageOk := digestsMatch c d sections true,
    securityVersion := imageField d 0xC 4, fwVersion := imageField d 0x10 4, length := d.length,
    digest := if c.size = 32 then sha256 (d.take 768) else sha384 (d.take 768),
    dramRateMts := imageField d board 2, refclk156 := decide (imageField d (board + 2) 1 = 1),
    lanternMask := BitVec.ofNat 4 (imageField d (board + 3) 1) }

/-! ## The device's identity -/

/-- SERIAL and the identity public key (R581, R584). -/
def serialAndKey : List Byte := le 8 Config.serial ++ be 64 Config.identityKey

/-- The response of IDENTITY_READ (R581). -/
def identityRead : List Byte :=
  serialAndKey ++ be 96 Config.endorsement ++ List.replicate 24 0

/-! ## Directory records -/

def bankStateOf (code : Nat) : BankState :=
  match code with
  | 0x7F => .pending | 0x3F => .trying | 0x1F => .good | 0x0F => .bad | _ => .empty

/-- A record of SEQ, STATE, LENGTH and its CRC-16 checks (R569). [log 207 DESIGN CHOICE] -/
def recordOk (r : List Byte) : Bool :=
  decide (11 ≤ r.length) && decide ((r.drop 9).take 2 = be 2 (crc16 (r.take 9)))

/-- A bank as the flash holds it: one whose record fails its CRC is empty (R569). -/
def bankOfFlash (f : FlashBank) : Bank :=
  let st := if recordOk f.directory then bankStateOf (leNat ((f.directory.drop 4).take 1)) else .empty
  let n := leNat ((f.directory.drop 5).take 4)
  if st = .empty then {}
  else { seq := leNat (f.directory.take 4), state := st, length := n, image := some (readImage (f.image.take n)) }

/-- An update's pieces, the latest first, laid in `n` bytes: a later one stands over an earlier one (R575). -/
def layPieces (n : Nat) (ps : List (Nat × List Byte)) : List Byte :=
  ps.foldr (fun p d => (d.take p.1 ++ p.2 ++ d.drop (p.1 + p.2.length)).take n) (List.replicate n 0xFF)

end Sys2Proof.Machine
end

