-- ==== Sys2Proof/Machine/Boot.lean ====
section
/-!
DEFINITION. Booting: the verification of an image, the ROM's choice of a source, the measurement log, the reload entry of
a class 1 reset (R564–R578).
-/
namespace Sys2Proof.Machine

/-! ## Banks and images -/

def bankAt (b : Bool) (s : State) : Bank := if b then s.boot.bankB else s.boot.bankA
def setBankAt (b : Bool) (v : Bank) (s : State) : State :=
  { s with boot := if b then { s.boot with bankB := v } else { s.boot with bankA := v } }
def markBank (b : Bool) (st : BankState) (s : State) : State := setBankAt b { bankAt b s with state := st } s

/-- The state of the image that runs, and of the staged one, in their directory records or, without a directory, as firmware
keeps them (R577). -/
def runningState (s : State) : BankState :=
  match s.boot.source with | some b => (bankAt b s).state | none => s.boot.runningState
def setRunningState (st : BankState) (s : State) : State :=
  match s.boot.source with
  | some b => markBank b st s
  | none => { s with boot := { s.boot with runningState := st } }
def stagedState (s : State) : BankState :=
  match s.boot.source with | some b => (bankAt (!b) s).state | none => s.boot.stagedState
def setStagedState (st : BankState) (s : State) : State :=
  match s.boot.source with
  | some b => markBank (!b) st s
  | none => { s with boot := { s.boot with stagedState := st } }

/-- A slot of the key fuses. -/
def keySlotOf (i : ImageFacts) : Nat := i.keySet * 4 + i.keyIndex

/-- The key set and index are revoked (R573, R574). -/
def keyRevoked (i : ImageFacts) (s : State) : Bool :=
  s.boot.fuses.revoked.contains (keySlotOf i) || (s.boot.fuses.set1Only && decide (i.keySet = 0))

/-- The key is one the fuses permit: a slot there is, its curve, which is P-256 in key set 0, and the hash of its slot
(R572–R574). -/
def keyPermitted (i : ImageFacts) (s : State) : Bool :=
  decide (i.keySet ≤ 1) && decide (i.keyIndex ≤ 3) && decide (i.curve ≤ i.keySet) &&
    decide (s.boot.fuses.keyHashes[keySlotOf i]? = some i.keyHash)

/-- The board configuration names a rate of DRAM that there is and the clock that the ROM measures (R572, R598). -/
def boardOk (i : ImageFacts) (s : State) : Bool :=
  [10667, 12800, 14400].contains i.dramRateMts && decide (i.refclk156 = s.boot.refclk156)

/-- Checks 1–6 of R573 with the second stage's digest: RESULT of R571, 2 for an accepted image. A failure at step 6, for
which R573 gives no number, is 3 (DEDUCED). [log 142 DEDUCED] -/
def checkImage (i : ImageFacts) (s : State) : Nat :=
  if !i.wellFormed || decide (i.length = 0) || decide (33554432 < i.length) then 3
  else if keyRevoked i s then 4
  else if !keyPermitted i s then 4
  else if !i.signatureOk then 5
  else if i.securityVersion < s.boot.fuses.minimum then 6
  else if !i.digestsOk || !i.secondStageOk || !boardOk i s then 3
  else 2

/-- The payload of source 0x521 for a RESULT (R586). -/
def integrityPayload (result : Nat) (b : Bool) : Nat := (result - 3) + bit b 3

/-! ## Measurement log -/

/-- Bytes of a log entry (R578). -/
def logBytes (e : LogEntry) : List Byte :=
  fields 64 [(4, e.index), (1, e.kind), (1, e.curve), (2, 0), (48, e.digest), (4, e.securityVersion), (4, e.fwVersion)]

/-- The log before the entries of this cycle (R580). -/
def noteLog (s : State) : State :=
  if s.boot.logAt = s.now then s
  else { s with boot := { s.boot with logAt := s.now, entriesBefore := s.boot.log.length, accumulatorBefore := s.boot.accumulator } }

/-- Append an entry and extend the accumulator; a full log stops recording (R578). [log 17 DESIGN CHOICE] -/
def logAppend (kind : Nat) (i : ImageFacts) (s0 : State) : State :=
  let s := noteLog s0
  if 4096 ≤ s.boot.log.length then { s with boot := { s.boot with logFull := true } }
  else
    let e : LogEntry := { index := s.boot.log.length, kind := kind, curve := i.curve % 256,
                          digest := Config.measuredDigest kind i.digest, securityVersion := i.securityVersion,
                          fwVersion := i.fwVersion }
    { s with boot := { s.boot with log := s.boot.log ++ [e],
                                   accumulator := sha384 (le 48 s.boot.accumulator ++ logBytes e) } }

/-- The ROM's entries, kinds 0–4 (R578). -/
def logBoot (i : ImageFacts) (s : State) : State := [0, 1, 2, 3, 4].foldl (fun st k => logAppend k i st) s

/-! ## The ROM -/

/-- An image runs: stage 0x2, its board configuration applied, measured (R567, R571, R572). -/
def runImage (source : Option Bool) (i : ImageFacts) (s : State) : State :=
  logBoot i { s with
    boot := { s.boot with stage := 2, stageAt := s.now, full := true, source := source, running := some i },
    line := { s.line with lanternMask := i.lanternMask },
    mem := { s.mem with rateMts := i.dramRateMts } }

/-- With no image the ROM waits for the host at stage 0xD (R570). -/
def waitForHost (s : State) : State := { s with boot := { s.boot with stage := 0xD, source := none, running := none } }

/-- Turn a trying bank into bad, to be reported (R570, R586). [log 143 DEDUCED] -/
def dropTrying (b : Bool) (s : State) : State :=
  if (bankAt b s).state = .trying then owe 0x521 (4 + bit b 3) (markBank b .bad s) else s

/-- The banks to run, in order (R570): pending, the bank that ran last for a class 2 boot (R564), good by higher SEQ. -/
def bankOrder (last : Option Bool) (s : State) : List Bool :=
  let pend := [false, true].filter (fun b => decide ((bankAt b s).state = .pending))
  let high := decide ((bankAt false s).seq < (bankAt true s).seq)
  let good := [high, !high].filter (fun b => decide ((bankAt b s).state = .good))
  match last with
  | some b => pend ++ good.filter (fun x => x = b) ++ good.filter (fun x => x ≠ b)
  | none => pend ++ good

/-- Try banks in order: the first that passes runs, each that fails is bad; with none left, the image copy of the host,
else the host (R564, R570). -/
def tryBanks (copy : Option ImageFacts) : List Bool → State → State
  | [], s => match copy with
    | some i => if checkImage i s = 2 then runImage none i s else waitForHost s
    | none => waitForHost s
  | b :: rest, s =>
    let v := bankAt b s
    match v.image with
    | none => tryBanks copy rest (owe 0x521 (integrityPayload 3 b) (markBank b .bad s))
    | some i =>
      if checkImage i s = 2 then runImage (some b) i (if v.state = .pending then markBank b .trying s else s)
      else tryBanks copy rest (owe 0x521 (integrityPayload (checkImage i s) b) (markBank b .bad s))

/-- The ROM from stage 0x0: a BOOT_SOURCE for this boot only, else the flash, else the host (R570). `last` and `copy` are
the bank and the host's image last run, for class 2. -/
def romBoot (last : Option Bool) (copy : Option ImageFacts) (s : State) : State :=
  let src := s.boot.port.bootSource
  let s1 := { s with boot := { s.boot with stage := 0, port := { s.boot.port with bootSource := 0 } } }
  if src = 1 then waitForHost s1
  else if !s.boot.flash then tryBanks copy [] s1
  else
    let s2 := dropTrying true (dropTrying false s1)
    let order := bankOrder last s2
    match src with
    | 2 => tryBanks none (false :: order.filter (fun b => b)) s2
    | 3 => tryBanks none (true :: order.filter (fun b => !b)) s2
    | _ => tryBanks copy order s2

/-! ## Class 1 -/

/-- Firmware has stopped: stage 0xE; FW_FAULT (R566). -/
def stopFirmware (s : State) : State := { s with boot := { s.boot with stage := 0xE, fwFault := true } }

/-- The payload of source 0x520 (R586). -/
def firmwarePayload (kind : Nat) (bank : Option Bool) (i : ImageFacts) : Nat :=
  kind + bit (bank.getD false) 3 + i.fwVersion % 2 ^ 32 * 2 ^ 4 + i.securityVersion % 128 * 2 ^ 36

/-- The copy of an image in the firmware partition has the digests of its header (R577). -/
def copyIntact (i : ImageFacts) (s : State) : Bool := Config.copyIntact i.digest s.now

/-- The other image of the firmware partition runs, in its bank; `i` has been found there (R577). -/
def takeOther (i : ImageFacts) (s : State) : State :=
  let b := s.boot
  { s with boot := { b with
      stage := 4, stageAt := s.now, full := false, source := b.source.map (fun x => !x), running := some i,
      runningState := b.stagedState, stagedState := b.runningState } }

/-- The bank of the image that ran is bad: the reload takes the other image that the partition holds, if that one is intact
(R577). -/
def fallBack (s : State) : State :=
  match s.boot.previous.orElse (fun _ => s.boot.staged) with
  | none => stopFirmware s
  | some p =>
    if copyIntact p s then
      logAppend 5 p (takeOther p { s with boot := { s.boot with previous := none, staged := none } })
    else stopFirmware (owe 0x521 (integrityPayload 3 (!s.boot.source.getD true)) (setStagedState .bad s))

/-- A reload that is no activation: the image that ran, unless its bank is trying and not confirmed, or its copy has changed
(R577). -/
def runAgain (s : State) : State :=
  match s.boot.running with
  | none => stopFirmware s
  | some i =>
    let bank := s.boot.source.getD false
    if runningState s = .trying then fallBack (owe 0x521 (4 + bit bank 3) (setRunningState .bad s))
    else if copyIntact i s then logAppend 5 i { s with boot := { s.boot with stage := 4, stageAt := s.now, full := false } }
    else fallBack (owe 0x521 (integrityPayload 3 bank) (setRunningState .bad s))

/-- The staged image runs, and the one that ran is the other of the partition (R577). -/
def runStaged (i : ImageFacts) (s : State) : State :=
  let s1 := takeOther i { s with boot := { s.boot with previous := s.boot.running, staged := none } }
  logAppend 6 i (logAppend 5 i (owe 0x520 (firmwarePayload 1 s1.boot.source i) s1))

/-- The reload entry (R577): the staged image after an activation, else the image that ran, unless its bank is trying and not
confirmed: that bank is bad, and the other image runs; so it is with an image whose copy has lost its digests. Log entries of
kinds 5 and, at an activation, 6 (R564). [log 152 DEDUCED] -/
def reload (s : State) : State :=
  match s.boot.staged with
  | some i =>
    if stagedState s = .trying then
      if copyIntact i s then runStaged i s
      else runAgain (owe 0x521 (integrityPayload 3 (!s.boot.source.getD true))
        (setStagedState .bad { s with boot := { s.boot with staged := none } }))
    else runAgain s
  | none => runAgain s

/-! ## Stages -/

/-- A boot's stages pass: 2, 3, 4 and 5, and after a class 1 reset 6, up to FW_READY (R567, R568). -/
def passStage (s : State) : State :=
  let b := s.boot
  if b.fwReady || b.running.isNone || s.pwr.keep.asleep || decide (s.pwr.mainLost ≠ 0) || decide (b.stage < 2) ||
      decide ((if b.full then 5 else 6) ≤ b.stage) || decide (s.now < b.stageAt + Config.stageNs b.stage b.stageAt) then s
  else { s with boot := { b with stage := b.stage + 1, stageAt := s.now } }

/-- The maintenance activity of the update commands (R533, R575). -/
def actUpdate : Activity := { kind := 10, scope := 0 }

end Sys2Proof.Machine
end

