-- ==== Sys2Proof/Machine/Keys.lean ====
section
/-!
DEFINITION. Key windows, the cipher commands, zeroisation, MACsec reception (R278–R282, R298–R306).
-/
namespace Sys2Proof.Machine

/-! ## Key windows -/

/-- The key that the page has staged for a slot kind (R278). -/
def stagedHalf (p : KeyPage) : Half :=
  let kind := p.target.toNat / 2 ^ 18 % 4
  { key := if kind = kindTree then p.data.toNat % 2 ^ 128 else p.data.toNat,
    salt := if kind = kindLine then p.salt.toNat % 2 ^ 32 else if kind = kindMacsec then p.salt.toNat else 0,
    ssci := if kind = kindMacsec then p.ssci.toNat else 0, number := p.target.toNat / 2 ^ 24, limit := p.limit.toNat }

/-- RESULT of a commit (R278, R302): zeroised, invalid target, not of the function's domains, OK. [log 70 DEDUCED] -/
def commitResult (fn kind n : Nat) (s : State) : Nat :=
  if s.cph.zeroised then 3
  else if !slotExists kind n then 2
  else match slotDomain kind n s with
    | some d => if fnOwnsDomain fn d s then 0 else 1
    | none => 1

/-- A commit of a function's page: discarded while BUSY, else under way (R279, R280); an ERASE acts at once (R285).
[log 71 DEDUCED] -/
def commit (fn : Nat) (erase : Bool) (s : State) : State :=
  let p := keyPage s fn
  if p.busy.isSome then setKeyPage s fn { clearStaging p with result := 4 }
  else
    let kind := p.target.toNat / 2 ^ 18 % 4
    let n := p.target.toNat % 2 ^ 17
    let r := commitResult fn kind n s
    let c : Commit := { erase := erase, result := r, kind := kind, slot := n, staged := stagedHalf p }
    let s1 := setKeyPage s fn { clearStaging p with
      busy := some c, commits := if r = 0 then (p.commits + 1) % 2 ^ 16 else p.commits }
    if erase && decide (r = 0) then eraseSlot kind n s1 else s1

/-- KEY_COMMIT_WRITE (R279). -/
def execKeyCommitWrite (fn : PciFn) (s : State) : Host.Outcome State Fault Refusal :=
  if windowsDown s then .next s else .next (commit (pciKey fn) false s)

/-- KEY_COMMIT_ERASE (R285). -/
def execKeyCommitErase (fn : PciFn) (s : State) : Host.Outcome State Fault Refusal :=
  if windowsDown s then .next s else .next (commit (pciKey fn) true s)

/-- KEY_COMMIT_COMPLETE (R279). -/
def execKeyCommitComplete (fn : PciFn) (s : State) : Host.Outcome State Fault Refusal := .next (completeCommit (pciKey fn) s)

/-! ## Zeroisation -/

/-- A page with nothing staged, a commit under way refused (R300, R303). -/
def wipePage (p : KeyPage) : KeyPage :=
  { clearStaging p with busy := p.busy.map (fun c => { c with result := 3, staged := {} }) }

/-- Every half EMPTY, every staging register clear, the pairing keys erased (R300, R302, R582). -/
def zeroise (s : State) : State :=
  { s with cph := { s.cph with slots := [], pages := tmap {} (fun _ p => wipePage p) s.cph.pages, zeroised := true },
           boot := { s.boot with pairingKeys := [] } }

/-- Source 0x2A0 with the sources that zeroised, and the safe state entered (R302, R537, R568). -/
def announceZeroised (sources : Nat) (entered : Bool) (s : State) : State :=
  let s1 := postOrOwe 0x2A0 .security (sources + 16) s
  if entered then postOrOwe 0x4F2 .safety (3 + bit true 3) s1 else s1

/-- ZEROISATION (R300). -/
def execZeroisation (sources : BitVec 4) (s : State) : Host.Outcome State Fault Refusal :=
  let a := armedSources sources s
  if a = 0 then .next s
  else .next (announceZeroised a.toNat (!s.cph.zeroised) (zeroise s))

/-- The log entry of kind 8, for the image that runs (R578). -/
def logResumed (s : State) : State := match s.boot.running with | some i => logAppend 8 i s | none => s

/-- KEY_STORE_RESUME (R302). [log 75 DEDUCED] -/
def execKeyStoreResume (h : Caller) (sources : BitVec 4) (s : State) : Host.Outcome State Fault Refusal :=
  perform 0x0704 none noCupola h (fun s =>
    if !ownsDevice h s then refuse 4 s
    else if !s.cph.zeroised then emptyReply s
    else if sources ≠ 0 then refuse 0x705 s
    else okay (postSafe 3 false 0 (post 0x2A0 .security 0 (logResumed { s with cph := { s.cph with zeroised := false } })))) s

/-! ## Tree keys -/

/-- The next key index of a terminal (R281): 1 and 2 in turn. -/
def nextKeyIndex (v : Slot) : Nat :=
  match activeHalf v with
  | some b => if (halfOf v b).number = 1 then 2 else 1
  | none => 1

/-- TREE_KEY_EXCHANGE (R281). -/
def execTreeKeyExchange (h : Caller) (t : Fin 64) (i : Fin 512) (s : State) : Host.Outcome State Fault Refusal :=
  perform 0x0700 none noCupola h (fun s =>
    if !owns h kTree t.val s then refuse 4 s
    else if (terminal s t.val i.val).state ≠ 4 then refuse 0x700 s
    else if s.cph.zeroised then refuse 0x706 s
    else .later (t.val * 512 + i.val)
      (emit (.keyRequest t.val i.val (nextKeyIndex (slot s kindTree (treeSlot t.val i.val 0)))) s)) s

/-- PLOAM_KEY_RESPONSE: unwrapped into both standby halves (R281). -/
def execPloamKeyResponse (t : Fin 64) (i : Fin 512) (key : Nat) (s : State) : Host.Outcome State Fault Refusal :=
  if !runsOn 0x0700 (t.val * 512 + i.val) s || s.cph.zeroised then .next s
  else
    let n := nextKeyIndex (slot s kindTree (treeSlot t.val i.val 0))
    let h : Half := { key := key % 2 ^ 128, number := n }
    .next (completeRunning 0x0700 (t.val * 512 + i.val) stOk 0 0 []
      (loadStandby kindTree (treeSlot t.val i.val 1) h (loadStandby kindTree (treeSlot t.val i.val 0) h s)))

/-! ## MACsec -/

/-- MACSEC_CONFIGURE (R298). -/
def execMacsecConfigure (h : Caller) (p : MacsecP) (s : State) : Host.Outcome State Fault Refusal :=
  perform 0x0702 none noCupola h (fun s =>
    if !owns h kLaneGroup (p.lane.val / 8) s then refuse 4 s
    else if !(portEnt s (0x80 + p.lane.val)).enabled then refuse 0x703 s
    else if !ownsDomain h p.domain.val s then refuse 0x704 s
    else if !p.wf then .hostError [(kMacsec, p.lane.val)]
    else okay (setMacsec s p.lane.val { macsec s p.lane.val with
      enable := p.enable, confidentiality := p.confidentiality, replayProtect := p.replayProtect,
      includeSci := p.includeSci, domain := some p.domain.val, sci := p.sci, peerSci := p.peerSci,
      replayWindow := p.replayWindow })) s

/-- A MACsec frame is dropped and counted; source 0x2A8 at most once per second per port (R299, R308). -/
def dropMacsec (x an : Nat) (s : State) : State :=
  let key := 0x120000 + x
  let m := macsec s x
  let s1 := addUnreported key 1 (count 0x014 (0x80 + x) 1 untagged (setMacsec s x { m with drops := m.drops + 1 }))
  if due key 1000000000 s1 then
    post 0x2A8 .warning (x + an * 2 ^ 6 + satur 32 (unreported key s1) * 2 ^ 8) (markPost key s1)
  else s1

/-- The packet number lies below the replay window (R298). -/
def replayed (m : Macsec) (pn : Nat) : Bool := m.replayProtect && decide (pn + m.replayWindow < m.nextPn)

/-- The IV of a frame under GCM-AES-XPN-256: the salt, with the SSCI and the 64-bit packet number added bit by bit (R278, R298). -/
def macsecIv (h : Half) (pn : Nat) : List Nat := xorBytes (natsOf (le 12 h.salt)) (natsOf (be 4 h.ssci ++ be 8 pn))

/-- The integrity check value of the frame checks under the half (R274, R298). -/
def icvOk (h : Half) (f : MacsecFrame) : Bool :=
  decide (gcmTag (roundKeys (natsOf (le 32 h.key))) (macsecIv h f.pn) (natsOf f.aad) (natsOf f.data) = natsOf f.icv)

/-- MACSEC_RX_FRAME (R282, R284, R286, R299, R304). -/
def execMacsecRxFrame (f : MacsecFrame) (s0 : State) : Host.Outcome State Fault Refusal :=
  let x := f.lane.val
  let n := 2 * x + 1
  let m := macsec s0 x
  if !m.enable then .next s0
  else
    let s := settleCommits kindMacsec n s0
    let fresh : Bool := match matching (slot s kindMacsec n) f.an.val with
      | some b => decide ((halfOf (slot s kindMacsec n) b).state = .loaded)
      | none => false
    if !pairServes 2 x s then .next (dropMacsec x f.an.val s)
    else match receiveHalf kindMacsec n f.an.val s with
      | (s1, none) => .next (dropMacsec x f.an.val s1)
      | (s1, some b) =>
        let m1 := if fresh then { macsec s1 x with nextPn := 0 } else macsec s1 x
        let s2 := useHalf kindMacsec n b 1 (setMacsec s1 x m1)
        if !f.compareOk then .next (dropMacsec x f.an.val (compareMismatch 2 x s2))
        else if !icvOk (halfOf (slot s1 kindMacsec n) b) f || replayed m1 f.pn then .next (dropMacsec x f.an.val s2)
        else .next (setMacsec s2 x { macsec s2 x with nextPn := max m1.nextPn (f.pn + 1), verified := m1.verified + 1 })

/-! ## KEY_SLOT_STATUS -/

def halfBytes (h : Half) : List (Nat × Nat) := [(1, halfCode h.state), (1, h.number), (6, h.count), (6, h.limit)]

def keySlotStatus (kind n : Nat) (s : State) : List Byte :=
  let v := slot s kind n
  fields 32 ([(1, kind), (1, halfByte (activeHalf v)), (2, bit s.cph.zeroised 0 + bit (flipPending v) 1)] ++
    halfBytes v.half0 ++ halfBytes v.half1)

/-- KEY_SLOT_STATUS (R306). -/
def execKeySlotStatus (h : Caller) (kind : Fin 3) (n : Nat) (s : State) : Host.Outcome State Fault Refusal :=
  perform 0x0703 none noCupola h (fun s =>
    if !slotExists kind.val n then .hostError []
    else match slotDomain kind.val n s with
      | none => refuse 4 s
      | some d => if ownsDomain h d s then okResp (keySlotStatus kind.val n s) s else refuse 4 s) s

end Sys2Proof.Machine
end

