-- ==== Sys2Proof/Machine/LinkState.lean ====
section
/-!
DEFINITION. What a change of a link's adjacency or of a record sets off: flooding, the election of the time source, and
the time base that follows it (R465–R471, R478).
-/
namespace Sys2Proof.Machine

/-- A control frame of this device leaves on a link, or is held while CONTROL is paused (R465, R466). [log 114 DEDUCED] -/
def sendControl (k kind : Nat) (payload : List Byte) (s : State) : State :=
  let v := link s k
  let h := ownControl kind (s.fab.address.getD 0) payload.length
  if v.paused.getLsbD 1 then setLink s k { v with transit := v.transit ++ [{ rank := 1, header := h, payload := payload }] }
  else emit (.fabricFrame (linkPort k) (sofBytes h) payload) s

/-! ## The time source -/

/-- TIME_STATE ranks LOCKED, and HOST as LOCKED, before HOLDOVER (R478). -/
def timeRank (r : LsRecord) : Nat :=
  (if r.timeState = 2 ∨ r.timeState = 6 then 0 else 1) * 2 ^ 16 + r.timePriority * 2 ^ 8 + r.address.val

/-- The elected source (R478). -/
def electSource (s : State) : Option Nat :=
  let c := (database s).filter (fun r => r.timeCandidate && r.addressValid)
  match c with
  | [] => none
  | r :: rest => some ((rest.foldl (fun b x => if timeRank x < timeRank b then x else b) r).address.val)

/-- The upstream link of R478: fewest STEPS, then bidirectional, then the lower PORT. -/
def upstreamLink (s : State) : Option Nat :=
  match s.fab.source with
  | none => none
  | some a =>
    let key (k : Nat) : Nat := (link s k).timeSteps * 2 ^ 20 + (if (linkGroup s k).mode = 2 then 0 else 2 ^ 19) + linkPort k
    match (adjacentLinks s).filter (fun k => decide ((link s k).timeSource = some a)) with
    | [] => none
    | k :: rest => some (rest.foldl (fun b x => if key x < key b then x else b) k)

/-- This device is the elected source. -/
def isSource (s : State) : Bool := s.fab.source.isSome && decide (s.fab.source = s.fab.address)

/-- Hops from the source (R477). -/
def timeSteps (s : State) : Nat :=
  if isSource s then 0
  else match upstreamLink s with | some k => min 63 ((link s k).timeSteps + 1) | none => 0

/-- Source 0x3FA (R485). -/
def postTimeSource (s : State) : State :=
  post 0x3FA .warning (s.fab.source.getD 0 + bit s.fab.source.isSome 6 + bit s.fab.sourceLost 7 + timeSteps s * 2 ^ 8) s

/-- Elect again; the time base's input is judged anew (R387, R478). -/
def reelect (s : State) : State :=
  let e := electSource s
  if e = s.fab.source then
    rejudgeInputs (if s.fab.sourceLost then { s with fab := { s.fab with sourceLost := false } } else s)
  else rejudgeInputs (postTimeSource { s with fab := { s.fab with source := e, sourceLost := false } })

/-! ## Flooding -/

/-- Send a record on adjacent links other than one (R470). -/
def floodRecord (but : Option Nat) (r : LsRecord) (s : State) : State :=
  ((adjacentLinks s).filter (fun k => decide (some k ≠ but))).foldl (fun st k => sendControl k 5 (linkStateBytes r) st) s

/-- The own record with a SEQ, to every neighbour (R470). -/
def floodSeq (n : Nat) (s : State) : State :=
  let s1 := { s with fab := { s.fab with lsrSeq := n } }
  let s2 := { s1 with fab := { s1.fab with flooded := some (ownRecord s1), floodedAt := s.now } }
  floodRecord none (ownRecord s2) s2

/-- The own record, one number higher, to every neighbour (R470). -/
def floodOwn (s : State) : State := floodSeq ((s.fab.lsrSeq + 1) % 2 ^ 32) s

/-- The database has changed: addresses wait for 10 ms of quiet, the source is elected again (R471, R478). -/
def databaseChanged (s : State) : State := reelect { s with fab := { s.fab with changed := s.now } }

/-- An adjacency begins or ends (R469, R470). -/
def adjacencyChanged (s : State) : State := databaseChanged (floodOwn s)

/-- Source 0x3F8 for each address whose reachability has changed since `before`; `table` that a route table has been installed
(R485). -/
def postReach (table : Bool) (before s : State) : State :=
  let moved := (List.range 64).filter (fun a => decide (reachable a before ≠ reachable a s))
  moved.foldl (fun st a => post 0x3F8 .info (a + bit (reachable a s) 6 + bit table 7) st) s

/-- A link leaves routing (R460, R468, R469, R473). -/
def dropAdjacency (k : Nat) (s : State) : State :=
  let v := link s k
  let s1 := setLink s k { v with adjacent := false, twoWay := false, neighbour := none, lastHello := none, timeSource := none }
  if v.adjacent then adjacencyChanged (postReach false s s1) else s1

end Sys2Proof.Machine
end

