-- ==== Sys2Proof/Machine/Lanes.lean ====
section
/-!
DEFINITION. Lane groups, client ports, link training, retraining and parking, eye scans, loops, links going down
(R449–R468, R482–R485).
-/
namespace Sys2Proof.Machine

/-! ## States -/

/-- Source 0x3C0 + x (R485). -/
def postLane (k reason : Nat) (s : State) : State :=
  let v := link s k
  post (0x3C0 + k / 2) .warning (v.state + bit (decide (k % 2 = 1)) 4 + reason * 2 ^ 5 + v.fom % 256 * 2 ^ 9) s

/-- The position's loop, its cupola's fence and the link's own state, as STATE of R483. -/
def laneCode (k : Nat) (s : State) : Nat :=
  if (cup s (92 + groupOfLane (k / 2))).state = .fenced then 8
  else if loopOf s (k / 2) ≠ 0 then 7
  else (link s k).state

/-- A training begins: echo training first in mode 2 (R454, R456). -/
def freshTraining (v : Link) (state now : Nat) : Link :=
  { v with state := state, trainAt := now, onGood := false, reqOpen := false, reqRepeats := 0, reqWhat := none, peerSeq := none, ownRun := 0,
           peerRun := 0, retrainDue := false, remoteFault := false }

def trainState (k : Nat) (s : State) : Nat := if (linkGroup s k).mode = 2 then 1 else 2

/-- The link of a retrain of either end leaves routing and trains; its eye scan is aborted (R458, R460). -/
def beginRetrain (k : Nat) (s : State) : State :=
  let s1 := dropAdjacency k s
  completeRunning 0x0C05 k stFaulted 0 0 []
    (setLink s1 k { freshTraining (link s1 k) 4 s.now with retrains := satur 32 ((link s1 k).retrains + 1), scan := none })

/-- The training of a link is over: a command that waited for it completes, and its activity ends (R460, R482). -/
def settleTraining (k status detail result : Nat) (s : State) : State :=
  endActivity { kind := 3, scope := k / 2 } (completeRunning 0x0C04 k status detail result [] s)

/-- The FABRIC_LINK_ENABLE commands that wait for the link complete: of one that enabled it, or found it enabled. -/
def completeLinkEnable (k status detail : Nat) (s : State) : State :=
  completeRunning 0x0C02 (k + 256) status detail 0 [] (completeRunning 0x0C02 k status detail 0 [] s)

/-- A lane is parked, or FAILED once its retries are spent (R461, R462). -/
def parkLane (k : Nat) (s : State) : State :=
  let v := link s k
  let spent := match retryLimit k s with | some n => decide (n ≤ v.retries) | none => false
  let s1 := setLink s k { v with state := if spent then 6 else 5, onGood := false, parkedAt := s.now }
  completeLinkEnable k stFaulted 0x0C08
    (settleTraining k stFaulted 0x0C08 0 (postLane k (if spent then 5 else 4) s1))

/-- A training fails or ends below FOM_FLOOR: back to the last known-good setting, else parked (R461). -/
def failTraining (k : Nat) (s : State) : State :=
  let v := link s k
  if v.fomGood.isSome then setLink s k { v with onGood := true, goodAt := s.now, taps := v.goodTaps, reqOpen := false }
  else parkLane k s

/-- A training ends (R455, R461, R482). -/
def finishTraining (k fom : Nat) (s : State) : State :=
  let v := link s k
  if (linkGroup s k).fomFloor ≤ fom then
    settleTraining k stOk 0 fom (postLane k 1 (setLink s k { v with
      state := 3, onGood := false, fomGood := some fom, goodTaps := v.taps, retries := 0, remoteFault := false }))
  else failTraining k s

def isTraining (v : Link) : Bool := (decide (v.state = 1) || decide (v.state = 2) || decide (v.state = 4)) && !v.onGood

/-- A link goes down (R468): its eye scan is aborted. -/
def takeDown (k lost reason : Nat) (s : State) : State :=
  let s1 := dropAdjacency k s
  let v := { freshTraining (link s1 k) 4 s.now with scan := none }
  let s2 := setLink s1 k { v with downEvents := satur 32 (v.downEvents + 1), linkDropped := satur 64 (v.linkDropped + lost) }
  completeRunning 0x0C05 k stFaulted 0 0 [] (postLane k reason s2)

/-! ## Lane groups and client ports -/

/-- Positions of a group. -/
def groupKeys (g : Nat) : List Nat := (List.range 16).map (fun i => g * 16 + i)

/-- A port or link of the group is enabled (R449). -/
def groupInUse (g : Nat) (s : State) : Bool := lanesInUse (g * 8) 8 s

/-- LANE_GROUP_CONFIGURE (R449). [log 112 DEDUCED] -/
def execLaneGroupConfigure (h : Caller) (p : LaneGroupP) (s : State) : Host.Outcome State Fault Refusal :=
  perform 0x0C00 none noCupola h (fun s =>
    let g := p.group.val
    if !owns h kLaneGroup g s then refuse 4 s
    else if !p.wf then .hostError [(kLaneGroup, g)]
    else if p.mode.val ≠ (laneGroup s g).mode ∧ groupInUse g s = true then refuse 0x0C00 s
    else
      let s1 := setLaneGroup s g { mode := p.mode.val, reach := p.reach.val, fomFloor := p.fomFloor,
                                   fomRetrain := p.fomRetrain, retryCount := p.retryCount, cost := p.cost }
      let s2 := (groupKeys g).foldl (fun st k =>
        let v := link st k
        if v.state = 6 then setLink st k { freshTraining v (trainState k st) st.now with retries := 0 }
        else setLink st k { v with retries := 0 }) s1
      okay (if p.cost = (laneGroup s g).cost then s2 else databaseChanged s2)) s

/-- Lane positions of a client port at `lane` of width `w`. -/
def clientLanes (lane w : Nat) : List Nat := (List.range w).map (fun i => lane + i)

/-- A position already belongs to another port (R452). -/
def laneTaken (lane w : Nat) (s : State) : Bool :=
  s.fab.clients.any (fun e => decide (e.1 ≠ lane) && (clientLanes e.1 e.2.width).any (fun x => (clientLanes lane w).contains x))

/-- CLIENT_PORT_CONFIGURE (R452). -/
def execClientPortConfigure (h : Caller) (p : ClientP) (s : State) : Host.Outcome State Fault Refusal :=
  perform 0x0C01 none (fun s =>
      if owns h kLaneGroup (groupOfLane p.lane.val) s then some (92 + groupOfLane p.lane.val) else none) h (fun s =>
    let x := p.lane.val
    let enabled := (portEnt s (0x80 + x)).enabled
    if !owns h kLaneGroup (groupOfLane x) s then refuse 4 s
    else if !p.wf then .hostError [(kLaneGroup, groupOfLane x)]
    else if !p.enable then okay (setClient (disablePort (0x80 + x) s) x {})
    else if x % p.width ≠ 0 ∨ (laneGroup s (groupOfLane x)).mode ≠ 0 then refuse 0x0C01 s
    else if laneTaken x p.width s then refuse 0x0C02 s
    else if enabled then (if (client s x).width = p.width then okay s else refuse 0x0C09 s)
    else match enablePort (0x80 + x) (200 * p.width) s with
      | .already => okay s
      | .overBudget => limitReply 0 s
      | .noRoom => limitReply 0x800 s
      | .placed s1 =>
        if p.trained then okay (setClient s1 x { width := p.width, phy := p.phy.val })
        else .done stFaulted 0x0C08 0 [] s) s

/-! ## Enabling links -/

/-- A link is disabled, and with that down: its eye scan is aborted (R31, R458, R468, R482). -/
def disableLink (k : Nat) (s : State) : State :=
  let s1 := disablePort (linkPort k) (dropAdjacency k s)
  completeRunning 0x0C05 k stFaulted 0 0 [] (setLink s1 k {})

/-- FABRIC_LINK_ENABLE (R482). -/
def execFabricLinkEnable (h : Caller) (p : LinkP) (s : State) : Host.Outcome State Fault Refusal :=
  perform 0x0C02 none (fun s => if owns h kLaneGroup (groupOfLane (portLink p.port / 2)) s then
      some (92 + groupOfLane (portLink p.port / 2)) else none) h (fun s =>
    let k := portLink p.port
    let v := link s k
    if !owns h kLaneGroup (groupOfLane (k / 2)) s then refuse 4 s
    else if !p.wf then .hostError [(kLaneGroup, groupOfLane (k / 2))]
    else if !p.enable then okay (disableLink k s)
    else if !linkExists k s then refuse 0x0C01 s
    else match enablePort p.port 200 s with
      | .already =>
        let s1 := setLink s k { v with delayAsym := p.delayAsym }
        if v.state = 5 ∨ v.state = 6 then .done stFaulted 0x0C08 0 [] s1
        else if v.adjacent then okay s1 else .later (k + 256) s1
      | .overBudget => limitReply 0 s
      | .noRoom => limitReply 0x800 s
      | .placed s1 =>
        let st := if loopOf s (k / 2) ≠ 0 then 7 else trainState k s
        .later k (postLane k 0 (setLink s1 k { enabled := true, state := st, delayAsym := p.delayAsym, trainAt := s.now }))) s

/-! ## Status -/

/-- The position belongs to an enabled client port (R452). -/
def clientLane (x : Nat) (s : State) : Bool :=
  s.fab.clients.any (fun e => decide (e.1 ≤ x) && decide (x < e.1 + e.2.width) && (portEnt s (0x80 + e.1)).enabled)

/-- STATE of R483; the positions of an enabled client port are up. -/
def laneState (k : Nat) (s : State) : Nat :=
  let c := laneCode k s
  if c = 0 ∧ clientLane (k / 2) s = true then 3 else c

/-- FOM, updated every 10 µs by the receiver (R457): a reading while the lane is up, else the last of its training. -/
def fomReading (k reading : Nat) (s : State) : Nat := if laneState k s = 3 then reading % 256 else (link s k).fom

/-- LANE_STATUS (R483). The codeword counts and the FOM come from the receiver, which no command of the block drives: open
values. -/
def laneStatus (k : Nat) (total corrected failed reading : Nat) (s : State) : List Byte :=
  let v := link s k
  let left := match retryLimit k s with | some n => n - v.retries | none => 0xFF
  fields 64 ([(1, k / 2), (1, (linkGroup s k).mode), (1, laneState k s),
    (1, bit (linkAdjacent k s) 0 + bit v.remoteFault 1 + bit v.onGood 2 + bit (decide (v.paused ≠ 0)) 3), (1, fomReading k reading s),
    (1, v.fomGood.getD 0), (1, left), (1, v.residual)] ++
    ((List.range 5).map (fun i => (1, twos 8 (v.taps.getD i 0)))) ++
    [(3, 0), (8, total), (8, corrected), (8, failed), (8, v.linkDropped), (4, v.retrains), (4, v.downEvents),
     (4, v.ctrlErrors)])

/-- LANE_STATUS (R483). -/
def execLaneStatus (h : Caller) (lane : Fin 48) (lnk : Fin 2) (s : State) : Host.Outcome State Fault Refusal :=
  perform 0x0C03 none noCupola h (fun s =>
    let (a, s1) := draw s
    let (b, s2) := draw s1
    let (c, s3) := draw s2
    let (d, s4) := draw s3
    okResp (laneStatus (linkKey lane.val lnk.val) a b c d s) s4) s

/-! ## Maintenance of a lane -/

/-- LANE_RETRAIN (R460, R462); a position whose link is not enabled has nothing to train. [log 111 DEDUCED] -/
def execLaneRetrain (h : Caller) (lane : Fin 48) (lnk : Fin 2) (s : State) : Host.Outcome State Fault Refusal :=
  perform 0x0C04 (some { kind := 3, scope := lane.val })
      (fun s => if owns h kLaneGroup (groupOfLane lane.val) s then some (92 + groupOfLane lane.val) else none) h (fun s =>
    let k := linkKey lane.val lnk.val
    if !owns h kLaneGroup (groupOfLane lane.val) s then refuse 4 s
    else if !(link s k).enabled then okResult (link s k).fom s
    else
      let s1 := emit (.flit (linkPort k) (flitBytes 7 [])) (beginRetrain k s)
      .later k (setLink s1 k { link s1 k with retries := 0, before := some ((link s k).state, (link s k).retries) })) s

/-- EYE_SCAN (R458). -/
def execEyeScan (h : Caller) (lane : Fin 48) (lnk : Fin 2) (full : Bool) (dwellLog2 : Nat) (s : State) :
    Host.Outcome State Fault Refusal :=
  perform 0x0C05 (some { kind := 4, scope := lane.val })
      (fun s => if owns h kLaneGroup (groupOfLane lane.val) s then some (92 + groupOfLane lane.val) else none) h (fun s =>
    let k := linkKey lane.val lnk.val
    if !owns h kLaneGroup (groupOfLane lane.val) s then refuse 4 s
    else if dwellLog2 < 20 ∨ 34 < dwellLog2 then .hostError [(kLaneGroup, groupOfLane lane.val)]
    else if (link s k).state = 5 ∨ (link s k).state = 6 then refuse 0x0C07 s
    else .later k (setLink s k { link s k with scan := some (full, dwellLog2, s.now) })) s

/-- How long a scan counts, in ns: 2^DWELL_LOG2 bits at each of its points, at 212.5 Gbit/s (R458, R484). -/
def scanNs (full : Bool) (dwellLog2 : Nat) : Nat := (if full then 4096 else 256) * 2 ^ dwellLog2 * 10 / 2125

/-- The first 64 bytes of an eye scan's response (R484); HEIGHT and WIDTH are the measurement's, open values. -/
def eyeHeader (eyes : List Nat) (fom durationUs : Nat) : List Byte :=
  fields 64 (eyes.map (fun e => (4, e % 65536)) ++ [(1, fom), (3, 0), (4, durationUs)])

/-- EYE_SCAN_END: the scan has counted its points; a map of 4,096 bytes follows in mode 1 (R458, R484). [log 13 DESIGN CHOICE] -/
def execEyeScanEnd (lane : Fin 48) (lnk : Fin 2) (map : List Byte) (s : State) : Host.Outcome State Fault Refusal :=
  let k := linkKey lane.val lnk.val
  match (link s k).scan with
  | none => .next s
  | some (full, dwell, since) =>
    if s.now < since + scanNs full dwell then .next s
    else
      let (a, s1) := draw (setLink s k { link s k with scan := none })
      let (b, s2) := draw s1
      let (c, s3) := draw s2
      let (d, s4) := draw s3
      .next (completeRunning 0x0C05 k stOk 0 0
        (eyeHeader [a, b, c] (fomReading k d s) ((s.now - since) / 1000) ++ (if full then fit 4096 map else [])) s4)

/-- A link of a position enters or leaves its loop (R459, R468). [log 113 DEDUCED] -/
def loopLink (loop k : Nat) (s : State) : State :=
  let v := link s k
  if !v.enabled then s
  else if loop = 0 then (if v.state = 7 then setLink s k (freshTraining v (trainState k s) s.now) else s)
  else if v.state = 7 then s
  else
    let s1 := dropAdjacency k s
    let w := link s1 k
    completeRunning 0x0C05 k stFaulted 0 0 [] (setLink s1 k { w with
      state := 7, scan := none, downEvents := if w.state = 3 then satur 32 (w.downEvents + 1) else w.downEvents })

/-- LOOPBACK_SET (R459). -/
def execLoopbackSet (h : Caller) (lane : Fin 48) (loop : Fin 4) (s : State) : Host.Outcome State Fault Refusal :=
  perform 0x0C06 (some { kind := 5, scope := lane.val })
      (fun s => if owns h kLaneGroup (groupOfLane lane.val) s then some (92 + groupOfLane lane.val) else none) h (fun s =>
    let x := lane.val
    if !owns h kLaneGroup (groupOfLane x) s then refuse 4 s
    else
      let s1 := { s with fab := { s.fab with loops := tset 0 x loop.val s.fab.loops } }
      let s2 := loopLink loop.val (linkKey x 1) (loopLink loop.val (linkKey x 0) s1)
      if loop.val = 0 then okay (endActivity { kind := 5, scope := x } s2)
      else okay (postLane (linkKey x 0) 7 (keepActivity { kind := 5, scope := x } s2))) s

/-! ## Training -/

/-- Move a tap by one step, within a signed byte of R483; RESULT of R454. [log 14 DESIGN CHOICE, 110 DEDUCED] -/
def stepTap (taps : List Int) (tap : Nat) (d : Int) : List Int × Nat :=
  let cur := taps.getD tap 0
  let v := cur + d
  if v < -128 ∨ 127 < v then (taps, 2)
  else ((List.range 5).map (fun i => if i = tap then v else taps.getD i 0), 1)

/-- The peer's CONTROL applied to this transmitter (R454). -/
def applyRequest (w : BitVec 64) (taps : List Int) : List Int × Nat :=
  let tap := wordBits w 0 3
  let action := wordBits w 3 2
  if 5 ≤ tap ∧ action ≠ 3 then (taps, 3)
  else match action with
    | 0 => (taps, 1)
    | 1 => stepTap taps tap 1
    | 2 => stepTap taps tap (-1)
    | _ => (Config.presetTaps (wordBits w 5 3), 1)

/-- The request of a CONTROL word whose CRC checks is answered, once for each REQ_SEQ; READY counts (R454, R455). -/
def takeControl (w : BitVec 64) (v : Link) : Link :=
  if !trainingWordOk w then v
  else
    let seq := wordBits w 8 8
    let (taps, res) := if v.peerSeq = some seq then (v.taps, v.peerResult) else applyRequest w v.taps
    { v with taps := taps, peerSeq := some seq, peerResult := res, peerRun := if w.getLsbD 16 then v.peerRun + 1 else 0 }

/-- The STATUS answers this end's request, and the next one may follow (R455). -/
def takeStatus (w : BitVec 64) (f : TrainingFacts) (now : Nat) (v : Link) : Link :=
  let opn := v.reqOpen && !(trainingWordOk w && decide (wordBits w 8 8 = v.reqSeq))
  let ready := f.ownReady && !opn
  let ask := !opn && !ready && f.want.isSome
  { v with
    fom := satur 8 f.fom, reqOpen := opn || ask, reqAt := if ask then now else v.reqAt,
    reqSeq := if ask then (v.reqSeq + 1) % 256 else v.reqSeq, reqRepeats := if opn then v.reqRepeats else 0,
    reqWhat := if ask then f.want else if opn then v.reqWhat else none,
    ownRun := if ready then v.ownRun + 1 else 0 }

/-- The training frame that answers (R454). -/
def trainingFrame (k : Nat) (v : Link) : Output :=
  .training (k / 2) (k % 2) (controlWord v.reqWhat v.reqSeq (decide (0 < v.ownRun)))
    (statusWord v.peerResult (v.peerSeq.getD 0) v.fom)

/-- TRAINING_FRAME (R454, R455). -/
def execTrainingFrame (lane : Fin 48) (lnk : Fin 2) (control status : BitVec 64) (f : TrainingFacts) (s : State) :
    Host.Outcome State Fault Refusal :=
  let k := linkKey lane.val lnk.val
  let v := link s k
  if !isTraining v || decide (v.state = 1) then .next s
  else
    let w := takeStatus status f s.now (takeControl control v)
    let s1 := emit (trainingFrame k w) (setLink s k w)
    .next (if 16 ≤ w.ownRun ∧ 16 ≤ w.peerRun then finishTraining k w.fom s1 else s1)

/-- TRAINING_REQUEST_TIMEOUT: 10 µs without an answer; repeated up to 16 times, after which training fails (R41, R455). -/
def execTrainingRequestTimeout (lane : Fin 48) (lnk : Fin 2) (s : State) : Host.Outcome State Fault Refusal :=
  let k := linkKey lane.val lnk.val
  let v := link s k
  if !isTraining v || !v.reqOpen || !lapsed v.reqAt (usNs 10) s then .next s
  else if v.reqRepeats < 16 then
    let w := { v with reqRepeats := v.reqRepeats + 1, reqAt := s.now }
    .next (emit (trainingFrame k w) (setLink s k w))
  else .next (failTraining k s)

/-- TRAINING_TIMEOUT after 100 ms (R455). -/
def execTrainingTimeout (lane : Fin 48) (lnk : Fin 2) (s : State) : Host.Outcome State Fault Refusal :=
  let k := linkKey lane.val lnk.val
  if isTraining (link s k) && lapsed (link s k).trainAt (msNs 100) s then .next (failTraining k s) else .next s

/-- One pair's canceller has trained on its own echo; its residual is measured (R456, R483). -/
def echoTrained (k : Nat) (s : State) : State :=
  let v := link s k
  if v.enabled && isTraining v && decide ((linkGroup s k).mode = 2) then
    let (r, s1) := draw s
    setLink s1 k { v with state := if v.state = 1 then 2 else v.state, residual := r % 256 }
  else s

/-- ECHO_TRAINING_TURN: silent while the far end is heard, back to the wait when the residual rises (R456). -/
def execEchoTrainingTurn (lane : Fin 48) (farEnergy residualRise : Bool) (s : State) :
    Host.Outcome State Fault Refusal :=
  if farEnergy || residualRise then .next s
  else .next (echoTrained (linkKey lane.val 1) (echoTrained (linkKey lane.val 0) s))

/-- Start the automatic retrain that is due on a position (R460). -/
def retrainLane (lane : Nat) (s : State) : State :=
  [linkKey lane 0, linkKey lane 1].foldl (fun st k =>
    let v := link st k
    if !v.retrainDue then st
    else if v.state = 3 then emit (.flit (linkPort k) (flitBytes 7 [])) (beginRetrain k st)
    else if v.state = 5 then
      postLane k 6 (setLink st k { freshTraining v (trainState k st) st.now with retries := v.retries + 1 })
    else setLink st k { v with retrainDue := false }) s

/-- An automatic retrain falls due: it starts, or waits for the maintenance arbiter (R458, R460, R533). -/
def dueRetrain (k : Nat) (s : State) : State :=
  let s1 := setLink s k { link s k with retrainDue := true }
  let a : Activity := { kind := 3, scope := k / 2 }
  if s1.pwr.running.any (fun e => decide (e.activity = a)) then retrainLane (k / 2) s1
  else if s1.pwr.waiting.any (fun e => decide (e.activity = a) && e.owner.isNone) then s1
  else if arbiterAwaits s1 then askLater a s1
  else match firmwareActivity a s1 with
    | (s2, true) => retrainLane (k / 2) s2
    | (s2, false) => s2

/-- FOM_RETRAIN: FOM below FOM_RETRAIN for 1 s (R460). -/
def execFomRetrain (lane : Fin 48) (lnk : Fin 2) (s : State) : Host.Outcome State Fault Refusal :=
  let k := linkKey lane.val lnk.val
  if linkUp k s then .next (dueRetrain k s) else .next s

/-- RETRAIN_REQUEST: the peer retrains, and this end joins (R460). -/
def execRetrainRequest (lane : Fin 48) (lnk : Fin 2) (s : State) : Host.Outcome State Fault Refusal :=
  let k := linkKey lane.val lnk.val
  if linkUp k s then .next (beginRetrain k s) else .next s

/-- KNOWN_GOOD_EXPIRY: after 10 ms on the known-good setting (R461). -/
def execKnownGoodExpiry (lane : Fin 48) (lnk : Fin 2) (fom : Nat) (s : State) : Host.Outcome State Fault Refusal :=
  let k := linkKey lane.val lnk.val
  let v := link s k
  if !v.onGood || decide (v.state = 3) || decide (s.now < v.goodAt + msNs 10) then .next s
  else
    let s1 := setLink s k { v with fom := satur 8 fom }
    if (linkGroup s k).fomFloor ≤ fom then
      .next (settleTraining k stOk 0 (satur 8 fom) (postLane k 3 (setLink s1 k { link s1 k with state := 3 })))
    else .next (parkLane k s1)

/-- A LANE_RETRAIN of the position is in this cycle. -/
def retrainComes (lane : Nat) (s : State) : Bool :=
  s.pending.any (fun c => match c with | .laneRetrain _ x _ => decide (x.val = lane) | _ => false)

/-- PARKED_RETRY, every 10 s; with a LANE_RETRAIN of the same cycle one training runs, the command's (R462). -/
def execParkedRetry (lane : Fin 48) (lnk : Fin 2) (s : State) : Host.Outcome State Fault Refusal :=
  let k := linkKey lane.val lnk.val
  let v := link s k
  if v.state = 5 ∧ v.parkedAt + msNs 10000 ≤ s.now ∧ retrainComes lane.val s = false then .next (dueRetrain k s) else .next s

/-- LINK_DOWN (R467, R468, R485): cause 0 codeword lock, 1 uncorrectable codewords, 2 FOM below the floor, of this end's
receiver, which answers with REMOTE_FAULT; 3 REMOTE_FAULT and 4 RETRAIN_REQUEST flits; 5 the peer's rate. -/
def execLinkDown (lane : Fin 48) (lnk : Fin 2) (cause : Fin 6) (lostFrames : Nat) (s : State) :
    Host.Outcome State Fault Refusal :=
  let k := linkKey lane.val lnk.val
  if linkUp k s then
    let s1 := takeDown k lostFrames (if cause.val = 5 then 8 else 2) s
    if cause.val < 3 then .next (emit (.flit (linkPort k) (flitBytes 6 [(1, cause.val)])) s1)
    else .next (setLink s1 k { link s1 k with remoteFault := decide (cause.val = 3) })
  else if decide (cause.val = 5) && isTraining (link s k) then .next (failTraining k (postLane k 8 s))
  else .next s

/-- A control flit that is received: one whose CRC fails, or whose TYPE is not listed, is counted (R463). -/
def countFlit (k : Nat) (flit : List Byte) (s : State) : State :=
  if flitListed flit then s
  else setLink s k { link s k with ctrlErrors := satur 32 ((link s k).ctrlErrors + 1) }

/-- PAUSE: a class is held or released at this sender (R463, R466). -/
def execPause (lane : Fin 48) (lnk : Fin 2) (flit : List Byte) (s : State) : Host.Outcome State Fault Refusal :=
  let k := linkKey lane.val lnk.val
  let v := link s k
  if !linkUp k s then .next s
  else if !flitListed flit || decide (fieldAt flit 0 1 ≠ 4) then .next (countFlit k flit s)
  else
    let classes := BitVec.ofNat 2 (fieldAt flit 1 1)
    .next (setLink s k { v with paused := if fieldAt flit 2 1 = 1 then v.paused ||| classes else v.paused &&& ~~~classes })

end Sys2Proof.Machine
end

