-- ==== Sys2Proof/Machine/Terminals.lean ====
section
/-!
DEFINITION. Terminals: admission, discovery, ranging, drift, rogue probes (R159–R170, R174, R192).
-/
namespace Sys2Proof.Machine

/-! ## Admission -/

/-- The default contexts of a terminal (R171, R174); what comes upstream in its default port is management, and no queue feeds
it. -/
def defaultAlloc (t i : Nat) : Alloc :=
  { present := true, tree := t, terminal := i, allocId := i, cls := 1, assured := 1024, maximum := 10240, beWeight := 1,
    report := true }
def defaultPort (t i : Nat) : PortCtx :=
  { present := true, tree := t, terminal := i, portId := i, up := true }

/-- A terminal admitted on tree `t`, with its default contexts (R160, R171). -/
def admitTerminal (t : Nat) (p : AdmitP) (s : State) : State :=
  let i := p.terminal.val
  setPortCtx (setAlloc (setTerminal s t i {
    admitted := true, profile := p.profile.val, domain := p.domain.val, serial := p.serial, autoRange := p.autoRange,
    regCheck := p.regCheck, regId := p.regId }) (t * 512 + i) (defaultAlloc t i)) (t * 512 + i) (defaultPort t i)

/-- TERMINAL_ADMIT (R160). -/
def execTerminalAdmit (h : Caller) (p : AdmitP) (s : State) : Host.Outcome State Fault Refusal :=
  perform 0x0301 none noCupola h (fun s =>
    let t := p.tree.val
    let i := p.terminal.val
    if !owns h kTree t s || !ownsDomain h p.domain.val s then refuse 4 s
    else if !p.wf then .hostError [(kTree, t)]
    else if (terminal s t i).admitted then refuse 0x300 s
    else if s.tr.terminals.any (fun e => e.2.admitted && decide (e.2.serial = p.serial)) then refuse 0x301 s
    else okay (admitTerminal t p s)) s

/-- The terminal is gone: its contexts and key slots with it (R168, R171, R277); an ALLOC_REMOVE that waits for a map completes, no
map granting to its context any more (R182). -/
def removeTerminal (t i : Nat) (s0 : State) : State :=
  let waits := s0.tr.allocs.filter (fun e => e.2.present && decide (e.2.tree = t) && decide (e.2.terminal = i) && e.2.removing)
  let s := waits.foldl (fun st e => completeRunning 0x0401 e.1 stOk 0 0 [] st) s0
  let s1 := setTerminal s t i {}
  let s2 := { s1 with tr := { s1.tr with
    allocs := tmap {} (fun _ a => if a.present && decide (a.tree = t) && decide (a.terminal = i) then {} else a) s1.tr.allocs,
    ports := tmap {} (fun _ a => if a.present && decide (a.tree = t) && decide (a.terminal = i) then {} else a) s1.tr.ports } }
  eraseSlot kindTree (treeSlot t i 0) (eraseSlot kindTree (treeSlot t i 1) s2)

/-- PLOAM message types of the modes' standards. -/
def ploamAssign : Nat := 3
def ploamRangingTime : Nat := 4
def ploamDeactivate : Nat := 5
def ploamDisable : Nat := 6

/-- A ranging that the terminal's disabling or removal cuts short has accepted no delimiter: it completes with EMPTY
(R166, DEDUCED). [log 43 DEDUCED] -/
def cutRanging (t i : Nat) (s : State) : State :=
  if (terminal s t i).ranging.isSome then completeRunning 0x0302 (t * 512 + i) stEmpty 0x304 0 [] s else s

/-- TERMINAL_REMOVE (R168). -/
def execTerminalRemove (h : Caller) (t : Fin 64) (i : Fin 512) (s : State) : Host.Outcome State Fault Refusal :=
  perform 0x0304 none noCupola h (fun s =>
    if !owns h kTree t.val s then refuse 4 s
    else if !(terminal s t.val i.val).admitted then refuse 0x303 s
    else okay (postTerminal t.val i.val 0 4 (emit (.ploam t.val i.val ploamDeactivate 0)
      (removeTerminal t.val i.val (cutRanging t.val i.val (beforeChange s)))))) s

/-- TERMINAL_DISABLE (R168). -/
def execTerminalDisable (h : Caller) (t : Fin 64) (i : Fin 512) (reenable : Bool) (s : State) :
    Host.Outcome State Fault Refusal :=
  perform 0x0303 none noCupola h (fun s =>
    let m := terminal s t.val i.val
    if !owns h kTree t.val s then refuse 4 s
    else if !m.admitted then refuse 0x303 s
    else if reenable then
      okay (emit (.ploam t.val i.val ploamDisable 0) (setTerminal (cutRanging t.val i.val s) t.val i.val { m with
        state := 1, ranging := none }))
    else
      okay (postTerminal t.val i.val 6 3 (emit (.ploam t.val i.val ploamDisable 0xFF)
        (setTerminal (cutRanging t.val i.val s) t.val i.val { m with state := 6, ranging := none })))) s

/-! ## Status -/

/-- Fibre distance of R165 in m as a fraction: numerator and denominator. -/
def distanceNum (rtd : Nat) : Nat := (rtd - 560000) * 299792458
def distanceDen (groupIndex : Nat) : Nat := 32 * groupIndex * 1000

/-- Fibre distance in m (R165), rounded to nearest as the worked example of ranging does (DEDUCED). [log 42 DEDUCED] -/
def distanceM (rtd groupIndex : Nat) : Nat :=
  (2 * distanceNum rtd + distanceDen groupIndex) / (2 * distanceDen groupIndex)

/-- The fibre distance lies in MIN_REACH_M to MAX_REACH_M (R164). -/
def reachOk (rtd : Nat) (v : Tree) : Bool :=
  decide (v.minReach * distanceDen v.groupIndex ≤ distanceNum rtd) &&
  decide (distanceNum rtd ≤ v.maxReach * distanceDen v.groupIndex)

def terminalStatus (t i : Nat) (s : State) : List Byte :=
  let m := terminal s t i
  let recent := m.collisions.filter (fun c => decide (s.now < c + 1000000000))
  fields 64 [(2, i), (1, m.state), (1, m.profile), (2, m.domain), (2, 0), (8, m.serial), (4, m.rtd.getD 0),
    (4, twos 32 m.eqd), (4, match m.rtd with | some r => distanceM r (tree s t).groupIndex | none => 0),
    (2, twos 16 m.rssi), (2, twos 16 m.amplitude), (4, recent.length), (4, m.lateLock), (4, m.driftCorrections)]

/-- TERMINAL_STATUS (R169). -/
def execTerminalStatus (h : Caller) (t : Fin 64) (i : Fin 512) (s : State) : Host.Outcome State Fault Refusal :=
  perform 0x0305 none noCupola h (fun s =>
    if !(terminal s t.val i.val).admitted then refuse 0x303 s else okResp (terminalStatus t.val i.val s) s) s

/-- DISCOVERED_READ (R168). -/
def execDiscoveredRead (h : Caller) (t : Fin 64) (s : State) : Host.Outcome State Fault Refusal :=
  perform 0x0307 none noCupola h (fun s =>
    let l := (tree s t.val).discovered
    if l = [] then emptyReply s else okResp (l.flatMap (fun e => le 8 e.1 ++ le 8 e.2)) s) s

/-! ## Ranging -/

/-- Symbols of a terminal's ranging burst: preamble, delimiter, and what its mode's standard has it carry (R166). -/
def rangingBurst (t i : Nat) (s : State) : Nat :=
  let m := (tree s t).mode
  (match profileOf s t (terminal s t i).profile with | some p => p.preambleLen | none => 0) + delimSymbols m +
    Config.rangingBurstSymbols m

/-- Open the next ranging window of a terminal, its grant in the next map; none during a rogue probe (R161, R166, R168). -/
def openRanging (t i : Nat) (s : State) : State :=
  let v := tree s t
  if probing v then s
  else openQuiet t (some i) (reachSpread t s + rangingBurst t i s)
    (setTree s t { v with scheduled := v.scheduled ++ [{ terminal := i, ranging := true, superframe := (v.lastMap + 1) % 2 ^ 51 }] })

/-- Ranging begins: O4, up to RANGE_ATTEMPTS windows (R166). -/
def startRanging (t i : Nat) (s : State) : State :=
  let m := terminal s t i
  openRanging t i (setTerminal s t i { m with
    state := 3, ranging := some { left := (tree s t).rangeAttempts, before := m.state } })

/-- TERMINAL_RANGE (R166). -/
def execTerminalRange (h : Caller) (t : Fin 64) (i : Fin 512) (s : State) : Host.Outcome State Fault Refusal :=
  perform 0x0302 (some { kind := 7, scope := t.val }) noCupola h (fun s =>
    let m := terminal s t.val i.val
    if !owns h kTree t.val s then refuse 4 s
    else if !m.admitted then refuse 0x303 s
    else if !(tree s t.val).enabled then refuse 0x302 s
    else if m.state ≠ 2 ∧ m.state ≠ 4 then refuse 0x306 s
    else if (profileOf s t.val m.profile).isNone then refuse 0x307 s
    else .later (t.val * 512 + i.val) (startRanging t.val i.val s)) s

/-- A ranging ends without success: back to O2-3, the event, the completion (R164, R166). [log 41 DEDUCED] -/
def failRanging (t i status detail : Nat) (s : State) : State :=
  completeRunning 0x0302 (t * 512 + i) status detail 0 []
    (postTerminal t i 2 7 (setTerminal s t i { terminal s t i with state := 2, ranging := none }))

/-- An equalisation delay as sent: whole symbols on a double-rate tree, elsewhere as the mode's standard gives (R134, R164). -/
def sentEqd (t : Nat) (eqd : Int) (s : State) : Int :=
  if (tree s t).mode = 2 then (eqd * 850 + 128) / 256 else Config.sentEqd (tree s t).mode eqd

/-- RTD in units of 62.5 ps, rounded to nearest: the arrival of the first delimiter symbol, less the preamble, less the
start of the grant (R163). -/
def roundTrip (t i grantStart delimStamp : Nat) (s : State) : Nat :=
  let v := tree s t
  let pre := match profileOf s t (terminal s t i).profile with | some p => p.preambleLen | none => 0
  let kbd := upSymbolKbd v.mode v.upRate
  ((delimStamp - grantStart) * kbd * 2 + kbd - pre * 16000000 * 2) / (kbd * 2)

/-- RANGING_RESPONSE (R163, R164, R166). -/
def execRangingResponse (t : Fin 64) (i : Fin 512) (grantStart delimStamp : Nat) (s : State) :
    Host.Outcome State Fault Refusal :=
  let m := terminal s t.val i.val
  let v := tree s t.val
  match m.ranging with
  | none => .next s
  | some _ =>
    let rtd := roundTrip t.val i.val grantStart delimStamp s
    let eqd : Int := (v.teqdNs * 16 : Int) - rtd
    if rtd < 560000 ∨ eqd < 0 ∨ reachOk rtd v = false then
      .next (failRanging t.val i.val stLimit 0x305 s)
    else
      .next (completeRunning 0x0302 (t.val * 512 + i.val) stOk 0 (twos 32 eqd + rtd * 2 ^ 32) []
        (postTerminal t.val i.val 4 1 (emit (.ploam t.val i.val ploamRangingTime (sentEqd t.val eqd s))
          (setTerminal s t.val i.val { m with state := 4, ranging := none, rtd := some rtd, eqd := eqd,
                                              driftSum := 0, driftCount := 0, driftDue := none, missed := 0 }))))

/-- The ranging burst of the terminal is presented in this cycle: it wins (R41, R166). -/
def rangingComes (t i : Nat) (s : State) : Bool :=
  s.pending.any (fun c => match c with | .rangingResponse u j _ _ => decide (u.val = t) && decide (j.val = i) | _ => false)

/-- RANGING_WINDOW_CLOSE: the next window, or the ranging fails (R166). -/
def execRangingWindowClose (t : Fin 64) (i : Fin 512) (s : State) : Host.Outcome State Fault Refusal :=
  let m := terminal s t.val i.val
  match m.ranging with
  | none => .next s
  | some r =>
    if rangingComes t.val i.val s then .next s
    else if r.left ≤ 1 then .next (failRanging t.val i.val stEmpty 0x304 s)
    else .next (openRanging t.val i.val (setTerminal s t.val i.val { m with ranging := some { r with left := r.left - 1 } }))

/-- DRIFT_CORRECTION: the correction that a run of 16 bursts has made due, of a terminal still in O5 (R167). [log 44 DEDUCED] -/
def execDriftCorrection (t : Fin 64) (i : Fin 512) (s : State) : Host.Outcome State Fault Refusal :=
  let m := terminal s t.val i.val
  match m.driftDue, m.rtd with
  | some d, some r =>
    if m.state ≠ 4 then .next (setTerminal s t.val i.val { m with driftDue := none })
    else
    let rtd := ((r : Int) + d).toNat
    let eqd : Int := ((tree s t.val).teqdNs * 16 : Int) - rtd
    .next (postTerminal t.val i.val 4 5 (emit (.ploam t.val i.val ploamRangingTime (sentEqd t.val eqd s))
      (setTerminal s t.val i.val { m with rtd := some rtd, eqd := eqd, driftDue := none,
                                          driftCorrections := satur 32 (m.driftCorrections + 1) })))
  | _, _ => .next s

/-! ## Discovery -/

/-- DISC_PERIOD_MS has passed since the tree's last discovery window; 0 opens none (R140, R161). -/
def discoveryDue (v : Tree) (now : Nat) : Bool :=
  decide (v.discPeriodMs ≠ 0) && (match v.lastDisc with | none => true | some a => decide (a + v.discPeriodMs * 1000000 ≤ now))

/-- DISCOVERY_WINDOW, every DISC_PERIOD_MS; none during a rogue probe (R161, R168). -/
def execDiscoveryWindow (t : Fin 64) (s : State) : Host.Outcome State Fault Refusal :=
  let v := tree s t.val
  if !v.enabled || !protTransmits t.val s || !discoveryDue v s.now || probing v then .next s
  else .next (openQuiet t.val none (reachSpread t.val s + Config.responseSpread v.mode) (setTree s t.val { v with lastDisc := some s.now }))

/-- A serial number goes to the discovered list of 64 entries, the newest replacing the oldest (R162). -/
def listUnknown (t serial stamp : Nat) (s : State) : State :=
  let v := tree s t
  let rest := v.discovered.filter (fun e => decide (e.1 ≠ serial))
  postTerminal t 0x1FF 0 6 (setTree s t { v with discovered := ((serial, stamp % 2 ^ 64) :: rest).take 64 })

/-- SERIAL_NUMBER_RESPONSE (R160, R162): an admitted terminal is given its ONU-ID, and ranged with AUTO_RANGE; one that overlaps a
pinned burst is lost (R191). A terminal in O7 is not to answer, and its response is ignored. [log 179 DESIGN CHOICE] -/
def execSerialNumberResponse (t : Fin 64) (serial regId stamp : Nat) (s : State) : Host.Outcome State Fault Refusal :=
  if !(tree s t.val).enabled || strikesPinned t.val stamp s then .next s
  else match s.tr.terminals.find? (fun e => decide (e.1 / 512 = t.val) && e.2.admitted && decide (e.2.serial = serial)) with
    | none => .next (listUnknown t.val serial stamp s)
    | some (k, m) =>
      let i := k % 512
      if m.state = 6 then .next s
      else if (profileOf s t.val m.profile).isNone || (m.regCheck && decide (m.regId ≠ regId)) then
        .next (listUnknown t.val serial stamp s)
      else
        let s1 := postTerminal t.val i 2 0 (emit (.ploam t.val i ploamAssign i)
          (setTerminal (cutRanging t.val i s) t.val i { m with state := 2, ranging := none, missed := 0 }))
        .next (if m.autoRange then startRanging t.val i s1 else s1)

/-! ## Rogue probe -/

/-- ROGUE_PROBE (R168). -/
def execRogueProbe (h : Caller) (t : Fin 64) (durationUs : Nat) (s : State) : Host.Outcome State Fault Refusal :=
  perform 0x0306 (some { kind := 7, scope := t.val }) noCupola h (fun s =>
    if !owns h kTree t.val s then refuse 4 s
    else if durationUs < 125 ∨ 10000 < durationUs ∨ durationUs % 125 ≠ 0 then .hostError [(kTree, t.val)]
    else if !(tree s t.val).enabled then refuse 0x302 s
    else
      let v := tree s t.val
      let p : Probe := { key := t.val + 64 * v.probeSeq, ends := s.now + usNs durationUs }
      .later p.key (setTree s t.val { v with probes := v.probes ++ [p], probeSeq := v.probeSeq + 1 })) s

/-- ROGUE_PROBE_END: the DURATION_US of a probe has passed (R168, R192). -/
def execRogueProbeEnd (t : Fin 64) (s : State) : Host.Outcome State Fault Refusal :=
  let v := tree s t.val
  match v.probes.find? (fun p => decide (p.ends ≤ s.now)) with
  | none => .next s
  | some p =>
    .next (completeRunning 0x0306 p.key stOk 0 (bit p.energy 0 + twos 16 p.maxAmp * 2 ^ 16) []
      (setTree s t.val { v with probes := v.probes.erase p }))

end Sys2Proof.Machine
end

