-- ==== Sys2Proof/Machine/Lease.lean ====
section
/-!
DEFINITION. The Belfry lease: members' requests, grants and fences, claims, standby and takeover, and the arbiter
(R418–R432, R438–R441, R448).
-/
namespace Sys2Proof.Machine

/-! ## Lease messages -/

/-- TYPE of R423. -/
def leaseRenew : Nat := 1
def leaseClaim : Nat := 2
def leaseGrant : Nat := 3
def leaseRelease : Nat := 4
def leaseHeartbeat : Nat := 5
def leaseRevert : Nat := 6

/-- The 32 bytes of a lease message (R423). -/
def leaseBytes (kind group sender target flags seq epoch superframe : Nat) : List Byte :=
  let b := fields 30 [(1, 1), (1, kind), (2, group), (1, sender), (1, target), (1, flags), (1, 0), (4, seq), (4, epoch),
    (8, superframe)]
  b ++ be 2 (crc16 b)

/-- A lease message as its bytes spell it (R423). -/
def readLease (b : List Byte) : LeaseMsg :=
  { crcOk := decide (b.length = 32) && decide (b.drop 30 = be 2 (crc16 (b.take 30))), version := fieldAt b 0 1, kind := fieldAt b 1 1,
    group := Fin.ofNat 4096 (fieldAt b 2 2), sender := Fin.ofNat 64 (fieldAt b 4 1), target := Fin.ofNat 64 (fieldAt b 5 1),
    healthy := flagAt b 6 0, imageCurrent := flagAt b 6 1, seq := fieldAt b 8 4, epoch := fieldAt b 0x0C 4,
    superframe := fieldAt b 0x10 8 }

/-- The tree port closed a map within the last 150 µs, which a member that does not hold the lease need not (R426). -/
def mapFresh (m : Member) (now : Nat) : Bool :=
  !m.holding || decide (now ≤ m.tookAt + usNs 150) ||
  (match m.mapAt with | some a => decide (now ≤ a + usNs 150) | none => false)

/-- The conditions of R426; `serviced` that the firmware that runs has serviced the protection watchdog within 1 ms.
[log 101 DEDUCED] -/
def healthy (t : Nat) (serviced : Bool) (s : State) : Bool :=
  mapFresh (member s t) s.now && decide ((cup s t).state ≠ .fenced) && s.boot.fwReady && serviced

/-- FLAGS of R423. -/
def leaseFlags (t : Nat) (serviced : Bool) (s : State) : Nat :=
  let m := member s t
  bit (healthy t serviced s) 0 + bit m.current 1 +
    bit (match m.cfg with | some c => !c.secondary | none => false) 2

def selfAddress (s : State) : Nat := s.fab.address.getD 0

/-- Send a member's lease message (R423). -/
def sendLease (t dst kind target superframe : Nat) (serviced : Bool) (s : State) : State :=
  let m := member s t
  match m.cfg with
  | none => s
  | some c =>
    if canSend dst s then
      emit (.lease dst (leaseBytes kind c.group.val (selfAddress s) target (leaseFlags t serviced s) m.seq m.epoch superframe)) s
    else countUnsent s

def peerOf (t : Nat) (s : State) : Nat := match (member s t).cfg with | some c => c.peer.val | none => 0
def arbiterOf (t : Nat) (s : State) : Nat := match (member s t).cfg with | some c => c.arbiter.val | none => 0

/-- A new request number, kept with its instant while a GRANT may answer it (R424, R425). -/
def newRequest (t : Nat) (s : State) : State :=
  let m := member s t
  let n := (m.seq + 1) % 2 ^ 32
  setMember s t { m with seq := n, sent := (n, s.now) :: m.sent.filter (fun e => decide (s.now ≤ e.2 + usNs 18)) }

/-- RENEW or CLAIM, every 5 µs (R422, R425). -/
def sendRequest (t kind : Nat) (serviced : Bool) (s : State) : State :=
  let s1 := newRequest t s
  let s2 := setMember s1 t { member s1 t with lastSent := some s.now }
  sendLease t (arbiterOf t s) kind (selfAddress s) 0 serviced s2

/-- REVERT to the arbiter and the holder, with a new SEQ (R440). -/
def sendReverts (t boundary : Nat) (s : State) : State :=
  let s0 := newRequest t s
  let s1 := setMember s0 t { member s0 t with revertSent := some s.now }
  sendLease t (peerOf t s) leaseRevert (selfAddress s) boundary true
    (sendLease t (arbiterOf t s) leaseRevert (selfAddress s) boundary true s1)

/-- BAD_MESSAGES (R424, R447). -/
def badMessage (t : Nat) (s : State) : State :=
  setMember s t { member s t with badMessages := satur 32 ((member s t).badMessages + 1) }

/-- A lease message passes the checks of R424. -/
def soundMessage (m : LeaseMsg) : Bool := m.crcOk && decide (m.version = 1)

/-! ## Member states -/

/-- Source 0x340 + t (R448). -/
def postProt (t reason : Nat) (s : State) : State :=
  let m := member s t
  post (0x340 + t) .warning (m.state + reason * 2 ^ 4 + (match m.cfg with | some c => c.group.val | none => 0) * 2 ^ 8 +
    satur 24 m.lastInterruption * 2 ^ 20) s

/-- The number of the frame that starts at or before now by the tree's time base (R403). -/
def gridFrame (t : Nat) (s : State) : Nat :=
  let b := (timeBase s (tree s t).timeBase).value
  (secOf b * 8000 + nsOf b / 125000) % 2 ^ 51

/-- Nanoseconds to the start of frame `f` by the tree's time base; negative once it is past. -/
def untilFrame (t f : Nat) (s : State) : Int :=
  let b := (timeBase s (tree s t).timeBase).value
  let m := 2 ^ 51 * 125000
  let d := (f % 2 ^ 51 * 125000 + (m - (secOf b * 1000000000 + nsOf b) % m)) % m
  if d < m / 2 then d else (d : Int) - m

/-- The first frame boundary at least 500 µs ahead (R440, R441). [log 102 DEDUCED] -/
def handoverFrame (t : Nat) (s : State) : Nat :=
  let b := (timeBase s (tree s t).timeBase).value
  ((secOf b * 1000000000 + nsOf b + 500000 + 124999) / 125000) % 2 ^ 51

/-- The tree neither transmits nor receives; its port stays counted (R419). -/
def darkTree (t : Nat) (s : State) : State :=
  setTree s t { tree s t with enabled := false, duty := false, started := false, txen := false, window := none }

/-- A wake of the tree cupola begins (R419, R515). -/
def beginWake (k : Nat) (s : State) : State :=
  let c := cup s k
  if c.state = .active ∨ c.state = .fenced then s else setCup s k { c with waking := some s.now }

/-- The conditions of WTR: the member's HEARTBEATs carry HEALTHY, it accepts the holder's, its image is current (R440). -/
def wtrHolds (m : Member) : Bool := m.hbHealthy && m.hbLast.isSome && !m.peerLost && m.current

/-- WTR runs from the instant from which its conditions hold together; a break restarts it and stops the REVERTs, unless S − 12
µs is past (R440). -/
def judgeWtr (t : Nat) (s : State) : State :=
  let m := member s t
  if m.state ≠ 8 ∨ m.reverting = true then s
  else if wtrHolds m then setMember s t { m with wtrSince := some (m.wtrSince.getD s.now) }
  else setMember s t { m with wtrSince := none, taking := none }

/-- The member stands by: dark, its own state no longer in use; WTR for a revertive primary (R440). -/
def becomeStandby (t : Nat) (s : State) : State :=
  let m := member s t
  let wtr := match m.cfg with | some c => c.revertive && !c.secondary | none => false
  let s1 := darkTree t (setMember s t { m with
    holding := false, claiming := false, live := false, fence := true, taking := none, reverting := false, reverts := [],
    dueRelease := none, releaseDue := false, state := if wtr then 8 else if m.current then 3 else 4, wtrSince := none })
  let s2 := if m.state = 1 then postProt t 0 s1 else s1
  completeRunning 0x0B01 t stOk 0 0 [] (judgeWtr t s2)

/-- A standby test is aborted (R444). -/
def abortTest (t : Nat) (s : State) : State :=
  if (member s t).state = 7 then
    completeRunning 0x0B05 t stRefused 0x0B07 0 [] (postProt t 8 (setMember s t { member s t with state := 5 }))
  else s

/-- Claiming begins: only with a current image, or with the member's own state (R425, R431, R437). [log 103 DEDUCED] -/
def startClaim (t : Nat) (s : State) : State :=
  let m := member s t
  if m.holding || m.claiming || !(m.current || m.live) || decide ((cup s t).state = .fenced) then s
  else
    let s1 := abortTest t s
    beginWake t (setMember s1 t { member s1 t with claiming := true, state := 5, wtrSince := none, taking := none,
                                                   reverting := false, revertSent := none })

/-- The fence stops transmission; a member that still wants the lease claims again (R425, R426, R430). -/
def fenceMember (t : Nat) (s : State) : State :=
  let m := member s t
  let s1 := setMember s t { m with holding := false, fence := true, state := 6, dueRelease := none, releaseDue := false, reverts := [],
                                   claiming := m.enabled && decide ((cup s t).state ≠ .fenced) }
  postProt t 2 (setTree s1 t { tree s1 t with txen := false })

/-- The fence instant has come (R42, R425). -/
def fenceDue (t : Nat) (s : State) : Bool := (member s t).holding && decide ((member s t).fenceAt ≤ s.now)

/-! ## Images -/

def image (s : State) (t k : Nat) : Image := tget {} (t * 4 + k) s.prot.images
def setImage (s : State) (t k : Nat) (v : Image) : State :=
  { s with prot := { s.prot with images := tset {} (t * 4 + k) v s.prot.images } }
def imagesOf (t : Nat) (s : State) : List Image := (List.range 4).map (fun k => image s t k)

/-- The image with the highest superframe among some. -/
def newest (l : List Image) : Option Image :=
  l.foldl (fun best i => match best with
    | none => some i
    | some b => if b.superframe < i.superframe then some i else some b) none

/-- Newest part A received; newest usable image (R437). -/
def newestA (t : Nat) (s : State) : Option Image := newest ((imagesOf t s).filter (fun i => i.doneA))
def newestUsable (t : Nat) (s : State) : Option Image :=
  newest ((imagesOf t s).filter (fun i => i.doneA && i.doneB && !i.unusable))

/-- A route to the peer and the arbiter, shared time locked, the saved-state partition served (R25, R420). -/
def protDeps (t : Nat) (s : State) : Bool :=
  reachable (peerOf t s) s && reachable (arbiterOf t s) s && fabricTimeLocked s &&
  decide (fabricTimeBase s = some (tree s t).timeBase) && (tree s t).configured &&
  decide ((cup s 90).state ≠ .fenced) && decide ((cup s 91).state ≠ .fenced)

/-- The standby's image is current (R25, R437). -/
def imageCurrent (t : Nat) (s : State) : Bool :=
  match newestA t s, newestUsable t s, (member s t).cfg with
  | some a, some u, some c => protDeps t s && decide (a.superframe ≤ u.superframe + c.staleLimit)
  | _, _, _ => false

/-- Bring IMAGE_CURRENT and the standby states up to the images held (R437, R440, R448). -/
def refreshCurrent (t : Nat) (s : State) : State :=
  let m := member s t
  let now := imageCurrent t s
  if m.holding || decide (now = m.current) then s
  else
    let s1 := setMember s t { m with current := now, state := if m.state = 3 ∨ m.state = 4 then (if now then 3 else 4) else m.state }
    judgeWtr t (if now then s1 else postProt t 5 s1)

/-! ## Takeover -/

/-- The slot that holds an image. -/
def slotOf (t superframe : Nat) (s : State) : Option Nat :=
  (List.range 4).find? (fun k => decide ((image s t k).superframe % 2 ^ 32 = superframe % 2 ^ 32) &&
    (!(image s t k).piecesA.isEmpty || !(image s t k).piecesB.isEmpty))

/-- Address of a saved-state slot of tree `t`, and of its part B (R489). -/
def savedState (t k : Nat) : Nat := 0x140000000 + (t * 4 + k) * 0x200000
def partOffset (partB : Bool) : Nat := if partB then 0x40000 else 0

/-- The maps that part A of an image holds (R435, R438). -/
def heldMaps (t superframe : Nat) (s : State) : List (Nat × List (List Byte)) :=
  match slotOf t superframe s with
  | none => []
  | some k =>
    let a := readBytes (savedState t k) 0x40000 s
    readMaps (fieldAt a 3 1) (a.drop 64)

/-- The window of a structure: its allocation's terminal, by Alloc-ID. -/
def structureWindow (t n : Nat) (b : List Byte) (s : State) : Option Granted :=
  let (id, start) := Config.readStructure (tree s t).mode b
  (s.tr.allocs.find? (fun e => e.2.present && decide (e.2.tree = t) && decide (e.2.allocId = id))).map (fun e =>
    { terminal := e.2.terminal, ranging := false, superframe := n, ctxs := [e.1], start := start })

/-- Structures of one terminal that follow one another share its window. -/
def joinWindow (l : List Granted) (g : Granted) : List Granted :=
  match l with
  | w :: r => if w.terminal = g.terminal ∧ w.superframe = g.superframe then { w with ctxs := w.ctxs ++ g.ctxs } :: r else g :: l
  | [] => [g]

/-- The windows of the held maps, in order (R438). -/
def heldWindows (t : Nat) (maps : List (Nat × List (List Byte))) (s : State) : List Granted :=
  ((maps.flatMap (fun m => m.2.filterMap (fun b => structureWindow t m.1 b s))).foldl joinWindow []).reverse

/-- A standby that has been granted the lease continues from its newest image: the maps held for frames to come are sent as
held, and the windows of held maps that start from now on are opened; those that started before are lost (R438, R439, R447). The
interruption, measured from a fault that the standby does not see, is open. -/
def activateImage (t : Nat) (s : State) : State :=
  match newestUsable t s, newestA t s with
  | some _, some a =>
    let n := a.superframe + (gridFrame t s - a.gridA) - 1
    let maps := heldMaps t a.superframe s
    let s1 := setTree s t { tree s t with
      started := true, superframe := n, lastMap := a.superframe, frameStart := s.now + untilFrame t (gridFrame t s) s }
    let windows := heldWindows t maps s1
    let s2 := setTree s1 t { tree s1 t with scheduled := windows.filter (fun g => decide ((s.now : Int) ≤ windowOpens t g s1)) }
    let m := member s2 t
    let (d, s3) := draw s2
    let s4 := setMember s3 t { m with
      switchovers := satur 32 (m.switchovers + 1), lastInterruption := satur 32 d,
      lostWindows := satur 32 (m.lostWindows + (windows.filter (fun g => decide (windowOpens t g s1 < s.now))).length) }
    (maps.filter (fun h => decide (n % 2 ^ 32 < h.1))).foldl (fun st h => emit (.heldMap t h.1 h.2) st) s4
  | _, _ => s

/-- What the taker sends first: the boundary S that a handover names, with the GRANT 0.5 µs before it; otherwise idle content
from the next codeword boundary on (R438, R441). -/
def resumesAt (t : Nat) (s : State) : Option Nat :=
  match (member s t).taking with
  | some (b, _) => if untilFrame t b s < 500 then none else some b
  | none => none

/-- The lease is granted to a member that did not hold it (R425, R430, R438, R441). [log 193 DEDUCED] -/
def takeOver (t : Nat) (s : State) : State :=
  let m := member s t
  let reason := if m.taking.isSome then 7 else 1
  let s1 := setMember s t { m with
    holding := true, fence := false, claiming := false, live := true, state := 2, tookAt := s.now, mapAt := none, taking := none,
    reverting := false, revertSent := none, reverts := [], dueRelease := none, wtrSince := none, sentConfig := [], sentKeys := [] }
  let s2 := if m.live then setTree s1 t { tree s1 t with txen := true }
    else activateImage t (moveCup t .active 0 (startTree t true s1))
  completeRunning 0x0B01 t stOk 0 0 [] (postProt t reason (emit (.resumed t (resumesAt t s)) s2))

/-! ## Arbiter -/

def arbiter (s : State) (g : Nat) : Arbiter := tget {} g s.prot.arbiters
def setArbiter (s : State) (g : Nat) (v : Arbiter) : State :=
  { s with prot := { s.prot with arbiters := tset {} g v s.prot.arbiters } }

/-- An ARMED bit as it applies in the cycle. -/
def armedBit (secondary : Bool) (a : Arbiter) (now : Nat) : Bool :=
  if now ≤ a.armedAt then (if secondary then a.wasSecondary else a.wasPrimary)
  else if secondary then a.armedSecondary else a.armedPrimary

/-- armed(m) of R429: a change applies from the cycle after it (R445). [log 106 DEDUCED] -/
def armed (a : Arbiter) (sender now : Nat) : Bool :=
  if sender = a.primary then !a.hostMode || armedBit false a now
  else if sender = a.secondary then !a.hostMode || armedBit true a now
  else false

/-- GRANT to a member (R423, R427). -/
def sendGrant (g dst seq epoch : Nat) (s : State) : State :=
  if canSend dst s then emit (.lease dst (leaseBytes leaseGrant g (selfAddress s) dst 0 seq epoch 0)) s else countUnsent s

/-- The request that would be granted: a REVERT's, else the primary's, else the other's (R427). -/
def pickRequest (a : Arbiter) : Option Queued :=
  match a.queue.find? (fun q => decide (q.kind = leaseRevert)) with
  | some q => some q
  | none => match a.queue.find? (fun q => decide (q.sender = a.primary)) with
    | some q => some q
    | none => a.queue.head?

/-- The record expires, checked first (R42, R427). -/
def expireRecord (g : Nat) (s : State) : State :=
  let a := arbiter s g
  if a.holder.isSome && decide (a.expiry ≤ s.now) then setArbiter s g { a with holder := none } else s

/-- One message of the cycle (R427). -/
def takeMessage (g : Nat) (q : Queued) (s : State) : State :=
  let a := arbiter s g
  let mine := decide (a.holder = some q.sender)
  if q.kind = leaseRenew ∧ mine = true then
    sendGrant g q.sender q.seq a.epoch (setArbiter s g { a with expiry := s.now + usNs 20 })
  else if q.kind = leaseRelease then (if mine then setArbiter s g { a with holder := none } else s)
  else setArbiter s g { a with queue := a.queue.filter (fun e => decide (e.sender ≠ q.sender)) ++ [q] }

/-- The messages of the cycle, lowest SENDER first (R427). -/
def insertSender (q : Queued) : List Queued → List Queued
  | [] => [q]
  | x :: r => if q.sender < x.sender then q :: x :: r else x :: insertSender q r

/-- Drop stale requests, and grant a queued one when no member holds the lease (R427). -/
def arbitrate (g : Nat) (s : State) : State :=
  let a := arbiter s g
  let q := a.queue.filter (fun e => decide (s.now ≤ e.received + usNs 10))
  let a1 := { a with queue := q }
  if a.holder.isSome then setArbiter s g a1
  else match pickRequest a1 with
    | none => setArbiter s g a1
    | some r =>
      if armed a1 r.sender s.now then
        let e := (a.epoch + 1) % 2 ^ 32
        sendGrant g r.sender r.seq e
          (setArbiter s g { a1 with holder := some r.sender, epoch := e, expiry := s.now + usNs 20, queue := [] })
      else setArbiter s g { a1 with queue := [] }

/-- The arbiter's cycle: expiry first, the messages presented, then a grant (R42, R427). -/
def arbiterCycle (g : Nat) (s : State) : State :=
  let s1 := expireRecord g s
  let ms := (arbiter s1 g).presented.foldl (fun l q => insertSender q l) []
  arbitrate g (ms.foldl (fun st q => takeMessage g q st) (setArbiter s1 g { arbiter s1 g with presented := [] }))

end Sys2Proof.Machine
end

