-- ==== Sys2Proof/Machine/Protection.lean ====
section
/-!
DEFINITION. Tree protection: the commands of range 0x0B, the lease's steps, heartbeats, handover (R418–R448, R582).
-/
namespace Sys2Proof.Machine

/-! ## Commands -/

/-- A group's configuration with its defaults (R446). -/
def protDefaults (p : ProtP) : ProtP :=
  { p with hbTimeoutUs := if p.hbTimeoutUs = 0 then 12 else p.hbTimeoutUs, wtrS := if p.wtrS = 0 then 300 else p.wtrS,
           staleLimit := if p.staleLimit = 0 then 80 else p.staleLimit }

/-- PROT_GROUP_CONFIGURE (R446). -/
def execProtGroupConfigure (h : Caller) (p : ProtP) (s : State) : Host.Outcome State Fault Refusal :=
  perform 0x0B00 none noCupola h (fun s =>
    let m := member s p.tree.val
    if !owns h kTree p.tree.val s then refuse 4 s
    else if !p.wf then .hostError [(kTree, p.tree.val)]
    else if (tree s p.tree.val).enabled || m.enabled then refuse 0x0B01 s
    else if p.arbiter = p.peer ∨ s.fab.address = some p.arbiter.val then refuse 0x0B04 s
    else okay (setMember s p.tree.val { m with cfg := some (protDefaults p) })) s

/-- A member as it is enabled, its counts from zero (R447). -/
def enabledMember (m : Member) (now : Nat) : Member :=
  { cfg := m.cfg, enabled := true, state := 1, claiming := true, fence := true, epoch := m.epoch, seq := m.seq,
    enabledAt := now }

/-- PROT_ENABLE (R420). -/
def execProtEnable (h : Caller) (t : Fin 64) (s : State) : Host.Outcome State Fault Refusal :=
  perform 0x0B01 (some { kind := 2, scope := t.val }) noCupola h (fun s =>
    let m := member s t.val
    if !owns h kTree t.val s then refuse 4 s
    else match m.cfg with
      | none => .done stNotPresent 0 0 [] s
      | some c =>
        if m.enabled then okay s
        else if !protDeps t.val s then refuse 0x0B00 s
        else if (tget none c.group.val s.boot.pairingKeys).isNone then refuse 0x0B05 s
        else match enablePort t.val (treeRate (tree s t.val).mode) s with
          | .already => okay s
          | .overBudget => limitReply 0 s
          | .noRoom => limitReply 0x800 s
          | .placed s1 =>
            let s2 := setMember s1 t.val (enabledMember m s.now)
            .later t.val (postProt t.val 0 (setTreeFenced t.val false (keepActivity { kind := 2, scope := t.val } s2)))) s

/-- PROT_DISABLE (R445). -/
def execProtDisable (h : Caller) (t : Fin 64) (force : Bool) (s : State) : Host.Outcome State Fault Refusal :=
  perform 0x0B02 none noCupola h (fun s =>
    let m := member s t.val
    if !owns h kTree t.val s then refuse 4 s
    else if m.holding && !force then refuse 0x0B03 s
    else
      let s1 := if m.holding then sendLease t.val (arbiterOf t.val s) leaseRelease (selfAddress s) 0 true s else s
      okay (endActivity { kind := 2, scope := t.val } (setMember (stopTree t.val s1) t.val {}))) s

/-- PROT_SWITCH (R441). -/
def execProtSwitch (h : Caller) (t : Fin 64) (s : State) : Host.Outcome State Fault Refusal :=
  perform 0x0B03 none noCupola h (fun s =>
    let m := member s t.val
    let b := handoverFrame t.val s
    if !owns h kTree t.val s then refuse 4 s
    else if !m.holding || !m.peerCurrent || !m.peerHealthy || m.peerLost then refuse 0x0B02 s
    else
      let s1 := newRequest t.val s
      let s2 := setMember s1 t.val { member s1 t.val with dueRelease := some b }
      .later t.val (sendLease t.val (peerOf t.val s) leaseRevert (peerOf t.val s) b true s2)) s

/-- PROTECTED: a takeover would be made with a current image, and what protection depends on is there (R25, R431, R437, R447). -/
def protectedNow (t : Nat) (s : State) : Bool :=
  let m := member s t
  m.enabled && !m.peerLost && protDeps t s && (if m.holding then m.peerCurrent else m.current)

/-- WTR_REMAINING_S, rounded up (R447). -/
def wtrRemaining (m : Member) (now : Nat) : Nat :=
  match m.cfg, m.wtrSince with
  | some c, some w => if m.state = 8 then c.wtrS - (now - w) / 1000000000 else 0
  | _, _ => 0

def protStatus (t : Nat) (s : State) : List Byte :=
  let m := member s t
  let k := s.pwr.keep
  fields 64 [(1, m.state), (1, bit (protectedNow t s) 0 + bit m.peerLost 1 + bit (!k.feedA) 2 + bit (!k.feedB) 3),
    (2, match m.cfg with | some c => c.group.val | none => 0), (4, m.epoch),
    (8, match newestUsable t s with | some i => i.superframe | none => 0), (4, m.imageLate), (4, m.blobFailed),
    (4, m.badMessages), (4, m.switchovers), (4, m.lostWindows), (4, m.lastInterruption), (4, wtrRemaining m s.now)]

/-- PROT_STATUS (R447). -/
def execProtStatus (h : Caller) (t : Fin 64) (s : State) : Host.Outcome State Fault Refusal :=
  perform 0x0B04 none noCupola h (fun s =>
    if !owns h kTree t.val s then refuse 4 s
    else if !protConfigured t.val s then .done stNotPresent 0 0 [] s
    else okResp (protStatus t.val s) s) s

/-- PROT_STANDBY_TEST (R444). -/
def execProtStandbyTest (h : Caller) (t : Fin 64) (durationUs : Nat) (s : State) : Host.Outcome State Fault Refusal :=
  perform 0x0B05 (some { kind := 6, scope := t.val }) noCupola h (fun s =>
    let m := member s t.val
    if !owns h kTree t.val s then refuse 4 s
    else if durationUs < 125 ∨ 10000 < durationUs ∨ durationUs % 125 ≠ 0 then .hostError [(kTree, t.val)]
    else if m.state ≠ 3 then refuse 0x0B06 s
    else .later t.val (setMember s t.val { m with state := 7, testEnds := s.now + usNs durationUs })) s

/-- STANDBY_TEST_END, DURATION_US after the start (R444). -/
def execStandbyTestEnd (t : Fin 64) (pass : Bool) (s : State) : Host.Outcome State Fault Refusal :=
  let m := member s t.val
  if m.state ≠ 7 ∨ s.now < m.testEnds then .next s
  else .next (completeRunning 0x0B05 t.val stOk 0 (bit pass 0) []
    (setMember s t.val { m with state := if m.current then 3 else 4 }))

/-- The pairing key of R582: of the shared point's x-coordinate, the group and both serials. -/
def pairingKey (x g serialA serialB : Nat) : Nat :=
  sha256 (be 32 x ++ le 2 g ++ le 8 (min serialA serialB) ++ le 8 (max serialA serialB))

/-- SERIAL that the fabric database holds for an address (R582). -/
def serialOf (a : Nat) (s : State) : Option Nat :=
  (s.fab.records.find? (fun r => r.record.addressValid && decide (r.record.address.val = a))).map (fun r => r.record.serial)

/-- What a pairing message says before its signature: the ephemeral public key, GROUP, SERIAL, the IDENTITY_READ response
(R582). -/
def pairingBody (key : List Byte) (g serial : Nat) (identity : List Byte) : List Byte := key ++ le 2 g ++ le 8 serial ++ identity

/-- A peer's pairing message is accepted: its group, the serial that the database holds, the endorsement of its identity and its
signature (R581, R582). -/
def pairingOk (g serial : Nat) (m : List Byte) : Bool :=
  let identity := (m.drop 74).take 192
  let identityKey := (identity.drop 8).take 64
  decide (m.length = 330) && decide (leNat ((m.drop 64).take 2) = g) && decide (leNat ((m.drop 66).take 8) = serial) &&
  decide (leNat (identity.take 8) = serial) &&
  ecdsaOk p384 (natsOf Config.endorsementKey) (natsOf ((identity.drop 72).take 96)) (natsOf (identity.take 72)) &&
  ecdsaOk p256 (natsOf identityKey) (natsOf (m.drop 266)) (natsOf (m.take 266)) &&
  (publicKey p256 (natsOf (m.take 64))).isSome

/-- The ephemeral key pair's own message to the peer (R582). -/
def ownPairingMessage (d g : Nat) : List Byte :=
  let body := pairingBody ((keyBytes p256 (pointMul p256 d (basePoint p256))).map (BitVec.ofNat 8)) g Config.serial identityRead
  body ++ be 64 (Config.identitySign body)

/-- PROT_PAIR: an ephemeral key pair, whose private key is an open value, the messages exchanged, the key agreed; without an
acceptable message of the peer TIMEOUT (R582). [log 107 DEDUCED] -/
def execProtPair (h : Caller) (t : Fin 64) (message : List Byte) (s : State) : Host.Outcome State Fault Refusal :=
  perform 0x0B06 none noCupola h (fun s =>
    if !owns h kTree t.val s then refuse 4 s
    else match (member s t.val).cfg with
      | none => .done stNotPresent 0 0 [] s
      | some c =>
        let d := (draw s).1 % (p256.n - 1) + 1
        let s1 := emit (.pairing c.peer.val (ownPairingMessage d c.group.val)) (draw s).2
        match serialOf c.peer.val s with
        | none => .done stTimeout 0 0 [] s1
        | some n =>
          if pairingOk c.group.val n message then
            let x := sharedX p256 d (publicKey p256 (natsOf (message.take 64)))
            okay { s1 with boot := { s1.boot with
              pairingKeys := tset none c.group.val (some (pairingKey x c.group.val Config.serial n)) s1.boot.pairingKeys } }
          else .done stTimeout 0 0 [] s1) s

/-- Groups that the arbiter unit serves. -/
def groupsServed (but : Nat) (s : State) : Nat :=
  (s.prot.arbiters.filter (fun e => e.2.serve && decide (e.1 ≠ but))).length

/-- LEASE_ARBITER_CONFIGURE (R429). -/
def execLeaseArbiterConfigure (h : Caller) (p : ArbiterP) (s : State) : Host.Outcome State Fault Refusal :=
  perform 0x0B07 none noCupola h (fun s =>
    if !ownsDevice h s then refuse 4 s
    else if p.serve = false then okay (setArbiter s p.group.val {})
    else if 256 ≤ groupsServed p.group.val s then limitReply 0x0B08 s
    else okay (setArbiter s p.group.val { arbiter s p.group.val with
      serve := true, hostMode := p.hostMode, armedPrimary := p.armedPrimary, armedSecondary := p.armedSecondary,
      armedAt := s.now, wasPrimary := armedBit false (arbiter s p.group.val) s.now,
      wasSecondary := armedBit true (arbiter s p.group.val) s.now,
      primary := p.primary.val, secondary := p.secondary.val })) s

/-! ## The member's lease -/

/-- FENCE_INSTANT (R42, R425). -/
def execFenceInstant (t : Fin 64) (s : State) : Host.Outcome State Fault Refusal :=
  .next (if fenceDue t.val s then fenceMember t.val s else s)

/-- The fence check, which comes first in a cycle (R42, R425). -/
def fenceCheck (t : Nat) (s : State) : State := if fenceDue t s then fenceMember t s else s

/-- RENEW or CLAIM, 5 µs after the last one (R425, R426). -/
def requestNow (t : Nat) (serviced : Bool) (s : State) : State :=
  let m := member s t
  let due := match m.lastSent with | none => true | some l => decide (l + usNs 5 ≤ s.now)
  if !m.enabled || !due then s
  else if m.holding then (if healthy t serviced s then sendRequest t leaseRenew serviced s else s)
  else if m.claiming then sendRequest t leaseClaim serviced s
  else s

/-- A GRANT for the member is presented in this cycle. -/
def grantComes (t : Nat) (s : State) : Bool :=
  s.pending.any (fun c => match c with | .leaseGrant u _ => decide (u.val = t) | _ => false)

/-- LEASE_REQUEST_SEND: after the fence check and a GRANT of the cycle (R425). -/
def execLeaseRequestSend (t : Fin 64) (serviced : Bool) (s : State) : Host.Outcome State Fault Refusal :=
  let s1 := fenceCheck t.val s
  if grantComes t.val s then .next (setMember s1 t.val { member s1 t.val with requestDue := some serviced })
  else .next (requestNow t.val serviced s1)

/-- An accepted GRANT moves the fence, and makes the member the holder (R425). -/
def acceptGrant (t : Nat) (g : LeaseMsg) (s : State) : State :=
  let m := member s t
  if decide (s.fab.address ≠ some g.target.val) || decide (g.epoch < m.epoch) then s
  else match m.sent.find? (fun e => decide (e.1 = g.seq) && decide (s.now ≤ e.2 + usNs 18)) with
    | none => s
    | some e =>
      let s1 := setMember s t { m with fenceAt := max m.fenceAt (e.2 + usNs 18), epoch := g.epoch }
      if m.holding then s1 else takeOver t s1

/-- The request that waited for the cycle's GRANTs (R425). -/
def requestAfter (t : Nat) (s : State) : State :=
  match (member s t).requestDue with
  | none => s
  | some served =>
    if grantComes t s then s else requestNow t served (setMember s t { member s t with requestDue := none })

/-- LEASE_GRANT: the fence check comes first, and a cycle in which it fences accepts no GRANT; then the checks of R424 (R42, R424,
R425). -/
def execLeaseGrant (t : Fin 64) (bytes : List Byte) (s : State) : Host.Outcome State Fault Refusal :=
  let g := readLease bytes
  match (member s t.val).cfg with
  | none => .next s
  | some c =>
    let s1 := fenceCheck t.val s
    let s2 :=
      if !soundMessage g || decide (g.group ≠ c.group) then badMessage t.val s1
      else if fenceDue t.val s || !(member s t.val).enabled || decide (g.kind ≠ leaseGrant) then s1
      else acceptGrant t.val g s1
    .next (requestAfter t.val s2)

/-! ## Handover of the holder -/

/-- At S − 4 µs the holder releases the lease if a REVERT naming S has come within 10 µs, and keeps it otherwise (R441). -/
def tryRelease (t b : Nat) (s : State) : State :=
  let m := member s t
  if m.reverts.any (fun r => decide (r.1 = b) && decide (s.now ≤ r.2 + usNs 10)) then
    let s1 := becomeStandby t (sendLease t (arbiterOf t s) leaseRelease (selfAddress s) b true s)
    completeRunning 0x0B03 t stOk 0 0 [] (postProt t 7 s1)
  else completeRunning 0x0B03 t stRefused 0x0B02 0 [] (setMember s t { m with dueRelease := none, releaseDue := false })

/-- The tree whose member serves a group. -/
def servedTree (g : Fin 4096) (s : State) : Option Nat :=
  (s.prot.members.find? (fun e => decide (e.2.cfg.map (fun c => c.group) = some g))).map (fun e => e.1)

/-- A lease message for the group is presented in this cycle. -/
def messageComes (g : Fin 4096) (s : State) : Bool :=
  s.pending.any (fun c => match c with | .arbiterLeaseMessage b => decide ((readLease b).group = g) | _ => false)

/-- HANDOVER_RELEASE at S − 4 µs; a REVERT of the same cycle counts as received (R41, R441). [log 104 DEDUCED] -/
def execHandoverRelease (t : Fin 64) (s : State) : Host.Outcome State Fault Refusal :=
  let m := member s t.val
  match m.dueRelease, m.cfg with
  | some b, some c =>
    if !m.holding || decide (4000 < untilFrame t.val b s) then .next s
    else if messageComes c.group s then .next (setMember s t.val { m with releaseDue := true })
    else .next (tryRelease t.val b s)
  | _, _ => .next s

/-! ## The arbiter's steps -/

/-- A REVERT at a member: the holder learns S, or the peer asked to take over becomes a taker (R440, R441). -/
def memberRevert (t : Nat) (g : LeaseMsg) (s : State) : State :=
  let m := member s t
  if g.sender.val ≠ peerOf t s ∨ m.enabled = false then s
  else if m.holding then
    setMember s t { m with
      reverts := (g.superframe, s.now) :: m.reverts.filter (fun r => decide (s.now ≤ r.2 + usNs 10)),
      dueRelease := some (m.dueRelease.getD g.superframe) }
  else if s.fab.address = some g.target.val then setMember s t { m with taking := some (g.superframe, true) }
  else s

/-- The handover that waited for the cycle's messages (R41, R441). -/
def releaseAfter (t : Nat) (g : Fin 4096) (s : State) : State :=
  let m := member s t
  match m.dueRelease with
  | some b => if m.releaseDue && !messageComes g s then tryRelease t b s else s
  | none => s

/-- A lease message at a member of its group: a sound REVERT counts (R424, R440, R441). -/
def memberMessage (t : Nat) (g : LeaseMsg) (s : State) : State :=
  releaseAfter t g.group
    (if !soundMessage g then badMessage t s else if g.kind = leaseRevert then memberRevert t g s else s)

/-- A lease message at the arbiter unit, which takes those of a cycle together, after the last of them (R424, R427). -/
def arbiterMessage (g : LeaseMsg) (s : State) : State :=
  let k := g.group.val
  let a := arbiter s k
  let s1 :=
    if !soundMessage g then { s with prot := { s.prot with badMessages := satur 32 (s.prot.badMessages + 1) } }
    else setArbiter s k { a with presented := a.presented ++
      [{ sender := g.sender.val, kind := g.kind, seq := g.seq, received := s.now }] }
  if messageComes g.group s then s1 else arbiterCycle k s1

/-- ARBITER_LEASE_MESSAGE: a RENEW, CLAIM, RELEASE or REVERT at the arbiter of its group; a REVERT also at a member; one whose
group neither serves is counted by the arbiter unit (R424, R427, R440, R441). [log 105 DEDUCED] -/
def execArbiterLeaseMessage (bytes : List Byte) (s : State) : Host.Outcome State Fault Refusal :=
  let g := readLease bytes
  let request := decide (g.kind = leaseRenew) || decide (g.kind = leaseClaim) || decide (g.kind = leaseRelease) ||
    decide (g.kind = leaseRevert)
  if (arbiter s g.group.val).serve then
    .next (if request || !soundMessage g then arbiterMessage g s else s)
  else match servedTree g.group s with
    | some t => .next (memberMessage t g s)
    | none => .next { s with prot := { s.prot with badMessages := satur 32 (s.prot.badMessages + 1) } }

/-- ARBITER_LEASE_EXPIRY: the messages of the cycle come before a queued claim is granted (R427). -/
def execArbiterLeaseExpiry (g : Fin 4096) (s : State) : Host.Outcome State Fault Refusal :=
  if !(arbiter s g.val).serve then .next s
  else if messageComes g s then .next (expireRecord g.val s)
  else .next (arbitrate g.val (expireRecord g.val s))

/-- QUEUED_CLAIM_EXPIRY (R422, R427). -/
def execQueuedClaimExpiry (g : Fin 4096) (sender : Fin 64) (s : State) : Host.Outcome State Fault Refusal :=
  let a := arbiter s g.val
  .next (setArbiter s g.val { a with queue := a.queue.filter (fun e =>
    decide (e.sender ≠ sender.val) || decide (s.now ≤ e.received + usNs 10)) })

/-! ## Heartbeats -/

/-- HEARTBEAT_SEND, every 5 µs (R431). -/
def execHeartbeatSend (t : Fin 64) (serviced : Bool) (s : State) : Host.Outcome State Fault Refusal :=
  let due := match (member s t.val).hbSent with | none => true | some l => decide (l + usNs 5 ≤ s.now)
  if !(member s t.val).enabled || !due then .next s
  else
    let s1 := refreshCurrent t.val s
    let s2 := judgeWtr t.val (setMember s1 t.val { member s1 t.val with
      hbSent := some s.now, hbHealthy := healthy t.val serviced s1 })
    let m := member s2 t.val
    let frame := if m.holding then m.lastImage else match newestUsable t.val s2 with | some i => i.superframe | none => 0
    .next (sendLease t.val (peerOf t.val s2) leaseHeartbeat (selfAddress s2) frame serviced s2)

/-- HEARTBEAT (R424, R431, R432). -/
def execHeartbeat (t : Fin 64) (bytes : List Byte) (s : State) : Host.Outcome State Fault Refusal :=
  let g := readLease bytes
  let m := member s t.val
  match m.cfg with
  | none => .next s
  | some c =>
    if !soundMessage g || decide (g.group ≠ c.group) then .next (badMessage t.val s)
    else if !m.enabled || decide (g.sender ≠ c.peer) || decide (g.kind ≠ leaseHeartbeat) then .next s
    else
      let s1 := setMember s t.val { m with hbLast := some s.now, peerLost := false, peerHealthy := g.healthy,
                                           peerCurrent := g.imageCurrent }
      let s2 := if g.healthy && m.claiming && !m.live && decide (m.state = 5) then becomeStandby t.val s1 else s1
      let s3 := if m.peerLost then postProt t.val 4 s2 else s2
      let s4 := judgeWtr t.val s3
      .next (if !g.healthy && (decide (m.state = 3) || decide (m.state = 7) || decide (m.state = 8)) then startClaim t.val s4
        else s4)

/-- HEARTBEAT_TIMEOUT: HB_TIMEOUT_US without an accepted HEARTBEAT (R41, R431). -/
def execHeartbeatTimeout (t : Fin 64) (s : State) : Host.Outcome State Fault Refusal :=
  let m := member s t.val
  match m.cfg with
  | none => .next s
  | some c =>
    if !m.enabled || m.peerLost || !lapsed (m.hbLast.getD m.enabledAt) (usNs c.hbTimeoutUs) s then .next s
    else
      let s1 := judgeWtr t.val (setMember s t.val { m with peerLost := true })
      let claims := decide (m.state = 3) || decide (m.state = 7) || decide (m.state = 8)
      .next (postProt t.val 3 (if claims then startClaim t.val s1 else s1))

/-- TRANSMIT_WITHOUT_LEASE: the driver forced off, the tree fenced until PROT_ENABLE (R430, R448, R536). -/
def execTransmitWithoutLease (t : Fin 64) (durationNs : Nat) (s : State) : Host.Outcome State Fault Refusal :=
  let m := member s t.val
  if !m.fence then .next s
  else
    let s1 := post 0x381 .safety (t.val + satur 26 durationNs * 2 ^ 6) s
    let s2 := setTreeFenced t.val true (moveCup t.val .fenced 3 (stopTree t.val s1))
    .next (postProt t.val 2 (setMember s2 t.val { member s2 t.val with
      enabled := false, holding := false, claiming := false, live := false, state := 6 }))

/-! ## Handover -/

/-- WTR_EXPIRY: the primary's conditions have held for WTR_S; it names S (R440). -/
def execWtrExpiry (t : Fin 64) (s : State) : Host.Outcome State Fault Refusal :=
  let m := member s t.val
  match m.cfg, m.wtrSince with
  | some c, some w =>
    if m.state ≠ 8 ∨ m.taking.isSome = true ∨ wtrHolds m = false ∨ s.now < w + c.wtrS * 1000000000 then .next s
    else
      let b := handoverFrame t.val s
      .next (sendReverts t.val b (setMember s t.val { m with taking := some (b, false) }))
  | _, _ => .next s

/-- REVERT_SEND, every 5 µs: from S − 12 µs until the lease is held or S + 20 µs has passed (R440, R441). -/
def execRevertSend (t : Fin 64) (s : State) : Host.Outcome State Fault Refusal :=
  let m := member s t.val
  match m.taking with
  | none => .next s
  | some (b, _) =>
    let d := untilFrame t.val b s
    let due := !m.reverting || (match m.revertSent with | some l => decide (l + usNs 5 ≤ s.now) | none => true)
    if m.holding || decide (12000 < d) || !due then .next s
    else if d < -20000 then
      .next (judgeWtr t.val (setMember s t.val { m with taking := none, reverting := false, wtrSince := none }))
    else .next (sendReverts t.val b (beginWake t.val (setMember s t.val { m with reverting := true })))

end Sys2Proof.Machine
end

