-- ==== Sys2Proof/Machine/Timeouts.lean ====
section
/-!
DEFINITION. What a command leaves behind that has started and does not come to its end: the state its resources had
before it (R73).
-/
namespace Sys2Proof.Machine

/-- A running ranging ends: the terminal is in the state it had (R73, R166). -/
def undoRanging (t i : Nat) (s : State) : State :=
  let m := terminal s t i
  match m.ranging with
  | some r => setTerminal s t i { m with state := r.before, ranging := none }
  | none => s

/-- Undo what the started command `op` has begun for instance `key`. [log 28 DEDUCED] -/
def undo (op key : Nat) (s : State) : State :=
  match op with
  | 0x0302 => undoRanging (key / 512) (key % 512) s
  | 0x0306 =>
    let v := tree s (key % 64)
    setTree s (key % 64) { v with probes := v.probes.filter (fun p => decide (p.key ≠ key)) }
  | 0x0605 => setFramer s key { framer s key with measuring := false }
  | 0x0401 => setAlloc s key { alloc s key with removing := false }
  | 0x0602 => setTributary s (key / 32) (key % 32) { tributary s (key / 32) (key % 32) with change := none }
  | 0x0102 => { s with pwr := { s.pwr with plTarget := none, pl := key } }
  | 0x0A02 => setTimeBase s key { timeBase s key with setWait := none }
  | 0x0B01 => quiesceTree key s
  | 0x0B03 => setMember s key { member s key with dueRelease := none }
  | 0x0B05 => if (member s key).state = 7 then setMember s key { member s key with state := 3 } else s
  | 0x0C04 => setLink s key (match (link s key).before with
    | some b => { link s key with state := b.1, retries := b.2, before := none, onGood := false, reqOpen := false }
    | none => link s key)
  | 0x0C02 => if key < 256 then disableLink key s else s
  | 0x0D02 => setChannel s (key / 2) { channel s (key / 2) with training := false }
  | 0x0D04 => setMmuPage s key { mmuPage s key with root := (mmuPage s key).before, busy := 0 }
  | _ => s

/-- Undo a held command: one that has not started has changed nothing; RING_DESTROY lets its ring be fetched from again. -/
def undoHeld (e : Held) (s : State) : State :=
  match e.phase with
  | .running key =>
    if e.opcode = 0x0011 then setRing s (fnKey e.id.fn) key { ring s (fnKey e.id.fn) key with closing := false }
    else undo e.opcode key s
  | _ => s

end Sys2Proof.Machine
end

