-- ==== Sys2Proof/Machine/Resets.lean ====
section
/-!
DEFINITION. The reset classes and what enters them (R46, R47, R81, R82, R97–R102, R564–R566).
-/
namespace Sys2Proof.Machine

/-! ## Class 0 -/

/-- The function that first owns an event queue: in x8+x8 operation queues 128–255 are the PF of link B's (R81). -/
def firstOwner (split : Bool) (q : Nat) : Nat := if split && decide (128 ≤ q) then 64 else 0

/-- The MSI-X tables of functions in reset, masked again (R45). -/
def clearMsix (p : Nat → Bool) (s : State) : State :=
  { s with mbx := { s.mbx with msix := s.mbx.msix.filter (fun e => !p (e.1 / 256)) } }

/-- FUNCTION_LEVEL_RESET (R82, R564). -/
def execFunctionLevelReset (fn : PciFn) (s : State) : Host.Outcome State Fault Refusal :=
  .next (clearMsix (fun f => decide (f = pciKey fn)) (restartFunction (pciKey fn) s))

/-- PCIE_SPLIT is sampled while both resets are asserted (R46). -/
def sampleSplit (split : Bool) (s : State) : State :=
  if s.mbx.resetA && s.mbx.resetB then { s with mbx := { s.mbx with splitMode := split } } else s

/-- Event queues return to the PF of their link (R81). -/
def reownQueues (p : Nat → Bool) (s : State) : State :=
  (List.range 256).foldl (fun st q =>
    if p (evq st q).owner || p (firstOwner st.mbx.splitMode q) then
      setEvq st q { evq st q with owner := firstOwner st.mbx.splitMode q } else st) s

/-- CONVENTIONAL_RESET: the functions of one link as in class 0 (R46, R47, R81). [log 35 DEDUCED] -/
def execConventionalReset (linkB : Bool) (split : Bool) (s : State) : Host.Outcome State Fault Refusal :=
  let p (f : Nat) : Bool := decide (f / 64 = if linkB then 1 else 0)
  let s1 := clearMsix p (restartWhere p s)
  let s2 := { s1 with mbx := { s1.mbx with resetA := s1.mbx.resetA || !linkB, resetB := s1.mbx.resetB || linkB } }
  .next (reownQueues p (sampleSplit split s2))

/-- PERST_DEASSERT: the link trains and enumerates (R568). -/
def execPerstDeassert (linkB : Bool) (s : State) : Host.Outcome State Fault Refusal :=
  .next { s with mbx := { s.mbx with resetA := s.mbx.resetA && linkB, resetB := s.mbx.resetB && !linkB } }

/-! ## Requests -/

/-- The device holds the lease of some protected tree (R101). -/
def holdsLease (s : State) : Bool := s.prot.members.any (fun e => e.2.holding)

/-- A reset of class 1–3 is accepted: a pending one takes the higher class and the earlier instant (R100, R102). -/
def acceptReset (cls delayUs : Nat) (s : State) : State :=
  let r : PendingReset := { cls := cls, instant := s.now + usNs delayUs, accepted := s.now }
  let m := match s.ses.pendingReset with
    | none => r
    | some p => { cls := max p.cls r.cls, instant := min p.instant r.instant, accepted := s.now }
  { s with ses := { s.ses with pendingReset := some m } }

/-- Source 0x004, to the administrative queue of every function that has ring 0 enabled (R100, R126). -/
def postResetPending (s : State) : State :=
  match s.ses.pendingReset with
  | none => s
  | some p =>
    let ms := (p.instant - s.now + 999999) / 1000000
    ((List.range 128).filter (fun f => (ring s f 0).enabled)).foldl
      (fun st f => postFn (adminQueue st f) 4 .warning (p.cls + ms % 2 ^ 20 * 4) st) s

/-! ## Class 1 -/

/-- Activities that outlive firmware: the Marl stream and lane loopbacks, which run in hardware. -/
def outlives (e : MaintEntry) : Bool := e.owner.isNone && (decide (e.activity.kind = 2) || decide (e.activity.kind = 5))

/-- The transmit enable of every protected tree falls at the start of a reset of class 1–3; its fence instant still comes
(R101, R430). -/
def dropEnables (s : State) : State :=
  (s.prot.members.filter (fun e => e.2.cfg.isSome)).foldl (fun st e => setTree st e.1 { tree st e.1 with txen := false }) s

/-- What the lease and fence logic, in the Keep, holds of a member: its group, the lease and the fence (R515, R565). -/
def keptMember (m : Member) : Member :=
  { cfg := m.cfg, state := if m.holding then m.state else if m.fence then 6 else 0, holding := m.holding, fence := m.fence, fenceAt := m.fenceAt,
    seq := m.seq, sent := m.sent, epoch := m.epoch, tookAt := m.tookAt, lastSent := m.lastSent }

/-- A FW_CONFIRM that starts in the cycle of a reset has its directory write completed first (R576). -/
def confirmFirst (s : State) : State :=
  let confirms := s.pending.any (fun c => match c with
    | .fwConfirm h => (takeIn 0x0F04 (some actUpdate) h s).2.isSome && ownsDevice h s
    | _ => false)
  if confirms && s.boot.running.isSome then setRunningState .good s else s

/-- What class 1 takes down: every session, ring and event queue, the commands held, firmware's own state (R98, R564). -/
def haltFirmware (s : State) : State :=
  let c := confirmFirst s
  let s0 := { c with boot := { c.boot with fwReady := false, update := none, resetAt := some c.now,
                                           port := { c.boot.port with cmdPending := false } } }
  let s1 := dropEnables (s0.mbx.held.foldl (fun st e => undoHeld e st) s0)
  let s2 := restartWhere (fun _ => true) (setHeld s1 [])
  { s2 with pwr := { s2.pwr with
      running := s2.pwr.running.filter outlives, waiting := [],
      cupolas := tmap {} (fun _ c => { c with fwVote := false, waking := none }) s2.pwr.cupolas } }

/-- Class 1: firmware restarts at the reload entry (R564, R577). [log 36 DEDUCED] -/
def resetFirmware (s : State) : State := reload (haltFirmware s)

/-- CORE_FAULT: a core has read poisoned memory (R494, R564). -/
def execCoreFault (_core : Fin 12) (s : State) : Host.Outcome State Fault Refusal :=
  if s.boot.running.isNone || s.boot.fwFault || s.pwr.keep.asleep then .next s else .next (resetFirmware s)

/-! ## Classes 2 and 3 -/

/-- Every block outside the Keep at its After reset value; the Keep holds the lease and fence logic, the arbiter unit and the
key store (R515); class 2 keeps board memory, with the lanes marked (R493), and the PCI Express controller's logic, the MSI-X
tables in it (R565). A thermal trip is left only with the temperature below 97 °C (R605). -/
def afterReset (cls : Nat) (s : State) : State :=
  let hot := s.pwr.warned && s.pwr.tripped
  { pending := s.pending, now := s.now, draws := s.draws, out := s.out,
    mbx := { splitMode := s.mbx.splitMode, resetA := s.mbx.resetA, resetB := s.mbx.resetB, msix := if cls = 2 then s.mbx.msix else [] },
    ev := { queues := if s.mbx.splitMode then (List.range 128).map (fun i => (128 + i, { owner := 64 })) else [] },
    pwr := {
      keep := { s.pwr.keep with asleep := false, entering := false, wakeOwed := false },
      mainLost := s.pwr.mainLost, refclkLost := s.pwr.refclkLost, clk32kLost := s.pwr.clk32kLost,
      warned := s.pwr.warned, tripped := hot,
      cupolas := if hot then ((List.range 112).filter (fun k => !alwaysUp k)).map (fun k => (k, { state := .fenced })) else [] },
    boot := { resetAt := some s.now, flash := s.boot.flash, refclk156 := s.boot.refclk156, bankA := s.boot.bankA, bankB := s.boot.bankB,
              fuses := s.boot.fuses, owed := s.boot.owed, pairingKeys := s.boot.pairingKeys, port := { s.boot.port with cmdPending := false, result := none } },
    cph := { slots := s.cph.slots, zeroised := s.cph.zeroised },
    prot := { members := tmap {} (fun _ m => keptMember m) s.prot.members, arbiters := s.prot.arbiters,
              badMessages := s.prot.badMessages, blobIvs := s.prot.blobIvs },
    fab := { strap := s.fab.strap }, tap := s.tap,
    mem := { cells := if cls = 2 then s.mem.cells else [],
             channels := if cls = 2 then tmap {} (fun _ v => { marked := v.marked }) s.mem.channels else [] } }

/-- Class 2: the ROM re-verifies the image last run (R564, R565). [log 37 DEDUCED] -/
def resetDevice (s0 : State) : State :=
  let s := confirmFirst s0
  romBoot s.boot.source (if s.boot.source.isNone then s.boot.running else none) (afterReset 2 s)

/-- Class 3: from flash or host (R564, R565). -/
def resetCold (s : State) : State := romBoot none none (afterReset 3 (confirmFirst s))

/-- A reset of a class begins. -/
def performReset (cls : Nat) (s : State) : State :=
  match cls with
  | 1 => resetFirmware s
  | 2 => resetDevice s
  | _ => resetCold s

/-! ## The watchdog -/

/-- A reset of class 2 or 3 that falls in the cycle of the watchdog's: accepted in it, or due (R102, R566). -/
def mergedClass (s : State) : Nat :=
  match s.ses.pendingReset with
  | some p => if p.accepted = s.now ∨ p.instant ≤ s.now then max 1 p.cls else 1
  | none => 1

/-- The watchdog's class 1 reset: the third within 60 s stops firmware (R564, R566, R586). -/
def watchdogClassOne (s : State) : State :=
  let l := s.now :: s.boot.watchdogAt.filter (fun t => decide (s.now < t + 60000000000))
  let s1 := haltFirmware { s with boot := { s.boot with watchdogAt := l } }
  if 3 ≤ l.length then stopFirmware s1
  else
    let s2 := reload s1
    match s2.boot.running with
    | some i => owe 0x520 (firmwarePayload 4 s2.boot.source i) s2
    | none => s2

/-- A pending reset that is merged with the watchdog's is gone with it (R102, R566). -/
def clearMerged (s : State) : State :=
  match s.ses.pendingReset with
  | some p => if p.accepted = s.now ∨ p.instant ≤ s.now then { s with ses := { s.ses with pendingReset := none } } else s
  | none => s

/-- The watchdog's reset, merged with an accepted DEVICE_RESET of the same cycle into the higher class (R566). -/
def watchdogReset (s : State) : State :=
  if mergedClass s = 1 then watchdogClassOne (clearMerged s) else performReset (mergedClass s) (clearMerged s)

/-- A row still to come in this cycle may accept a reset, which is then merged (R566). -/
def resetAwaits (s : State) : Bool :=
  s.pending.any (fun c => match c with
    | .deviceReset .. => true | .fwActivate .. => true | .keepPortReset .. => true | _ => false)

/-- FIRMWARE_WATCHDOG; in the cycle of another reset it is merged with it (R564, R566). -/
def execFirmwareWatchdog (s : State) : Host.Outcome State Fault Refusal :=
  if s.boot.running.isNone || s.boot.fwFault || s.pwr.keep.asleep || decide (s.boot.resetAt = some s.now) then .next s
  else if resetAwaits s then .next { s with boot := { s.boot with watchdogDue := true } }
  else .next (watchdogReset s)

/-- A watchdog reset that waited for the end of the cycle. -/
def finishWatchdog (s : State) : State :=
  if !s.boot.watchdogDue then s
  else
    let s1 := { s with boot := { s.boot with watchdogDue := false } }
    if s1.boot.running.isNone || s1.boot.fwFault || decide (s1.boot.resetAt = some s1.now) then s1 else watchdogReset s1

/-- RESET_DELAY_EXPIRY (R100, R102). -/
def execResetDelayExpiry (s : State) : Host.Outcome State Fault Refusal :=
  match s.ses.pendingReset with
  | none => .next s
  | some p =>
    if s.now < p.instant then .next s
    else .next (performReset p.cls { s with ses := { s.ses with pendingReset := none } })

end Sys2Proof.Machine
end

