-- ==== Sys2Proof/Machine/Packets.lean ====
section
/-!
DEFINITION. Ingress: classification, lookup, flooding, learning, cut-through, enqueue (R18–R20, R318–R348), and what the
upstream of a tree delivers to it (R173, R198–R201, R282, R337).
-/
namespace Sys2Proof.Machine

/-! ## Upstream frames of a tree -/

def upQueue (ctx : Nat) : Nat := 65536 + ctx

/-- A frame that its pipeline's burst receive has in a buffer is dropped: the buffer returns. -/
def dropBuffer (port ptr : Nat) (s : State) : State :=
  match (portEnt s port).pipeline with
  | some p => freeBuffer p ptr 0 s
  | none => s

/-- Source 0x1C0 + t: at once for the first spoofed frame in an allocation's grants, then at most once per second per
terminal (R200, R205). -/
def spoofed (t : Nat) (x : XgemFrame) (owner : Nat) (s : State) : State :=
  let a := alloc s x.ctx.val
  let key := 0x180000 + t * 512 + x.grantTerminal.val
  let s1 := addUnreported key 1 (setAlloc s x.ctx.val { a with spoof := satur 32 (a.spoof + 1), spoofSeen := true })
  if !a.spoofSeen || due key 1000000000 s1 then
    post (0x1C0 + t) .security (x.grantTerminal.val + x.portId * 2 ^ 9 + owner * 2 ^ 25 +
      satur 8 (unreported key s1) * 2 ^ 34) (markPost key s1)
  else s1

/-- The allocation is no longer one of the terminal (R172, R199). -/
def allocGone (t i ctx : Nat) (s : State) : Bool :=
  let a := checkedAlloc ctx s
  !a.present || decide (a.tree ≠ t) || decide (a.terminal ≠ i)

/-- The removed allocation whose grant the frame's burst was in: the frame's own, or at the burst's first frame any of the window's
(R199). -/
def goneOf (t : Nat) (x : XgemFrame) (s : State) : Option Nat :=
  let i := x.grantTerminal.val
  (x.ctx.val :: (if x.first then (terminal s t i).windowCtxs else [])).find? (fun c => allocGone t i c s)

/-- A burst in a grant to a removed allocation is discarded whole, and counted once (R199). [log 181 DEDUCED] -/
def staleBurst (t : Nat) (i ctx : Nat) (s : State) : State :=
  let dflt := t * 512 + i
  let s1 := if (terminal s t i).admitted then
      setAlloc s dflt { alloc s dflt with stale := satur 32 ((alloc s dflt).stale + 1) } else s
  grantWarning t 1 ctx (setTree s1 t { tree s1 t with staleBurst := true })

/-- A frame with no port context, or one that is not accepted upstream (R198). -/
def unknownPort (t ctx : Nat) (s : State) : State :=
  let a := alloc s ctx
  grantWarning t 0 ctx (setAlloc s ctx { a with unknownPort := satur 32 (a.unknownPort + 1) })

/-- The frame is counted in ABORTED of its terminal (R285, R287, R304). -/
def abortFrame (t i : Nat) (s : State) : State :=
  let m := terminal s t i
  setTerminal s t i { m with aborted := satur 32 (m.aborted + 1) }

/-- The upstream decryption of a frame: its key index names the half, 0 a frame in clear; none where the frame is dropped
(R282, R286, R287, R304). -/
def decryptUp (t : Nat) (x : XgemFrame) (s : State) : State × Bool :=
  let i := x.grantTerminal.val
  if x.keyIndex = 0 then (s, true)
  else if !pairServes 0 t s then (abortFrame t i s, false)
  else match receiveHalf kindTree (treeSlot t i 1) x.keyIndex (settleCommits kindTree (treeSlot t i 1) s) with
    | (s1, none) => (abortFrame t i s1, false)
    | (s1, some b) =>
      let s2 := useHalf kindTree (treeSlot t i 1) b 1 s1
      if x.compareOk then (s2, true) else (abortFrame t i (compareMismatch 0 t s2), false)

/-- Place an upstream packet in its allocation's queue of at most 1 MiB (R173, R337). -/
def enqueueUp (t : Nat) (x : XgemFrame) (portCtxIndex : Nat) (s : State) : State :=
  let q := upQueue x.ctx.val
  let v := queue s q
  let tag := domainTag (terminal s t x.grantTerminal.val).domain
  let d := some (tagDomain tag)
  if 1048576 < bytesOf v.onDie + x.length then
    dropBuffer t x.bufPtr (count 0x023 q 1 d (setQueue s q { v with tailDropped := satur 32 (v.tailDropped + 1) }))
  else
    let pk : Packet := { length := x.length, tag := tag, dst := x.dst, src := x.src, vlan := x.vlan,
                         portCtx := portCtxIndex, buffer := x.bufPtr, flooded := false, cut := false, stomped := false }
    count 0x021 q x.length d (count 0x020 q 1 d (setQueue s q { v with onDie := v.onDie ++ [pk] }))

/-- UPSTREAM_XGEM_FRAME (R138, R173, R198–R200). -/
def execUpstreamXgemFrame (t : Fin 64) (x : XgemFrame) (s : State) : Host.Outcome State Fault Refusal :=
  if !(tree s t.val).enabled || !protTransmits t.val s then .next s
  else
    let was := (tree s t.val).staleBurst && !x.first
    let s2 := setTree s t.val { tree s t.val with upstreamBusy := true, staleBurst := was }
    if was then .next (dropBuffer t.val x.bufPtr s2)
    else match goneOf t.val x s2 with
    | some c => .next (dropBuffer t.val x.bufPtr (staleBurst t.val x.grantTerminal.val c s2))
    | none =>
      match (checkedPorts s2).find? (fun e => e.2.present && decide (e.2.tree = t.val) && decide (e.2.portId = x.portId)) with
      | none => .next (dropBuffer t.val x.bufPtr (unknownPort t.val x.ctx.val s2))
      | some (k, c) =>
        if c.terminal ≠ x.grantTerminal.val then .next (dropBuffer t.val x.bufPtr (spoofed t.val x c.terminal s2))
        else if !c.up then .next (dropBuffer t.val x.bufPtr (unknownPort t.val x.ctx.val s2))
        else match decryptUp t.val x s2 with
          | (s3, false) => .next (dropBuffer t.val x.bufPtr s3)
          | (s3, true) => .next (enqueueUp t.val x k s3)

/-! ## Classification -/

/-- A packet as its pipeline takes it: where it came from, its tag, what learning would learn. -/
structure Ingress where
  port : Nat
  pipeline : Nat
  packet : Packet
  learnQueue : Option Nat
  fromFlood : Bool
  ok : Bool
  stagingFull : Bool
  overflow : Bool

/-- The receive sealer releases the words of a sealed layout: in IM, and, of a sealed multiframe, with the announced key (R267,
R291). -/
def sealerReleases (l : Nat) (s : State) : Bool :=
  !framerSealed l s || ((framer s l).im && (!(sealOf s l).rxSealing || (sealOf s l).rxKeyOk))

/-- A line tributary delivers packets: locked, no ODU-AIS, its layout settled, its blocks released (R264, R267, R269). -/
def tributaryDelivers (l t : Nat) (s : State) : Bool :=
  lineLocked l s && (line400zr l s ||
    (decide ((tributary s l t).slots ≠ 0) && !(tributary s l t).newLayout && !(tributary s l t).statAis && !aisIn l t s &&
      sealerReleases l s))

def mkPacket (pk : PacketIn) (tag : BitVec 14) : Packet :=
  { length := pk.length, tag := tag, dst := pk.dst, src := pk.src, vlan := pk.vlan, portCtx := 0, buffer := pk.bufPtr,
    flooded := false, cut := false, stomped := false }

/-- The queue bound to a source device and a domain (R476). -/
def boundQueue (src d : Nat) (s : State) : Option Nat :=
  (s.fab.binds.find? (fun b => decide (b.dest = src) && decide (b.domain = d))).map (fun b => b.queue)

/-- The allocation whose upstream queue pipeline `p` serves next: round robin over the non-empty upstream queues of its trees
(R337). [log 76 DEDUCED] -/
def nextUpstream (p : Nat) (s : State) : Option Nat :=
  let last := tget 0 (2 ^ 40 + p) s.pe.served
  let mine := (s.pe.queues.filter (fun e => decide (65536 ≤ e.1) && !e.2.onDie.isEmpty &&
    decide ((portEnt s (alloc s (e.1 - 65536)).tree).pipeline = some p))).map (fun e => e.1)
  ((mine.filter (fun q => decide (last ≤ q))).head?).or mine.head?

def setServed (k v : Nat) (s : State) : State := { s with pe := { s.pe with served := tset 0 k v s.pe.served } }

/-- Take the next upstream packet of the pipeline. -/
def takeUpstream (p : Nat) (pk : PacketIn) (s : State) : State × Option Ingress :=
  match nextUpstream p s with
  | none => (s, none)
  | some q =>
    match (queue s q).onDie with
    | [] => (s, none)
    | x :: rest =>
      let v := queue s q
      let c := portCtx s x.portCtx
      let s1 := setServed (2 ^ 40 + p) (q + 1)
        (count 0x022 q x.length (some (tagDomain x.tag)) (setQueue s q { v with onDie := rest, txBytes := v.txBytes + x.length }))
      (s1, some { port := (alloc s (q - 65536)).tree, pipeline := p, packet := x,
                  learnQueue := if c.present && c.down then some c.downQueue else none,
                  fromFlood := false, ok := true, stagingFull := pk.stagingFull, overflow := false })

/-- A packet of a default port goes to firmware's management handling, not to lookup (R171). -/
def manage (p : Nat) (x : Ingress) (s : State) : State :=
  let c := portCtx s x.packet.portCtx
  freeBuffer p x.packet.buffer 0 (emit (.management x.port c.terminal c.portId x.packet.length)
    (count 0x011 x.port x.packet.length (some (tagDomain x.packet.tag)) (count 0x010 x.port 1 (some (tagDomain x.packet.tag)) s)))

/-- Classify a packet of a line tributary or a client port by its service entry (R318). -/
def classifyEntry (p : Nat) (pk : PacketIn) (s : State) : State × Option Ingress :=
  let trib := if pk.port < 0x44 then pk.tributary else 0
  let key := classKey pk.port trib pk.vlan
  match findService key (lookupView s) with
  | none => (setPipe s p { pipe s p with noDomain := satur 64 ((pipe s p).noDomain + 1) }, none)
  | some (_, e) =>
    (s, some { port := pk.port, pipeline := p, packet := mkPacket pk (domainTag (e.data % 4096)),
               learnQueue := if Nat.testBit e.data 17 then none else some (dataQueue e.data),
               fromFlood := false, ok := pk.ingressOk, stagingFull := pk.stagingFull, overflow := consultsOverflow key (lookupView s) })

/-- A packet of a fabric link carries its domain tag (R318, R323, R476). -/
def classifyFabric (p : Nat) (pk : PacketIn) (s : State) : State × Option Ingress :=
  let d := tagDomain pk.tag
  let b := boundQueue pk.srcAddr.val d s
  let s1 := if b.isNone then { s with fab := { s.fab with noDestQueue := satur 64 (s.fab.noDestQueue + 1) } } else s
  (s1, some { port := pk.port, pipeline := p, packet := mkPacket pk pk.tag, learnQueue := b, fromFlood := pk.flooded,
              ok := pk.ingressOk, stagingFull := pk.stagingFull, overflow := false })

/-! ## Destination -/

/-- Where a packet goes (R319, R320). -/
inductive Dest where
  | drop
  | queue (q : Nat) (tag : BitVec 14)
  | flood

def isMulticast (m : BitVec 48) : Bool := m.getLsbD 0
def isBroadcast (m : BitVec 48) : Bool := decide (m = BitVec.allOnes 48)

/-- A lookup hit sets HIT of the entry that is still there (R322, R327). -/
def markHit (p i : Nat) (e : LearnEntry) (s : State) : State :=
  let s1 := { s with pe := { s.pe with hitsAt := s.now + 1, hitsNow := (p * 262144 + i) :: hitsOf s } }
  match learnEntry s p i with
  | some x => if x.key = e.key then setLearn s1 p i (some { x with hit := true }) else s1
  | none => s1

/-- Resolve the destination within the domain: bridge, static forwarding, learn table; broadcast is always flooded, multicast
where no static entry matches it (R204, R319, R320). [log 77 DEDUCED] -/
def resolve (x : Ingress) (s : State) : Dest × State :=
  let p := x.pipeline
  let d := tagDomain x.packet.tag
  let m := x.packet.dst
  let s := count 0x030 p 1 (some d) s
  if isBroadcast m then (.flood, s)
  else match findService (bridgeKey d m) (lookupView s) with
    | some (_, e) => (.queue (dataQueue e.data) (domainTag (e.data % 4096)), s)
    | none => match findService (staticKey d m) (lookupView s) with
      | some (_, e) => (if Nat.testBit e.data 18 then .drop else .queue (dataQueue e.data) x.packet.tag, s)
      | none =>
        if isMulticast m then (.flood, s)
        else match findLearn p (learnKey m d) (lookupView s) with
          | some (i, e) => (.queue e.queue x.packet.tag, count 0x031 p 1 (some d) (markHit p i e s))
          | none => (.flood, s)

/-- Some lookup of the packet consults an overflow entry (R347). -/
def lookupsOverflow (x : Ingress) (s0 : State) : Bool :=
  let s := lookupView s0
  let d := tagDomain x.packet.tag
  x.overflow || consultsOverflow (bridgeKey d x.packet.dst) s || consultsOverflow (staticKey d x.packet.dst) s

/-- The queues that a flood is replicated into (R320, R476). -/
def floodQueues (x : Ingress) (s : State) : List Nat :=
  let d := tagDomain x.packet.tag
  let c := domainCfg s d
  let allowed := if isBroadcast x.packet.dst || isMulticast x.packet.dst then c.floodMulticast else c.floodUnknown
  let hash := flowHash d x.packet.dst x.packet.src x.packet.vlan
  if !allowed then []
  else c.flood.filter (fun q => decide (queuePort q hash s ≠ some x.port) && !(x.fromFlood && fabricTarget q s))

/-! ## Learning -/

/-- The buffer's header names the pipeline as its owner (R25, R362). -/
def ownerTagOk (x : Ingress) (s : State) : Bool := decide ((header s x.packet.buffer).owner = x.pipeline)

/-- Learn requests, table operations or packets that commit in this cycle are still to come: a learn request waits for its end
(R324, R335). -/
def learnAwaits (s : State) : Bool :=
  !s.pe.learnsDue.isEmpty || s.pending.any (fun c => match c with
    | .packetIngress _ => true | .tblInsert _ _ => true | .tblDelete _ _ => true | .tableWrite _ _ => true | .tableDelete _ _ => true
    | .tableFlush _ _ _ => true | _ => false)

/-- A learn request commits, at the end of its cycle where others may come before it (R324, R335). -/
def requestLearn (r : LearnReq) (s : State) : State :=
  if learnAwaits s then { s with pe := { s.pe with learnsDue := s.pe.learnsDue ++ [r] } }
  else learnRequest r.pipeline r.src r.domain r.queue s

/-- A learn request, or none (R323); one that fails the owner-tag check is discarded and counted (R25). -/
def learn (x : Ingress) (s : State) : State :=
  match x.learnQueue with
  | none => s
  | some q =>
    let d := tagDomain x.packet.tag
    if !(domainCfg s d).learn || !x.ok then s
    else if ownerTagOk x s then
      requestLearn { port := x.port, pipeline := x.pipeline, src := x.packet.src, domain := d, queue := q } s
    else setPipe s x.pipeline { pipe s x.pipeline with ownerTagFailed := satur 32 ((pipe s x.pipeline).ownerTagFailed + 1) }

/-! ## Delivery -/

/-- A received packet is dropped: counted at its port, its buffer returned. -/
def dropIngress (x : Ingress) (s : State) : State :=
  freeBuffer x.pipeline x.packet.buffer 0 (count 0x014 x.port 1 (some (tagDomain x.packet.tag)) s)

/-- Enqueue one replica; the reference of one not held on die is given up. -/
def deliverCopy (x : Ingress) (pk : Packet) (acc : State × Bool) (q : Nat) : State × Bool :=
  match enqueue x.pipeline q pk x.stagingFull acc.1 with
  | (s1, .onDie) => (s1, true)
  | (s1, _) => (freeBuffer x.pipeline pk.buffer 0 s1, acc.2)

/-- Deliver to each queue, the buffer shared among them and given to the queue manager where one holds it (R362). -/
def deliverAll (x : Ingress) (pk : Packet) (qs : List Nat) (s : State) : State :=
  let s1 := if 1 < qs.length then shareBuffer x.pipeline pk.buffer (qs.length - 1) 0 s else s
  let r := qs.foldl (fun acc q => deliverCopy x pk acc q) (s1, false)
  if r.2 then giveBuffer x.pipeline pk.buffer 0x10 0 r.1 else r.1

/-- A packet with one destination: cut through, or stored and forwarded; one that failed at ingress is dropped unless it was
already being cut through (R347, R348). -/
def deliverOne (x : Ingress) (q : Nat) (tag : BitVec 14) (trib : Nat) (s : State) : State :=
  let hash := flowHash (tagDomain tag) x.packet.dst x.packet.src x.packet.vlan
  let cut := cutsThrough (portRate10 x.port trib s) q hash x.packet.length (!lookupsOverflow x s) s
  if !x.ok && !cut then dropIngress x s
  else deliverAll x { x.packet with tag := tag, cut := cut, stomped := !x.ok } [q] s

/-- Take a classified packet through lookup, learning and enqueue. -/
def forward (x : Ingress) (trib : Nat) (s : State) : State :=
  let d := tagDomain x.packet.tag
  let s0 := count 0x011 x.port x.packet.length (some d) (count 0x010 x.port 1 (some d) s)
  match resolve x s0 with
  | (.drop, s1) => dropIngress x (learn x s1)
  | (.queue q tag, s1) => deliverOne x q tag trib (learn x s1)
  | (.flood, s1) =>
    let qs := floodQueues x s1
    if qs.isEmpty || !x.ok then dropIngress x (learn x s1)
    else deliverAll x { x.packet with flooded := true } qs (count 0x032 x.pipeline 1 (some d) (learn x s1))

/-- A client port with MACsec: only a frame that MACSEC_RX_FRAME has verified reaches a pipeline (R299). [log 187 DEDUCED] -/
def needsVerified (port : Nat) (s : State) : Bool :=
  decide (0x80 ≤ port) && decide (port < 0xC0) && (macsec s (port - 0x80)).enable

def takeVerified (port : Nat) (s : State) : State :=
  if needsVerified port s then
    setMacsec s (port - 0x80) { macsec s (port - 0x80) with verified := (macsec s (port - 0x80)).verified - 1 }
  else s

/-- PACKET_INGRESS (R18, R19, R299, R318–R348, R352). -/
def ingress (pk : PacketIn) (s : State) : State :=
  if !portServes pk.port s then s
  else match (portEnt s pk.port).pipeline with
    | none => s
    | some p =>
      let silent := decide (0x40 ≤ pk.port ∧ pk.port < 0x44) && !tributaryDelivers (pk.port - 0x40) pk.tributary s
      let s := pk.parity.foldl (fun st e => parityError p e.1 e.2 st)
        (if silent then s else meterPacket pk.port false pk.length s)
      if pk.port < 0x40 then
        match takeUpstream p pk s with
        | (s1, some x) => if x.packet.portCtx < 32768 then manage p x s1 else forward x 0 s1
        | (s1, none) => s1
      else if 16352 < pk.length then
        setPortEnt (count 0x014 pk.port 1 untagged s) pk.port
          { portEnt s pk.port with oversize := (portEnt s pk.port).oversize + 1 }
      else if silent then s
      else if needsVerified pk.port s && decide ((macsec s (pk.port - 0x80)).verified = 0) then freeBuffer p pk.bufPtr 0 s
      else
        let s := takeVerified pk.port s
        match (if isFabricPort pk.port then classifyFabric p pk s else classifyEntry p pk s) with
        | (s1, some x) => forward x pk.tributary s1
        | (s1, none) => freeBuffer p pk.bufPtr 0 (count 0x014 pk.port 1 untagged s1)

/-- What comes before an arrival of the same cycle is still to come: a queue's new parameters (R339), a read-back (R343). -/
def arrivalAwaits (s : State) : Bool :=
  !s.pe.ingressDue.isEmpty || s.pending.any (fun c => match c with
    | .queueConfigure _ _ => true | .spillReadback _ => true | _ => false)

/-- PACKET_INGRESS (R318, R339, R343). [log 87 DEDUCED] -/
def execPacketIngress (pk : PacketIn) (s : State) : Host.Outcome State Fault Refusal :=
  if arrivalAwaits s then .next { s with pe := { s.pe with ingressDue := s.pe.ingressDue ++ [pk] } }
  else .next (ingress pk (portBoundary pk.port s))

/-- The packets that waited for the end of the cycle. -/
def runIngress (s : State) : State :=
  s.pe.ingressDue.foldl (fun st pk => ingress pk (portBoundary pk.port st)) { s with pe := { s.pe with ingressDue := [] } }

end Sys2Proof.Machine
end

