-- ==== Sys2Proof/Machine/Scheduling.lean ====
section
/-!
DEFINITION. Egress: strict priority, deficit weighted round robin, shapers, the domain check, encryption, transit frames,
and spill read-back (R18, R19, R202, R282, R338–R348, R475).
-/
namespace Sys2Proof.Machine

/-! ## Deficit weighted round robin -/

/-- What competes at one level of a scheduler: its number, its quantum, its deficit and the length it needs. -/
structure Entity where
  id : Nat
  quantum : Nat
  deficit : Nat
  need : Nat

/-- Visit the entities in turn, each gaining its quantum, until one can send; with the deficits they are left with. -/
def visit : Nat → List Entity → Option (Nat × List Entity)
  | 0, _ => none
  | _ + 1, [] => none
  | n + 1, e :: rest =>
    let e1 := { e with deficit := e.deficit + e.quantum }
    if e1.need ≤ e1.deficit then some (e1.id, { e1 with deficit := e1.deficit - e1.need } :: rest)
    else visit n (rest ++ [e1])

/-- The entity served last goes on while its deficit lasts; else the turn passes to the next in ascending number (R340).
`last` is one more than its number. -/
def pickEntity (last : Nat) (es : List Entity) : Option (Nat × List Entity) :=
  match es.find? (fun e => decide (e.id + 1 = last) && decide (e.need ≤ e.deficit)) with
  | some e => some (e.id, es.map (fun x => if x.id = e.id then { x with deficit := x.deficit - x.need } else x))
  | none => visit (65 * es.length) ((es.filter (fun e => decide (last ≤ e.id))) ++ (es.filter (fun e => decide (e.id < last))))

/-! ## A port's scheduler -/

def headLength (q : Nat) (s : State) : Nat := match (queue s q).onDie with | p :: _ => p.length | [] => 0

def headHash (q : Nat) (s : State) : Nat :=
  match (queue s q).onDie with
  | p :: _ => flowHash (tagDomain p.tag) p.dst p.src p.vlan
  | [] => 0

/-- What the queue sends has a way out of the port: on a native line a tributary whose layout has taken effect, data flowing
from the multiframe after that (R264). -/
def wayOut (port q : Nat) (s : State) : Bool :=
  if 0x40 ≤ port ∧ port < 0x44 ∧ line400zr (port - 0x40) s = false then
    let b := tributary s (port - 0x40) (queueTributary q s)
    decide (b.slots ≠ 0) && !b.newLayout
  else true

/-- The eligible queues of a port, ascending. -/
def portQueues (port : Nat) (s : State) : List Nat :=
  (s.pe.queues.filter (fun e => decide (e.1 < 65536) && eligible e.1 s &&
    decide (headPort e.1 (headHash e.1 s) s = some port) && wayOut port e.1 s)).map (fun e => e.1)

def queueGroup (q : Nat) (s : State) : Option Nat := (headParams q s).bind (fun c => c.group.map (fun g => g.val))
def queueWeight (q : Nat) (s : State) : Nat := match headParams q s with | some c => c.weight | none => 1
def groupWeight (g : Nat) (s : State) : Nat := match (group s g).cfg with | some c => c.weight | none => 1

def queueEntity (s : State) (q : Nat) : Entity :=
  { id := q, quantum := queueWeight q s * 256, deficit := (queue s q).deficit, need := headLength q s }

/-- The queue that a group would serve, with its queues' deficits afterwards. -/
def pickInGroup (g : Nat) (qs : List Nat) (s : State) : Option (Nat × List Entity) :=
  pickEntity (tget 0 (2 ^ 32 + g) s.pe.served) ((qs.filter (fun q => decide (queueGroup q s = some g))).map (queueEntity s))

/-- The entity of a queue's group, or of the queue itself as a group of its own: groups 0–8,191, queues from 8,192 on. -/
def outerEntity (s : State) (qs : List Nat) (q : Nat) : Entity :=
  match queueGroup q s with
  | none => { queueEntity s q with id := 8192 + q }
  | some g => { id := g, quantum := groupWeight g s * 256, deficit := (group s g).deficit,
                need := match pickInGroup g qs s with | some r => headLength r.1 s | none => 0 }

/-- Entities without repeats. -/
def distinct (es : List Entity) : List Entity :=
  es.foldl (fun acc e => if acc.any (fun x => decide (x.id = e.id)) then acc else acc ++ [e]) []

def storeQueueDeficits (es : List Entity) (s : State) : State :=
  es.foldl (fun st e => setQueue st e.id { queue st e.id with deficit := e.deficit }) s

def storeOuterDeficits (es : List Entity) (s : State) : State :=
  es.foldl (fun st e => if 8192 ≤ e.id then setQueue st (e.id - 8192) { queue st (e.id - 8192) with deficit := e.deficit }
    else setGroup st e.id { group st e.id with deficit := e.deficit }) s

/-- The queue a port's scheduler serves next, and the state with the round robin advanced (R340). -/
def schedule (port : Nat) (s : State) : Option (Nat × State) :=
  let all := portQueues port s
  let top := (all.map (fun q => queuePriority q s)).foldl max 0
  let qs := all.filter (fun q => decide (queuePriority q s = top))
  match pickEntity (tget 0 (port * 8 + top) s.pe.served) (distinct (qs.map (outerEntity s qs))) with
  | none => none
  | some (id, es) =>
    let s1 := setServed (port * 8 + top) (id + 1) (storeOuterDeficits es s)
    if 8192 ≤ id then some (id - 8192, s1)
    else match pickInGroup id qs s with
      | none => none
      | some (q, inner) => some (q, setServed (2 ^ 32 + id) (q + 1) (storeQueueDeficits inner s1))

/-! ## Transmission -/

/-- Take the packet at a queue's head; an empty queue keeps no deficit. -/
def takePacket (q : Nat) (s : State) : Option (Packet × State) :=
  let v := queue s q
  match v.onDie with
  | [] => none
  | p :: rest => some (p, setQueue s q { v with onDie := rest, deficit := if rest.isEmpty then 0 else v.deficit })

/-- Deduct a packet from its queue's and its group's shapers (R341), and count its bytes as dequeued. -/
def chargePacket (q : Nat) (pk : Packet) (s : State) : State :=
  match pk.params.or (queue s q).cfg with
  | none => s
  | some c =>
    let v := queue s q
    let s1 := setQueue s q { v with shaper := shaperTake c.peakKbps c.burstBytes pk.length v.shaper s.now,
                                    txBytes := v.txBytes + pk.length }
    let s2 := match c.group with
      | none => s1
      | some g => match (group s1 g.val).cfg with
        | some gc => setGroup s1 g.val { group s1 g.val with
            shaper := shaperTake gc.peakKbps gc.burstBytes pk.length (group s1 g.val).shaper s.now }
        | none => s1
    count 0x022 q pk.length (some (tagDomain pk.tag)) s2

/-- What becomes of a frame at its cipher engine: released, dropped for want of a key that serves, or ended by a comparison that
failed (R285, R287, R304). -/
inductive Ciphered where
  | released | dropped | ended

/-- Encrypt a frame with the ACTIVE half of a transmit slot (R282, R286, R287, R304). -/
def encrypt (kind slotNo edge inst : Nat) (compareOk : Bool) (s : State) : State × Ciphered :=
  if !pairServes edge inst s then (s, .dropped)
  else
    match activeHalf (slot s kind slotNo) with
    | none => (s, .dropped)
    | some b =>
      let s1 := useHalf kind slotNo b 1 s
      if compareOk then (s1, .released) else (compareMismatch edge inst s1, .ended)

/-- A frame of the slot's terminal or port begins: a LOADED standby half becomes ACTIVE (R282, R284). -/
def flipAtFrame (kind slotNo : Nat) (s : State) : State := flip kind slotNo (settleCommits kind slotNo s)

/-- What the cipher of the egress port does with a packet: a tree's ENCRYPT port context (R281, R282), a client port with MACsec
(R298), nothing elsewhere. -/
def sealPacket (port q : Nat) (compareOk : Bool) (s : State) : State × Ciphered :=
  if port < 0x40 then
    match downCtx q s with
    | none => (s, .dropped)
    | some (_, c) =>
      let n := treeSlot port c.terminal 0
      let s1 := flipAtFrame kindTree n s
      if !c.encrypt then (s1, .released)
      else match encrypt kindTree n 0 port compareOk s1 with
        | (s2, .released) => (s2, .released)
        | (s2, _) => (abortFrame port c.terminal s2, .dropped)
  else if 0x80 ≤ port ∧ port < 0xC0 ∧ (macsec s (port - 0x80)).enable = true then
    let x := port - 0x80
    match encrypt kindMacsec (2 * x) 2 x compareOk (flipAtFrame kindMacsec (2 * x) s) with
    | (s1, .released) => (s1, .released)
    | (s1, r) => (setMacsec s1 x { macsec s1 x with drops := (macsec s1 x).drops + 1 }, r)
  else (s, .released)

/-- A fabric port puts the packet on its link as a frame of kind 0 (R464, R476). -/
def putOnFabric (port q : Nat) (pk : Packet) (s : State) : State :=
  let d := tagDomain pk.tag
  let dst := match bindingOf q s with
    | some b => b.dest
    | none => ((link s (portLink port)).neighbour.bind (fun n => n.address)).getD 0
  let h : FabricHeader := { control := false, kind := 0, src := Fin.ofNat 64 (s.fab.address.getD 0), dst := Fin.ofNat 64 dst, hops := 63,
                            flooded := pk.flooded && (bindingOf q s).isSome, tag := pk.tag,
                            flowHash := flowHash d pk.dst pk.src pk.vlan, length := pk.length,
                            priority := match pk.params.or (queue s q).cfg with | some c => c.priority % 8 | none => 0 }
  emit (.fabricFrame port (sofBytes h) []) s

/-- The port sends `bytes` at its rate: it is in transmission until they have left (R347). -/
def occupy (port trib bytes : Nat) (s : State) : State :=
  let r := portRate10 port trib s
  setPortEnt s port { portEnt s port with txUntil := s.now + (if r = 0 then 0 else (bytes * 80 + r - 1) / r) }

/-- The packet leaves (R35, R347, R348, R543). -/
def transmit (port q : Nat) (pk : Packet) (s0 : State) : State :=
  let d := some (tagDomain pk.tag)
  let trib := match pk.params.or (queue s0 q).cfg with | some c => c.target / 256 % 256 | none => 0
  let s := occupy port trib pk.length s0
  let v := queue s q
  let s1 := setQueue s q { v with cutThrough := if pk.cut then satur 32 (v.cutThrough + 1) else v.cutThrough,
                                  ctStomped := if pk.stomped then satur 32 (v.ctStomped + 1) else v.ctStomped }
  let s2 := meterPacket port true pk.length (count 0x013 port pk.length d (count 0x012 port 1 d s1))
  let s3 := if pk.cut then count 0x015 port 1 d s2 else s2
  let s4 := if pk.stomped then count 0x016 port 1 d s3 else s3
  let s5 := emit (.packet port q pk.length pk.stomped) s4
  if isFabricPort port then putOnFabric port q pk s5 else s5

/-- The domain of the queue, held with its parity, agrees with the packet's tag, and the parity of both is good (R202). -/
def tagAgrees (held tag : BitVec 14) : Bool := tagParityOk tag && tagParityOk held && decide (tagDomain held = tagDomain tag)

/-- Serve one packet of the port's queues; an upset of the packet's tag or of the queue's held domain is seen by the check
(R202). -/
def servePort (port p : Nat) (tagUpset queueUpset : BitVec 14) (compareOk : Bool) (s : State) : State :=
  match schedule port s with
  | none => s
  | some (q, s1) =>
    match takePacket q s1 with
    | none => s
    | some (pk, s2) =>
      let tag := pk.tag ^^^ tagUpset
      let held := (queue s q).domTag ^^^ queueUpset
      let s3 := freeBuffer 0x10 pk.buffer 0 (setQueue s2 q { queue s2 q with domTag := held })
      if !tagAgrees held tag then
        discardTag p (tagDomain held) (tagDomain tag) q (!tagParityOk tag || !tagParityOk held) s3
      else match sealPacket port q compareOk (chargePacket q pk s3) with
        | (s4, .released) => transmit port q pk s4
        | (s4, .ended) => transmit port q { pk with stomped := true } s4
        | (s4, .dropped) => s4

/-! ## Transit frames -/

/-- The class of a rank that a PAUSE holds: bit 0 BULK, bit 1 CONTROL; lease frames are never paused (R466). -/
def pausedRank (v : Link) (rank : Nat) : Bool :=
  match rank with | 0 => false | 1 => v.paused.getLsbD 1 | _ => v.paused.getLsbD 0

/-- The first transit frame of the highest rank that is not paused (R475). -/
def nextTransit (v : Link) : Option Transit :=
  ((v.transit.find? (fun t => decide (t.rank = 0))).or (v.transit.find? (fun t => decide (t.rank = 1) && !pausedRank v 1))).or
    (v.transit.find? (fun t => decide (t.rank = 2) && !pausedRank v 2))

/-- Bytes of a class that stand in the staging of a link: the frames that came by it and wait to leave on another (R466). -/
def staged (k rank : Nat) (s : State) : Nat :=
  (s.fab.links.flatMap (fun e => (e.2.transit.filter (fun t => decide (t.via = some k) && decide (t.rank = rank))).map
    (fun t => t.header.length))).foldl (· + ·) 0

/-- PAUSE ON for a class whose staging of 256 KiB has less than 32 KiB free, PAUSE OFF once more than 64 KiB is (R466). -/
def judgeStaging (k rank : Nat) (s : State) : State :=
  if rank = 0 then s
  else
    let v := link s k
    let cls : BitVec 2 := if rank = 1 then 2 else 1
    let held := v.pausing &&& cls ≠ 0
    let flit (on : Nat) : Output := .flit (linkPort k) (flitBytes 4 [(1, cls.toNat), (1, on)])
    if !held && decide (229376 < staged k rank s) then emit (flit 1) (setLink s k { v with pausing := v.pausing ||| cls })
    else if held && decide (staged k rank s < 196608) then emit (flit 0) (setLink s k { v with pausing := v.pausing &&& ~~~cls })
    else s

/-- Send a transit frame on a link. -/
def sendTransit (k : Nat) (t : Transit) (s : State) : State :=
  let v := link s k
  let s1 := emit (.fabricFrame (linkPort k) (sofBytes t.header) t.payload)
    (occupy (linkPort k) 0 t.header.length (setLink s k { v with transit := v.transit.erase t }))
  match t.via with | some i => judgeStaging i t.rank s1 | none => s1

/-- The port may transmit: a tree whose transmitter is driven and not duty-cycled, a fabric link that is up, any other
enabled port (R138, R316, R468). -/
def portTransmits (port : Nat) (s : State) : Bool :=
  portServes port s &&
  (if port < 0x40 then (tree s port).txen && !(tree s port).duty
   else if isFabricPort port then linkUp (portLink port) s else true)

/-- PACKET_EGRESS: the port's transit frames first, then its queues (R340, R475). -/
def execPacketEgress (port : Nat) (tagUpset queueUpset : BitVec 14) (compareOk : Bool) (s0 : State) : Host.Outcome State Fault Refusal :=
  let s := portBoundary port s0
  match (portEnt s port).pipeline with
  | none => .next s
  | some p =>
    if !portTransmits port s then .next s
    else if isFabricPort port then
      match nextTransit (link s (portLink port)) with
      | some t => .next (sendTransit (portLink port) t s)
      | none =>
        if pausedRank (link s (portLink port)) 2 then .next s else .next (servePort port p tagUpset queueUpset compareOk s)
    else .next (servePort port p tagUpset queueUpset compareOk s)

/-! ## Read-back -/

/-- The smallest class that holds a packet of the length (R351, R357). -/
def classFor (len : Nat) : Nat := if len ≤ 224 then 0 else if len ≤ 992 then 1 else if len ≤ 4064 then 2 else 3

/-- The first packet in DRAM leaves it; the queue leaves SPILLING with its last (R343). [log 81 DEDUCED] -/
def unspill (q : Nat) (rest : List Packet) (s : State) : State :=
  let v := queue s q
  setQueue s q { v with dram := rest, spilling := !rest.isEmpty }

/-- The oldest packet in DRAM is read back poisoned: dropped and counted (R346, R494). -/
def dropPoisoned (q : Nat) (s : State) : State :=
  let v := queue s q
  match v.dram with
  | _ :: rest => postSpill 2 q (unspill q rest (setQueue s q { v with poisoned := false, spillError := satur 32 (v.spillError + 1) }))
  | [] => s

/-- SPILL_READBACK (R343, R344, R346, R494): the oldest packet in DRAM comes back on die when less than half of the threshold is
there and a buffer is to be had. -/
def execSpillReadback (q : Fin 65536) (s : State) : Host.Outcome State Fault Refusal :=
  let v := queue s q.val
  match v.cfg, v.dram with
  | some c, x :: rest =>
    if c.spillThreshold ≠ 0 ∧ c.spillThreshold ≤ 2 * bytesOf v.onDie then .next s
    else if v.poisoned then .next (dropPoisoned q.val s)
    else match tryAlloc 0x11 0 true 4 (mappedPool 0x11 (classFor x.length) s) s with
      | (.inr _, s1) => .next s1
      | (.inl ptr, s1) =>
        let s2 := giveBuffer 0x11 ptr 0x10 0 s1
        let s3 := count 0x025 q.val x.length (some (tagDomain x.tag)) (unspill q.val rest s2)
        .next (setQueue s3 q.val { queue s3 q.val with onDie := (queue s3 q.val).onDie ++ [{ x with buffer := ptr, cut := false }] })
  | _, _ => .next s

end Sys2Proof.Machine
end

