-- ==== Sys2Proof/Machine/MemoryReads.lean ====
section
/-!
DEFINITION. Reads of board memory and what their consumers do with poisoned data; the scrub; one cycle of the memory controller
(R488–R499).
-/
namespace Sys2Proof.Machine

/-- The newest usable image of a standby is found unusable as it is read (R437, R494). -/
def poisonImage (t : Nat) (s : State) : State :=
  match (List.range 4).find? (fun k => decide (some (image s t k) = newestUsable t s)) with
  | some k => refreshCurrent t (postProt t 6 (setImage s t k { image s t k with unusable := true }))
  | none => s

/-- A consumer reads data with an uncorrectable error (R494). [log 124 DEDUCED] -/
def consumePoison (consumer : MemConsumer) (s : State) : State :=
  match consumer with
  | .spill q => setQueue s q.val { queue s q.val with poisoned := !(queue s q.val).dram.isEmpty }
  | .overflow p entry => parityError p.val true entry s
  | .savedState t => poisonImage t.val s
  | .firmware _ => if s.boot.running.isNone || s.boot.fwFault || s.pwr.keep.asleep then s else resetFirmware s
  | .other => s

/-- The requester ID of a reader (R355). -/
def readerId : MemConsumer → Nat
  | .spill _ => 0x11
  | .overflow p _ => p.val
  | .savedState _ => spineRequester
  | .firmware k => 0x60 + k.val
  | .other => spineRequester

/-- MEMORY_READ: a read enters the controller; decoded, it goes to its consumer (R488, R492, R498). -/
def execMemoryRead (address : Nat) (flips : DqFlips) (consumer : MemConsumer) (s : State) : Host.Outcome State Fault Refusal :=
  .next (enterRequest (address / 64) (readerId consumer) (.reader consumer) none flips s)

/-! ## The patrol scrub (R495) -/

/-- Accesses of the board memory. -/
def accesses : Nat := 2 ^ 31

/-- When the scrub reads its next access: all of them once in SCRUB_HOURS, in address order. [log 200 DESIGN CHOICE] -/
def scrubAt (s : State) : Nat := s.mem.scrubStart + s.mem.scrubNext * ((memNow s).scrubHours * 3600000000000) / accesses

/-- PATROL_SCRUB: the scrub's next access, when it is due, is read; corrected data go back unless a write to the same 64 bytes
is queued or comes first (R495). [log 123 DEDUCED] -/
def execPatrolScrub (flips : DqFlips) (s : State) : Host.Outcome State Fault Refusal :=
  if s.now < scrubAt s then .next s
  else
    let i := s.mem.scrubNext
    let last := decide (i + 1 = accesses)
    let start := if last then s.mem.scrubStart + (memNow s).scrubHours * 3600000000000 else s.mem.scrubStart
    .next (enterRequest i spineRequester .scrub none flips
      { s with mem := { s.mem with scrubNext := if last then 0 else i + 1, scrubStart := start } })

/-! ## Completion -/

/-- The data of a read at its client. -/
def deliver64 (r : MemRequest) (data : Option (List Byte)) (s : State) : State :=
  match r.client with
  | .reader k => if data.isNone then consumePoison k s else s
  | .bar2 n =>
    match s.mem.busReads.find? (fun x => decide (x.num = n)) with
    | some b => answerBusRead { b with got := b.got ++ [(r.line, data)] } s
    | none => s
  | .dma c => dmaArrives c r.line data s
  | .scrub =>
    match data with
    | some w => if r.flips.isEmpty || r.overwritten then s else enterRequest r.line spineRequester .writeBack (some w) [] s
    | none => s
  | .write => s
  | .writeBack => match r.word with
    | some w => if r.overwritten then s else writeBytes (r.line * 64) w s
    | none => s

/-- Source 0x4F3 for an access to a fenced channel (R523, R541). -/
def fencedRequest (c : Nat) (r : MemRequest) (s : State) : State :=
  let fn := match r.client with
    | .bar2 n => (match s.mem.busReads.find? (fun x => decide (x.num = n)) with | some b => (if b.linkB then 64 else 0) | none => 0)
    | .dma d => (dmaFn d s).getD 0
    | _ => 0
  post 0x4F3 .error (channelCupola c + bit (isWrite r.client) 7 + r.line * 64 % 2 ^ 24 * 2 ^ 8 + fn % 64 * 2 ^ 32 +
    bit (decide (fn / 64 = 1)) 38) s

/-- A request completes: a read decoded and delivered, a write issued; on a fenced channel a read finds no data and a write
nothing to write (R492, R494, R523). [log 201 DEDUCED] -/
def completeRequest (c : Nat) (r : MemRequest) (s : State) : State :=
  if (cup s (channelCupola c)).state = .fenced then
    deliver64 { r with overwritten := true } none (fencedRequest c r s)
  else if isWrite r.client then deliver64 r none (count 0x081 c 1 none s)
  else
    let d := decodeAccess c (lineBank r.line) (wordRead (rsEncode (r.word.getD [])) r.flips) (count 0x080 c 1 none s)
    deliver64 r d.2 d.1

/-- One cycle of a channel: refreshes, then the requests that its sub-channels issue; those issued on both complete. -/
def channelCycle (c : Nat) (s : State) : State :=
  let s1 := wakeChannel c (payRefreshes c s)
  let s2 := if serves c s1 then scheduleSub c 1 (scheduleSub c 0 s1) else s1
  let d := takeDone c s2
  d.1.foldl (fun st r => completeRequest c r st) d.2

/-- One cycle of the memory controller and the MMU: every channel; then the reads of this cycle find their data, and waiting
requests enter the bank queues (R488, R497–R499, R507). -/
def memoryCycle (s : State) : State :=
  takeRequests (sampleReads ((List.range 16).foldl (fun st c => channelCycle c st) (endDueInvalidations s)))

end Sys2Proof.Machine
end

