-- ==== Sys2Proof/Machine/Steps.lean ====
section
/-!
DEFINITION. What the maintenance arbiter and the cupolas report to waiting commands: releases and wakes (R119–R123,
R516–R523, R533, R534, R614).
-/
namespace Sys2Proof.Machine

/-! ## Releases -/

/-- A firmware activity that was held begins. [log 155 DEDUCED] -/
def beginFirmware (a : Activity) (s : State) : State :=
  let s1 := startActivity a none s
  match a.kind with
  | 1 => startMemTraining a.scope true s1
  | 3 =>
    let waits (k : Nat) : Bool :=
      (link s k).retrainDue && (decide ((link s k).state = 3) || decide ((link s k).state = 5))
    let s2 := retrainLane a.scope s1
    if waits (linkKey a.scope 0) || waits (linkKey a.scope 1) then s2 else endActivity a s2
  | _ => s1

/-- A waiting activity begins: a command's is released, firmware's own starts (R120). -/
def beginWaiting (e : MaintEntry) (s : State) : State :=
  let s1 := { s with pwr := { s.pwr with waiting := s.pwr.waiting.erase e } }
  match e.owner with
  | none => beginFirmware e.activity s1
  | some num =>
    let s2 := startActivity e.activity (some num) s1
    match s2.mbx.held.find? (fun h => decide (h.num = num) && decide (h.phase = .deferred)) with
    | some h => release h s2
    | none => s2

/-- MAINT_RELEASE: those that wait, in the order in which they were deferred, as far as what runs lets them (R120, R533,
R534). -/
def execMaintRelease (s : State) : Host.Outcome State Fault Refusal :=
  .next (s.pwr.waiting.foldl (fun st e => if compatible e.activity st then beginWaiting e st else st) s)

/-! ## Wakes -/

/-- The commands that wait for the cupola may start (R121). -/
def readyWaits (k : Nat) (s : State) : State :=
  setHeld s (s.mbx.held.map (fun h => if h.phase = .waking k then freed h .ready s else h))

/-- The wake under way ends, Active; a memory that failed its check on leaving Retained is restored as from Off (R121, R516,
R520–R523, R614). -/
def wakeReady (k : Nat) (retentionError lanternOk : Bool) (s : State) : State :=
  let c := cup s k
  if c.state = .fenced then failWaits k s
  else if c.waking.isNone then s
  else
    let bad := retentionError && decide (c.state = .retained)
    let c1 := { c with fwVote := false, retentionErrors := if bad then satur 32 (c.retentionErrors + 1) else c.retentionErrors }
    let s1 := moveCup k .active (if bad then 6 else if c.hwVote && !c.fwVote then 2 else 0) (setCup s k c1)
    let s2 := if isLineCupola k && decide (2 ≤ cupCode c.state) then lanternTest (k - 64) lanternOk s1 else s1
    readyWaits k s2

/-- A row still to come in this cycle may fence the cupola: the fence wins over a wake (R523). -/
def fenceAwaits (k : Nat) (s : State) : Bool :=
  s.pending.any (fun c => match c with
    | .thermalTrip .. => !alwaysUp k
    | .lanternMonitorAssert l .. => decide (64 + l.val = k)
    | .pipelineWatchdog p => decide (68 + p.val = k)
    | .pipelineMemoryError p => decide (68 + p.val = k)
    | .domainTagIntervalEnd p => decide (68 + p.val = k)
    | .packetEgress .. => isPipelineCupola k
    | .memTrainingEnd c .. => decide (76 + c.val = k)
    | .transmitWithoutLease t _ => decide (t.val = k)
    | .mapClose _ => decide (98 ≤ k) && decide (k ≤ 101)
    | .upstreamXgemFrame .. => decide (98 ≤ k) && decide (k ≤ 101)
    | .sealingBlockReceive l .. => decide (102 + l.val = k)
    | .macsecRxFrame _ => decide (k = 106) || decide (k = 107)
    | _ => false)

/-- CUPOLA_WAKE_READY (R121, R516, R520–R523, R614). [log 156 DEDUCED] -/
def execCupolaWakeReady (k : Fin 112) (retentionError lanternOk : Bool) (s : State) : Host.Outcome State Fault Refusal :=
  if fenceAwaits k.val s then
    .next { s with pwr := { s.pwr with readyDue := s.pwr.readyDue ++ [(k.val, retentionError, lanternOk)] } }
  else .next (wakeReady k.val retentionError lanternOk s)

/-- The wakes that waited for the end of the cycle. -/
def finishWakes (s : State) : State :=
  s.pwr.readyDue.foldl (fun st e => wakeReady e.1 e.2.1 e.2.2 st) { s with pwr := { s.pwr with readyDue := [] } }

/-! ## The end of a cycle -/

/-- Firmware's activity is held: a channel then retrains short (R501). -/
def firmwareHeld (a : Activity) (s : State) : State :=
  if a.kind = 1 then startMemTraining a.scope false (postChannel a.scope 6 0 0 0 s) else s

/-- Firmware's requests of the cycle, after the commands' (R533, R534). -/
def askArbiter (a : Activity) (s : State) : State :=
  if compatible a s then beginFirmware a s else firmwareHeld a (firmwareActivity a s).1
def finishAsks (s : State) : State :=
  s.pwr.asks.foldl (fun st a => askArbiter a st) { s with pwr := { s.pwr with asks := [] } }

/-- Presentations, firmware's requests, wakes and quiet cupolas at the end of a cycle (R517, R523, R534). -/
def finishPower (s : State) : State := noteQuiets (finishWakes (finishAsks (presentLate s)))

end Sys2Proof.Machine
end

