-- ==== Sys2Proof/Machine/Clock.lean ====
section
/-!
DEFINITION. One cycle of the time clock, 1 ns (R376): what step does while no command waits.
-/
namespace Sys2Proof.Machine

/-- Core clock cycles that end in the cycle of 1 ns after instant `t`. -/
def coreCycles (pl t : Nat) : Nat := (t + 1) * coreTenths pl / 10 - t * coreTenths pl / 10

/-- What the end of a cycle brings: packets that waited for the cycle's commands, aging passes, learn requests, operations on
buffers; maps and multiframes that waited; what waited for the arbiter and the cupolas; line outputs muted, filters that change
with a DSP frame, line frames that leave; pulses; board memory's requests and refreshes; a watchdog reset that waited, and the
stages of a boot (R41, R178, R240, R244, R249, R264, R324, R327, R335, R339, R343, R364, R398, R497–R499, R517, R523, R534,
R566, R567). -/
def endCycle (s : State) : State :=
  passStage <| finishWatchdog <| memoryCycle <| finishPower <| runPulses <| sendFrames <| loadFilters <| finishMutes <| beginDueMultiframes <| closeDueMaps <| runPools <| commitLearns <|
  runScans <| runIngress s

/-- The state at the end of a cycle: the clock cycles counted, what the cycle's end brings done, counters and meters settled
(R542, R543). -/
def cycleEnd (s : State) : State :=
  let clocked := if s.time.stopped then s else count 0x001 0 (coreCycles s.pwr.pl s.now) none (count 0x002 0 1 none s)
  finishMeters (finishCounters (flushLate (endCycle clocked)))

/-- One cycle passes. Time bases and their check counters advance, and the counters of clock cycles count (R376, R415,
R543); in Keep-only the clocks stand still (R412). [log 157 DESIGN CHOICE, 168 DESIGN CHOICE] -/
def idle (s : State) : State :=
  let s1 := { cycleEnd s with now := s.now + 1 }
  if s1.time.stopped then s1 else tickBases s1

end Sys2Proof.Machine
end

