-- ==== Sys2Proof/Machine/Marl.lean ====
section
/-!
DEFINITION. The Marl image: its pieces in the saved-state partition, the parts as they complete, and what the standby
applies of them (R433–R437, R480, R504).
-/
namespace Sys2Proof.Machine

/-- The member tree of a group. -/
def memberTree (g : Fin 4096) (s : State) : Option Nat :=
  (s.prot.members.find? (fun e => decide (e.2.cfg.map (fun c => c.group) = some g))).map (fun e => e.1)

/-- Parts of an image that its slot loses unfinished: they have missed their bounds (R433). -/
def unfinished (i : Image) : Nat :=
  if i.piecesA.isEmpty && i.piecesB.isEmpty then 0 else bit (!i.doneA) 0 + bit (!i.doneB) 0

/-- IMAGE_LATE (R433, R447). -/
def countLate (t n : Nat) (s : State) : State :=
  setMember s t { member s t with imageLate := satur 32 ((member s t).imageLate + n) }

/-- MARL_FRAME: a piece is written into its slot; a new superframe starts the slot's image anew (R433, R480). -/
def execMarlFrame (sof payload : List Byte) (s : State) : Host.Outcome State Fault Refusal :=
  let m := readPiece sof payload
  match memberTree m.group s with
  | none => .next s
  | some t =>
    let room := if m.partB then 0x200000 - 0x40000 else 0x40000
    if !flitListed sof || !(member s t).enabled || decide (room < m.pieceOffset + m.bytes.length) then .next s
    else
      let i := image s t m.slot.val
      let fresh := decide (i.superframe % 2 ^ 32 ≠ m.superframe)
      let i0 := if fresh then { superframe := m.superframe } else i
      let piece := (m.pieceOffset, m.bytes.length)
      let i1 := if m.partB then { i0 with piecesB := piece :: i0.piecesB } else { i0 with piecesA := piece :: i0.piecesA }
      .next (writeBytes (savedState t m.slot.val + partOffset m.partB + m.pieceOffset) m.bytes
        (setImage (if fresh then countLate t (unfinished i) s else s) t m.slot.val i1))

/-- How far from the start the pieces reach without a gap. -/
def reachOf (pieces : List (Nat × Nat)) : Nat → Nat → Nat
  | 0, r => r
  | n + 1, r => reachOf pieces n (pieces.foldl (fun a p => if p.1 ≤ r then max a (p.1 + p.2) else a) r)

/-- Every byte of a part is written (R26). -/
def wholePart (pieces : List (Nat × Nat)) (length : Nat) : Bool := decide (length ≤ reachOf pieces pieces.length 0)

/-! ## Applying part B -/

/-- The blob's key under the pairing key of the tree's group, if its tag checks (R436). -/
def blobKey (t : Nat) (b : KeyBlob) (s : State) : Option Nat :=
  match protGroup t s with
  | some g => (match pairingSchedule g s with | some keys => openBlob keys b | none => none)
  | none => none

/-- A key blob opened into the standby's slot; one whose tag fails is discarded and counted (R436). -/
def applyBlob (t : Nat) (b : KeyBlob) (s : State) : State :=
  match blobKey t b s with
  | none => setMember s t { member s t with blobFailed := satur 32 ((member s t).blobFailed + 1) }
  | some key =>
    let n := t * 1024 + b.slot
    let v := slot s kindTree n
    let own := halfOf v b.half
    let h : Half := if b.state = 0 then {}
      else { state := halfState b.state, key := key, number := b.keyNumber, count := max b.count own.count,
             limit := if own.limit = 0 then defaultLimit kindTree else own.limit }
    setSlot s kindTree n (withHalf v b.half h)

/-- A context index of the holder's tree, for this tree: a default context is this tree's own (R171). -/
def ownCtx (t ctx : Nat) : Nat := if ctx < 32768 then t * 512 + ctx % 512 else ctx

/-- The domains and queues that a section names are held for the session that owns the tree (R437). -/
def sectionHeld (t : Nat) (c : MarlConfig) (s : State) : Bool :=
  let h := (own s kTree t).session
  c.admits.all (fun a => decide ((own s kDomain a.domain.val).session = h)) &&
  c.ports.all (fun p => !p.down ||
    (match queueDomain p.downQueue.val s with | some d => decide ((own s kDomain d).session = h) | none => false))

/-- A terminal admitted, or its parameters renewed. -/
def applyAdmit (t : Nat) (a : AdmitP) (s : State) : State :=
  let m := terminal s t a.terminal.val
  if m.admitted && decide (m.serial = a.serial) then
    setTerminal s t a.terminal.val { m with profile := a.profile.val, domain := a.domain.val, autoRange := a.autoRange,
                                            regCheck := a.regCheck, regId := a.regId }
  else admitTerminal t a s

def applyAlloc (t : Nat) (p : AllocP) (s : State) : State :=
  let q : AllocP := { p with tree := Fin.ofNat 64 t, ctx := Fin.ofNat 65536 (ownCtx t p.ctx.val) }
  setAlloc s q.ctx.val (withParams (alloc s q.ctx.val) q ((pinsFor q s).getD []))

def applyPort (t : Nat) (p : PortCtxP) (s : State) : State := setPortCtx s (ownCtx t p.ctx.val) (portOf t p)

/-- Contexts and terminals of the tree that the section no longer names are removed. -/
def dropUnnamed (t : Nat) (c : MarlConfig) (s : State) : State :=
  let gone := (admittedTerminals t s).filter (fun i => !c.admits.any (fun a => decide (a.terminal.val = i)))
  let s1 := gone.foldl (fun st i => removeTerminal t i st) s
  { s1 with tr := { s1.tr with
    allocs := tmap {} (fun k a => if a.present && decide (a.tree = t) && decide (32768 ≤ k) &&
        !c.allocs.any (fun p => decide (p.ctx.val = k)) then {} else a) s1.tr.allocs,
    ports := tmap {} (fun k a => if a.present && decide (a.tree = t) && decide (32768 ≤ k) &&
        !c.ports.any (fun p => decide (p.ctx.val = k)) then {} else a) s1.tr.ports } }

/-- The configuration section applied to the standby's own tree (R435, R437). [log 108 DEDUCED] -/
def applySection (t : Nat) (c : MarlConfig) (s : State) : State :=
  let s1 := setTree s t (withTree (tree s t) c.tree)
  let s2 := setTree s1 t { tree s1 t with
    profiles := c.profiles.foldl (fun ps e => tset none e.1 (some (profileDefaults e.2)) ps) [] }
  let s3 := c.admits.foldl (fun st a => applyAdmit t a st) (dropUnnamed t c s2)
  c.ports.foldl (fun st p => applyPort t p st) (c.allocs.foldl (fun st p => applyAlloc t p st) s3)

/-- The terminals' entries (R435). -/
def applyTerminal (t : Nat) (e : MarlTerminal) (s : State) : State :=
  let m := terminal s t e.terminal.val
  if m.admitted then
    setTerminal s t e.terminal.val { m with state := e.state.val, profile := e.profile.val, rtd := e.rtd, eqd := e.eqd,
                                            driftSum := e.driftSum, driftCount := e.driftCount, collisions := e.collisions }
  else s

/-- The allocations' entries (R435): demand, remainders, the shortfall carried, the last poll. -/
def applyDemand (t : Nat) (e : MarlAlloc) (s : State) : State :=
  let k := ownCtx t e.ctx.val
  let a := alloc s k
  if a.present then
    setAlloc s k { a with demand := e.demand, reported := e.demand, grants := [], remFixed := e.remFixed,
                          remAssured := e.remAssured, remNon := e.remNon, remMax := e.remMax,
                          carry := if e.carry = 0 then [] else [((tree s t).lastMap, e.carry)], lastPoll := e.lastPoll }
  else s

/-- Part B applied: blobs, configuration, state (R436, R437); false where the image is unusable. -/
def applyPartB (t : Nat) (p : MarlPart) (s : State) : State × Bool :=
  let blobsOk := p.blobs.all (fun b => (blobKey t b s).isSome)
  let s1 := p.blobs.foldl (fun st b => applyBlob t b st) s
  let held := match p.config with | some c => sectionHeld t c s1 | none => true
  let s2 := match p.config with | some c => if held then applySection t c s1 else s1 | none => s1
  if blobsOk && held then
    (p.allocs.foldl (fun st e => applyDemand t e st) (p.terminals.foldl (fun st e => applyTerminal t e st) s2), true)
  else (s2, false)

/-- A member that hears the holder's image stands by, if it does not hold the lease itself (R431, R433). -/
def hearHolder (t : Nat) (s : State) : State :=
  let m := member s t
  if !m.holding && (decide (m.state = 1) || decide (m.state = 6)) then becomeStandby t s else s

/-- The part of a slot is complete: its pieces cover it without a gap and its CRC checks (R434, R480). -/
def partComplete (t k : Nat) (partB : Bool) (s : State) : Bool :=
  let i := image s t k
  let header := readBytes (savedState t k) 64 s
  if !wholePart i.piecesA 64 then false
  else if partB then
    let n := fieldAt header 0x20 4
    wholePart i.piecesB n && decide (crc32 (readBytes (savedState t k + partOffset true) n s) = fieldAt header 0x3C 4)
  else
    let n := partALength (readBytes (savedState t k) 0x40000 s)
    wholePart i.piecesA n && crcAOk (readBytes (savedState t k) n s)

/-- The part of frame `k` misses its bound: part A 8 µs after map k closed, which is 2 µs before the frame, part B 100 µs after it
(R433). -/
def partLate (t k : Nat) (partB : Bool) (s : State) : Bool :=
  decide (untilFrame t k s < (if partB then -90000 else 2000))

/-- MARL_PART_COMPLETE (R26, R433, R437, R480). -/
def execMarlPartComplete (tree_ : Fin 64) (partB : Bool) (superframe : Nat) (s : State) : Host.Outcome State Fault Refusal :=
  let t := tree_.val
  match slotOf t superframe s with
  | none => .next s
  | some k =>
    let i := image s t k
    let m := member s t
    if !m.enabled || m.holding || (if partB then i.doneB else i.doneA) || !partComplete t k partB s then .next s
    else
      let s1 := if partLate t superframe partB s then countLate t 1 s else s
      if partB then
        let header := readBytes (savedState t k) 64 s
        let (s2, ok) := applyPartB t (readPartB header (readBytes (savedState t k + partOffset true) (fieldAt header 0x20 4) s)) s1
        let s3 := setImage s2 t k { i with doneB := true, unusable := i.unusable || !ok }
        .next (refreshCurrent t (if ok then s3 else postProt t 6 s3))
      else .next (hearHolder t (refreshCurrent t (setImage s1 t k { i with
        doneA := true, gridA := gridFrame t s, superframe := fieldAt (readBytes (savedState t k) 64 s) 8 8 % 2 ^ 51 })))

end Sys2Proof.Machine
end

