-- ==== Sys2Proof/Machine/Power.lean ====
section
/-!
DEFINITION. Votes, floors, descents, fences and their tests, performance levels, the maintenance and safety commands
(R514–R541, R615).
-/
namespace Sys2Proof.Machine

/-! ## Votes -/

/-- A cupola that takes no votes and keeps its floor (R515, R540). -/
def fixedCupola (k : Nat) : Bool := alwaysUp k

/-- The session's vote on a cupola: placed, changed, or withdrawn with level 0 (R516). -/
def placeVote (k holder level : Nat) (s : State) : State :=
  let c := cup s k
  let rest := c.votes.filter (fun v => decide (v.holder ≠ holder))
  setCup s k { c with votes := if level = 0 then rest else rest ++ [{ holder := holder, level := level }] }

/-- The cupola that CUPOLA_VOTE has to wait for: fenced, or deeper than the level and long to wake. -/
def voteWake (k level : Nat) (s : State) : Option Nat :=
  if decide (level ≠ 0) && !fixedCupola k && decide (level - 1 < cupCode (cup s k).state) &&
      (longAsleep k s || decide ((cup s k).state = .fenced)) then some k else none

/-- CUPOLA_VOTE (R516). [log 127 DEDUCED] -/
def execCupolaVote (h : Caller) (k : Fin 112) (level : Fin 4) (s : State) : Host.Outcome State Fault Refusal :=
  perform 0x0100 (if level.val = 0 then none else some { kind := 13, scope := k.val }) (voteWake k.val level.val) h (fun s =>
    if fixedCupola k.val then refuse 0x0111 s
    else okay (riseCup k.val 0 (placeVote k.val (voteHolder (fnKey h.id.fn) h.session) level.val s))) s

/-- CUPOLA_STATUS (R540). -/
def execCupolaStatus (h : Caller) (k : Fin 112) (s : State) : Host.Outcome State Fault Refusal :=
  perform 0x0101 none noCupola h (fun s =>
    let c := cup s k.val
    let ns := c.activeNs + (if c.state = .active then s.now - c.activeSince else 0)
    let votes := c.votes.length + (if c.hwVote then 1 else 0) + (if c.fwVote then 1 else 0) +
      (if (resourceVote k.val s).isSome then 1 else 0)
    okResp (fields 32 [(1, cupCode c.state), (1, if isDramCupola k.val then min 2 c.floor else c.floor), (2, votes),
      (4, c.wakes), (4, c.lastWakeNs), (4, c.retentionErrors), (8, ns / 1000000)]) s) s

/-- CUPOLA_FLOOR_SET (R519). -/
def execCupolaFloorSet (h : Caller) (p : FloorP) (s : State) : Host.Outcome State Fault Refusal :=
  perform 0x0103 none noCupola h (fun s =>
    let k := p.cupola.val
    let d (v dflt : Nat) : Nat := if v = 0 then dflt else v
    if !ownsDevice h s then refuse 4 s
    else if !p.wf then .hostError [(kDevice, 0)]
    else if fixedCupola k || (isDramCupola k && decide (p.floor = 3)) then refuse 0x0111 s
    else okay (setCup s k { cup s k with floor := p.floor, report := p.report, hystGated := d p.hystGated 1,
                                         hystRetained := d p.hystRetained 33, hystOff := d p.hystOff 32768 })) s

/-- The hysteresis before a cupola's next descent, in ticks (R517). -/
def descentTicks (c : Cupola) : Nat := match c.state with | .active => c.hystGated | .gated => c.hystRetained | _ => c.hystOff

/-- The hysteresis has passed, the tick in which it expires being over: a vote in that tick counts as arrived (R517). -/
def hysteresisPassed (c : Cupola) (now : Nat) : Bool :=
  match c.quiet with | some t => decide (tickNo t + descentTicks c < tickNo now) | none => false

/-- CUPOLA_HYSTERESIS_EXPIRY: one state down, unless a vote, the floor or a wake under way forbids it (R517–R519). -/
def execCupolaHysteresisExpiry (k : Fin 112) (s : State) : Host.Outcome State Fault Refusal :=
  let c := cup s k.val
  if c.state = .fenced ∨ c.waking.isSome = true ∨ fixedCupola k.val = true ∨ target k.val s ≤ cupCode c.state ∨
      hysteresisPassed c s.now = false then .next s
  else .next (moveCup k.val (cupOfCode (cupCode c.state + 1)) 1 s)

/-! ## Fences -/

/-- CUPOLA_RESTORE (R524). -/
def execCupolaRestore (h : Caller) (k : Fin 112) (s : State) : Host.Outcome State Fault Refusal :=
  perform 0x0104 none noCupola h (fun s =>
    if !ownsDevice h s then refuse 4 s
    else if isPipelineCupola k.val || isDramCupola k.val then refuse 0x0112 s
    else if (cup s k.val).state ≠ .fenced then emptyReply s
    else .later k.val s) s

/-- A self-test of a fenced cupola passes: Off, then up to its votes, a Lantern tested as `lanternOk` says (R524, R614).
[log 159 DEDUCED] -/
def restoreCupola (k : Nat) (lanternOk : Bool) (s : State) : State :=
  let s1 := moveCup k .off 4 { s with cph := { s.cph with mismatches := tset [] k [] s.cph.mismatches } }
  let s2 := if isLineCupola k then setLine s1 (k - 64) { line s1 (k - 64) with shutdown := false } else s1
  if isLineCupola k then riseLine (k - 64) lanternOk s2 else riseCup k 0 s2

/-! ## Performance levels -/

/-- The core supply of a level, in mV, and the time of its ramp between two at 10 mV/µs (R525, R527). -/
def levelMv (l : Nat) : Nat := match l with | 0 => 750 | 1 => 680 | 2 => 600 | _ => 550
def rampNs (a b : Nat) : Nat := (max (levelMv a) (levelMv b) - min (levelMv a) (levelMv b)) * 100

/-- PERF_LEVEL_SET (R527). [log 128 DEDUCED] -/
def execPerfLevelSet (h : Caller) (level : Fin 4) (s : State) : Host.Outcome State Fault Refusal :=
  perform 0x0102 (some { kind := 9, scope := 0 }) noCupola h (fun s =>
    let l := level.val
    if !ownsDevice h s then refuse 4 s
    else if l = s.pwr.pl then emptyReply s
    else if (servingPipes s).any (fun p => decide (pipeCapacity l < pipeLoad p s)) then limitReply 0x0110 s
    else
      let s1 := { s with pwr := { s.pwr with plTarget := some l, rampEnd := s.now + rampNs s.pwr.pl l,
                                             pl := if s.pwr.pl < l then l else s.pwr.pl } }
      .later s.pwr.pl (if s.pwr.pl < l then post 0x4F0 .info (l + s.pwr.pl * 2 ^ 2) s1 else s1)) s

/-- PERF_LEVEL_SETTLED: the supply has settled; when raising, the frequency has then changed (R527, R541). -/
def execPerfLevelSettled (s : State) : Host.Outcome State Fault Refusal :=
  match s.pwr.plTarget with
  | none => .next s
  | some l =>
    let s1 := { s with pwr := { s.pwr with plTarget := none, pl := l } }
    if s.now < s.pwr.rampEnd then .next s
    else .next ((List.range 4).foldl (fun st k => completeRunning 0x0102 k stOk 0 0 [] st)
      (if l = s.pwr.pl then s1 else post 0x4F0 .info (l + s.pwr.pl * 2 ^ 2) s1))

/-! ## Maintenance and safety -/

/-- One entry of MAINT_STATUS (R540). -/
def maintEntry (waiting : Bool) (e : MaintEntry) : List Byte :=
  le 4 (e.activity.kind + bit waiting 8 + e.activity.scope % 2 ^ 23 * 2 ^ 9)

def maintStatus (s : State) : List Byte :=
  let es := ((s.pwr.running.map (maintEntry false)) ++ (s.pwr.waiting.map (maintEntry true))).take 15
  let b := le 1 s.pwr.running.length ++ le 1 s.pwr.waiting.length ++ le 2 0 ++ es.flatten
  b ++ List.replicate (64 - b.length) 0

/-- MAINT_STATUS (R540). -/
def execMaintStatus (h : Caller) (s : State) : Host.Outcome State Fault Refusal :=
  perform 0x0106 none noCupola h (fun s => okResp (maintStatus s) s) s

/-- Time bases in their safe state, as a mask. -/
def heldBases (s : State) : Nat := ((List.range 8).map (fun b => bit (timeBase s b).checkFault b)).foldl (· + ·) 0

def safetyStatus (s : State) : List Byte :=
  fields 32 [(4, heldBases s + s.pwr.dtFenced.toNat * 2 ^ 8 + bit s.cph.zeroised 16), (8, s.pwr.treesFenced.toNat),
    (4, s.pwr.lastSelfTest), (4, satur 32 ((s.now - s.pwr.selfTestAt) / 1000000000))]

/-- SAFETY_STATUS (R540). -/
def execSafetyStatus (h : Caller) (s : State) : Host.Outcome State Fault Refusal :=
  perform 0x0107 none noCupola h (fun s => okResp (safetyStatus s) s) s

/-- SAFETY_SELF_TEST (R538). -/
def execSafetySelfTest (h : Caller) (tests : BitVec 4) (s : State) : Host.Outcome State Fault Refusal :=
  perform 0x0108 (some { kind := 12, scope := 0 }) noCupola h (fun s =>
    if !ownsDevice h s then refuse 4 s else .later tests.toNat s) s

/-- Source 0x4F2 with mechanism 4 for each test that failed (R538). -/
def postFailedTests (tests results : BitVec 4) (s : State) : State :=
  (List.range 4).foldl (fun st i => if tests.getLsbD i && !results.getLsbD i then postSafe 4 true i st else st) s

/-- A safety self-test has run: its RESULT and its instant (R538, R540). -/
def recordSelfTest (tests results : BitVec 4) (s : State) : State :=
  postFailedTests tests results { s with pwr := { s.pwr with lastSelfTest := (tests &&& results).toNat, selfTestAt := s.now } }

/-- The tests that the running SAFETY_SELF_TEST was given. -/
def runningTests (s : State) : Option Nat :=
  s.mbx.held.findSome? (fun e => if e.opcode = 0x0108 then (match e.phase with | .running k => some k | _ => none) else none)

/-- The parts of a cupola's self-test: [0] memories, [1] logic, [2] domain tags of a pipeline, [3] the engine pairs of a cipher
cupola, [4] Lantern and converter of a line engine (R615). -/
def testParts (k : Nat) : BitVec 5 :=
  if isPipelineCupola k then 7 else if 98 ≤ k ∧ k ≤ 107 then 11 else if isLineCupola k then 19 else 3

/-- SELF_TEST_END: of a fenced cupola (kind 0; bit 0 of the results is the Lantern's test as it wakes), a pipeline (1), or the
safety mechanisms (2); the first two fail if any part of the test finds a fault (R317, R524, R538, R615). [log 204 DEDUCED] -/
def execSelfTestEnd (kind : Fin 3) (inst : Nat) (faults : BitVec 5) (results : BitVec 4) (s : State) :
    Host.Outcome State Fault Refusal :=
  match kind.val with
  | 0 =>
    if !runsOn 0x0104 inst s then .next s
    else if faults &&& testParts inst = 0 then .next (completeRunning 0x0104 inst stOk 0 0 [] (restoreCupola inst (results.getLsbD 0) s))
    else .next (completeRunning 0x0104 inst stFaulted 0 0 [] s)
  | 1 => .next (endPipelineTest inst (decide (faults &&& testParts (68 + inst) = 0)) s)
  | _ =>
    match runningTests s with
    | none => .next s
    | some t =>
      let tests := BitVec.ofNat 4 t
      .next (completeRunning 0x0108 t stOk 0 (tests &&& results).toNat [] (recordSelfTest tests results s))

end Sys2Proof.Machine
end

