-- ==== Sys2Proof/Machine/Sessions.lean ====
section
/-!
DEFINITION. Device and session commands: identity, capabilities, reset requests, sessions, resources, abort (R93–R125).
-/
namespace Sys2Proof.Machine

/-- NOP (R93). -/
def execNop (h : Caller) (s : State) : Host.Outcome State Fault Refusal :=
  perform 0x0000 none noCupola h okay s

/-! ## Identity and capabilities -/

/-- SECURITY_VERSION and FW_VERSION of the image that runs (R95, R580). -/
def runningVersion (s : State) : Nat := match s.boot.running with | some i => i.fwVersion | none => Config.factoryFwVersion
def runningSecurity (s : State) : Nat := match s.boot.running with | some i => i.securityVersion | none => 0

/-- DEVICE_OWNER and OWNER_ADDRESS (R95). [log 154 DEDUCED] -/
def deviceOwner (s : State) : Nat × Nat :=
  let o := (own s kDevice 0).session
  let f := (session s o).fn
  if o = 0 then (0, 0)
  else if f < 64 then (1, 0) else if f < 128 then (2, 0) else (3, f - 128 + 64)

/-- The DEVICE_IDENTIFY response (R95). [log 209 DESIGN CHOICE] -/
def identity (fn : Nat) (s : State) : List Byte :=
  fields 64 [(4, Config.glbId), (4, 0), (8, Config.serial), (4, runningVersion s), (4, Config.romVersion), (1, s.boot.stage),
    (1, if s.mbx.splitMode then 1 else 0), (1, if fn < 128 then fn else 0), (1, (deviceOwner s).1), (4, runningSecurity s),
    (1, (deviceOwner s).2)]

/-- DEVICE_IDENTIFY (R95). -/
def execDeviceIdentify (h : Caller) (s : State) : Host.Outcome State Fault Refusal :=
  perform 0x0001 none noCupola h (fun s => .done stOk 0 Config.serial (identity (fnKey h.id.fn) s) s) s

/-- Pipelines in service, as a mask (R96). -/
def serviceMask (s : State) : Nat := ((servingPipes s).map (fun p => 2 ^ p)).foldl (· + ·) 0

/-- The LANTERNS bits as read: one of a fenced line-engine cupola reads 0 (R614). -/
def lanternBits (s : State) : Nat :=
  ((List.range 4).map (fun l => bit (lanternOf l s) l)).foldl (· + ·) 0

/-- FABRIC_ADDRESS (R96). -/
def addressField (s : State) : Nat := match s.fab.address with | some a => a + 64 | none => 0

/-- Page 0 of CAPABILITY_QUERY (R96). -/
def capabilities (s : State) : List Byte :=
  fields 128 [(2, 64), (2, 512), (4, 32768), (4, 65536), (4, 131072), (4, 131072), (2, 4096), (1, 4), (1, 48), (1, 8), (1, 8),
    (2, 2048), (2, 4096), (2, 256), (4, portBudget s), (4, budgetUsed s), (8, Config.dramBytes), (8, s.mem.spillGib * 2 ^ 30),
    (1, serviceMask s), (1, lanternBits s), (1, addressField s)]

/-- CAPABILITY_QUERY (R96). -/
def execCapabilityQuery (h : Caller) (page : Nat) (s : State) : Host.Outcome State Fault Refusal :=
  perform 0x0002 none noCupola h (fun s => if page = 0 then okResp (capabilities s) s else emptyReply s) s

/-! ## Reset requests -/

/-- Firmware accepts a reset of class 1–3 (R98–R102): the completion's status and DETAIL when it does not. -/
def resetRefusal (h : Caller) (force : Bool) (s : State) : Option Nat :=
  if isVf h.id.fn then some 2
  else if !ownsDevice h s then some 4
  else if holdsLease s && !force then some 0x0101
  else none

/-- DEVICE_RESET (R100). -/
def execDeviceReset (h : Caller) (p : ResetP) (s : State) : Host.Outcome State Fault Refusal :=
  match takeIn 0x0003 none h s with
  | (s1, none) => .next s1
  | (s1, some e) =>
    if p.cls = 0 then .next (restartFunction (fnKey h.id.fn) (finish e stOk 0 0 [] s1))
    else match resetRefusal h p.force s1 with
      | some d => .next (finish e stRefused d 0 [] s1)
      | none =>
        if !p.wf then .next (runBody e (fun _ => .hostError [(kDevice, 0)]) s1)
        else .next (postResetPending (finish e stOk 0 0 [] (acceptReset p.cls p.delayUs s1)))

/-! ## Sessions -/

/-- The next handle of the rotation that no session holds (R104). [log 33 DEDUCED] -/
def nextHandle (s : State) : Nat → Nat → Nat
  | 0, h => h % 65535 + 1
  | n + 1, h =>
    let k := h % 65535 + 1
    if session s k = {} then k else nextHandle s n k

/-- Open sessions of a function, and of the device. -/
def sessionsOf (fn : Nat) (s : State) : Nat :=
  (s.ses.table.filter (fun e => e.2.isOpen && decide (e.2.fn = fn))).length
def sessionCount (s : State) : Nat := (s.ses.table.filter (fun e => e.2.isOpen)).length

/-- SESSION_OPEN (R103). [log 160 DEDUCED] -/
def execSessionOpen (h : Caller) (keepaliveMs label : Nat) (s : State) : Host.Outcome State Fault Refusal :=
  perform 0x0004 none noCupola h (fun s =>
    let fn := fnKey h.id.fn
    if h.session ≠ 0 ∨ 60000 < keepaliveMs then .hostError []
    else if 16 ≤ sessionsOf fn s ∨ 1024 ≤ sessionCount s then limitReply 0 s
    else
      let k := nextHandle s s.ses.table.length s.ses.lastHandle
      let v : Session := { isOpen := true, fn := fn, keepaliveMs := keepaliveMs, label := label, lastFetch := s.now }
      okResult k (setSession { s with ses := { s.ses with lastHandle := k } } k v)) s

/-- Run a command, and end whatever waited only for what it did. -/
def settled (o : Host.Outcome State Fault Refusal) : Host.Outcome State Fault Refusal :=
  match o with
  | .next s => .next (settle s)
  | other => other

/-- SESSION_CLOSE (R106). -/
def execSessionClose (h : Caller) (handle : Nat) (quiesce : Bool) (s : State) : Host.Outcome State Fault Refusal :=
  settled (perform 0x0005 none noCupola h (fun s =>
    if handle = 0 ∨ ((session s handle).isOpen = true ∧ (session s handle).fn ≠ fnKey h.id.fn) then refuse 3 s
    else if !(session s handle).isOpen then emptyReply s
    else .later handle (closeSession handle quiesce s)) s)

/-- SESSION_KEEPALIVE_EXPIRY: RETAIN, and source 0x005 to each PF; a session whose timer has restarted stays open (R105,
R126). [log 165 DEDUCED] -/
def execSessionKeepaliveExpiry (handle : Nat) (s : State) : Host.Outcome State Fault Refusal :=
  let v := session s handle
  if !v.isOpen || decide (v.keepaliveMs = 0) || !lapsed v.lastFetch (msNs v.keepaliveMs) s then .next s
  else
    let p := handle + v.fn % 64 * 2 ^ 16 + bit (decide (64 ≤ v.fn ∧ v.fn < 128)) 22 +
      bit (decide ((own s kDevice 0).session = handle)) 23 + v.label % 2 ^ 20 * 2 ^ 24
    let s1 := settle (closeSession handle false s)
    .next (postFn (adminQueue s1 64) 5 .warning p (postFn (adminQueue s1 0) 5 .warning p s1))

/-- A held command starts in this cycle: it has been released, or is ready; or the release or readiness is among the rows of the
same cycle that are still to come (R120, R121, R125). -/
def startsNow (e : Held) (s : State) : Bool :=
  match e.phase with
  | .released => true
  | .ready => true
  | .running _ => true
  | .deferred => s.pending.any (fun c => match c with | .maintRelease => true | _ => false) &&
      (match e.activity with | some a => compatible a s | none => true)
  | .waking k => s.pending.any (fun c => match c with | .cupolaWakeReady j _ _ => decide (j.val = k) | _ => false)
  | _ => false

/-- COMMAND_ABORT (R124, R125). -/
def execCommandAbort (h : Caller) (k : Fin 64) (tag : Nat) (s : State) : Host.Outcome State Fault Refusal :=
  perform 0x0006 none noCupola h (fun s =>
    match s.mbx.held.find? (fun e => decide (e.id = { fn := h.id.fn, ring := k, tag := tag }) &&
        (e.deferredOnce || e.wakingOnce) && !startsNow e s) with
    | some e => okay (finish e stRefused 0x0100 0 [] s)
    | none => emptyReply s) s

/-! ## Resources -/

/-- Indices of a kind (R108). -/
def kindSize (kind : Nat) : Nat :=
  match kind with
  | 0 => 1 | 1 => 64 | 2 => 4 | 3 => 6 | 4 => 4096 | 5 => 8 | 6 => 64 | _ => 32

/-- A VF may be assigned indices of the kind (R108, R115). -/
def assignable (kind : Nat) : Bool := decide (kind = 4) || decide (kind = 6) || decide (kind = 7)

/-- The issuing function may claim the index (R108, R111). -/
def claimable (fn : Fn) (kind idx : Nat) (s : State) : Bool :=
  match fn with
  | .pci f => if f.num.val = 0 then (own s kind idx).assigned.isNone
              else assignable kind && decide ((own s kind idx).assigned = some f)
  | _ => (own s kind idx).assigned.isNone

/-- Firmware holds DMA channels 60–63 for itself while a protection group is enabled or an update is open (R511). -/
def firmwareHolds (kind idx : Nat) (s : State) : Bool :=
  decide (kind = kDma) && decide (60 ≤ idx) && (s.prot.members.any (fun e => e.2.enabled) || s.boot.update.isSome)

/-- The index stands in the way of a claim by the session (R111, R511). -/
def conflicts (h : Caller) (kind idx : Nat) (s : State) : Bool :=
  (decide ((own s kind idx).session ≠ 0) && decide ((own s kind idx).session ≠ h.session)) || firmwareHolds kind idx s

def rangeOf (p : RangeP) : List Nat := (List.range p.count).map (p.first + ·)

/-- Give every index of the range to the session (R111). -/
def takeAll (h : Caller) (p : RangeP) (s : State) : State :=
  (rangeOf p).foldl (fun st i => setOwn st p.kind.val i { own st p.kind.val i with session := h.session }) s

/-- RESOURCE_CLAIM (R111). [log 31 DEDUCED] -/
def execResourceClaim (h : Caller) (p : RangeP) (s : State) : Host.Outcome State Fault Refusal :=
  perform 0x0007 none noCupola h (fun s =>
    if h.session = 0 then refuse 0x0103 s
    else if p.count = 0 then .hostError []
    else if kindSize p.kind.val < p.first + p.count then refuse 0x0104 s
    else if (rangeOf p).any (fun i => !claimable h.id.fn p.kind.val i s) then refuse 0x0104 s
    else match (rangeOf p).find? (fun i => conflicts h p.kind.val i s) with
      | some i => .done stRefused 0x0102 i [] s
      | none => okay (takeAll h p s)) s

/-- Disable a released index of a kind that QUIESCE disables (R107). -/
def quiesceIndex (kind i : Nat) (s : State) : State :=
  match kind with
  | 1 => quiesceTree i s
  | 2 => stopLine i s
  | 3 => (List.range 8).foldl (fun st j => quiesceLane (i * 8 + j) st) s
  | _ => s

/-- The indices of the range that the session owns. -/
def heldRange (h : Caller) (p : RangeP) (s : State) : List Nat :=
  (ownedBy h.session p.kind.val s).filter (fun i => decide (p.first ≤ i) && decide (i < p.first + p.count))

def releaseIndex (kind : Nat) (quiesce : Bool) (i : Nat) (s : State) : State :=
  let s1 := if quiesce then quiesceIndex kind i s else s
  setOwn s1 kind i { own s1 kind i with session := 0 }

/-- RESOURCE_RELEASE (R114). -/
def execResourceRelease (h : Caller) (p : RangeP) (quiesce : Bool) (s : State) : Host.Outcome State Fault Refusal :=
  perform 0x0008 none noCupola h (fun s =>
    if h.session = 0 then refuse 0x0103 s
    else if p.count = 0 then .hostError []
    else okay ((heldRange h p s).foldl (fun st i => releaseIndex p.kind.val quiesce i st) s)) s

/-- A session of the issuing PF owns the index (R115). -/
def pfOwns (fn : Nat) (kind i : Nat) (s : State) : Bool :=
  decide ((own s kind i).session ≠ 0) && decide ((session s (own s kind i).session).fn = fn)

/-- Return to the PF what is assigned to its VFs (R115). -/
def returnIndex (linkB : Bool) (kind i : Nat) (s : State) : State :=
  match (own s kind i).assigned with
  | some v => if v.linkB = linkB then setOwn s kind i {} else s
  | none => s

/-- RESOURCE_ASSIGN (R115). [log 32 DEDUCED] -/
def execResourceAssign (h : Caller) (p : RangeP) (vf : Fin 64) (s : State) : Host.Outcome State Fault Refusal :=
  perform 0x0009 none noCupola h (fun s =>
    if h.session = 0 then refuse 0x0103 s
    else if !assignable p.kind.val || decide (p.count = 0) || decide (kindSize p.kind.val < p.first + p.count) then .hostError []
    else match h.id.fn with
      | .pci f =>
        if vf.val = 0 then okay ((rangeOf p).foldl (fun st i => returnIndex f.linkB p.kind.val i st) s)
        else if (rangeOf p).any (fun i => !pfOwns (pciKey f) p.kind.val i s) then refuse 4 s
        else okay ((rangeOf p).foldl (fun st i =>
          setOwn st p.kind.val i { session := 0, assigned := some { linkB := f.linkB, num := vf } }) s)
      | _ => refuse 4 s) s

/-- One entry of RESOURCE_QUERY (R117). [log 210 DESIGN CHOICE] -/
def ownerEntry (kind i : Nat) (s : State) : Nat :=
  let o := own s kind i
  let f := match o.assigned with
    | some v => pciKey v
    | none => if o.session = 0 then 0 else (session s o.session).fn
  o.session + f % 64 * 2 ^ 16 + bit (decide (f / 64 = 1)) 22 + bit o.assigned.isSome 23

/-- RESOURCE_QUERY (R117). -/
def execResourceQuery (h : Caller) (p : RangeP) (s : State) : Host.Outcome State Fault Refusal :=
  perform 0x000A none noCupola h (fun s =>
    if p.count = 0 ∨ 4096 < p.count ∨ kindSize p.kind.val < p.first + p.count then .hostError []
    else okResp ((rangeOf p).flatMap (fun i => le 4 (ownerEntry p.kind.val i s))) s) s

end Sys2Proof.Machine
end

