-- ==== Sys2Proof/Machine/BootCmds.lean ====
section
/-!
DEFINITION. Firmware update, measurement and attestation commands, and the steps of a boot (R564–R586, R596).
-/
namespace Sys2Proof.Machine

/-! ## Update -/

/-- The image area beside the running one is erased: the bank not running, its SEQ one above the running bank's, or, without
a directory, the staging area; what the firmware partition held of it is gone (R575, R577). -/
def eraseOther (length : Nat) (s : State) : State :=
  let s1 := { s with boot := { s.boot with update := some { length := length, pieces := [] }, staged := none, previous := none } }
  match s.boot.source with
  | some b => setBankAt (!b) { seq := (bankAt b s).seq + 1, state := .empty, length := length } s1
  | none => { s1 with boot := { s1.boot with stagedState := .empty } }

/-- FW_UPDATE_BEGIN (R575). [log 145 DEDUCED] -/
def execFwUpdateBegin (h : Caller) (length : Nat) (s : State) : Host.Outcome State Fault Refusal :=
  perform 0x0F00 (some actUpdate) noCupola h (fun s =>
    if !ownsDevice h s then refuse 4 s
    else if length = 0 ∨ 33554432 < length then .hostError [(kDevice, 0)]
    else if s.boot.update.isSome then .done stBusy 0 0 [] s
    else okay (keepActivity actUpdate (eraseOther length s))) s

/-- FW_UPDATE_DATA (R575). -/
def execFwUpdateData (h : Caller) (offset : Nat) (data : List Byte) (s : State) : Host.Outcome State Fault Refusal :=
  perform 0x0F01 (some actUpdate) noCupola h (fun s =>
    if h.blockLen ≠ 64 + data.length ∨ 1048512 < data.length then refuse 5 s
    else if !ownsDevice h s then refuse 4 s
    else match s.boot.update with
      | none => refuse 0x0F04 s
      | some u =>
        if u.length < offset + data.length then refuse 0x0F04 s
        else okay { s with boot := { s.boot with update := some { u with pieces := (offset, data) :: u.pieces } } }) s

/-- The update's bytes are all written (R575). -/
def updateWhole (u : UpdateOpen) : Bool := wholePart (u.pieces.map (fun p => (p.1, p.2.length))) u.length

/-- The image that an update has brought (R572, R575). -/
def updateImage (u : UpdateOpen) : ImageFacts := readImage (layPieces u.length u.pieces)

/-- The staged image is rejected, in the order of R573: the DETAIL of R575. -/
def stagedRefusal (u : UpdateOpen) (i : ImageFacts) (s : State) : Option Nat :=
  if !updateWhole u || !i.wellFormed || decide (i.length ≠ u.length) then some 0x0F05
  else if keyRevoked i s then some 0x0F02
  else if !keyPermitted i s || !i.signatureOk then some 0x0F01
  else if i.securityVersion < s.boot.fuses.minimum then some 0x0F03
  else if checkImage i s ≠ 2 then some 0x0F05
  else none

/-- The update is over, and with it the activity (R575). -/
def closeUpdate (s : State) : State := endActivity actUpdate { s with boot := { s.boot with update := none } }

/-- The bank is pending and its image staged beside the one that runs; source 0x520 (R577, R586). -/
def stageImage (i : ImageFacts) (s : State) : State :=
  let s1 := match s.boot.source with
    | some b => setBankAt (!b) { bankAt (!b) s with image := some i, length := i.length } s
    | none => s
  let s2 := setStagedState .pending { s1 with boot := { s1.boot with staged := some i } }
  post 0x520 .info (firmwarePayload 0 (s.boot.source.map (fun b => !b)) i) s2

/-- FW_UPDATE_END (R577). -/
def execFwUpdateEnd (h : Caller) (s : State) : Host.Outcome State Fault Refusal :=
  perform 0x0F02 (some actUpdate) noCupola h (fun s =>
    if !ownsDevice h s then refuse 4 s
    else match s.boot.update with
      | none => refuse 0x0F05 s
      | some u => match stagedRefusal u (updateImage u) s with
        | some d => refuse d (closeUpdate s)
        | none => okay (closeUpdate (stageImage (updateImage u) s))) s

/-- FW_ACTIVATE is refused (R575): nothing pending, a lease held. [log 146 DEDUCED] -/
def activateRefusal (h : Caller) (cls : Nat) (force : Bool) (s : State) : Option Nat :=
  if !ownsDevice h s then some 4
  else if decide (stagedState s ≠ .pending) || (decide (cls ≠ 2) && s.boot.staged.isNone) then some 0x0F06
  else if holdsLease s && !force then some 0x0101
  else none

/-- FW_ACTIVATE: as DEVICE_RESET of the class, after the least delay that it takes, 1,000 µs (DESIGN CHOICE); with class 1 the
bank is trying from now on. Without a directory only class 1 activates (R575, R577). [log 144 DESIGN CHOICE] -/
def execFwActivate (h : Caller) (cls : Nat) (force : Bool) (s : State) : Host.Outcome State Fault Refusal :=
  match takeIn 0x0F03 (some actUpdate) h s with
  | (s1, none) => .next s1
  | (s1, some e) =>
    match activateRefusal h cls force s1 with
    | some d => .next (finish e stRefused d 0 [] s1)
    | none =>
      if (cls ≠ 1 ∧ cls ≠ 2) ∨ (cls = 2 ∧ s1.boot.source = none) then .next (runBody e (fun _ => .hostError [(kDevice, 0)]) s1)
      else
        let s2 := closeUpdate (if cls = 1 then setStagedState .trying s1 else s1)
        .next (postResetPending (finish e stOk 0 0 [] (acceptReset cls 1000 s2)))

/-- Source 0x520 for the image that runs. -/
def postRunning (kind : Nat) (s : State) : State :=
  match s.boot.running with
  | some i => post 0x520 .info (firmwarePayload kind s.boot.source i) s
  | none => s

/-- FW_CONFIRM (R576). -/
def execFwConfirm (h : Caller) (s : State) : Host.Outcome State Fault Refusal :=
  perform 0x0F04 (some actUpdate) noCupola h (fun s =>
    if !ownsDevice h s then refuse 4 s
    else if runningState s = .good then emptyReply s
    else okay (postRunning 2 (setRunningState .good s))) s

/-- The fused minimum rises to the running image's version, with a log entry of kind 7 (R574, R575, R578). -/
def burnMinimum (s : State) : State :=
  let s1 := { s with boot := { s.boot with fuses := { s.boot.fuses with minimum := runningSecurity s } } }
  postRunning 3 (match s.boot.running with | some i => logAppend 7 i s1 | none => s1)

/-- FW_SECURITY_COMMIT (R576). [log 148 DEDUCED] -/
def execFwSecurityCommit (h : Caller) (s : State) : Host.Outcome State Fault Refusal :=
  perform 0x0F05 (some actUpdate) noCupola h (fun s =>
    if !ownsDevice h s then refuse 4 s
    else if runningState s ≠ .good then refuse 0x0F07 s
    else if runningSecurity s ≤ s.boot.fuses.minimum then emptyReply s
    else okResult (runningSecurity s) (burnMinimum s)) s

/-! ## Measurement and attestation -/

/-- The most entries that one MEASUREMENT_LOG_READ returns: 3 over the Keep port (R575, R584). -/
def logLimit (f : Fn) : Nat := match f with | .keep => 3 | _ => 1024

/-- MEASUREMENT_LOG_READ (R578). -/
def execMeasurementLogRead (h : Caller) (first count : Nat) (s : State) : Host.Outcome State Fault Refusal :=
  perform 0x0F06 none noCupola h (fun s =>
    if count = 0 ∨ logLimit h.id.fn < count then .hostError []
    else if s.boot.log.length ≤ first then emptyReply s
    else okResp (((s.boot.log.drop first).take count).flatMap logBytes) s) s

/-- The running image's key set is 1 (R580). -/
def runsSet1 (s : State) : Bool := match s.boot.running with | some i => decide (i.keySet = 1) | none => false

/-- The entries and the accumulator that a quote shows: those before the cycle's own entries (R580). -/
def quotedLog (s : State) : Nat × Nat :=
  if s.boot.logAt = s.now then (s.boot.entriesBefore, s.boot.accumulatorBefore) else (s.boot.log.length, s.boot.accumulator)

/-- Bytes 0x00–0x7F of a quote (R580). -/
def quoteBody (nonce : Nat) (s : State) : List Byte :=
  fields 128 [(2, 1), (2, (quotedLog s).1), (4, runningSecurity s), (8, Config.serial), (4, runningVersion s),
    (4, s.boot.fuses.minimum),
    (4, bit (decide (runningState s = .good)) 0 + bit (runsSet1 s) 1 + bit s.cph.zeroised 2 + bit s.boot.logFull 3 +
      bit s.boot.fuses.set1Only 4), (4, 0), (32, nonce), (48, (quotedLog s).2)]

def quote (nonce : Nat) (s : State) : List Byte :=
  quoteBody nonce s ++ be 64 (Config.identitySign (quoteBody nonce s))

/-- Quotes given in the running second of the time clock (R575; which seconds count is a DESIGN CHOICE).
[log 147 DESIGN CHOICE] -/
def quotesNow (s : State) : Nat := if s.boot.quoteSecond = s.now / 1000000000 then s.boot.quotes else 0

/-- ATTEST_QUOTE (R580). -/
def execAttestQuote (h : Caller) (nonce : Nat) (s : State) : Host.Outcome State Fault Refusal :=
  perform 0x0F07 none noCupola h (fun s =>
    if 100 ≤ quotesNow s then .done stBusy 0 0 [] s
    else okResp (quote nonce s)
      { s with boot := { s.boot with quoteSecond := s.now / 1000000000, quotes := quotesNow s + 1 } }) s

/-- IDENTITY_READ (R581). -/
def execIdentityRead (h : Caller) (s : State) : Host.Outcome State Fault Refusal :=
  perform 0x0F08 none noCupola h (fun s => okResp identityRead s) s

/-! ## Boot -/

/-- The boot registers answer only the PF of link A at stage 0xD (R571). -/
def bootRegs (fn : PciFn) (s : State) : Bool := decide (pciKey fn = 0) && decide (s.boot.stage = 0xD)

/-- GLB_BOOT_GO (R571). -/
def execGlbBootGo (fn : PciFn) (s : State) : Host.Outcome State Fault Refusal :=
  if bootRegs fn s && decide (s.boot.bootResult ≠ 1) then .next { s with boot := { s.boot with bootResult := 1 } } else .next s

/-- BOOT_IMAGE_FETCHED: the bytes that the host's memory gave, none for a read error; RESULT, and an accepted image runs (R571,
R573). -/
def execBootImageFetched (data : Option (List Byte)) (s : State) : Host.Outcome State Fault Refusal :=
  if s.boot.stage ≠ 0xD ∨ s.boot.bootResult ≠ 1 then .next s
  else
    match data.map readImage with
    | none => .next { s with boot := { s.boot with bootResult := 7 } }
    | some i =>
      let s1 := { s with boot := { s.boot with bootResult := checkImage i s } }
      if checkImage i s ≠ 2 then .next s1
      else .next (runImage none i { s1 with boot := { s1.boot with runningState := .good } })

/-- The device as the supplies find it (R46, R81, R574, R596): at reset, both links' resets asserted, its pins and fuses read. -/
def poweredUp (f : PowerOnFacts) (s : State) : State :=
  let r : State := { pending := s.pending, now := s.now, draws := s.draws, out := s.out }
  { r with
    mbx := { r.mbx with splitMode := f.pcieSplit, resetA := true, resetB := true },
    ev := { r.ev with queues := if f.pcieSplit then (List.range 128).map (fun i => (128 + i, { owner := 64 })) else [] },
    fab := { r.fab with strap := f.addrStrap.val },
    boot := { r.boot with
      flash := f.flashAnswers, refclk156 := f.refclk156, bankA := bankOfFlash f.bankA, bankB := bankOfFlash f.bankB,
      fuses := { keyHashes := f.keyHashes, revoked := f.revoked, set1Only := f.set1Only, minimum := f.fusedMinimum },
      port := { r.boot.port with addr := 0x40 + f.addrStrap.val } } }

/-- POWER_ON: the Keep comes out of reset, and a cold boot begins (R564, R596). -/
def execPowerOn (f : PowerOnFacts) (s : State) : Host.Outcome State Fault Refusal :=
  .next (romBoot none none (poweredUp f s))

/-- The class of a source whose record is owed. -/
def owedClass (src : Nat) : EvClass :=
  if src = 0x521 ∨ src = 0x2A0 then .security
  else if src = 0x4F2 then .safety
  else if src = 0x520 ∨ (0x300 ≤ src ∧ src ≤ 0x307) then .info
  else .fault

/-- The records owed since before FW_READY are posted (R568). -/
def postOwed (s : State) : State :=
  s.boot.owed.foldl (fun st r => post r.1 (owedClass r.1) r.2 st) { s with boot := { s.boot with owed := [] } }

/-- The Lantern self-tests of stage 0x3, and the safety self-test of each boot (R538, R614). [log 134 DEDUCED] -/
def bootTests (lanternsOk selfTest : BitVec 4) (s : State) : State :=
  let s1 := { s with line := { s.line with lanterns := lanternsOk &&& s.line.lanternMask } }
  let s2 := (List.range 4).foldl (fun st l =>
    if s.line.lanternMask.getLsbD l && !lanternsOk.getLsbD l then postLantern l 5 true 0 st else st) s1
  recordSelfTest 0xF selfTest s2

/-- The cupolas that something votes for come up (R515, R516); a line engine's Lantern is tested at its wake (R614).
[log 149 DEDUCED] -/
def riseAll (lanternsOk : BitVec 4) (s : State) : State :=
  (List.range 112).foldl (fun st k =>
    if isLineCupola k && !s.boot.full then riseLine (k - 64) (lanternsOk.getLsbD (k - 64)) st else riseCup k 0 st) s

/-- FW_READY: stage 0x7; a boot through stage 0x2 has run its self-tests (R567, R568, R614). -/
def execFwReady (lanternsOk selfTest : BitVec 4) (s : State) : Host.Outcome State Fault Refusal :=
  let b := s.boot
  if b.fwReady || b.running.isNone || decide (b.stage = 0xD) || decide (b.stage = 0xE) || s.pwr.keep.asleep ||
      decide (s.pwr.mainLost ≠ 0) then .next s
  else
    let s1 := riseAll lanternsOk s
    let s2 := { s1 with boot := { s1.boot with stage := 7, stageAt := s.now, full := false, fwReady := true } }
    .next (postOwed (if b.full then bootTests lanternsOk selfTest s2 else s2))

end Sys2Proof.Machine
end

