-- ==== Sys2Proof/Machine/Counters.lean ====
section
/-!
DEFINITION. Counter and meter commands and windows (R542–R553, R562).
-/
namespace Sys2Proof.Machine

/-! ## Snapshots -/

/-- The latch of R548: an unchained counter, or both of a pair at its even counter; the odd counter of a pair never
latches. -/
def latchCounter (c : Nat) (s : State) : State :=
  let v := counter s c
  if isChainedOdd c s then s
  else if chainedAbove c s then
    let w := counter s (c + 1)
    setCounter (setCounter s c { v with shadow := v.value, shadowOvf := w.overflow }) (c + 1)
      { w with shadow := w.value, shadowOvf := w.overflow }
  else setCounter s c { v with shadow := v.value, shadowOvf := v.overflow }

/-- CNT_LO, CNT_HI and CNT_EVENT as read (R547). -/
def cntLoValue (c : Nat) (s : State) : Nat := (counter s c).shadow % 2 ^ 32
def cntHiValue (c : Nat) (s : State) : Nat := (counter s c).shadow / 2 ^ 32 % 2 ^ 16 + bit (counter s c).shadowOvf 16
def cntEventValue (c : Nat) (s : State) : Nat :=
  (counter s c).event + bit (chainedAbove c s || isChainedOdd c s) 12

/-- The latch of a meter (R553). -/
def latchMeter (m : Nat) (s : State) : State :=
  let v := meter s m
  setMeter s m { v with latchBytes := v.lastBytes, latchPackets := v.lastPackets, latchPeak := v.peak, latchSeq := v.seq }

/-- The meter's registers as latched, in offset order (R553). -/
def meterWords (m : Nat) (s : State) : List Nat :=
  let v := meter s m
  [v.latchBytes % 2 ^ 32, v.latchBytes / 2 ^ 32 % 2 ^ 16, v.latchPackets, v.latchPeak % 2 ^ 32,
   v.latchPeak / 2 ^ 32 % 2 ^ 16, v.latchSeq, 0]

/-! ## Commands -/

/-- The event numbers of R543. -/
def eventDefined (e : Nat) : Bool :=
  decide (e ≤ 2) || (decide (0x10 ≤ e) && decide (e ≤ 0x16)) || (decide (0x20 ≤ e) && decide (e ≤ 0x25)) ||
  (decide (0x30 ≤ e) && decide (e ≤ 0x34)) || decide (e = 0x40) || decide (e = 0x41) ||
  (decide (0x50 ≤ e) && decide (e ≤ 0x53)) || decide (e = 0x60) || decide (e = 0x61) ||
  (decide (0x70 ≤ e) && decide (e ≤ 0x72)) || (decide (0x80 ≤ e) && decide (e ≤ 0x83)) || decide (e = 0x90)

/-- A packet event, which a domain filter restricts (R544). -/
def packetEvent (e : Nat) : Bool := decide (0x10 ≤ e) && decide (e ≤ 0x34)

/-- COUNTER_CONFIGURE, in force from the next cycle on, clearing the counter only with CLEAR (R546, R550, R562). -/
def execCounterConfigure (h : Caller) (p : CounterP) (s : State) : Host.Outcome State Fault Refusal :=
  perform 0x0E06 none noCupola h (fun s =>
    let c := p.counter.val
    let v := counter s c
    if !owns h kCounter (c / 64) s || (decide (p.domain ≠ 0xFFFF) && !ownsDomain h p.domain s) then refuse 4 s
    else if !eventDefined p.event then refuse 0x0E00 s
    else if p.chain && decide (c % 2 = 0) then refuse 0x0E01 s
    else if decide (p.domain = 0xFFFF) && isVf h.id.fn then refuse 0x0E02 s
    else if !p.wf || (decide (p.domain ≠ 0xFFFF) && !packetEvent p.event) then .hostError [(kCounter, c / 64)]
    else okay (setCounter s c { v with next := some (p.event, p.inst, p.domain, p.chain), clearNow := v.clearNow || p.clear })) s

/-- COUNTER_READ: the latch, the registers, then CLEAR in the next cycle (R562). [log 139 DEDUCED] -/
def execCounterRead (h : Caller) (isMeter : Bool) (i : Fin 2048) (clear : Bool) (s : State) :
    Host.Outcome State Fault Refusal :=
  perform 0x0E07 none noCupola h (fun s =>
    if isMeter then
      if isVf h.id.fn then refuse 4 s
      else if 256 ≤ i.val then .hostError []
      else
        let s1 := latchMeter i.val s
        let s2 := if clear then setMeter s1 i.val { meter s1 i.val with clearPeak := true } else s1
        okResp (fields 32 ((meterWords i.val s1).map (fun w => (4, w)))) s2
    else if !owns h kCounter (i.val / 64) s then refuse 4 s
    else
      let s1 := latchCounter i.val s
      let s2 := if clear then setCounter s1 i.val { counter s1 i.val with clearNext := true } else s1
      okResp (fields 32 [(4, cntLoValue i.val s1), (4, cntHiValue i.val s1), (4, 0), (4, cntEventValue i.val s1)]) s2) s

/-- METER_CONFIGURE (R552). -/
def execMeterConfigure (h : Caller) (p : MeterP) (s : State) : Host.Outcome State Fault Refusal :=
  perform 0x0E08 none noCupola h (fun s =>
    if !ownsPort h p.port s then refuse 4 s
    else if !p.wf || !portExists p.port then .hostError (if ownsPort h (meter s p.meter.val).port s then [(kMeter, p.meter.val)] else [])
    else okay (setMeter s p.meter.val { enabled := p.enable, port := p.port, egress := p.egress, windowUs := p.windowUs, since := s.now })) s

/-! ## Windows -/

def cntOffset (c off : Nat) : Nat := 0x800000 + c / 64 * 0x1000 + c % 64 * 0x10 + off
def meterOffset (m off : Nat) : Nat := 0x820000 + m * 0x20 + off

/-- The block's page is visible to the function: a session of it owns the block, or the block is assigned to it (R547). -/
def seesBlock (fn : PciFn) (b : Nat) (s : State) : Bool :=
  let o := own s kCounter b
  decide (o.assigned = some fn) ||
  (decide (o.session ≠ 0) && (session s o.session).isOpen && decide ((session s o.session).fn = pciKey fn))

/-- A read of CNT_LO (R548). -/
def execCntLo (fn : PciFn) (c : Fin 2048) (s : State) : Host.Outcome State Fault Refusal :=
  let off := cntOffset c.val 0
  if windowsDown s then .next (answer fn off 0 s)
  else if !seesBlock fn (c.val / 64) s then .next (hiddenRead fn off s)
  else
    let s1 := latchCounter c.val s
    .next (answer fn off (cntLoValue c.val s1) s1)

/-- A write of CLEAR, behind the cycle's latches (R546, R549). -/
def execCntClear (fn : PciFn) (c : Fin 2048) (s : State) : Host.Outcome State Fault Refusal :=
  if windowsDown s then .next s
  else if !seesBlock fn (c.val / 64) s then .next (violation fn (cntOffset c.val 8) true s)
  else .next (setCounter s c.val { counter s c.val with clearNow := true })

/-- A write of CLEAR_OVF (R547, R549). -/
def execCntClearOvf (fn : PciFn) (c : Fin 2048) (s : State) : Host.Outcome State Fault Refusal :=
  if windowsDown s then .next s
  else if !seesBlock fn (c.val / 64) s then .next (violation fn (cntOffset c.val 8) true s)
  else .next (setCounter s c.val { counter s c.val with clearOvf := true })

/-- A read of CNT_MTR_BYTES_LO latches every field of the meter (R553). -/
def execCntMtrBytesLo (fn : PciFn) (m : Fin 256) (s : State) : Host.Outcome State Fault Refusal :=
  let off := meterOffset m.val 0
  if windowsDown s then .next (answer fn off 0 s)
  else if !isPf fn then .next (hiddenRead fn off s)
  else
    let s1 := latchMeter m.val s
    .next (answer fn off ((meter s1 m.val).latchBytes % 2 ^ 32) s1)

/-- PEAK_CLEAR: the peak restarts with the next complete window (R553). -/
def execPeakClear (fn : PciFn) (m : Fin 256) (s : State) : Host.Outcome State Fault Refusal :=
  if windowsDown s then .next s
  else if !isPf fn then .next (violation fn (meterOffset m.val 0x18) true s)
  else .next (setMeter s m.val { meter s m.val with peak := 0 })

/-! ## Events of the counters -/

/-- COUNTER_OVERFLOW: the counter's events of the cycle carry it by `amount`, past its end; the overflow is posted as the cycle
ends (R545, R549, R551). -/
def execCounterOverflow (c : Fin 2048) (amount : Nat) (s : State) : Host.Outcome State Fault Refusal :=
  .next (addInc c.val amount s)

/-- METER_WINDOW_END: the running window of an enabled meter has ended; with packets of the cycle still to come, it ends with
the cycle (R552, R553). -/
def execMeterWindowEnd (m : Fin 256) (s : State) : Host.Outcome State Fault Refusal :=
  let v := meter s m.val
  if !v.enabled || decide (s.now < v.since + usNs v.windowUs) then .next s
  else if s.pending.isEmpty && s.pe.ingressDue.isEmpty then .next (setMeter s m.val (endWindow v))
  else .next (setMeter s m.val { v with endDue := true })

end Sys2Proof.Machine
end

