-- ==== Sys2Proof/Machine/EventCmds.lean ====
section
/-!
DEFINITION. Event queues and routes: their commands, head pages, faults and flushes (R80–R87, R554–R562, R613).
-/
namespace Sys2Proof.Machine

/-! ## Queues -/

def ownsQueueOf (h : Caller) (q : Nat) (s : State) : Bool := decide ((evq s q).owner = fnKey h.id.fn)

/-- Source 0x4F4, once the first event queue after a wake is enabled (R530, R541). -/
def postWake (s : State) : State :=
  let k := s.pwr.keep
  if k.wakeEventOwed then
    post 0x4F4 .info (k.wakeCause + k.wakeLine * 2 ^ 3 + k.ticks % 2 ^ 39 * 2 ^ 5)
      { s with pwr := { s.pwr with keep := { k with wakeEventOwed := false } } }
  else s

/-- EVENT_QUEUE_CREATE (R80). -/
def execEventQueueCreate (h : Caller) (p : EvqP) (s : State) : Host.Outcome State Fault Refusal :=
  perform 0x0E01 none noCupola h (fun s =>
    let q := p.queue.val
    if !ownsQueueOf h q s then refuse 0x0E04 s
    else if (evq s q).enabled then refuse 0x0E06 s
    else if !p.wf (isVf h.id.fn) then .hostError [(kEvq, q)]
    else okay (postWake (setEvq s q { owner := (evq s q).owner, enabled := true, log2 := p.log2, vector := p.vector,
                                      base := p.base, phase := true, armed := p.armed }))) s

/-- A ring of the function names the queue (R80). -/
def namedByRing (fn q : Nat) (s : State) : Bool :=
  s.mbx.rings.any (fun e => decide (e.1 / 64 = fn) && e.2.enabled && decide (e.2.evq = q))

/-- EVENT_QUEUE_DESTROY: the last record is written, then the queue is gone (R80, R556). -/
def execEventQueueDestroy (h : Caller) (q : Fin 256) (s : State) : Host.Outcome State Fault Refusal :=
  perform 0x0E02 none noCupola h (fun s =>
    if !ownsQueueOf h q.val s then refuse 0x0E04 s
    else if !(evq s q.val).enabled then emptyReply s
    else if namedByRing (fnKey h.id.fn) q.val s then refuse 0x0E07 s
    else
      let s1 := dropRoutes (fun k => decide (k = q.val)) (flushStage q.val s)
      okay (setEvq s1 q.val { owner := (evq s q.val).owner })) s

/-- EVENT_QUEUE_ASSIGN (R80). -/
def execEventQueueAssign (h : Caller) (q : Fin 256) (vf : Fin 64) (s : State) : Host.Outcome State Fault Refusal :=
  perform 0x0E03 none noCupola h (fun s =>
    let fn := fnKey h.id.fn
    if (evq s q.val).owner / 64 ≠ fn / 64 then refuse 0x0E04 s
    else if (evq s q.val).enabled then refuse 0x0E06 s
    else okay (setEvq s q.val { evq s q.val with owner := pfOf fn + vf.val })) s

/-- EVENT_COALESCE_SET (R559). -/
def execEventCoalesceSet (h : Caller) (q : Fin 256) (count us : Nat) (s : State) : Host.Outcome State Fault Refusal :=
  perform 0x0E04 none noCupola h (fun s =>
    if !ownsQueueOf h q.val s then refuse 0x0E04 s
    else if count = 0 ∨ 64 < count ∨ us = 0 ∨ 1000 < us then .hostError [(kEvq, q.val)]
    else okay (setEvq s q.val { evq s q.val with coalesceCount := count, coalesceUs := us })) s

/-! ## Head pages -/

def evqOffset (q off : Nat) : Nat := 0x200000 + q * 0x1000 + off

/-- A write to EVQ_HEAD reaches its queue: the function owns it; else source 0x003 (R51, R52, R87). An ARM that sends its
message at once leaves ARMED clear (R86); a write to a queue that is not enabled is discarded.
[log 170 DEDUCED, 171 DESIGN CHOICE] -/
def headWrite (fn : PciFn) (q head : Nat) (arm : Bool) (s : State) : State :=
  let e := evq s q
  if windowsDown s then s
  else if e.owner ≠ pciKey fn then violation fn (evqOffset q 0) true s
  else if !e.enabled then s
  else
    let e1 := { e with head := head % 2 ^ (e.log2 + 6) }
    if !arm then setEvq s q e1
    else if e.faulted ∨ e1.tail = e1.head then setEvq s q { e1 with armed := true }
    else sendMsix q (setEvq s q { e1 with armed := false })

/-- EVQ_HEAD (R87). -/
def execEvqHead (fn : PciFn) (q : Fin 256) (head : Nat) (s : State) : Host.Outcome State Fault Refusal :=
  .next (headWrite fn q.val head false s)

/-- EVQ_ARM: the head write with ARM set; with a record at or beyond HEAD the message goes at once (R86). -/
def execEvqArm (fn : PciFn) (q : Fin 256) (head : Nat) (s : State) : Host.Outcome State Fault Refusal :=
  .next (headWrite fn q.val head true s)

/-! ## Steps of the queues -/

/-- EVENT_QUEUE_FAULT: the last write of the queue, of one record or of a flush, has failed. Its records are lost and counted;
TAIL stays past them, and a posting discarded with the administrative queue itself is counted nowhere (R84, R613).
[log 172 DESIGN CHOICE, 173 DESIGN CHOICE] -/
def execEventQueueFault (q : Fin 256) (s : State) : Host.Outcome State Fault Refusal :=
  let e := evq s q.val
  if !e.enabled || e.faulted || decide (e.inWrite = 0) then .next s
  else
    let size := 2 ^ (e.log2 + 6)
    let s1 := emit (.eventsFailed q.val ((e.tail + size - e.inWrite % size) % size) e.inWrite)
      (setEvq s q.val { e with faulted := true, lost := satur 32 (e.lost + e.inWrite), inWrite := 0 })
    let a := adminQueue s1 e.owner
    if a = some q.val then .next s1
    else .next (postFn a 6 .error (q.val + e.owner % 64 * 2 ^ 8 + bit (decide (64 ≤ e.owner)) 14) s1)

/-- COALESCE_TIMEOUT: the stage is flushed when its oldest record is COALESCE_US old; with more to come in the cycle, at its
end, so that the count and the timer bring one flush (R559). -/
def execCoalesceTimeout (q : Fin 256) (s : State) : Host.Outcome State Fault Refusal :=
  if !stageDue q.val s then .next s
  else if s.pending.isEmpty then .next (flushStage q.val s)
  else .next { s with ev := { s.ev with flushDue := s.ev.flushDue ++ [q.val] } }

/-- RELAYED_EVENT_RECORD: a frame of kind 3 whose TAG has bit [31] set; its record is written unchanged to the queue named, if
enabled (R561). -/
def execRelayedEventRecord (tag : Nat) (payload : List Byte) (s : State) : Host.Outcome State Fault Refusal :=
  let q := tag % 2 ^ 31
  if s.boot.fwReady && Nat.testBit tag 31 && decide (q < 256) && (evq s q).enabled then
    .next (toQueue q false (readRecord payload) s)
  else .next s

/-! ## Routes -/

/-- The resource in a source's instance, if it has one (R556). [log 138 DEDUCED] -/
def sourceResource (src : Nat) : Option (Nat × Nat) :=
  if 0x100 ≤ src ∧ src < 0x240 then some (kTree, src % 64)
  else if 0x280 ≤ src ∧ src < 0x294 then some (kLine, src % 4)
  else if 0x2A4 ≤ src ∧ src < 0x2A8 then some (kLine, src % 4)
  else if 0x300 ≤ src ∧ src < 0x310 then some (kTimeBase, src % 8)
  else if 0x310 ≤ src ∧ src < 0x314 then some (kLine, src % 4)
  else if 0x320 ≤ src ∧ src < 0x328 then some (kTimeBase, src % 8)
  else if 0x340 ≤ src ∧ src < 0x380 then some (kTree, src % 64)
  else if 0x3C0 ≤ src ∧ src < 0x3F0 then some (kLaneGroup, (src - 0x3C0) / 8)
  else if 0x440 ≤ src ∧ src < 0x480 then some (kDma, src % 64)
  else if 0x500 ≤ src ∧ src < 0x520 then some (kCounter, src % 32)
  else none

def ownsSource (h : Caller) (src : Nat) (s : State) : Bool :=
  match sourceResource src with
  | some r => owns h r.1 r.2 s
  | none => ownsDevice h s

/-- Sources of class SAFETY or SECURITY, by the chapters' event tables (R557). -/
def guardedSource (src : Nat) : Bool :=
  (decide (0x180 ≤ src) && decide (src < 0x200)) || (decide (0x240 ≤ src) && decide (src < 0x248)) ||
  (decide (0x320 ≤ src) && decide (src < 0x328)) || decide (src = 0x2A0) || decide (src = 0x381) || decide (src = 0x3FB) ||
  decide (src = 0x4F2) || decide (src = 0x521)

def routeEntry (p : RouteP) : RouteEnt :=
  { queue := p.queue.val, valid := p.valid, masked := p.masked, coalesce := p.coalesce, remote := p.remote,
    address := p.address.val, remoteQueue := p.remoteQueue.val }

/-- EVENT_ROUTE_SET; the queue of a remote route is the other device's, checked there (R556, R557, R560, R562). -/
def execEventRouteSet (h : Caller) (p : RouteP) (s : State) : Host.Outcome State Fault Refusal :=
  perform 0x0E00 none noCupola h (fun s =>
    let src := p.source.val
    if src ≤ 6 then refuse 0x0E05 s
    else if !ownsSource h src s then refuse 4 s
    else if p.masked && guardedSource src then refuse 0x0E03 s
    else if !p.remote && !ownsQueueOf h p.queue.val s then refuse 0x0E04 s
    else okay (setRoute s src (routeEntry p))) s

/-- ROUTE of EVENT_SOURCE_QUERY (R562). -/
def routeField (src : Nat) (s : State) : Nat :=
  let r := route s src
  if src ≤ 6 then 0
  else r.queue + (bit r.valid 0 + bit r.masked 1 + bit r.coalesce 2 + bit r.remote 3) * 2 ^ 8 + r.address * 2 ^ 16 +
    r.remoteQueue * 2 ^ 24

/-- EVENT_SOURCE_QUERY (R562). -/
def execEventSourceQuery (h : Caller) (src : Fin 4096) (s : State) : Host.Outcome State Fault Refusal :=
  perform 0x0E05 none noCupola h (fun s =>
    let c := source s src.val
    if isVf h.id.fn && !ownsSource h src.val s then refuse 4 s
    else okResp (fields 32 [(4, routeField src.val s), (4, c.occurrences), (4, c.masked), (4, c.undelivered),
      (4, c.relayLost)]) s) s

end Sys2Proof.Machine
end

