-- ==== Sys2Proof/Machine/Fabric.lean ====
section
/-!
DEFINITION. Discovery, addresses, routes, transit, fabric time, forwarded management (R464–R482, R485).
-/
namespace Sys2Proof.Machine

/-! ## Commands -/

/-- FABRIC_CONFIGURE (R482). -/
def execFabricConfigure (h : Caller) (mgmtAllow : BitVec 64) (timePriority : Nat) (s : State) :
    Host.Outcome State Fault Refusal :=
  perform 0x0C07 none noCupola h (fun s =>
    if !ownsDevice h s then refuse 4 s
    else if 256 ≤ timePriority then .hostError [(kDevice, 0)]
    else
      let s1 := { s with fab := { s.fab with mgmtAllow := mgmtAllow, timePriority := timePriority } }
      okay (if timePriority = s.fab.timePriority then s1 else adjacencyChanged s1)) s

/-- REACHABLE (R482). -/
def reachableMask (s : State) : Nat := ((List.range 64).map (fun a => bit (reachable a s) a)).foldl (· + ·) 0

def fabricStatus (s : State) : List Byte :=
  let f := s.fab
  fields 64 [(1, f.address.getD 0 + bit f.address.isSome 6), (1, f.source.getD 0 + bit f.source.isSome 6),
    (1, timeSteps s), (5, 0), (8, reachableMask s), (2, (database s).length), (2, 0), (4, f.installs), (8, f.noRoute),
    (8, f.transitDropped), (8, f.noAddress), (8, f.noDestQueue)]

/-- FABRIC_STATUS (R482). -/
def execFabricStatus (h : Caller) (s : State) : Host.Outcome State Fault Refusal :=
  perform 0x0C08 none noCupola h (fun s => okResp (fabricStatus s) s) s

def routeBytes (r : Route) : List Byte :=
  fields 32 ([(1, r.hops), (1, r.nextHops.length), (4, r.cost), (2, 0)] ++
    ((List.range 8).map (fun i => (2, r.nextHops.getD i 0xFFFF))) ++ [(2, r.backup.getD 0xFFFF)])

/-- FABRIC_ROUTE_READ (R482). -/
def execFabricRouteRead (h : Caller) (dest : Fin 64) (s : State) : Host.Outcome State Fault Refusal :=
  perform 0x0C09 none noCupola h (fun s =>
    match routeTo dest.val s with
    | some r => if reachable dest.val s then okResp (routeBytes r) s else emptyReply s
    | none => emptyReply s) s

/-- FABRIC_DEST_BIND (R476). -/
def execFabricDestBind (h : Caller) (p : BindP) (s : State) : Host.Outcome State Fault Refusal :=
  perform 0x0C0A none noCupola h (fun s =>
    let others := s.fab.binds.filter (fun b => decide (b.queue ≠ p.queue.val))
    if !ownsDomain h p.domain.val s then refuse 4 s
    else match (queue s p.queue.val).cfg with
      | none => refuse 0x0C06 s
      | some c =>
        if c.targetKind.val ≠ 3 ∨ c.domain ≠ p.domain then refuse 0x0C06 s
        else if p.unbind then okay { s with fab := { s.fab with binds := others } }
        else if s.fab.binds.any (fun b => decide (b.dest = p.dest.val) && decide (b.domain = p.domain.val)) then
          refuse 0x0C06 s
        else okay { s with fab := { s.fab with
          binds := others ++ [{ queue := p.queue.val, domain := p.domain.val, dest := p.dest.val }] } }) s

/-! ## Hellos and adjacency -/

/-- The hello payload of a link (R469). -/
def ownHello (k : Nat) (s : State) : HelloMsg :=
  let n := (link s k).neighbour
  { version := 1, addressValid := s.fab.address.isSome, twoWay := n.isSome, bidirectional := decide ((linkGroup s k).mode = 2),
    strap := Fin.ofNat 32 s.fab.strap, address := Fin.ofNat 64 (s.fab.address.getD 0), port := linkPort k,
    neighbourPort := match n with | some x => x.port | none => 0xFFFF, serial := Config.serial,
    neighbourSerial := match n with | some x => x.serial | none => 0, lsrSeq := s.fab.lsrSeq }

/-- HELLO_SEND, every 100 µs on each enabled link (R469). -/
def execHelloSend (lane : Fin 48) (lnk : Fin 2) (s : State) : Host.Outcome State Fault Refusal :=
  let k := linkKey lane.val lnk.val
  let due := match (link s k).helloAt with | none => true | some a => decide (a + usNs 100 ≤ s.now)
  if linkUp k s && due then
    .next (sendControl k 4 (helloBytes (ownHello k s)) (setLink s k { link s k with helloAt := some s.now }))
  else .next s

/-- HELLO: what the neighbour says of itself; adjacent once it says TWO_WAY of this link (R41, R469, R482). -/
def execHello (lane : Fin 48) (lnk : Fin 2) (payload : List Byte) (s : State) : Host.Outcome State Fault Refusal :=
  let m := readHello payload
  let k := linkKey lane.val lnk.val
  if !linkUp k s || decide (m.version ≠ 1) then .next s
  else
    let v := link s k
    let n : Neighbour := { serial := m.serial, port := m.port,
                           address := if m.addressValid then some m.address.val else none,
                           bidirectional := m.bidirectional, lsrSeq := m.lsrSeq }
    let two := m.twoWay && decide (m.neighbourSerial = Config.serial) && decide (m.neighbourPort = linkPort k)
    let moved := decide (v.neighbour.bind (fun x => x.address) ≠ n.address)
    let s0 := setLink s k { v with neighbour := some n, lastHello := some s.now, twoWay := two, adjacent := v.adjacent || two }
    let s1 := if v.adjacent then s0 else postReach false s s0
    let s2 := if (two && !v.adjacent) || (v.adjacent && moved) then adjacencyChanged s1 else s1
    .next (if (link s2 k).adjacent then completeLinkEnable k stOk 0 s2 else s2)

/-- ADJACENCY_TIMEOUT: 350 µs without a hello (R41, R469). -/
def execAdjacencyTimeout (lane : Fin 48) (lnk : Fin 2) (s : State) : Host.Outcome State Fault Refusal :=
  let k := linkKey lane.val lnk.val
  match (link s k).lastHello with
  | some l => if lapsed l (usNs 350) s then .next (dropAdjacency k s) else .next s
  | none => .next s

/-! ## Link-state records -/

/-- Two records say the same but for SEQ. -/
def sameRecord (a b : LsRecord) : Bool := decide ({ a with seq := b.seq } = b)

/-- Store a newer record and flood it (R470). -/
def storeRecord (but : Option Nat) (r : LsRecord) (s : State) : State :=
  let old := s.fab.records.find? (fun x => decide (x.record.serial = r.serial))
  let newer := match old with | some x => decide (x.record.seq < r.seq) | none => true
  if !newer then s
  else
    let rest := s.fab.records.filter (fun x => decide (x.record.serial ≠ r.serial))
    let s1 := floodRecord but r
      { s with fab := { s.fab with records := rest ++ [{ record := r, refreshed := s.now }] } }
    match old with
    | some x => if sameRecord x.record r then s1 else databaseChanged s1
    | none => databaseChanged s1

/-- LINK_STATE_RECORD (R470). -/
def execLinkStateRecord (lane : Fin 48) (lnk : Fin 2) (payload : List Byte) (s : State) : Host.Outcome State Fault Refusal :=
  let r := readLinkState payload
  let k := linkKey lane.val lnk.val
  if !linkUp k s || decide (fieldAt payload 0 1 ≠ 1) then .next s
  else if r.serial = Config.serial then
    if s.fab.lsrSeq < r.seq then .next (floodSeq ((r.seq + 1) % 2 ^ 32) s) else .next s
  else .next (storeRecord (some k) r s)

/-- The own record differs from the one flooded last, but for its SEQ (R470). -/
def recordMoved (s : State) : Bool :=
  match s.fab.flooded with | some r => !sameRecord r (ownRecord s) | none => true

/-- LINK_STATE_REFRESH, each second or when the device's own record changes (R470, R478). -/
def execLinkStateRefresh (s : State) : Host.Outcome State Fault Refusal :=
  if recordMoved s then .next (databaseChanged (floodOwn s))
  else if s.fab.floodedAt + msNs 1000 ≤ s.now then .next (floodOwn s)
  else .next s

/-- LINK_STATE_EXPIRY, 3 s after the last refresh (R470). -/
def execLinkStateExpiry (serial : Nat) (s : State) : Host.Outcome State Fault Refusal :=
  match s.fab.records.find? (fun x => decide (x.record.serial = serial)) with
  | some x =>
    if lapsed x.refreshed (msNs 3000) s then
      .next (databaseChanged { s with fab := { s.fab with
        records := s.fab.records.filter (fun y => decide (y.record.serial ≠ serial)) } })
    else .next s
  | none => .next s

/-! ## Addresses -/

/-- Records in ascending SERIAL. -/
def insertRecord (r : LsRecord) : List LsRecord → List LsRecord
  | [] => [r]
  | x :: rest => if r.serial < x.serial then r :: x :: rest else x :: insertRecord r rest
def bySerial (l : List LsRecord) : List LsRecord := l.foldl (fun acc r => insertRecord r acc) []

/-- A record holds its address: valid, and of those that hold the same one its SERIAL is the lowest (R471). -/
def keepsAddress (l : List LsRecord) (r : LsRecord) : Bool :=
  r.addressValid && l.all (fun x => !x.addressValid || decide (x.address ≠ r.address) || decide (r.serial ≤ x.serial))

/-- The lowest free address. -/
def lowestFree (taken : List Nat) : Option Nat := (List.range 64).find? (fun a => !taken.contains a)

/-- The address that a device takes: its strap, 32 above it, else the lowest free (R471). -/
def chooseAddress (strap : Nat) (taken : List Nat) : Option Nat :=
  if !taken.contains strap then some strap
  else if !taken.contains (strap + 32) then some (strap + 32)
  else lowestFree taken

/-- Addresses of every device of the database, by SERIAL (R471). [log 117 DEDUCED] -/
def computeAddresses (l : List LsRecord) : List (Nat × Nat) :=
  let kept := (l.filter (keepsAddress l)).map (fun r => (r.serial, r.address.val))
  (bySerial (l.filter (fun r => !keepsAddress l r))).foldl (fun acc r =>
    match chooseAddress r.strap.val (acc.map (fun e => e.2)) with
    | some a => acc ++ [(r.serial, a)]
    | none => acc) kept

/-- ADDRESS_COMPUTATION, once the database has stayed unchanged for 10 ms (R471). -/
def execAddressComputation (s : State) : Host.Outcome State Fault Refusal :=
  if !lapsed s.fab.changed (msNs 10) s then .next s
  else
    let mine := ((computeAddresses (database s)).find? (fun e => decide (e.1 = Config.serial))).map (fun e => e.2)
    if mine = s.fab.address then .next s
    else
      let lost := s.fab.address.isSome
      let s1 := adjacencyChanged { s with fab := { s.fab with address := mine } }
      .next (post 0x3F9 .warning (mine.getD 0 + bit mine.isSome 6 + bit lost 7) s1)

/-! ## Routes -/

/-- ROUTE_INSTALL: the table computed from the database; source 0x3F8 for each address whose reachability changes
(R472, R485). -/
def execRouteInstall (s : State) : Host.Outcome State Fault Refusal :=
  .next (postReach true s { s with fab := { s.fab with routes := computeRoutes s, installs := satur 32 (s.fab.installs + 1) } })

/-! ## Frames -/

/-- Rank of a frame (R465). -/
def frameRank (hd : FabricHeader) : Nat := if hd.control then (if hd.kind.val = 1 then 0 else 1) else 2

/-- A frame for another device, received on link `via` (R466, R471, R472, R475). -/
def transitFrame (via : Nat) (hd : FabricHeader) (s : State) : State :=
  let drop (st : State) : State := { st with fab := { st.fab with transitDropped := satur 64 (st.fab.transitDropped + 1) } }
  if s.fab.address.isNone then { s with fab := { s.fab with noAddress := satur 64 (s.fab.noAddress + 1) } }
  else if !tagParityOk hd.tag || decide (hd.hops.val ≤ 1) then drop s
  else match chooseLink hd.dst.val hd.flowHash s with
    | none => { s with fab := { s.fab with noRoute := satur 64 (s.fab.noRoute + 1) } }
    | some p =>
      let k := portLink p
      let leases := (s.fab.links.flatMap (fun e => e.2.transit.filter (fun t => decide (t.via = some via) && decide (t.rank = 0)))).length
      if frameRank hd = 0 ∧ 64 ≤ leases then drop s
      else judgeStaging via (frameRank hd) (setLink s k { link s k with transit := (link s k).transit ++ [{
        rank := frameRank hd, via := some via, header := { hd with hops := Fin.ofNat 64 (hd.hops.val - 1) } }] })

/-- A forwarded command's completion has come back (R481): interim ones too, final once. -/
def forwardReply (src tag : Nat) (m : MgmtReply) (s : State) : State :=
  let key := src * 2 ^ 32 + tag
  let resp := m.resp.take 8192
  if m.final then completeRunning 0x0C0B key m.status m.detail m.result resp s
  else (s.mbx.held.filter (fun e => decide (e.opcode = 0x0C0B) && decide (e.phase = .running key))).foldl
    (fun st e => deliver e m.status false m.detail m.result resp st) s

/-- FABRIC_FRAME: delivered here, or forwarded in transit; an SOF whose CRC fails is counted (R318, R463, R475, R481). Lease,
Marl, hello and link-state payloads and forwarded commands are the business of their own commands. -/
def execFabricFrame (lane : Fin 48) (lnk : Fin 2) (sof : List Byte) (reply : Option MgmtReply) (pk : PacketIn) (s0 : State) :
    Host.Outcome State Fault Refusal :=
  let k := linkKey lane.val lnk.val
  let s := portBoundary (linkPort k) s0
  let hd := readSof sof
  if !linkUp k s then .next s
  else if !flitListed sof then .next (countFlit k sof s)
  else if s.fab.address ≠ some hd.dst.val then .next (transitFrame k hd s)
  else match hd.kind.val with
    | 0 => .next (ingress { pk with port := linkPort k, tag := hd.tag, flooded := hd.flooded, srcAddr := hd.src,
                                    length := hd.length } s)
    | 3 => (match reply with
      | some m => .next (if flagAt hd.kindFields 4 0 then forwardReply hd.src.val (fieldAt hd.kindFields 0 4) m s else s)
      | none => .next s)
    | _ => .next s

/-! ## Fabric time -/

/-- What the device's stamps of TIME flits read: its FABRIC_TB time base, or base 0 without one, in 2⁻¹⁶ ns (R384, R477).
[log 194 DEDUCED] -/
def flitStamp (s : State) : Nat := (timeBase s ((fabricTimeBase s).getD 0)).value / unitFrac

/-- Link delay and offset from the peer, by the four stamps of an exchange, in 2⁻¹⁶ ns, the asymmetry applied (R477). -/
def exchange (asym : Int) (txPeer rxLocal txLocal rxPeer : Nat) : Int × Int :=
  let a : Int := rxLocal - txPeer
  let b : Int := rxPeer - txLocal
  ((a + b) / 2, (a - b) / 2 - asym * 4096)

/-- The stamps that a flit completes: of the peer's previous flit as received, of the own flit that it names as sent. -/
def completed (v : Link) (f : TimeFlit) : Option (Nat × Nat) :=
  match v.timeRx, v.timeSent.find? (fun e => decide (e.1 = f.rxSeq)) with
  | some (q, rx), some (_, tx) => if (q + 1) % 256 = f.seq then some (rx, tx) else none
  | _, _ => none

/-- The FABRIC_TB time base that follows the fabric takes the offset of its upstream link for its phase error (R388, R478). -/
def steerFabric (k : Nat) (s : State) : State :=
  match fabricTimeBase s with
  | some b => if (timeBase s b).inputKind = 3 ∧ isSource s = false ∧ upstreamLink s = some k then measure b (link s k).offset s else s
  | none => s

/-- TIME_FLIT (R463, R477, R478). -/
def execTimeFlit (lane : Fin 48) (lnk : Fin 2) (flit : List Byte) (s : State) : Host.Outcome State Fault Refusal :=
  let k := linkKey lane.val lnk.val
  let v := link s k
  if !linkUp k s then .next s
  else if !flitListed flit || decide (fieldAt flit 0 1 ≠ 3) then .next (countFlit k flit s)
  else
    let f := readTimeFlit flit
    let x := (completed v f).map (fun e => exchange v.delayAsym f.txStamp e.1 e.2 f.rxStamp)
    let (d, o) := x.getD (v.delay, v.offset)
    let s1 := setLink s k { v with
      timeRxSeq := f.seq, timeRx := some (f.seq, flitStamp s), delay := d, offset := o,
      timeSource := if f.sourceValid then some f.source else none, timeSteps := f.steps, timeFlags := f.flags, timeAt := s.now }
    .next (rejudgeInputs (if x.isSome then steerFabric k s1 else s1))

/-- FLAGS of a TIME flit (R477). -/
def timeFlags (s : State) : Nat :=
  if isSource s then
    match fabricTimeBase s with
    | some b => let c := servoCode (timeBase s b).servo
      bit (decide (c = 2) || decide (c = 6)) 0 + bit (decide (c = 3)) 1
    | none => 0
  else match upstreamLink s with | some k => (link s k).timeFlags | none => 0

/-- TIME_FLIT_SEND, every 125 µs on each adjacent link, with the stamps of the flit sent before and of the peer's last one
(R477). -/
def execTimeFlitSend (lane : Fin 48) (lnk : Fin 2) (s : State) : Host.Outcome State Fault Refusal :=
  let k := linkKey lane.val lnk.val
  let v := link s k
  let due := match v.timeSentAt with | none => true | some a => decide (a + 125000 ≤ s.now)
  if linkAdjacent k s && due then
    let n := (v.timeSeq + 1) % 256
    let f : TimeFlit := {
      seq := n, rxSeq := v.timeRxSeq, source := s.fab.source.getD 0, sourceValid := s.fab.source.isSome, steps := timeSteps s,
      flags := timeFlags s, txStamp := match v.timeSent with | e :: _ => e.2 | [] => 0,
      rxStamp := match v.timeRx with | some e => e.2 | none => 0 }
    .next (emit (.flit (linkPort k) (timeFlitBytes f)) (setLink s k { v with
      timeSeq := n, timeSent := ((n, flitStamp s) :: v.timeSent).take 4, timeSentAt := some s.now }))
  else .next s

/-- A link has delivered a TIME flit naming the source within the last millisecond (R478). -/
def sourceHeard (a : Nat) (s : State) : Bool :=
  (adjacentLinks s).any (fun k => decide ((link s k).timeSource = some a) && decide (s.now ≤ (link s k).timeAt + msNs 1))

/-- FABRIC_TIME_SOURCE_LOST (R387, R478, R485). -/
def execFabricTimeSourceLost (s : State) : Host.Outcome State Fault Refusal :=
  match s.fab.source with
  | none => .next s
  | some a =>
    if decide (s.fab.address = some a) || s.fab.sourceLost || sourceHeard a s then .next s
    else .next (rejudgeInputs (postTimeSource { s with fab := { s.fab with sourceLost := true } }))

/-! ## Forwarded management -/

/-- The inner command of a FABRIC_FORWARD, as the device itself reads it (R481). -/
def innerHeader (p : ForwardP) : FetchHeader := readHeader .keep 0 p.inner { activity := none, lastMaint := true }

/-- FABRIC_FORWARD (R481). [log 115 DEDUCED] -/
def execFabricForward (h : Caller) (p : ForwardP) (s : State) : Host.Outcome State Fault Refusal :=
  perform 0x0C0B none noCupola h (fun s =>
    let n := (s.fab.forwards + 1) % 2 ^ 31
    if h.blockLen ≠ 128 + (innerHeader p).caller.blockLen ∨ 8192 < (innerHeader p).caller.blockLen then refuse 5 s
    else if namesForeignQueue (fnKey h.id.fn) p s then refuse 4 s
    else if !canForward p.address.val s then .done stNotPresent 0x0C03 0 [] s
    else .later (p.address.val * 2 ^ 32 + n)
      (emit (.forward p.address.val (kindThree n 0) p.inner) { s with fab := { s.fab with forwards := n } })) s
where
  /-- An inner EVENT_ROUTE_SET relays to a queue that the issuing function does not own (R560). -/
  namesForeignQueue (fn : Nat) (p : ForwardP) (s : State) : Bool :=
    match p.remoteQueue with
    | some q => decide ((innerHeader p).opcode = 0x0E00) && decide ((evq s q.val).owner ≠ fn)
    | none => false
  /-- The address is valid and another device's, with a route. -/
  canForward (a : Nat) (s : State) : Bool := decide (s.fab.address ≠ some a) && s.fab.address.isSome && reachable a s

/-- FORWARDED_COMMAND: performed as if issued by the fabric function of the sending address (R481, R485). -/
def execForwardedCommand (sender : Fin 64) (header : List Byte) (facts : BlockFacts) (s : State) :
    Host.Outcome State Fault Refusal :=
  let d := readHeader (.fabric sender) 0 header facts
  if !s.boot.fwReady || decide (256 ≤ heldOf d.caller.id.fn s) then .next s
  else .next (presentBatch d.caller.id.fn d.caller.id.ring (intake d s))

end Sys2Proof.Machine
end

