-- ==== Sys2Proof/Machine/Frames.lean ====
section
/-!
DEFINITION. Downstream frames and duty-cycled operation (R135–R138, R282, R316, R403, R518).
-/
namespace Sys2Proof.Machine

/-- A downstream queue of the tree holds data (R136). -/
def downstreamPending (t : Nat) (s : State) : Bool :=
  s.pe.queues.any (fun e => decide (e.1 < 65536) && (!e.2.onDie.isEmpty || !e.2.dram.isEmpty) &&
    (match downCtx e.1 s with | some (_, c) => decide (c.tree = t) | none => false))

/-- The tree's time base as its frames go by it: a member's are FEEDER_DELTA / 2 earlier (R403, R421). -/
def frameClock (t : Nat) (s : State) : Nat :=
  (((timeBase s (tree s t).timeBase).value + feederDelta t s * unitNs / 32) % (timeModulus : Int)).toNat

/-- The superframe counter of the tree's next frame: aligned to its time base at the first, one more after that (R403). -/
def nextSuperframe (t : Nat) (s : State) : Nat :=
  let v := tree s t
  if v.started then (v.superframe + 1) % 2 ^ 51
  else frameAt (frameClock t s)

/-- A frame of the tree begins (R135–R138, R403, R518). -/
def startFrame (t : Nat) (s : State) : State :=
  let v := tree s t
  let n := nextSuperframe t s
  let busy := downstreamPending t s || v.downBusy || v.upstreamBusy
  let duty := v.duty && !busy
  let s1 := if v.duty then moveCup t .active 0 s else s
  let s2 := setTree s1 t { v with
    started := true, aligned := true, frameStart := s.now + feederDelta t s / 32, superframe := n, frameStamps := ((timeBase s v.timeBase).value :: v.frameStamps).take 8001, upstreamBusy := false, downBusy := false, duty := duty,
    idleRun := if busy then 0 else v.idleRun + 1, dutyFrames := if duty then (v.dutyFrames + 1) % 2 ^ 32 else v.dutyFrames }
  emit (.frame t n) (if duty then moveCup t .gated 0 s2 else s2)

/-- A tree's first frame leaves at a whole multiple of 125 µs of its time base, a member's FEEDER_DELTA / 2 earlier (R403,
R421). -/
def firstAligned (t : Nat) (s : State) : Bool :=
  (tree s t).aligned || decide (frameClock t s % (125000 * unitNs) < unitNs)

/-- DOWNSTREAM_FRAME_START: a boundary at which a TREE_DISABLE takes effect (R143); a transmit fault is alarmed at its onset
(R170). -/
def execDownstreamFrameStart (t : Fin 64) (txFault : Bool) (s : State) : Host.Outcome State Fault Refusal :=
  if runsOn 0x0202 t.val s then .next (completeRunning 0x0202 t.val stOk 0 0 [] (stopTree t.val s))
  else if !sendsFrames t.val s || !firstAligned t.val s then .next s
  else
    let v := tree s t.val
    let s1 := setTree s t.val { v with txFault := txFault }
    .next (startFrame t.val (if txFault && !v.txFault then treeAlarm t.val 0 s1 else s1))

/-- DUTY_CYCLE_ENTER, after IDLE_ENTER_FRAMES idle frames; 0 keeps the tree out of it (R136, R518). -/
def execDutyCycleEnter (t : Fin 64) (s : State) : Host.Outcome State Fault Refusal :=
  let v := tree s t.val
  if !v.enabled || v.duty || decide (v.idleEnter = 0) || decide (v.idleRun < v.idleEnter) then .next s
  else .next (moveCup t.val .gated 0 (setTree s t.val { v with duty := true }))

end Sys2Proof.Machine
end

