-- ==== Sys2Proof/Machine/KeepPort.lean ====
section
/-!
DEFINITION. The Keep: its SMBus port, entry into Keep-only, wakes (R412, R528–R532, R583–R585).
-/
namespace Sys2Proof.Machine

/-! ## Waking -/

def setKeep (k : KeepRegs) (s : State) : State := { s with pwr := { s.pwr with keep := k } }

/-- The place of a wake source in the table of R529. -/
def wakeRank (cause line : Nat) : Nat := match cause with | 1 => 0 | 2 => 1 + line | 3 => 5 | _ => 6

/-- The device leaves Keep-only for a cause (0 none, 1 Keep port, 2 light, 3 supply, 4 ledger alarm): stage 0x6; the time bases
stand until the ledger resumes them; source 0x4F4 is due once an event queue is enabled. Of two sources in one tick the lower is
recorded (R413, R530, R567). -/
def wake (cause line : Nat) (s : State) : State :=
  let k := s.pwr.keep
  let tick := tickNo s.now
  let k1 : KeepRegs := { k with wakeCause := cause, wakeLine := line, wokeRank := wakeRank cause line }
  if k.asleep then
    setKeep { k1 with asleep := false, wakes := (k.wakes + 1) % 2 ^ 32, wakeEventOwed := true, wokeTick := some tick }
      { s with boot := { s.boot with stage := 6, stageAt := s.now, full := false } }
  else if k.wokeTick = some tick ∧ wakeRank cause line < k.wokeRank then setKeep k1 s
  else s

/-- LANTERN_LIGHT_WAKE: bits [3:0] of WAKE_MASK (R529). Outside Keep-only the comparator wakes nothing (R531). -/
def execLanternLightWake (line : Fin 4) (s : State) : Host.Outcome State Fault Refusal :=
  .next (if s.pwr.keep.wakeMask.getLsbD line.val then wake 2 line.val s else s)

/-- The most ticks that the ledger can have counted, CLK32K being within 20 ppm (R412, R600). -/
def ledgerMost (s : State) : Nat := (s.now - s.time.stoppedAt) * 32768 * 1000020 / 1000000000000000 + 1

/-- LEDGER_ALARM: bit [5] of WAKE_MASK; the ledger has reached ALARM_TICKS (R529). -/
def execLedgerAlarm (s : State) : Host.Outcome State Fault Refusal :=
  .next (if s.pwr.keep.wakeMask.getLsbD 5 && decide (s.pwr.keep.alarmTicks ≤ ledgerMost s) then wake 4 0 s else s)

/-! ## Entry -/

/-- What keeps the device out of Keep-only (R528). A DMA channel runs or is suspended in STATE 1 or 2. -/
def deviceInUse (s : State) : Bool :=
  s.tr.trees.any (fun e => e.2.enabled) || s.line.engines.any (fun e => e.2.enabled) ||
  s.fab.links.any (fun e => e.2.enabled) || s.pe.ports.any (fun e => decide (0x80 ≤ e.1) && e.2.enabled) ||
  s.prot.members.any (fun e => e.2.enabled) || s.mem.dma.any (fun e => decide (e.2.state = 1) || decide (e.2.state = 2))

def actKeepOnly : Activity := { kind := 11, scope := 0 }

/-- KEEP_ONLY_ENTER: entry follows, 10 ms later (R528, R540). [log 130 DEDUCED] -/
def execKeepOnlyEnter (h : Caller) (wakeMask : BitVec 8) (alarmTicks : Nat) (s : State) : Host.Outcome State Fault Refusal :=
  perform 0x0105 (some actKeepOnly) noCupola h (fun s =>
    if !ownsDevice h s then refuse 4 s
    else if decide (64 ≤ wakeMask.toNat) || decide (2 ^ 64 ≤ alarmTicks) then .hostError [(kDevice, 0)]
    else if deviceInUse s || s.pwr.keep.entering then refuse 0x0113 s
    else okay (keepActivity actKeepOnly
      (setKeep { s.pwr.keep with wakeMask := wakeMask, alarmTicks := alarmTicks, entering := true,
                                 enterAt := s.now + msNs 10 } s))) s

/-- KEEP_ONLY_ENTRY, 10 ms after the command: the time bases are saved and stop, every function is as after class 0, the cupolas
but the Keep lose power; a WAKE that came meanwhile takes effect at once (R412, R514, R515, R528, R584). -/
def execKeepOnlyEntry (s : State) : Host.Outcome State Fault Refusal :=
  let k := s.pwr.keep
  if !k.entering || decide (s.now < k.enterAt) then .next s
  else
    let s1 := restartWhere (fun _ => true) (endActivity actKeepOnly s)
    let s2 := (List.range 112).foldl (fun st c =>
      if alwaysUp c || decide ((cup st c).state = .fenced) then st else moveCup c .off 0 st) s1
    let s3 := setKeep { k with entering := false, asleep := true, wakeOwed := false }
      { s2 with
        boot := { s2.boot with fwReady := false }, time := { s2.time with stopped := true, stoppedAt := s2.now },
        pwr := { s2.pwr with clk32kLostAsleep := s2.pwr.clk32kLost } }
    .next (if k.wakeOwed then wake 1 0 s3 else s3)

/-! ## The Keep port -/

def setPort (p : KeepPort) (s : State) : State := { s with boot := { s.boot with port := p } }

/-- A transaction of a code is accepted (RESULT 0) or refused by the lease (1) (R585). -/
def portTook (code result : Nat) (s : State) : State :=
  let p := s.boot.port
  setPort { p with lastCode := code, lastResult := result,
                   transactions := if result = 0 then satur 16 (p.transactions + 1) else p.transactions } s

/-- A write is NACKed and ignored; `pec` that its PEC is missing or wrong (R583, R585). -/
def portNack (code : Nat) (pec : Bool) (s : State) : State :=
  let p := s.boot.port
  setPort { p with lastCode := code, lastResult := 2, nacks := satur 8 (p.nacks + 1),
                   pecErrors := if pec then satur 8 (p.pecErrors + 1) else p.pecErrors } s

/-- A Block Read answers bytes. -/
def portAnswer (code : Nat) (data : List Byte) (s : State) : State := emit (.keepPort code data) (portTook code 0 s)

/-- KEEP_STATUS (R532). -/
def keepStatus (s : State) : Nat :=
  let k := s.pwr.keep
  bit k.feedA 0 + bit k.feedB 1 + bit (alarm s) 2 + k.wakeCause * 2 ^ 8 + k.wakeLine * 2 ^ 11

/-- STATUS: in Keep-only the BOOT_STAGE shown is an open value (R584). -/
def execKeepPortStatus (s : State) : Host.Outcome State Fault Refusal :=
  let (stage, s1) := if s.pwr.keep.asleep then ((draw s).1 % 16, (draw s).2) else (s.boot.stage % 16, s)
  let b := stage + bit s.boot.fwReady 4 + bit s.boot.fwFault 5 + bit (safeState s) 6 + bit s.pwr.keep.asleep 7
  .next (portAnswer 1 (fields 8 [(4, keepStatus s), (1, b)]) s1)

/-- WAKE; one that comes while the device enters Keep-only waits for the entry (R529, R584). -/
def execKeepPortWake (pecOk : Bool) (s : State) : Host.Outcome State Fault Refusal :=
  if !pecOk then .next (portNack 2 true s)
  else
    let s1 := portTook 2 0 s
    .next (if s.pwr.keep.entering then setKeep { s.pwr.keep with wakeOwed := true } s1 else wake 1 0 s1)

/-- RESET: class 2 or 3 after 1 ms, refused while the lease logic holds a lease (R584). -/
def execKeepPortReset (pecOk : Bool) (data : BitVec 8) (s : State) : Host.Outcome State Fault Refusal :=
  let cls := data.toNat % 4
  if !pecOk then .next (portNack 3 true s)
  else if cls < 2 ∨ data.toNat / 4 % 32 ≠ 0 then .next (portNack 3 false s)
  else if holdsLease s && !data.getLsbD 7 then .next (portTook 3 1 s)
  else .next (acceptReset cls 1000 (portTook 3 0 s))

/-- KEEP_PORT_LEDGER (R584). -/
def execKeepPortLedger (s : State) : Host.Outcome State Fault Refusal := .next (portAnswer 4 (le 6 s.pwr.keep.ticks) s)
/-- KEEP_PORT_IDENTITY (R584). -/
def execKeepPortIdentity (s : State) : Host.Outcome State Fault Refusal := .next (portAnswer 5 serialAndKey s)

/-- BOOT_SOURCE: 0 automatic, 1 host, 2 bank A, 3 bank B; a byte above 3 is NACKed as an unknown code is (DESIGN CHOICE) (R584).
[log 151 DESIGN CHOICE] -/
def execKeepPortBootSource (pecOk : Bool) (data : BitVec 8) (s : State) : Host.Outcome State Fault Refusal :=
  if !pecOk then .next (portNack 6 true s)
  else if 3 < data.toNat then .next (portNack 6 false s)
  else .next (setPort { (portTook 6 0 s).boot.port with bootSource := data.toNat } (portTook 6 0 s))

/-- CMD: a mailbox command of the Keep port's own function; NOT_PRESENT before FW_READY and in Keep-only (R584). -/
def execKeepPortCmd (pecOk : Bool) (header : List Byte) (facts : BlockFacts) (s : State) : Host.Outcome State Fault Refusal :=
  if !pecOk then .next (portNack 0x10 true s)
  else if s.boot.port.cmdPending then .next (portNack 0x10 false s)
  else
    let d := readHeader .keep 0 header { facts with activity := none }
    let s1 := portTook 0x10 0 s
    let s2 := setPort { s1.boot.port with cmdPending := true, result := none } s1
    if !s.boot.fwReady then .next (deliver (mkHeld d .fetched s2) stNotPresent true 0 0 [] s2)
    else .next (intake d s2)

/-- RESULT: READY and, once there is one, the completion with its response (R584). -/
def execKeepPortResult (s : State) : Host.Outcome State Fault Refusal :=
  .next (portAnswer 0x11 (match s.boot.port.result with | some r => 1 :: r | none => [0]) s)

end Sys2Proof.Machine
end

