-- ==== Sys2Proof/Machine/Pools.lean ====
section
/-!
DEFINITION. Buffer pool commands and the operations as the units issue them (R362–R374).
-/
namespace Sys2Proof.Machine

/-! ## Operations -/

/-- The priority of a request: SYSTEM from cores and DMA channels, BULK from spill read-back, CONTROL or BULK, as the packet is,
from ingress (R371). -/
def requestPriority (r priority : Nat) : Nat := if 0x20 ≤ r then 2 else if r < 8 then min priority 1 else 0

/-- ALLOC (R362). [log 91 DEDUCED] -/
def execAlloc (r : Nat) (cls : Fin 4) (priority : Fin 3) (listOk : Bool) (s : State) : Host.Outcome State Fault Refusal :=
  .next (takeAlloc { requester := r, cls := cls.val, priority := requestPriority r priority.val, pool := mappedPool r cls.val s,
                     since := s.now } listOk s)

/-- SHARE (R362). -/
def execShare (r ptr k : Nat) (ecc : Fin 3) (s : State) : Host.Outcome State Fault Refusal :=
  .next (takeOp (.share r ptr k ecc.val) s)

/-- GIVE (R362). -/
def execGive (r ptr owner : Nat) (ecc : Fin 3) (s : State) : Host.Outcome State Fault Refusal :=
  .next (takeOp (.give r ptr owner ecc.val) s)

/-- FREE (R362). -/
def execFree (r ptr : Nat) (ecc : Fin 3) (s : State) : Host.Outcome State Fault Refusal :=
  .next (takeOp (.free r ptr ecc.val) s)

/-- The first held request of a requester and class. -/
def heldAlloc (r cls : Nat) (s : State) : Option HeldAlloc :=
  s.pool.held.find? (fun h => decide (h.requester = r) && decide (h.cls = cls))

def dropHeldAlloc (h : HeldAlloc) (s : State) : State := { s with pool := { s.pool with held := s.pool.held.erase h } }

/-- ALLOC_RETRY: a held request is presented again (R363). -/
def execAllocRetry (r : Nat) (cls : Fin 4) (listOk : Bool) (s : State) : Host.Outcome State Fault Refusal :=
  match heldAlloc r cls.val s with
  | none => .next s
  | some h => .next (takeAlloc h listOk (dropHeldAlloc h s))

/-- BP_HOLD of the pool where the request started has passed: so many core cycles since it was held (R363). -/
def holdExpired (h : HeldAlloc) (s : State) : Bool :=
  decide ((poolCfg h.pool s).bpHold * 10 < (s.now - h.since) * coreTenths s.pwr.pl)

/-- BP_HOLD_EXPIRY: pipeline ingress drops its packet, counted in the pool where it started (R363). -/
def execBpHoldExpiry (r : Nat) (cls : Fin 4) (s : State) : Host.Outcome State Fault Refusal :=
  match heldAlloc r cls.val s with
  | none => .next s
  | some h =>
    if 8 ≤ r || !holdExpired h s then .next s
    else
      let v := pool s h.pool
      .next (setPool (dropHeldAlloc h s) h.pool { v with dropped := satur 32 (v.dropped + 1) })

/-! ## Commands -/

/-- The extents of two pools meet. -/
def extentsMeet (a b : PoolP) : Bool :=
  a.enable && b.enable && decide (a.baseKib < b.baseKib + b.sizeKib) && decide (b.baseKib < a.baseKib + a.sizeKib)

/-- Extent multiples, the packet buffer's size, no overlap (R353). -/
def extentOk (p : PoolP) (s : State) : Bool :=
  decide (p.baseKib % 64 = 0) && decide (p.sizeKib % 64 = 0) && decide (p.baseKib + p.sizeKib ≤ 131072) &&
  (List.range 16).all (fun q => decide (q = p.pool.val) || !extentsMeet p (poolCfg q s))

/-- POOL_CONFIGURE (R373). -/
def execPoolConfigure (h : Caller) (p : PoolP) (s : State) : Host.Outcome State Fault Refusal :=
  perform 0x0900 none noCupola h (fun s =>
    let q := p.pool.val
    let c := poolCfg q s
    let moved := decide (p.enable ≠ c.enable) || decide (p.baseKib ≠ c.baseKib) || decide (p.sizeKib ≠ c.sizeKib)
    if !ownsDevice h s then refuse 4 s
    else if 1024 < p.bpHold then .hostError [(kDevice, 0)]
    else if moved && decide (0 < allocated q s) then refuse 0x900 s
    else if p.enable && !extentOk p s then refuse 0x901 s
    else
      let v := pool s q
      let v1 := if moved then { v with freed := [], fresh := 0, quarantined := [], corrupt := false, level := 0,
                                       lowWater := none } else v
      okay (judgePool q (setPool s q { v1 with cfg := some { p with bpHold := if p.bpHold = 0 then 64 else p.bpHold } }))) s

def poolStatus (q : Nat) (s : State) : List Byte :=
  let v := pool s q
  let c := poolCfg q s
  fields 64 [(1, q), (1, bit c.enable 0 + bit c.spillUp 1 + bit v.corrupt 2), (1, v.level), (1, q / 4),
    (4, poolBuffers q s), (4, freeCount q s), (4, v.lowWater.getD (freeCount q s)), (8, v.allocs), (4, v.emptyReturns),
    (4, v.spillUpOut), (4, v.dropped), (4, v.doubleFree), (4, v.nonOwnerFree), (4, v.badPointer), (4, v.limit),
    (2, v.eccFailed), (2, v.eccCorrected), (1, v.lastRequester), (3, 0), (4, v.lastPointer)]

/-- POOL_STATUS (R374). -/
def execPoolStatus (h : Caller) (q : Fin 16) (s : State) : Host.Outcome State Fault Refusal :=
  perform 0x0901 none noCupola h (fun s =>
    if !ownsDevice h s then refuse 4 s
    else okResp (poolStatus q.val s) (setPool s q.val { pool s q.val with lowWater := some (freeCount q.val s) })) s

def setMapEntry (r c i : Nat) (s : State) : State :=
  { s with pool := { s.pool with map := tset 0 (r * 4 + c) i s.pool.map } }

/-- POOL_MAP_SET (R373). -/
def execPoolMapSet (h : Caller) (r : Nat) (c0 c1 c2 c3 : Fin 4) (s : State) : Host.Outcome State Fault Refusal :=
  perform 0x0902 none noCupola h (fun s =>
    if !ownsDevice h s then refuse 4 s
    else if !requesterOk r then refuse 0x902 s
    else okay (setMapEntry r 3 c3.val (setMapEntry r 2 c2.val (setMapEntry r 1 c1.val (setMapEntry r 0 c0.val s))))) s

/-- POOL_REBUILD (R373). [log 90 DEDUCED] -/
def execPoolRebuild (h : Caller) (q : Fin 16) (s : State) : Host.Outcome State Fault Refusal :=
  perform 0x0903 none noCupola h (fun s =>
    if !ownsDevice h s then refuse 4 s
    else
      let s1 := judgePool q.val (setPool s q.val { pool s q.val with freed := [], fresh := 0, quarantined := [],
                                                                     corrupt := false })
      okResult (freeCount q.val s1) s1) s

end Sys2Proof.Machine
end

