-- ==== Sys2Proof/Machine/Rings.lean ====
section
/-!
DEFINITION. Rings: their commands, doorbells, fetches, timeouts and faults (R57–R89, R612).
-/
namespace Sys2Proof.Machine

/-! ## Ring commands -/

/-- A ring right after it is enabled: indices 0, expected phase 1 (R61, R68, R612). -/
def freshRing (sqLog2 cqLog2 evq sqBase cqBase : Nat) : Ring :=
  { enabled := true, phase := true, sqLog2 := sqLog2, cqLog2 := cqLog2, evq := evq, sqBase := sqBase, cqBase := cqBase }

/-- RING_CREATE (R80). -/
def execRingCreate (h : Caller) (p : RingP) (s : State) : Host.Outcome State Fault Refusal :=
  perform 0x0010 none noCupola h (fun s =>
    let fn := fnKey h.id.fn
    if p.ring.val = 0 then refuse 0x0105 s
    else if (ring s fn p.ring.val).enabled then refuse 0x0106 s
    else if (evq s p.evq.val).owner ≠ fn then refuse 0x0107 s
    else if !p.wf then .hostError [(kRing, fn * 64 + p.ring.val)]
    else okay (setRing s fn p.ring.val (freshRing p.sqLog2 p.cqLog2 p.evq.val p.sqBase p.cqBase))) s

/-- RING_DESTROY waits for the fetched commands of its ring (R80). -/
def execRingDestroy (h : Caller) (k : Fin 64) (s : State) : Host.Outcome State Fault Refusal :=
  let o := perform 0x0011 none noCupola h (fun s =>
    let fn := fnKey h.id.fn
    if k.val = 0 then refuse 0x0105 s
    else if k = h.id.ring then refuse 0x0108 s
    else if !(ring s fn k.val).enabled then emptyReply s
    else .later k.val (presentBatch h.id.fn k (setRing s fn k.val { ring s fn k.val with closing := true }))) s
  match o with
  | .next s1 => .next (settle s1)
  | other => other

/-! ## Doorbell pages -/

/-- MBX_SQ_TAIL: the slots up to the new tail become visible (R62, R612). -/
def execMbxSqTail (fn : PciFn) (k : Fin 64) (tail : Nat) (s : State) : Host.Outcome State Fault Refusal :=
  let r := ring s (pciKey fn) k.val
  if windowsDown s || !r.enabled then .next s
  else .next (moveTail fn k tail s)

/-- MBX_CQ_HEAD: entries are released, completions that wait are written, fetching resumes (R69, R612). -/
def execMbxCqHead (fn : PciFn) (k : Fin 64) (head : Nat) (s : State) : Host.Outcome State Fault Refusal :=
  let r := ring s (pciKey fn) k.val
  if windowsDown s || !r.enabled then .next s
  else
    let r1 := { r with cqHead := head % 2 ^ (r.cqLog2 + 6) }
    let s1 := setRing s (pciKey fn) k.val { r1 with cqFull := !cqRoom r1 }
    .next (settle (drainWaiting (pciKey fn) k.val r.waiting.length s1))

/-- The fields of MBX_ADMIN_CTRL as stored (R9, R61). [log 162 DEDUCED] -/
def storeCtrl (fn : PciFn) (sqLog2 cqLog2 : Nat) (q : Fin 256) (s : State) : State :=
  setFnRegs s (pciKey fn) { fnRegs s (pciKey fn) with sqLog2 := sqLog2, cqLog2 := cqLog2, evq := q.val }

/-- A write of MBX_ADMIN_CTRL with ENABLE 1 (R61): it enables ring 0 only when that was disabled. -/
def execAdminRingEnable (fn : PciFn) (sqLog2 cqLog2 : Nat) (q : Fin 256) (s : State) : Host.Outcome State Fault Refusal :=
  if windowsDown s then .next s
  else
    let s1 := storeCtrl fn (sqLog2 % 16) (cqLog2 % 16) q s
    let g := fnRegs s1 (pciKey fn)
    if (ring s (pciKey fn) 0).enabled then .next s1
    else .next (setRing s1 (pciKey fn) 0 (freshRing (sqLog2 % 16) (cqLog2 % 16) q.val
      (g.sqBaseLo + g.sqBaseHi * 2 ^ 32) (g.cqBaseLo + g.cqBaseHi * 2 ^ 32)))

/-- The completions of a ring's commands are discarded from now on (R61, R88). -/
def discardRing (fn k : Nat) (s : State) : State :=
  setHeld s (s.mbx.held.map (fun e =>
    if fnKey e.id.fn = fn ∧ e.id.ring.val = k then { e with discard := true } else e))

/-- A write of MBX_ADMIN_CTRL with ENABLE 0: what has been fetched runs to its end, its maintenance commands presented (R61, R76,
R519). -/
def execAdminRingDisable (fn : PciFn) (sqLog2 cqLog2 : Nat) (q : Fin 256) (s : State) : Host.Outcome State Fault Refusal :=
  if windowsDown s then .next s
  else
    let s1 := storeCtrl fn (sqLog2 % 16) (cqLog2 % 16) q s
    if (ring s (pciKey fn) 0).enabled then
      .next (presentBatch (.pci fn) 0
        (withdrawVotes (voteHolder (pciKey fn) 0) (setRing (discardRing (pciKey fn) 0 s1) (pciKey fn) 0 {})))
    else .next s1

/-! ## The mailbox's own steps -/

/-- Fetching from the ring has paused (R69, R76, R78). [log 29 DEDUCED] -/
def fetchPaused (f : PciFn) (k : Fin 64) (s : State) : Bool :=
  (ring s (pciKey f) k.val).cqFull || decide (256 ≤ heldOf (.pci f) s)

/-- The batch under way has been fetched whole: fewer batches are left than before (R62). -/
def batchDone (f : PciFn) (k : Fin 64) (s s1 : State) : Bool :=
  decide ((ring s1 (pciKey f) k.val).batches.length < (ring s (pciKey f) k.val).batches.length)

/-- COMMAND_FETCH: in its turn of the rotation a ring's next command is fetched and checked, or, where its slots are not all
visible, the turn passes on. The batch's maintenance commands are presented once the last of them, or the whole batch, has
been fetched, or at a pause (R62, R63, R74, R76–R78, R88). [log 26 DESIGN CHOICE] -/
def execCommandFetch (f : PciFn) (k : Fin 64) (header : List Byte) (facts : BlockFacts) (s : State) :
    Host.Outcome State Fault Refusal :=
  let d := readHeader (.pci f) k header facts
  if nextServed s = some (pciKey f * 64 + k.val) then
    let s0 := passTurn (pciKey f) k.val s
    if visible f k d.caller.inlineSlots s then
      let s1 := intake d (advanceSq f k (d.caller.inlineSlots + 1) s0)
      if d.lastMaint || batchDone f k s s1 || fetchPaused f k s1 then .next (presentBatch (.pci f) k s1) else .next s1
    else .next s0
  else if fetchPaused f k s then .next (presentBatch (.pci f) k s)
  else .next s

/-- The command's timeout has reached its limit, in a cycle that is over, and was not stopped (R41, R72, R122). -/
def timedOut (e : Held) (s : State) : Bool := !e.untimed && lapsed e.fetchedAt (usNs e.timeoutUs) s

/-- COMMAND_TIMEOUT (R72, R73, R106, R122, R123). -/
def execCommandTimeout (id : CmdId) (s : State) : Host.Outcome State Fault Refusal :=
  match s.mbx.held.find? (fun e => decide (e.id = id) && timedOut e s) with
  | none => .next s
  | some e => .next (finish e stTimeout 0 0 [] (undoHeld e s))

/-- The code of a ring fault in source 0x000 (R84). -/
def faultCode (kind : Fin 4) : Nat := kind.val + 1

/-- The command whose parameter block could not be read is not performed (R88). -/
def dropUnread (fn : PciFn) (k : Fin 64) (kind : Fin 4) (tag : Nat) (s : State) : State :=
  if kind.val = 1 then
    match s.mbx.held.find? (fun e => decide (e.id = { fn := .pci fn, ring := k, tag := tag }) &&
        (decide (e.phase = .fetched) || decide (e.phase = .batched))) with
    | some e => dropHeld e.num s
    | none => s
  else s

/-- RING_FAULT (R84, R88): kind 0 command fetch, 1 parameter read, 2 completion write, 3 response write. [log 30 DEDUCED] -/
def execRingFault (fn : PciFn) (k : Fin 64) (kind : Fin 4) (tag : Nat) (s : State) : Host.Outcome State Fault Refusal :=
  let r := ring s (pciKey fn) k.val
  if !r.enabled || r.faulted then .next s
  else
    let s1 := discardRing (pciKey fn) k.val (dropUnread fn k kind tag
      (setRing s (pciKey fn) k.val { r with faulted := true, waiting := [] }))
    .next (settle (presentBatch (.pci fn) k (postFn (some r.evq) 0 .error
      (k.val + fn.num.val * 2 ^ 6 + bit fn.linkB 12 + faultCode kind * 2 ^ 13) s1)))

end Sys2Proof.Machine
end

