-- ==== Sys2Proof/Machine/Supply.lean ====
section
/-!
DEFINITION. Supplies, clocks and temperature (R593–R600, R605, R610).
-/
namespace Sys2Proof.Machine

/-! ## Main rails -/

/-- Every TREE_TXEN falls (R594, R605). -/
def dropTxen (s : State) : State :=
  { s with tr := { s.tr with trees := tmap {} (fun _ t => { t with txen := false }) s.tr.trees } }

/-- Every Lantern transmitter is dark: the line engines stop (R594). -/
def stopLines (s : State) : State := (List.range 4).foldl (fun st l => stopLine l st) s

/-- A rail is lost outside Keep-only: VCORE, VSRAM and VR_PGOOD zeroise; what is to be posted is owed until power returns (R300,
R593, R594). [log 40 DEDUCED] -/
def railsLost (rails : BitVec 10) (s : State) : State :=
  let z := rails.getLsbD 0 || rails.getLsbD 1 || rails.getLsbD 9
  let s1 := { s with
    boot := { s.boot with fwReady := false, stage := 0 },
    pwr := { s.pwr with mainLost := s.pwr.mainLost ||| rails } }
  let s2 := if z then announceZeroised 1 (!s.cph.zeroised) (zeroise s1) else s1
  owe 0x542 (rails.toNat + bit z 10) (stopLines (dropTxen s2))

/-- MAIN_RAIL_LOSS; in Keep-only the monitors record only the return (R594). [log 38 DEDUCED] -/
def execMainRailLoss (rails : BitVec 10) (s : State) : Host.Outcome State Fault Refusal :=
  if rails = 0 then .next s
  else if s.pwr.keep.asleep then .next { s with pwr := { s.pwr with mainLost := s.pwr.mainLost ||| rails } }
  else .next (railsLost rails s)

/-- MAIN_RAILS_GOOD: wake source [4] in Keep-only after a loss, else a cold boot after one (R529, R564, R594, R597). -/
def execMainRailsGood (s : State) : Host.Outcome State Fault Refusal :=
  let s1 := { s with pwr := { s.pwr with mainLost := 0 } }
  if s.pwr.mainLost = 0 then .next s
  else if s.pwr.keep.asleep then .next (if s.pwr.keep.wakeMask.getLsbD 4 then wake 3 0 s1 else s1)
  else if s.boot.stage = 6 then .next s1
  else .next (resetCold s1)

/-! ## Keep feeds -/

/-- Source 0x380: which feeds are present (R442, R448, R595). -/
def postFeeds (s : State) : State := post 0x380 .fault (bit s.pwr.keep.feedA 0 + bit s.pwr.keep.feedB 1) s

/-- Both feeds are lost: the Keep resets, and with it everything but the flash, the fuses and the pins (R302, R565, R595).
[log 39 DEDUCED] -/
def keepDown (s : State) : State :=
  let r : State := { pending := s.pending, now := s.now, draws := s.draws, out := s.out }
  { r with
    mbx := { r.mbx with splitMode := s.mbx.splitMode, resetA := s.mbx.resetA, resetB := s.mbx.resetB },
    ev := { r.ev with queues := if s.mbx.splitMode then (List.range 128).map (fun i => (128 + i, { owner := 64 })) else [] },
    pwr := { r.pwr with keep := { r.pwr.keep with feedA := false, feedB := false }, mainLost := s.pwr.mainLost,
                        refclkLost := s.pwr.refclkLost, clk32kLost := s.pwr.clk32kLost },
    fab := { r.fab with strap := s.fab.strap },
    boot := { r.boot with flash := s.boot.flash, refclk156 := s.boot.refclk156, bankA := s.boot.bankA, bankB := s.boot.bankB,
                          fuses := s.boot.fuses, port := { r.boot.port with addr := s.boot.port.addr } } }

/-- Whether a feed is present, its loss counted, and its restoration (R531, R595). -/
def feedOf (feedB : Bool) (k : KeepRegs) : Bool := if feedB then k.feedB else k.feedA
def loseFeed (feedB : Bool) (k : KeepRegs) : KeepRegs :=
  if feedB then { k with feedB := false, feedLossB := satur 16 (k.feedLossB + 1) }
  else { k with feedA := false, feedLossA := satur 16 (k.feedLossA + 1) }
def restoreFeed (feedB : Bool) (k : KeepRegs) : KeepRegs := if feedB then { k with feedB := true } else { k with feedA := true }

/-- The other feed changes the other way in the same cycle: its row is still to come (R595). -/
def swapAwaits (loss feedB : Bool) (s : State) : Bool :=
  s.pending.any (fun c => match c with
    | .keepFeedLoss b => !loss && decide (b ≠ feedB)
    | .keepFeedRestore b => loss && decide (b ≠ feedB)
    | _ => false) && (feedOf (!feedB) s.pwr.keep != loss)

/-- KEEP_FEED_LOSS. With the other feed restored in the same cycle the Keep stays up, and one record reports both (R595). -/
def execKeepFeedLoss (feedB : Bool) (s : State) : Host.Outcome State Fault Refusal :=
  let k := s.pwr.keep
  if !feedOf feedB k then .next s
  else
    let k1 := loseFeed feedB k
    if swapAwaits true feedB s then .next (postFeeds (setKeep (restoreFeed (!feedB) k1) s))
    else if !k1.feedA && !k1.feedB then .next (keepDown s)
    else .next (postFeeds (setKeep k1 s))

/-- KEEP_FEED_RESTORE; a Keep that had reset starts again, and the device with it from stage 0x0 (DEDUCED). With the other feed
lost in the same cycle one record reports both (R595, R596). -/
def execKeepFeedRestore (feedB : Bool) (s : State) : Host.Outcome State Fault Refusal :=
  let k := s.pwr.keep
  if feedOf feedB k then .next s
  else
    let k1 := restoreFeed feedB k
    if !k.feedA && !k.feedB then .next (if s.pwr.mainLost = 0 then romBoot none none (setKeep k1 s) else setKeep k1 s)
    else if swapAwaits false feedB s then .next (postFeeds (setKeep (loseFeed (!feedB) k1) s))
    else .next (postFeeds (setKeep k1 s))

/-! ## Clocks -/

/-- Source 0x541: [0] REFCLK and not CLK32K, [1] lost (R610). -/
def postClock (refclk lost : Bool) (s : State) : State := post 0x541 .warning (bit refclk 0 + bit lost 1) s

/-- A time base not in FREE_RUN or HOST enters HOLDOVER; a pending correction is gone (R388, R599). [log 99 DEDUCED] -/
def holdBase (b : Nat) (s : State) : State :=
  let v := timeBase s b
  if v.servo = .freeRun ∨ v.servo = .host then s
  else enterServo b .holdover 3 (setTimeBase s b { v with pending := none })

/-- REFCLK_LOSS (R599). -/
def execRefclkLoss (s : State) : Host.Outcome State Fault Refusal :=
  if s.pwr.refclkLost then .next s
  else .next ((List.range 8).foldl (fun st b => holdBase b st)
    (postClock true true { s with pwr := { s.pwr with refclkLost := true } }))

/-- REFCLK_RETURN (R599). -/
def execRefclkReturn (s : State) : Host.Outcome State Fault Refusal :=
  if !s.pwr.refclkLost then .next s
  else .next (rejudgeInputs (postClock true false { s with pwr := { s.pwr with refclkLost := false } }))

/-- CLK32K_LOSS; in Keep-only the sleep's ledger is then not to be trusted (R600). -/
def execClk32kLoss (s : State) : Host.Outcome State Fault Refusal :=
  if s.pwr.clk32kLost then .next s
  else .next (postClock false true { s with pwr := { s.pwr with
    clk32kLost := true, clk32kLostAsleep := s.pwr.clk32kLostAsleep || s.time.stopped } })

/-- CLK32K_RETURN (R600). -/
def execClk32kReturn (s : State) : Host.Outcome State Fault Refusal :=
  if !s.pwr.clk32kLost then .next s
  else .next (postClock false false { s with pwr := { s.pwr with clk32kLost := false } })

/-! ## Temperature -/

/-- Source 0x540 (R610). -/
def postThermal (kind sensor : Nat) (temp : Int) (s : State) : State :=
  post 0x540 .fault (kind + sensor * 2 ^ 2 + twos 16 temp * 2 ^ 7) s

/-- THERMAL_WARNING (R605). [log 132 DEDUCED] -/
def execThermalWarning (sensor : Fin 20) (temp : Int) (s : State) : Host.Outcome State Fault Refusal :=
  if s.pwr.warned then .next s
  else .next (postThermal 0 sensor.val temp { s with pwr := { s.pwr with warned := true } })

/-- THERMAL_WARNING_CLEAR (R605). -/
def execThermalWarningClear (sensor : Fin 20) (temp : Int) (s : State) : Host.Outcome State Fault Refusal :=
  if !s.pwr.warned then .next s
  else .next (postThermal 1 sensor.val temp { s with pwr := { s.pwr with warned := false } })

/-- A cupola is fenced by the trip; a pipeline's leaves service, a line engine's is dark (R314, R523, R605). -/
def tripCupola (k : Nat) (s : State) : State :=
  if alwaysUp k then s
  else if isPipelineCupola k then
    (if inService (k - 68) s then failPipeline (k - 68) 1 s else moveCup k .fenced 3 s)
  else if isLineCupola k then fenceLine (k - 64) s
  else moveCup k .fenced 3 s

/-- THERMAL_TRIP (R605). -/
def execThermalTrip (sensor : Fin 20) (temp : Int) (s : State) : Host.Outcome State Fault Refusal :=
  if s.pwr.tripped then .next s
  else
    let s1 := dropTxen { s with pwr := { s.pwr with warned := true, tripped := true } }
    let s2 := (List.range 112).foldl (fun st k => failWaits k (tripCupola k st)) s1
    .next (postThermal 2 sensor.val temp s2)

end Sys2Proof.Machine
end

