-- ==== Sys2Proof/Machine/Tables.lean ====
section
/-!
DEFINITION. Table commands and table command registers (R331–R335, R349).
-/
namespace Sys2Proof.Machine

/-! ## Mailbox commands -/

/-- Pipelines whose learn tables a command acts on: one, or with TABLE 9 every one in service (R349). -/
def learnTargets (table : Nat) (s : State) : List Nat :=
  if table = 9 then servingPipes s else [table]

/-- TABLE names the learn table of a failed pipeline (R349). -/
def failedTable (table : Nat) (s : State) : Bool := decide (table < 8) && !inService table s

/-- Insert a learn entry in every target; the index in the first, or none where one is full. [log 85 DEDUCED] -/
def insertAll (e : LearnEntry) (s : State) : List Nat → Option Nat × State
  | [] => (none, s)
  | [p] => insertLearn p e s
  | p :: ps =>
    let r := insertLearn p e s
    let t := insertAll e r.2 ps
    (match r.1, t.1 with | some i, some _ => some i | _, _ => none, t.2)

/-- The bridge entry may be written by the session: both domains its own, the queue the destination's (R331). -/
def bridgeOk (h : Caller) (key data : Nat) (s : State) : Bool :=
  ownsDomain h (keyDomain key) s && ownsDomain h (data % 4096) s &&
  decide (queueDomain (dataQueue data) s = some (data % 4096))

def ownsAll (h : Caller) (ds : List Nat) (s : State) : Bool := ds.all (fun d => ownsDomain h d s)

/-- The domains of the entry that a service key now holds. -/
def heldDomains (key : Nat) (s : State) : List Nat :=
  match serviceIndex key s with
  | some i => (match serviceEntry s i with | some e => serviceDomains e.key e.data | none => [])
  | none => []

/-- TABLE_WRITE (R349). -/
def execTableWrite (h : Caller) (p : TableP) (s : State) : Host.Outcome State Fault Refusal :=
  perform 0x0804 none noCupola h (fun s =>
    let key := p.key.toNat
    let data := p.data.toNat
    if p.table.val = 8 then
      if serviceKind key = 1 then
        (if !bridgeOk h key data s then refuse 0x802 s
         else match insertService key data (noteTables s) with
          | (some i, s1) => okResult i s1
          | (none, s1) => limitReply 0x801 s1)
      else if 2 < serviceKind key then .hostError []
      else if !ownsAll h (serviceDomains key data ++ heldDomains key s) s then refuse 4 s
      else match insertService key data (noteTables s) with
        | (some i, s1) => okResult i s1
        | (none, s1) => limitReply 0x801 s1
    else if !ownsDomain h (key / 2 ^ 48 % 4096) s then refuse 4 s
    else if failedTable p.table.val s then .done stFaulted 0x807 0 [] s
    else match insertAll (learnOf key data s) (noteTables s) (learnTargets p.table.val s) with
      | (some i, s1) => okResult i s1
      | (none, s1) => limitReply 0x801 s1) s

/-- KEY and DATA of a table entry as 32 bytes. -/
def entryPair (key data : Nat) : List Byte := le 16 key ++ le 16 data

/-- TABLE_READ (R349). [log 82 DEDUCED] -/
def execTableRead (h : Caller) (p : TableP) (s : State) : Host.Outcome State Fault Refusal :=
  perform 0x0805 none noCupola h (fun s =>
    let key := p.key.toNat
    if p.table.val = 9 then .hostError []
    else if p.table.val = 8 then
      (if serviceKind key ≠ 0 ∧ ownsDomain h (keyDomain key) s = false then refuse 4 s
       else match findService key s with
        | none => emptyReply s
        | some (_, e) => if ownsAll h (serviceDomains e.key e.data) s then okResp (entryPair e.key e.data) s else refuse 4 s)
    else if !ownsDomain h (key / 2 ^ 48 % 4096) s then refuse 4 s
    else if failedTable p.table.val s then .done stFaulted 0x807 0 [] s
    else match findLearn p.table.val (key % 2 ^ 60) s with
      | none => emptyReply s
      | some (_, e) => okResp (entryPair e.key (learnData e)) s) s

/-- Remove a learn entry by key from a table: whether there was one. -/
def removeLearn (p key : Nat) (s : State) : Bool × State :=
  let b := learnBucket key
  match wayWhere s p b (fun e => match e with | some x => decide (x.key = key) | none => false) with
  | some w => (true, setLearn s p (b * 4 + w) none)
  | none => (false, s)

def removeAll (key : Nat) (s : State) : List Nat → Bool × State
  | [] => (false, s)
  | p :: ps =>
    let r := removeLearn p key s
    let t := removeAll key r.2 ps
    (r.1 || t.1, t.2)

/-- TABLE_DELETE (R349). -/
def execTableDelete (h : Caller) (p : TableP) (s : State) : Host.Outcome State Fault Refusal :=
  perform 0x0806 none noCupola h (fun s =>
    let key := p.key.toNat
    if p.table.val = 8 then
      (match serviceIndex key s with
        | none => emptyReply s
        | some i => if ownsAll h (heldDomains key s) s then okay (setService (noteTables s) i none) else refuse 4 s)
    else if !ownsDomain h (key / 2 ^ 48 % 4096) s then refuse 4 s
    else if failedTable p.table.val s then .done stFaulted 0x807 0 [] s
    else match removeAll (key % 2 ^ 60) (noteTables s) (learnTargets p.table.val s) with
      | (true, s1) => okay s1
      | (false, s1) => emptyReply s1) s

/-- LEARN_CONFIGURE (R349). -/
def execLearnConfigure (h : Caller) (p : LearnP) (s : State) : Host.Outcome State Fault Refusal :=
  perform 0x0807 none noCupola h (fun s =>
    if !ownsDevice h s then refuse 4 s
    else if !p.wf then .hostError [(kDevice, 0)]
    else okay { s with pe := { s.pe with learn := {
      ageScanMs := if p.ageScanMs = 0 then 20000 else p.ageScanMs, ageLimit := if p.ageLimit = 0 then 15 else p.ageLimit,
      random := p.random, moveHoldMs := if p.moveHoldMs = 0 then 1000 else p.moveHoldMs } } }) s

/-- A service entry names the domain. -/
def serviceOf (d : Nat) (e : Option ServiceEntry) : Bool :=
  match e with | some x => (serviceDomains x.key x.data).contains d | none => false

/-- TABLE_FLUSH (R349). -/
def execTableFlush (h : Caller) (d : Fin 4096) (learnedOnly : Bool) (s : State) : Host.Outcome State Fault Refusal :=
  perform 0x080B none noCupola h (fun s =>
    if !ownsDomain h d.val s then refuse 4 s
    else
      let s := noteTables s
      okay { s with pe := { s.pe with
      learned := s.pe.learned.filter (fun e => match e.2 with
        | some x => decide (x.key / 2 ^ 48 ≠ d.val) || (learnedOnly && x.isStatic)
        | none => false),
      service := if learnedOnly then s.pe.service else s.pe.service.filter (fun e => !serviceOf d.val e.2) } }) s

/-- DOMAIN_CONFIGURE (R349). -/
def execDomainConfigure (h : Caller) (p : DomainP) (s : State) : Host.Outcome State Fault Refusal :=
  perform 0x0803 none noCupola h (fun s =>
    if h.blockLen ≠ 64 + 64 * ((p.flood.length + 31) / 32) then refuse 5 s
    else if !ownsDomain h p.domain.val s then refuse 4 s
    else if 1024 < p.flood.length then .hostError [(kDomain, p.domain.val)]
    else if p.flood.any (fun q => decide (queueDomain q.val s ≠ some p.domain.val)) then refuse 0x803 s
    else
      let c : DomainCfg := { learn := p.learn, floodUnknown := p.floodUnknown, floodMulticast := p.floodMulticast,
                             flood := p.flood.map (fun q => q.val) }
      okay { s with pe := { s.pe with domains := tset {} p.domain.val c s.pe.domains } }) s

/-! ## Table command registers -/

def tablePage (s : State) (t : Nat) : TablePage := tget {} t s.pe.pages
def setTablePage (s : State) (t : Nat) (v : TablePage) : State :=
  { s with pe := { s.pe with pages := tset {} t v s.pe.pages } }

/-- RESULT codes of R332. -/
def resOk : Nat := 0
def resNotFound : Nat := 1
def resFull : Nat := 2
def resDenied : Nat := 3
def resDiscarded : Nat := 4
def resParity : Nat := 5

/-- An operation starts: what it loads is shown when it completes (R333). [log 83 DEDUCED] -/
def startOp (t result index key data : Nat) (s : State) : State :=
  let v := tablePage s t
  setTablePage s t { v with busy := some (result, index, key, data), ops := (v.ops + 1) % 2 ^ 16 }

/-- BAR0 offset of a table page's TBL_CMD (R332). -/
def pageOffset (t : Nat) : Nat := 0x500000 + t * 0x1000

/-- A write to TBL_CMD reaches its page: a PF's, the pipeline neither fenced nor asleep, no operation under way (R51,
R53, R332, R333, R522). -/
def onTable (fn : PciFn) (t : Nat) (op : State → State) (s : State) : State :=
  if windowsDown s then s
  else if !isPf fn then violation fn (pageOffset t) true s
  else if t < 8 ∧ (inService t s = false ∨ (cup s (68 + t)).state = .fenced) then fencedAccess fn (68 + t) (pageOffset t) true s
  else
    let s1 := if t < 8 ∧ (cup s (68 + t)).state ≠ .active then moveCup (68 + t) .active 2 s else s
    if (tablePage s1 t).busy.isSome then setTablePage s1 t { tablePage s1 t with result := resDiscarded } else op s1

/-- Every domain is owned by a session of the issuing PF itself (R334). -/
def ownsAllDomains (fn : PciFn) (ds : List Nat) (s : State) : Bool := ds.all (fun d => fnOwnsDomain (pciKey fn) d s)

/-- TBL_READ (R333). -/
def execTblRead (fn : PciFn) (t : Fin 9) (s : State) : Host.Outcome State Fault Refusal :=
  .next (onTable fn t.val (fun s =>
    let i := (tablePage s t.val).index
    if t.val < 8 then
      match (if i < 262144 then learnEntry s t.val i else none) with
      | none => startOp t.val resNotFound i 0 0 s
      | some e =>
        if !ownsAllDomains fn [e.key / 2 ^ 48] s then startOp t.val resDenied i 0 0 s
        else startOp t.val (if e.parity then resParity else resOk) i e.key (learnData e) s
    else
      match serviceEntry s i with
      | none => startOp t.val resNotFound i 0 0 s
      | some e =>
        if !ownsAllDomains fn (serviceDomains e.key e.data) s then startOp t.val resDenied i 0 0 s
        else startOp t.val (if e.parity then resParity else resOk) i e.key e.data s) s)

/-- TBL_SEARCH (R333). -/
def execTblSearch (fn : PciFn) (t : Fin 9) (s : State) : Host.Outcome State Fault Refusal :=
  .next (onTable fn t.val (fun s =>
    let v := tablePage s t.val
    let key := v.key.toNat
    if t.val < 8 then
      if !ownsAllDomains fn [key / 2 ^ 48 % 4096] s then startOp t.val resDenied v.index key 0 s
      else match findLearn t.val (key % 2 ^ 60) s with
        | none => startOp t.val resNotFound v.index key 0 s
        | some (i, e) => startOp t.val resOk i e.key (learnData e) s
    else if serviceKind key ≠ 0 ∧ ownsAllDomains fn [keyDomain key] s = false then startOp t.val resDenied v.index key 0 s
    else match findService key s with
      | none => startOp t.val resNotFound v.index key 0 s
      | some (i, e) =>
        if ownsAllDomains fn (serviceDomains e.key e.data) s then startOp t.val resOk i e.key e.data s
        else startOp t.val resDenied v.index key 0 s) s)

/-- TBL_INSERT (R333). -/
def execTblInsert (fn : PciFn) (t : Fin 9) (s : State) : Host.Outcome State Fault Refusal :=
  .next (onTable fn t.val (fun s =>
    let v := tablePage s t.val
    let key := v.key.toNat
    let data := v.data.toNat
    let finish (r : Option Nat × State) : State :=
      match r.1 with
      | some i => startOp t.val resOk i key data r.2
      | none => startOp t.val resFull v.index key data r.2
    if t.val < 8 then
      if !ownsAllDomains fn [key / 2 ^ 48 % 4096] s then startOp t.val resDenied v.index key data s
      else finish (insertLearn t.val (learnOf key data s) (noteTables s))
    else if serviceKind key = 1 ∨ 2 < serviceKind key ∨
        ownsAllDomains fn (serviceDomains key data ++ heldDomains key s) s = false then startOp t.val resDenied v.index key data s
    else finish (insertService key data (noteTables s))) s)

/-- TBL_DELETE (R333). -/
def execTblDelete (fn : PciFn) (t : Fin 9) (s : State) : Host.Outcome State Fault Refusal :=
  .next (onTable fn t.val (fun s =>
    let v := tablePage s t.val
    let key := v.key.toNat
    let data := v.data.toNat
    if t.val < 8 then
      if !ownsAllDomains fn [key / 2 ^ 48 % 4096] s then startOp t.val resDenied v.index key data s
      else match removeLearn t.val (key % 2 ^ 60) (noteTables s) with
        | (true, s1) => startOp t.val resOk v.index key data s1
        | (false, s1) => startOp t.val resNotFound v.index key data s1
    else if serviceKind key = 1 ∨ (serviceKind key ≠ 0 ∧ ownsAllDomains fn [keyDomain key] s = false) then
      startOp t.val resDenied v.index key data s
    else match serviceIndex key s with
      | none => startOp t.val resNotFound v.index key data s
      | some i =>
        if ownsAllDomains fn (heldDomains key s) s then startOp t.val resOk v.index key data (setService (noteTables s) i none)
        else startOp t.val resDenied v.index key data s) s)

/-- TABLE_OPERATION_COMPLETE: RESULT is set, BUSY clears, the registers are loaded (R333). -/
def execTableOperationComplete (t : Fin 9) (s : State) : Host.Outcome State Fault Refusal :=
  let v := tablePage s t.val
  match v.busy with
  | none => .next s
  | some (r, i, key, data) => .next (setTablePage s t.val { v with
      busy := none, result := r, index := i, key := BitVec.ofNat 128 key, data := BitVec.ofNat 128 data })

/-- The next aging pass is due: AGE_SCAN_MS after the last (R327). -/
def scanDue (p : Nat) (s : State) : Bool := inService p s && decide ((pipe s p).scannedAt + msNs s.pe.learn.ageScanMs ≤ s.now)

/-- Lookups of this cycle are still to come (R327, R335). -/
def lookupsToCome (s : State) : Bool :=
  !s.pe.ingressDue.isEmpty || s.pending.any (fun c => match c with | .packetIngress _ => true | _ => false)

/-- AGE_SCAN: where lookups of its cycle are still to come, at the end of the cycle (R327). -/
def execAgeScan (p : Fin 8) (s : State) : Host.Outcome State Fault Refusal :=
  if !scanDue p.val s then .next s
  else
    let s1 := setPipe s p.val { pipe s p.val with scannedAt := s.now }
    if lookupsToCome s then .next { s1 with pe := { s1.pe with scansDue := s1.pe.scansDue ++ [p.val] } }
    else .next (ageScan p.val s1)

end Sys2Proof.Machine
end

