-- ==== Sys2Proof/Machine/Registers.lean ====
section
/-!
DEFINITION. The registers of BAR0 (R7–R10, R51–R54, R60, R85, R278, R332, R380, R506, R532, R547, R553, R571, R585): what a
read answers, and a write to a register that has no row of its own.
-/
namespace Sys2Proof.Machine

/-! ## Words -/

/-- The 32 bits of word `i`. -/
def wordOf (x i : Nat) : Nat := x / 2 ^ (32 * i) % 2 ^ 32
/-- Replace the 32 bits of word `i`. -/
def putWord (x i v : Nat) : Nat := x - wordOf x i * 2 ^ (32 * i) + v % 2 ^ 32 * 2 ^ (32 * i)
/-- The signed number that 64 bits spell. -/
def signed64 (x : Nat) : Int := if x % 2 ^ 64 < 2 ^ 63 then (x % 2 ^ 64 : Nat) else ((x % 2 ^ 64 : Nat) : Int) - 2 ^ 64

/-! ## Windows -/

/-- The windows of R51. -/
inductive Window where
  | glb | mbx | evq | camp | key | tbl | cnt | keep | reserved
deriving DecidableEq, Repr

def windowOf (offset : Nat) : Window :=
  match offset / 0x100000 with
  | 0 => .glb | 1 => .mbx | 2 => .evq | 3 => .camp | 4 => .key | 5 => .tbl | 8 => .cnt | 15 => .keep | _ => .reserved

/-- The function sees the register at an offset, to read or to write it (R51, R547, R553). [log 166 DEDUCED] -/
def sees (fn : PciFn) (offset : Nat) (write : Bool) (s : State) : Bool :=
  match windowOf offset with
  | .glb => true
  | .mbx => true
  | .evq => decide ((evq s (offset / 0x1000 % 256)).owner = pciKey fn)
  | .camp => isPf fn || !write
  | .key => true
  | .tbl => isPf fn
  | .cnt =>
    let o := offset % 0x100000
    if o < 0x20000 then seesBlock fn (o / 0x1000) s else if o < 0x22000 then isPf fn else true
  | .keep => isPf fn && !write
  | .reserved => false

/-! ## What a read answers -/

/-- GLB_STATUS (R54). -/
def glbStatus (fn : PciFn) (s : State) : Nat :=
  bit s.boot.fwReady 0 + bit s.boot.fwFault 1 + bit (fnRegs s (pciKey fn)).sessionReset 2 + bit (safeState s) 3 +
  s.boot.stage % 16 * 2 ^ 4 + bit fn.linkB 16 + fn.num.val * 2 ^ 17

/-- The MMU page (R506). -/
def mmuWord (p : MmuPage) (off : Nat) : Nat :=
  match off with
  | 0x00 => wordOf p.root 0 | 0x04 => wordOf p.root 1
  | 0x0C => if p.busy = 0 then 0 else 1
  | 0x10 => wordOf p.invalVa 0 | 0x14 => wordOf p.invalVa 1 % 2 ^ 20
  | 0x18 => wordOf p.faultVa 0 | 0x1C => wordOf p.faultVa 1 % 2 ^ 20
  | 0x20 => bit p.valid 0 + p.kind % 4 * 2 + bit p.write 3 + bit p.bar2 4 + p.channel % 64 * 2 ^ 5 + p.count % 2 ^ 16 * 2 ^ 16
  | _ => 0

/-- The global block (R54, R506, R571). -/
def glbWord (fn : PciFn) (o : Nat) (s : State) : Nat :=
  if o / 0x1000 = 1 then mmuWord (mmuPage s (pciKey fn)) (o % 0x1000)
  else match o with
  | 0x00 => Config.glbId
  | 0x08 => glbStatus fn s
  | 0x10 => (fnRegs s (pciKey fn)).scratch
  | 0x20 => if bootRegs fn s then s.boot.bootAddrLo else 0
  | 0x24 => if bootRegs fn s then s.boot.bootAddrHi else 0
  | 0x28 => if bootRegs fn s then s.boot.bootLen else 0
  | 0x30 => if bootRegs fn s then s.boot.bootResult else 0
  | _ => 0

/-- A doorbell page (R60). -/
def mbxWord (fn : PciFn) (o : Nat) (s : State) : Nat :=
  let k := o / 0x1000
  let r := ring s (pciKey fn) k
  let g := fnRegs s (pciKey fn)
  if 64 ≤ k then 0
  else if o % 0x1000 = 8 then bit r.enabled 0 + bit r.cqFull 1 + bit r.faulted 2 + r.sqHead % 2 ^ 16 * 2 ^ 16
  else match o with
  | 0x10 => g.sqBaseLo | 0x14 => g.sqBaseHi | 0x18 => g.cqBaseLo | 0x1C => g.cqBaseHi
  | 0x20 => g.sqLog2 % 16 + g.cqLog2 % 16 * 2 ^ 4 + g.evq % 256 * 2 ^ 8 + bit (ring s (pciKey fn) 0).enabled 31
  | _ => 0

/-- A head page (R85). -/
def evqWord (o : Nat) (s : State) : Nat :=
  let e := evq s (o / 0x1000)
  match o % 0x1000 with
  | 4 => e.tail % 2 ^ 16 + bit e.enabled 16 + bit e.armed 17 + bit e.faulted 18
  | 8 => e.lost % 2 ^ 32
  | _ => 0

/-- A time base's page, its snapshot as taken (R380). -/
def campWord (o : Nat) (s : State) : Nat :=
  let v := timeBase s (o / 0x1000)
  if 8 ≤ o / 0x1000 then 0
  else match o % 0x1000 with
  | 0x00 => fracOf v.snapshot | 0x04 => nsOf v.snapshot
  | 0x08 => wordOf (secOf v.snapshot) 0 | 0x0C => wordOf (secOf v.snapshot) 1
  | 0x10 => servoCode v.servo + bit v.pending.isSome 3 + bit v.checkFault 4 + bit (decide (v.inputKind = 4)) 5 +
      bit v.latched 6 + v.stepSeq % 256 * 2 ^ 8
  | 0x14 => uncertainty v s.now
  | 0x18 => twos 32 v.adj
  | 0x2C => v.adjResult % 4 + v.applied % 2 ^ 16 * 2 ^ 16
  | _ => 0

/-- A key window page (R278). -/
def keyWord (fn : PciFn) (o : Nat) (s : State) : Nat :=
  let p := keyPage s (pciKey fn)
  match o with
  | 0x30 => p.target.toNat
  | 0x40 => bit p.busy.isSome 0 + p.result % 8 * 2 + p.commits % 2 ^ 16 * 2 ^ 16
  | _ => 0

/-- A table command page (R332). -/
def tblWord (o : Nat) (s : State) : Nat :=
  let t := o / 0x1000
  let v := tablePage s t
  let off := o % 0x1000
  if 9 ≤ t then 0
  else if off = 4 then bit v.busy.isSome 0 + v.result % 8 * 2 + v.ops % 2 ^ 16 * 2 ^ 16
  else if off = 8 then v.index % 2 ^ 23
  else if 0x10 ≤ off ∧ off < 0x20 then wordOf v.key.toNat (off / 4 - 4)
  else if 0x20 ≤ off ∧ off < 0x30 then wordOf v.data.toNat (off / 4 - 8)
  else 0

/-- The counter snapshots, as latched (R547, R553). -/
def cntWord (o : Nat) (s : State) : Nat :=
  if o < 0x20000 then
    let c := o / 0x1000 * 64 + o % 0x1000 / 0x10
    if o % 0x1000 < 0x400 then
      match o % 0x10 with
      | 0 => cntLoValue c s | 4 => cntHiValue c s | 12 => cntEventValue c s | _ => 0
    else 0
  else if o < 0x22000 then (meterWords ((o - 0x20000) / 0x20) s).getD (o % 0x20 / 4) 0
  else 0

/-- The Keep mirror (R532, R585). -/
def keepWord (o : Nat) (s : State) : Nat :=
  let k := s.pwr.keep
  let p := s.boot.port
  match o with
  | 0x00 => keepStatus s
  | 0x04 => wordOf k.ticks 0 | 0x08 => wordOf k.ticks 1 % 2 ^ 16
  | 0x0C => k.wakes % 2 ^ 32
  | 0x10 => k.feedLossA % 2 ^ 16 + k.feedLossB % 2 ^ 16 * 2 ^ 16
  | 0x20 => p.addr % 128
  | 0x24 => p.transactions % 2 ^ 16 + p.pecErrors % 256 * 2 ^ 16 + p.nacks % 256 * 2 ^ 24
  | 0x28 => p.lastCode % 256 + p.lastResult % 4 * 2 ^ 8
  | _ => 0

def registerWord (fn : PciFn) (offset : Nat) (s : State) : Nat :=
  let o := offset % 0x100000
  match windowOf offset with
  | .glb => glbWord fn o s | .mbx => mbxWord fn o s | .evq => evqWord o s | .camp => campWord o s | .key => keyWord fn o s
  | .tbl => tblWord o s | .cnt => cntWord o s | .keep => keepWord o s | .reserved => 0

/-! ## What a read does -/

/-- The snapshot that a read takes first: of a time base, a counter, a meter (R381, R548, R553). -/
def latchFor (offset : Nat) (s : State) : State :=
  let o := offset % 0x100000
  match windowOf offset with
  | .camp =>
    if o / 0x1000 < 8 ∧ o % 0x1000 = 0 then
      let v := timeBase s (o / 0x1000)
      setTimeBase s (o / 0x1000) (if v.latched then { v with latched := false } else { v with snapshot := v.value })
    else s
  | .cnt =>
    if o < 0x20000 ∧ o % 0x1000 < 0x400 ∧ o % 0x10 = 0 then latchCounter (o / 0x1000 * 64 + o % 0x1000 / 0x10) s
    else if 0x20000 ≤ o ∧ o < 0x22000 ∧ o % 0x20 = 0 then latchMeter ((o - 0x20000) / 0x20) s
    else s
  | _ => s

/-- The pipeline whose cupola holds the register: that of a learn-table page (R51, R522). [log 21 DEDUCED] -/
def sleepingPage (offset : Nat) : Option Nat :=
  let t := offset % 0x100000 / 0x1000
  if windowOf offset = .tbl ∧ t < 8 then some t else none

/-- The page of a pipeline that is fenced or out of service (R53, R335). -/
def pageFenced (t : Nat) (s : State) : Bool := !inService t s || decide ((cup s (68 + t)).state = .fenced)

/-- An access to a learn-table page wakes its pipeline (R53, R522). -/
def wakePage (t : Nat) (s : State) : State := if (cup s (68 + t)).state = .active then s else moveCup (68 + t) .active 2 s

/-! ## BAR4 -/

/-- The entries of a function's MSI-X table (R45). -/
def vectorsOf (fn : PciFn) : Nat := if isPf fn then 256 else 16

/-- A word of BAR4: the MSI-X table at 0x0000, an entry's address, data and vector control; the pending-bit array at 0x8000
(R48). [log 169 PRESUMED] -/
def bar4Word (fn : PciFn) (o : Nat) (s : State) : Nat :=
  let k := pciKey fn
  if o < 16 * vectorsOf fn then
    let e := msixEntry s k (o / 16)
    match o % 16 with
    | 0 => wordOf e.addr 0 | 4 => wordOf e.addr 1 | 8 => e.data % 2 ^ 32 | _ => bit e.masked 0
  else if 0x8000 ≤ o ∧ o - 0x8000 < vectorsOf fn / 8 then
    (List.range 32).foldl (fun w j =>
      let v := (o - 0x8000) * 8 + j
      if v < vectorsOf fn then w + bit (msixEntry s k v).waits j else w) 0
  else 0

/-- A write to the MSI-X table; an entry that waits sends its message when its mask is lifted (R45, R48). -/
def writeBar4 (fn : PciFn) (o v : Nat) (s : State) : State :=
  let k := pciKey fn
  if o < 16 * vectorsOf fn then
    let e := msixEntry s k (o / 16)
    match o % 16 with
    | 0 => setMsixEntry s k (o / 16) { e with addr := putWord e.addr 0 v }
    | 4 => setMsixEntry s k (o / 16) { e with addr := putWord e.addr 1 v }
    | 8 => setMsixEntry s k (o / 16) { e with data := v }
    | _ =>
      let s1 := setMsixEntry s k (o / 16) { e with masked := decide (v % 2 = 1), waits := e.waits && decide (v % 2 = 1) }
      if e.waits && decide (v % 2 = 0) then signalVector k (o / 16) s1 else s1
  else s

/-- The access is aligned and within its BAR, 16 MiB or 64 KiB (R7, R48). -/
def inBar (a : BarAccess) : Bool := decide (a.offset % 4 = 0) && decide (a.offset < if a.bar4 then 0x10000 else 0x1000000)

/-- REGISTER_READ: hidden, fenced, or answered (R48, R51–R53, R522, R568); an access that is not aligned, or beyond its BAR, is a
host error and answers an open value (R7, R13). [log 19 DEDUCED] -/
def execRegisterRead (a : BarAccess) (s : State) : Host.Outcome State Fault Refusal :=
  if !inBar a then .next (mayRestart (pciKey a.fn) (answer a.fn a.offset ((draw s).1 % 2 ^ 32) (draw s).2))
  else if a.bar4 then .next (answer a.fn a.offset (bar4Word a.fn a.offset s) s)
  else if windowsDown s && decide (windowOf a.offset ≠ .glb) then .next (answer a.fn a.offset 0 s)
  else if !sees a.fn a.offset false s then .next (hiddenRead a.fn a.offset s)
  else match sleepingPage a.offset with
    | some t =>
      if pageFenced t s then
        .next (answer a.fn a.offset 0xFFFFFFFF (fencedAccess a.fn (68 + t) a.offset false s))
      else .next (answer a.fn a.offset (registerWord a.fn a.offset s) (wakePage t s))
    | none =>
      let s1 := latchFor a.offset s
      .next (answer a.fn a.offset (registerWord a.fn a.offset s1) s1)

/-! ## What a write does -/

/-- A write in the global block: SESSION_RESET is cleared by a 1; the boot registers take a write at stage 0xD from the PF of link
A alone (R54, R506, R571). -/
def writeGlb (fn : PciFn) (o v : Nat) (s : State) : State :=
  let k := pciKey fn
  let b := s.boot
  match o with
  | 0x08 => if v / 4 % 2 = 1 then setFnRegs s k { fnRegs s k with sessionReset := false } else s
  | 0x10 => setFnRegs s k { fnRegs s k with scratch := v }
  | 0x20 => if bootRegs fn s then { s with boot := { b with bootAddrLo := v / 4096 * 4096 } } else s
  | 0x24 => if bootRegs fn s then { s with boot := { b with bootAddrHi := v } } else s
  | 0x28 => if bootRegs fn s then { s with boot := { b with bootLen := v % 2 ^ 26 } } else s
  | 0x1010 => setMmuPage s k { mmuPage s k with invalVa := putWord (mmuPage s k).invalVa 0 v }
  | 0x1014 => setMmuPage s k { mmuPage s k with invalVa := putWord (mmuPage s k).invalVa 1 (v % 2 ^ 20) }
  | 0x1020 => if v % 2 = 1 then setMmuPage s k { mmuPage s k with valid := false, count := 0 } else s
  | _ => s

/-- A write to the administrative bases, whose bits [11:0] are written as zero (R60, R61). -/
def writeMbx (fn : PciFn) (o v : Nat) (s : State) : State :=
  let g := fnRegs s (pciKey fn)
  match o with
  | 0x10 => setFnRegs s (pciKey fn) { g with sqBaseLo := v / 4096 * 4096 }
  | 0x14 => setFnRegs s (pciKey fn) { g with sqBaseHi := v }
  | 0x18 => setFnRegs s (pciKey fn) { g with cqBaseLo := v / 4096 * 4096 }
  | 0x1C => setFnRegs s (pciKey fn) { g with cqBaseHi := v }
  | _ => s

/-- A write to CAMP_PHASE (R380). -/
def writeCamp (o v : Nat) (s : State) : State :=
  let b := o / 0x1000
  let i := o % 0x1000 / 4 - 8
  if b < 8 ∧ (o % 0x1000 = 0x20 ∨ o % 0x1000 = 0x24) then
    setTimeBase s b { timeBase s b with phaseReg := signed64 (putWord (twos 64 (timeBase s b).phaseReg) i v) }
  else s

/-- A write to the staging registers of the key window (R278). -/
def writeKey (fn : PciFn) (o v : Nat) (s : State) : State :=
  let p := keyPage s (pciKey fn)
  if o < 0x20 then setKeyPage s (pciKey fn) { p with data := BitVec.ofNat 256 (putWord p.data.toNat (o / 4) v) }
  else if o < 0x2C then setKeyPage s (pciKey fn) { p with salt := BitVec.ofNat 96 (putWord p.salt.toNat (o / 4 - 8) v) }
  else if o = 0x2C then setKeyPage s (pciKey fn) { p with ssci := BitVec.ofNat 32 v }
  else if o = 0x30 then setKeyPage s (pciKey fn) { p with target := BitVec.ofNat 32 v &&& 0xFF0DFFFF }
  else if o = 0x34 then setKeyPage s (pciKey fn) { p with limit := BitVec.ofNat 48 (putWord p.limit.toNat 0 v) }
  else if o = 0x38 then setKeyPage s (pciKey fn) { p with limit := BitVec.ofNat 48 (putWord p.limit.toNat 1 (v % 2 ^ 16)) }
  else s

/-- A write to a table page's operands (R332). -/
def writeTbl (o v : Nat) (s : State) : State :=
  let t := o / 0x1000
  let off := o % 0x1000
  let p := tablePage s t
  if 9 ≤ t then s
  else if off = 8 then setTablePage s t { p with index := v % 2 ^ 23 }
  else if 0x10 ≤ off ∧ off < 0x20 then setTablePage s t { p with key := BitVec.ofNat 128 (putWord p.key.toNat (off / 4 - 4) v) }
  else if 0x20 ≤ off ∧ off < 0x30 then setTablePage s t { p with data := BitVec.ofNat 128 (putWord p.data.toNat (off / 4 - 8) v) }
  else s

/-- A write that the function sees; registers that are read only keep their values, and those with a row of their own take that
row's write (R9). -/
def writeRegister (fn : PciFn) (offset v : Nat) (s : State) : State :=
  let o := offset % 0x100000
  match windowOf offset with
  | .glb => writeGlb fn o v s
  | .mbx => writeMbx fn o v s
  | .camp => writeCamp o v s
  | .key => writeKey fn o v s
  | .tbl => writeTbl o v s
  | _ => s

/-- The reserved bits of a register, and the bits of an address that are written as zero (R8, R54, R60, R85, R278, R332, R380,
R506, R547, R553, R571). -/
def reservedBits (offset : Nat) : Nat :=
  let o := offset % 0x100000
  let r := o % 0x1000
  match windowOf offset with
  | .glb =>
    match o with
    | 0x08 => 0xFF80FF00 | 0x20 => 0xFFF | 0x28 => 0xFC000000 | 0x30 => 0xFFFFFFF8
    | 0x100C => 0xFFFFFFFE | 0x1014 => 0xFFF00000 | 0x101C => 0xFFF00000 | 0x1020 => 0xF800 | _ => 0
  | .mbx => if r = 8 then 0xFFF8 else match o with | 0x10 => 0xFFF | 0x18 => 0xFFF | _ => 0
  | .evq => if r = 4 then 0xFFF80000 else 0
  | .camp =>
    if 8 ≤ o / 0x1000 then 0
    else match r with | 0 => 0xFFFF0000 | 4 => 0xC0000000 | 0x10 => 0xFFFF0080 | 0x2C => 0xFFFC | _ => 0
  | .key => match o with | 0x30 => 0xF20000 | 0x38 => 0xFFFF0000 | 0x40 => 0xFFF0 | _ => 0
  | .tbl => if 9 ≤ o / 0x1000 then 0 else match r with | 4 => 0xFFF0 | 8 => 0xFF800000 | _ => 0
  | .cnt =>
    if o < 0x20000 then (if 0x400 ≤ r then 0 else match r % 16 with | 4 => 0xFFFE0000 | 12 => 0xFFFFE000 | _ => 0)
    else if o < 0x22000 then (match o % 0x20 with | 4 => 0xFFFF0000 | 0x10 => 0xFFFF0000 | _ => 0)
    else 0
  | .keep => 0
  | .reserved => 0

/-- A write; one that sets a reserved bit is a host error: the register takes any value (R8, R13). -/
def writeChecked (fn : PciFn) (offset v : Nat) (s : State) : State :=
  if v &&& reservedBits offset = 0 then writeRegister fn offset v s
  else
    let (n, s1) := draw s
    mayRestart (pciKey fn) (writeRegister fn offset (n % 2 ^ 32) s1)

/-- REGISTER_WRITE (R9, R48, R51–R53, R568); an access that is not aligned, or beyond its BAR, is a host error (R7, R13). -/
def execRegisterWrite (a : BarAccess) (s : State) : Host.Outcome State Fault Refusal :=
  if !inBar a then .next (mayRestart (pciKey a.fn) s)
  else if a.bar4 then .next (writeBar4 a.fn a.offset (a.value % 2 ^ 32) s)
  else if windowsDown s && decide (windowOf a.offset ≠ .glb) then .next s
  else if !sees a.fn a.offset true s then .next (violation a.fn a.offset true s)
  else match sleepingPage a.offset with
    | some t =>
      if pageFenced t s then .next (fencedAccess a.fn (68 + t) a.offset true s)
      else .next (writeChecked a.fn a.offset (a.value % 2 ^ 32) (wakePage t s))
    | none => .next (writeChecked a.fn a.offset (a.value % 2 ^ 32) s)

end Sys2Proof.Machine
end

