-- ==== Sys2Proof/Machine/Dispatch.lean ====
section
/-!
DEFINITION. Which meaning each command has: one arm per constructor of `Instr`, one direct call per arm.
-/
namespace Sys2Proof.Machine

/-- The effect of a command on everything but the queue. -/
def exec (i : Instr) (s : State) : Host.Outcome State Fault Refusal :=
  match i with
  -- Range 0x00: device and sessions
  | .nop h => Sys2Proof.Machine.execNop h s
  | .deviceIdentify h => Sys2Proof.Machine.execDeviceIdentify h s
  | .capabilityQuery h page => Sys2Proof.Machine.execCapabilityQuery h page s
  | .deviceReset h p => Sys2Proof.Machine.execDeviceReset h p s
  | .sessionOpen h keepaliveMs sessionLabel => Sys2Proof.Machine.execSessionOpen h keepaliveMs sessionLabel s
  | .sessionClose h handle quiesce => Sys2Proof.Machine.execSessionClose h handle quiesce s
  | .commandAbort h ring tag => Sys2Proof.Machine.execCommandAbort h ring tag s
  | .resourceClaim h p => Sys2Proof.Machine.execResourceClaim h p s
  | .resourceRelease h p quiesce => Sys2Proof.Machine.execResourceRelease h p quiesce s
  | .resourceAssign h p vf => Sys2Proof.Machine.execResourceAssign h p vf s
  | .resourceQuery h p => Sys2Proof.Machine.execResourceQuery h p s
  | .ringCreate h p => Sys2Proof.Machine.execRingCreate h p s
  | .ringDestroy h ring => Sys2Proof.Machine.execRingDestroy h ring s
  -- Range 0x01: power
  | .cupolaVote h cupola level => Sys2Proof.Machine.execCupolaVote h cupola level s
  | .cupolaStatus h cupola => Sys2Proof.Machine.execCupolaStatus h cupola s
  | .perfLevelSet h level => Sys2Proof.Machine.execPerfLevelSet h level s
  | .cupolaFloorSet h p => Sys2Proof.Machine.execCupolaFloorSet h p s
  | .cupolaRestore h cupola => Sys2Proof.Machine.execCupolaRestore h cupola s
  | .keepOnlyEnter h wakeMask alarmTicks => Sys2Proof.Machine.execKeepOnlyEnter h wakeMask alarmTicks s
  | .maintStatus h => Sys2Proof.Machine.execMaintStatus h s
  | .safetyStatus h => Sys2Proof.Machine.execSafetyStatus h s
  | .safetySelfTest h tests => Sys2Proof.Machine.execSafetySelfTest h tests s
  -- Ranges 0x02 and 0x03: tree ports, terminals
  | .treeConfigure h p => Sys2Proof.Machine.execTreeConfigure h p s
  | .treeEnable h tree => Sys2Proof.Machine.execTreeEnable h tree s
  | .treeDisable h tree => Sys2Proof.Machine.execTreeDisable h tree s
  | .burstProfileSet h tree profile p => Sys2Proof.Machine.execBurstProfileSet h tree profile p s
  | .treeStatus h tree => Sys2Proof.Machine.execTreeStatus h tree s
  | .burstRecordRead h tree exceptions count => Sys2Proof.Machine.execBurstRecordRead h tree exceptions count s
  | .terminalAdmit h p => Sys2Proof.Machine.execTerminalAdmit h p s
  | .terminalRange h tree terminal => Sys2Proof.Machine.execTerminalRange h tree terminal s
  | .terminalDisable h tree terminal reenable => Sys2Proof.Machine.execTerminalDisable h tree terminal reenable s
  | .terminalRemove h tree terminal => Sys2Proof.Machine.execTerminalRemove h tree terminal s
  | .terminalStatus h tree terminal => Sys2Proof.Machine.execTerminalStatus h tree terminal s
  | .rogueProbe h tree durationUs => Sys2Proof.Machine.execRogueProbe h tree durationUs s
  | .discoveredRead h tree => Sys2Proof.Machine.execDiscoveredRead h tree s
  -- Range 0x04: grants
  | .allocConfigure h p => Sys2Proof.Machine.execAllocConfigure h p s
  | .allocRemove h tree ctx => Sys2Proof.Machine.execAllocRemove h tree ctx s
  | .portConfigure h p => Sys2Proof.Machine.execPortConfigure h p s
  | .portRemove h tree ctx => Sys2Proof.Machine.execPortRemove h tree ctx s
  | .grantPolicySet h tree maxStructures guaranteedKbps => Sys2Proof.Machine.execGrantPolicySet h tree maxStructures guaranteedKbps s
  | .allocStatus h tree ctx => Sys2Proof.Machine.execAllocStatus h tree ctx s
  | .coopInputConfigure h p => Sys2Proof.Machine.execCoopInputConfigure h p s
  -- Range 0x05: line DSP
  | .lineConfigure h p => Sys2Proof.Machine.execLineConfigure h p s
  | .lineEnable h line laserPower => Sys2Proof.Machine.execLineEnable h line laserPower s
  | .lineDisable h line => Sys2Proof.Machine.execLineDisable h line s
  | .lineStatus h line laserPower caseTemp => Sys2Proof.Machine.execLineStatus h line laserPower caseTemp s
  | .lineQuality h line clear counts readings => Sys2Proof.Machine.execLineQuality h line clear counts readings s
  | .predistortionLoad h line taps => Sys2Proof.Machine.execPredistortionLoad h line taps s
  | .lineAdjust h p => Sys2Proof.Machine.execLineAdjust h p s
  -- Range 0x06: line framing
  | .framerConfigure h p => Sys2Proof.Machine.execFramerConfigure h p s
  | .tributaryConfigure h line trib tsMask => Sys2Proof.Machine.execTributaryConfigure h line trib tsMask s
  | .tributaryRemove h line trib => Sys2Proof.Machine.execTributaryRemove h line trib s
  | .framerStatus h line => Sys2Proof.Machine.execFramerStatus h line s
  | .ttiSet h p => Sys2Proof.Machine.execTtiSet h p s
  | .delayMeasure h line => Sys2Proof.Machine.execDelayMeasure h line s
  | .ttiRead h line => Sys2Proof.Machine.execTtiRead h line s
  -- Range 0x07: cipher
  | .treeKeyExchange h tree terminal => Sys2Proof.Machine.execTreeKeyExchange h tree terminal s
  | .lineSealConfigure h p => Sys2Proof.Machine.execLineSealConfigure h p s
  | .macsecConfigure h p => Sys2Proof.Machine.execMacsecConfigure h p s
  | .keySlotStatus h kind slot => Sys2Proof.Machine.execKeySlotStatus h kind slot s
  | .keyStoreResume h sources => Sys2Proof.Machine.execKeyStoreResume h sources s
  | .sealStatus h line => Sys2Proof.Machine.execSealStatus h line s
  -- Range 0x08: packet engine
  | .portPipelineSet h p => Sys2Proof.Machine.execPortPipelineSet h p s
  | .pipelineStatus h pipeline => Sys2Proof.Machine.execPipelineStatus h pipeline s
  | .pipelineRestore h pipeline => Sys2Proof.Machine.execPipelineRestore h pipeline s
  | .domainConfigure h p => Sys2Proof.Machine.execDomainConfigure h p s
  | .tableWrite h p => Sys2Proof.Machine.execTableWrite h p s
  | .tableRead h p => Sys2Proof.Machine.execTableRead h p s
  | .tableDelete h p => Sys2Proof.Machine.execTableDelete h p s
  | .learnConfigure h p => Sys2Proof.Machine.execLearnConfigure h p s
  | .queueConfigure h p => Sys2Proof.Machine.execQueueConfigure h p s
  | .queueStatus h queue => Sys2Proof.Machine.execQueueStatus h queue s
  | .schedGroupConfigure h p => Sys2Proof.Machine.execSchedGroupConfigure h p s
  | .tableFlush h domain learnedOnly => Sys2Proof.Machine.execTableFlush h domain learnedOnly s
  -- Range 0x09: buffer pools
  | .poolConfigure h p => Sys2Proof.Machine.execPoolConfigure h p s
  | .poolStatus h pool => Sys2Proof.Machine.execPoolStatus h pool s
  | .poolMapSet h requester c0 c1 c2 c3 => Sys2Proof.Machine.execPoolMapSet h requester c0 c1 c2 c3 s
  | .poolRebuild h pool => Sys2Proof.Machine.execPoolRebuild h pool s
  -- Range 0x0A: time
  | .timeBaseConfigure h p => Sys2Proof.Machine.execTimeBaseConfigure h p s
  | .timeBaseStatus h tb => Sys2Proof.Machine.execTimeBaseStatus h tb s
  | .timeSet h p => Sys2Proof.Machine.execTimeSet h p s
  | .timeStepAuthorise h p => Sys2Proof.Machine.execTimeStepAuthorise h p s
  | .ppsInputConfigure h p => Sys2Proof.Machine.execPpsInputConfigure h p s
  | .pulseOutputConfigure h p => Sys2Proof.Machine.execPulseOutputConfigure h p s
  | .ptpClockConfigure h p => Sys2Proof.Machine.execPtpClockConfigure h p s
  | .ptpPortConfigure h p => Sys2Proof.Machine.execPtpPortConfigure h p s
  | .ptpStatus h clock => Sys2Proof.Machine.execPtpStatus h clock s
  | .treeTodConfigure h p => Sys2Proof.Machine.execTreeTodConfigure h p s
  | .witnessConfigure h p => Sys2Proof.Machine.execWitnessConfigure h p s
  | .witnessStatus h line => Sys2Proof.Machine.execWitnessStatus h line s
  | .witnessApply h line stepSeq rebase => Sys2Proof.Machine.execWitnessApply h line stepSeq rebase s
  | .portTimeBaseSet h port tb => Sys2Proof.Machine.execPortTimeBaseSet h port tb s
  | .treeTodStatus h tree terminal => Sys2Proof.Machine.execTreeTodStatus h tree terminal s
  -- Range 0x0B: protection
  | .protGroupConfigure h p => Sys2Proof.Machine.execProtGroupConfigure h p s
  | .protEnable h tree => Sys2Proof.Machine.execProtEnable h tree s
  | .protDisable h tree force => Sys2Proof.Machine.execProtDisable h tree force s
  | .protSwitch h tree => Sys2Proof.Machine.execProtSwitch h tree s
  | .protStatus h tree => Sys2Proof.Machine.execProtStatus h tree s
  | .protStandbyTest h tree durationUs => Sys2Proof.Machine.execProtStandbyTest h tree durationUs s
  | .protPair h tree message => Sys2Proof.Machine.execProtPair h tree message s
  | .leaseArbiterConfigure h p => Sys2Proof.Machine.execLeaseArbiterConfigure h p s
  -- Range 0x0C: fabric and lanes
  | .laneGroupConfigure h p => Sys2Proof.Machine.execLaneGroupConfigure h p s
  | .clientPortConfigure h p => Sys2Proof.Machine.execClientPortConfigure h p s
  | .fabricLinkEnable h p => Sys2Proof.Machine.execFabricLinkEnable h p s
  | .laneStatus h lane link => Sys2Proof.Machine.execLaneStatus h lane link s
  | .laneRetrain h lane link => Sys2Proof.Machine.execLaneRetrain h lane link s
  | .eyeScan h lane link full dwellLog2 => Sys2Proof.Machine.execEyeScan h lane link full dwellLog2 s
  | .loopbackSet h lane loop => Sys2Proof.Machine.execLoopbackSet h lane loop s
  | .fabricConfigure h mgmtAllow timePriority => Sys2Proof.Machine.execFabricConfigure h mgmtAllow timePriority s
  | .fabricStatus h => Sys2Proof.Machine.execFabricStatus h s
  | .fabricRouteRead h dest => Sys2Proof.Machine.execFabricRouteRead h dest s
  | .fabricDestBind h p => Sys2Proof.Machine.execFabricDestBind h p s
  | .fabricForward h p => Sys2Proof.Machine.execFabricForward h p s
  -- Range 0x0D: memory, MMU, DMA
  | .memStatus h channel => Sys2Proof.Machine.execMemStatus h channel s
  | .memPartitionSet h spillGib => Sys2Proof.Machine.execMemPartitionSet h spillGib s
  | .memTrain h channel full => Sys2Proof.Machine.execMemTrain h channel full s
  | .memConfigure h p => Sys2Proof.Machine.execMemConfigure h p s
  | .mmuContextSet h root => Sys2Proof.Machine.execMmuContextSet h root s
  | .dmaChannelConfigure h p => Sys2Proof.Machine.execDmaChannelConfigure h p s
  | .dmaPost h channel tail => Sys2Proof.Machine.execDmaPost h channel tail s
  | .dmaResume h channel abandon => Sys2Proof.Machine.execDmaResume h channel abandon s
  | .dmaStatus h channel => Sys2Proof.Machine.execDmaStatus h channel s
  | .memWindowSet h p => Sys2Proof.Machine.execMemWindowSet h p s
  -- Range 0x0E: counters and events
  | .eventRouteSet h p => Sys2Proof.Machine.execEventRouteSet h p s
  | .eventQueueCreate h p => Sys2Proof.Machine.execEventQueueCreate h p s
  | .eventQueueDestroy h queue => Sys2Proof.Machine.execEventQueueDestroy h queue s
  | .eventQueueAssign h queue vf => Sys2Proof.Machine.execEventQueueAssign h queue vf s
  | .eventCoalesceSet h queue count us => Sys2Proof.Machine.execEventCoalesceSet h queue count us s
  | .eventSourceQuery h source => Sys2Proof.Machine.execEventSourceQuery h source s
  | .counterConfigure h p => Sys2Proof.Machine.execCounterConfigure h p s
  | .counterRead h isMeter index clear => Sys2Proof.Machine.execCounterRead h isMeter index clear s
  | .meterConfigure h p => Sys2Proof.Machine.execMeterConfigure h p s
  -- Range 0x0F: boot, attestation and maintenance
  | .fwUpdateBegin h length => Sys2Proof.Machine.execFwUpdateBegin h length s
  | .fwUpdateData h offset data => Sys2Proof.Machine.execFwUpdateData h offset data s
  | .fwUpdateEnd h => Sys2Proof.Machine.execFwUpdateEnd h s
  | .fwActivate h cls force => Sys2Proof.Machine.execFwActivate h cls force s
  | .fwConfirm h => Sys2Proof.Machine.execFwConfirm h s
  | .fwSecurityCommit h => Sys2Proof.Machine.execFwSecurityCommit h s
  | .measurementLogRead h first count => Sys2Proof.Machine.execMeasurementLogRead h first count s
  | .attestQuote h nonce => Sys2Proof.Machine.execAttestQuote h nonce s
  | .identityRead h => Sys2Proof.Machine.execIdentityRead h s
  -- The Keep port
  | .keepPortStatus => Sys2Proof.Machine.execKeepPortStatus s
  | .keepPortWake pecOk => Sys2Proof.Machine.execKeepPortWake pecOk s
  | .keepPortReset pecOk data => Sys2Proof.Machine.execKeepPortReset pecOk data s
  | .keepPortLedger => Sys2Proof.Machine.execKeepPortLedger s
  | .keepPortIdentity => Sys2Proof.Machine.execKeepPortIdentity s
  | .keepPortBootSource pecOk data => Sys2Proof.Machine.execKeepPortBootSource pecOk data s
  | .keepPortCmd pecOk header facts => Sys2Proof.Machine.execKeepPortCmd pecOk header facts s
  | .keepPortResult => Sys2Proof.Machine.execKeepPortResult s
  -- Direct registers
  | .mbxSqTail fn ring tail => Sys2Proof.Machine.execMbxSqTail fn ring tail s
  | .mbxCqHead fn ring head => Sys2Proof.Machine.execMbxCqHead fn ring head s
  | .adminRingEnable fn sqLog2 cqLog2 evq => Sys2Proof.Machine.execAdminRingEnable fn sqLog2 cqLog2 evq s
  | .adminRingDisable fn sqLog2 cqLog2 evq => Sys2Proof.Machine.execAdminRingDisable fn sqLog2 cqLog2 evq s
  | .evqHead fn queue head => Sys2Proof.Machine.execEvqHead fn queue head s
  | .evqArm fn queue head => Sys2Proof.Machine.execEvqArm fn queue head s
  | .campSnapFrac fn tb => Sys2Proof.Machine.execCampSnapFrac fn tb s
  | .campLatchAll fn mask => Sys2Proof.Machine.execCampLatchAll fn mask s
  | .campFreq fn tb adj => Sys2Proof.Machine.execCampFreq fn tb adj s
  | .campAdjApply fn tb authorise => Sys2Proof.Machine.execCampAdjApply fn tb authorise s
  | .keyCommitWrite fn => Sys2Proof.Machine.execKeyCommitWrite fn s
  | .keyCommitErase fn => Sys2Proof.Machine.execKeyCommitErase fn s
  | .tblRead fn table => Sys2Proof.Machine.execTblRead fn table s
  | .tblSearch fn table => Sys2Proof.Machine.execTblSearch fn table s
  | .tblInsert fn table => Sys2Proof.Machine.execTblInsert fn table s
  | .tblDelete fn table => Sys2Proof.Machine.execTblDelete fn table s
  | .mmuTlbInvalAll fn => Sys2Proof.Machine.execMmuTlbInvalAll fn s
  | .mmuTlbInvalPage fn => Sys2Proof.Machine.execMmuTlbInvalPage fn s
  | .cntLo fn counter => Sys2Proof.Machine.execCntLo fn counter s
  | .cntClear fn counter => Sys2Proof.Machine.execCntClear fn counter s
  | .cntClearOvf fn counter => Sys2Proof.Machine.execCntClearOvf fn counter s
  | .cntMtrBytesLo fn meter => Sys2Proof.Machine.execCntMtrBytesLo fn meter s
  | .peakClear fn meter => Sys2Proof.Machine.execPeakClear fn meter s
  | .glbBootGo fn => Sys2Proof.Machine.execGlbBootGo fn s
  | .registerWrite a => Sys2Proof.Machine.execRegisterWrite a s
  | .bar2Read linkB va words flips => Sys2Proof.Machine.execBar2Read linkB va words flips s
  | .bar2Write linkB va data => Sys2Proof.Machine.execBar2Write linkB va data s
  -- The mailbox's own steps
  | .commandFetch fn ring header facts => Sys2Proof.Machine.execCommandFetch fn ring header facts s
  | .commandTimeout id => Sys2Proof.Machine.execCommandTimeout id s
  | .maintRelease => Sys2Proof.Machine.execMaintRelease s
  | .cupolaWakeReady cupola retentionError lanternOk => Sys2Proof.Machine.execCupolaWakeReady cupola retentionError lanternOk s
  | .ringFault fn ring kind tag => Sys2Proof.Machine.execRingFault fn ring kind tag s
  | .eventQueueFault queue => Sys2Proof.Machine.execEventQueueFault queue s
  | .coalesceTimeout queue => Sys2Proof.Machine.execCoalesceTimeout queue s
  | .relayedEventRecord tag payload => Sys2Proof.Machine.execRelayedEventRecord tag payload s
  | .sessionKeepaliveExpiry handle => Sys2Proof.Machine.execSessionKeepaliveExpiry handle s
  -- Resets, supplies, clocks and temperature
  | .functionLevelReset fn => Sys2Proof.Machine.execFunctionLevelReset fn s
  | .conventionalReset linkB split => Sys2Proof.Machine.execConventionalReset linkB split s
  | .resetDelayExpiry => Sys2Proof.Machine.execResetDelayExpiry s
  | .firmwareWatchdog => Sys2Proof.Machine.execFirmwareWatchdog s
  | .coreFault core => Sys2Proof.Machine.execCoreFault core s
  | .powerOn f => Sys2Proof.Machine.execPowerOn f s
  | .bootImageFetched data => Sys2Proof.Machine.execBootImageFetched data s
  | .fwReady lanternsOk selfTest => Sys2Proof.Machine.execFwReady lanternsOk selfTest s
  | .mainRailLoss rails => Sys2Proof.Machine.execMainRailLoss rails s
  | .mainRailsGood => Sys2Proof.Machine.execMainRailsGood s
  | .keepFeedLoss feedB => Sys2Proof.Machine.execKeepFeedLoss feedB s
  | .keepFeedRestore feedB => Sys2Proof.Machine.execKeepFeedRestore feedB s
  | .zeroisation sources => Sys2Proof.Machine.execZeroisation sources s
  | .refclkLoss => Sys2Proof.Machine.execRefclkLoss s
  | .refclkReturn => Sys2Proof.Machine.execRefclkReturn s
  | .clk32kLoss => Sys2Proof.Machine.execClk32kLoss s
  | .clk32kReturn => Sys2Proof.Machine.execClk32kReturn s
  | .thermalWarning sensor temp => Sys2Proof.Machine.execThermalWarning sensor temp s
  | .thermalWarningClear sensor temp => Sys2Proof.Machine.execThermalWarningClear sensor temp s
  | .thermalTrip sensor temp => Sys2Proof.Machine.execThermalTrip sensor temp s
  | .keepOnlyEntry => Sys2Proof.Machine.execKeepOnlyEntry s
  | .lanternLightWake line => Sys2Proof.Machine.execLanternLightWake line s
  | .ledgerAlarm => Sys2Proof.Machine.execLedgerAlarm s
  | .sleepLedgerResume ticks => Sys2Proof.Machine.execSleepLedgerResume ticks s
  | .cupolaHysteresisExpiry cupola => Sys2Proof.Machine.execCupolaHysteresisExpiry cupola s
  -- Trees: frames, bursts and terminals
  | .mapClose tree => Sys2Proof.Machine.execMapClose tree s
  | .downstreamFrameStart tree txFault => Sys2Proof.Machine.execDownstreamFrameStart tree txFault s
  | .dutyCycleEnter tree => Sys2Proof.Machine.execDutyCycleEnter tree s
  | .todMessage tree superframe => Sys2Proof.Machine.execTodMessage tree superframe s
  | .burstWindowStart tree w => Sys2Proof.Machine.execBurstWindowStart tree w s
  | .provisionalLock tree symbol amplitude => Sys2Proof.Machine.execProvisionalLock tree symbol amplitude s
  | .relock tree symbol amplitude => Sys2Proof.Machine.execRelock tree symbol amplitude s
  | .delimWindowClose tree symbol => Sys2Proof.Machine.execDelimWindowClose tree symbol s
  | .delimiterAccept tree symbol amplitude offset => Sys2Proof.Machine.execDelimiterAccept tree symbol amplitude offset s
  | .grantedWindowEnd tree e => Sys2Proof.Machine.execGrantedWindowEnd tree e s
  | .rssiTrig tree burstEnded => Sys2Proof.Machine.execRssiTrig tree burstEnded s
  | .rssiReading tree raw busOk => Sys2Proof.Machine.execRssiReading tree raw busOk s
  | .outOfWindowEnergy tree amplitude => Sys2Proof.Machine.execOutOfWindowEnergy tree amplitude s
  | .upstreamXgemFrame tree x => Sys2Proof.Machine.execUpstreamXgemFrame tree x s
  | .queueReport tree ctx bytes fecOk => Sys2Proof.Machine.execQueueReport tree ctx bytes fecOk s
  | .coopAnnouncement c => Sys2Proof.Machine.execCoopAnnouncement c s
  | .driftCorrection tree terminal => Sys2Proof.Machine.execDriftCorrection tree terminal s
  | .discoveryWindow tree => Sys2Proof.Machine.execDiscoveryWindow tree s
  | .serialNumberResponse tree serial regId stamp => Sys2Proof.Machine.execSerialNumberResponse tree serial regId stamp s
  | .rangingResponse tree terminal grantStart delimStamp => Sys2Proof.Machine.execRangingResponse tree terminal grantStart delimStamp s
  | .rangingWindowClose tree terminal => Sys2Proof.Machine.execRangingWindowClose tree terminal s
  | .ploamKeyResponse tree terminal key => Sys2Proof.Machine.execPloamKeyResponse tree terminal key s
  -- Line engines, framers and sealers
  | .acquisitionStepEnd line format rate => Sys2Proof.Machine.execAcquisitionStepEnd line format rate s
  | .acquisitionStepTimeout line => Sys2Proof.Machine.execAcquisitionStepTimeout line s
  | .mismatchRestart line => Sys2Proof.Machine.execMismatchRestart line s
  | .lossOfLock line => Sys2Proof.Machine.execLossOfLock line s
  | .lanternMonitorAssert line monitor reading => Sys2Proof.Machine.execLanternMonitorAssert line monitor reading s
  | .lanternMonitorClear line monitor reading => Sys2Proof.Machine.execLanternMonitorClear line monitor reading s
  | .maskCheck line pass => Sys2Proof.Machine.execMaskCheck line pass s
  | .signalDegradeCheck line counts => Sys2Proof.Machine.execSignalDegradeCheck line counts s
  | .frameAlignment line f => Sys2Proof.Machine.execFrameAlignment line f s
  | .lofDeclare line => Sys2Proof.Machine.execLofDeclare line s
  | .lofClear line => Sys2Proof.Machine.execLofClear line s
  | .lomDeclare line => Sys2Proof.Machine.execLomDeclare line s
  | .lomClear line => Sys2Proof.Machine.execLomClear line s
  | .multiframeBoundary line clockPpb => Sys2Proof.Machine.execMultiframeBoundary line clockPpb s
  | .dmpReturn line => Sys2Proof.Machine.execDmpReturn line s
  | .sealControlMessage line bytes => Sys2Proof.Machine.execSealControlMessage line bytes s
  | .sealingBlockReceive line first block compareOk passed truncated delivered => Sys2Proof.Machine.execSealingBlockReceive line first block compareOk passed truncated delivered s
  | .macsecRxFrame f => Sys2Proof.Machine.execMacsecRxFrame f s
  | .witnessMessage line bytes => Sys2Proof.Machine.execWitnessMessage line bytes s
  | .witnessHoldExpiry line => Sys2Proof.Machine.execWitnessHoldExpiry line s
  -- Packets, tables and pools
  | .packetIngress pk => Sys2Proof.Machine.execPacketIngress pk s
  | .packetEgress port tagUpset queueUpset compareOk => Sys2Proof.Machine.execPacketEgress port tagUpset queueUpset compareOk s
  | .spillReadback queue => Sys2Proof.Machine.execSpillReadback queue s
  | .ageScan pipeline => Sys2Proof.Machine.execAgeScan pipeline s
  | .pipelineWatchdog pipeline => Sys2Proof.Machine.execPipelineWatchdog pipeline s
  | .pipelineMemoryError pipeline => Sys2Proof.Machine.execPipelineMemoryError pipeline s
  | .pipelineRemapComplete pipeline => Sys2Proof.Machine.execPipelineRemapComplete pipeline s
  | .alloc requester cls bufPriority listOk => Sys2Proof.Machine.execAlloc requester cls bufPriority listOk s
  | .share requester ptr k ecc => Sys2Proof.Machine.execShare requester ptr k ecc s
  | .give requester ptr newOwner ecc => Sys2Proof.Machine.execGive requester ptr newOwner ecc s
  | .free requester ptr ecc => Sys2Proof.Machine.execFree requester ptr ecc s
  | .allocRetry requester cls listOk => Sys2Proof.Machine.execAllocRetry requester cls listOk s
  | .bpHoldExpiry requester cls => Sys2Proof.Machine.execBpHoldExpiry requester cls s
  -- Time
  | .ppsEdge input phase => Sys2Proof.Machine.execPpsEdge input phase s
  | .ppsInputLost input => Sys2Proof.Machine.execPpsInputLost input s
  | .ptpMessage f => Sys2Proof.Machine.execPtpMessage f s
  | .ptpInputLost clock => Sys2Proof.Machine.execPtpInputLost clock s
  | .servoCorrection tb => Sys2Proof.Machine.execServoCorrection tb s
  | .lockAchieved tb => Sys2Proof.Machine.execLockAchieved tb s
  | .lockLost tb => Sys2Proof.Machine.execLockLost tb s
  | .pendingDiscard tb => Sys2Proof.Machine.execPendingDiscard tb s
  | .pulseEdge output => Sys2Proof.Machine.execPulseEdge output s
  | .crossCheck tb upset => Sys2Proof.Machine.execCrossCheck tb upset s
  -- Lease and protection
  | .fenceInstant tree => Sys2Proof.Machine.execFenceInstant tree s
  | .leaseRequestSend tree watchdogServiced => Sys2Proof.Machine.execLeaseRequestSend tree watchdogServiced s
  | .leaseGrant tree bytes => Sys2Proof.Machine.execLeaseGrant tree bytes s
  | .arbiterLeaseMessage bytes => Sys2Proof.Machine.execArbiterLeaseMessage bytes s
  | .arbiterLeaseExpiry group => Sys2Proof.Machine.execArbiterLeaseExpiry group s
  | .queuedClaimExpiry group sender => Sys2Proof.Machine.execQueuedClaimExpiry group sender s
  | .heartbeatSend tree watchdogServiced => Sys2Proof.Machine.execHeartbeatSend tree watchdogServiced s
  | .heartbeat tree bytes => Sys2Proof.Machine.execHeartbeat tree bytes s
  | .heartbeatTimeout tree => Sys2Proof.Machine.execHeartbeatTimeout tree s
  | .transmitWithoutLease tree durationNs => Sys2Proof.Machine.execTransmitWithoutLease tree durationNs s
  | .marlFrame sof payload => Sys2Proof.Machine.execMarlFrame sof payload s
  | .marlPartComplete tree partB superframe => Sys2Proof.Machine.execMarlPartComplete tree partB superframe s
  | .wtrExpiry tree => Sys2Proof.Machine.execWtrExpiry tree s
  | .handoverRelease tree => Sys2Proof.Machine.execHandoverRelease tree s
  -- Lanes and fabric
  | .trainingFrame lane link control status f => Sys2Proof.Machine.execTrainingFrame lane link control status f s
  | .trainingRequestTimeout lane link => Sys2Proof.Machine.execTrainingRequestTimeout lane link s
  | .trainingTimeout lane link => Sys2Proof.Machine.execTrainingTimeout lane link s
  | .echoTrainingTurn lane farEnergy residualRise => Sys2Proof.Machine.execEchoTrainingTurn lane farEnergy residualRise s
  | .fomRetrain lane link => Sys2Proof.Machine.execFomRetrain lane link s
  | .retrainRequest lane link => Sys2Proof.Machine.execRetrainRequest lane link s
  | .knownGoodExpiry lane link fom => Sys2Proof.Machine.execKnownGoodExpiry lane link fom s
  | .parkedRetry lane link => Sys2Proof.Machine.execParkedRetry lane link s
  | .linkDown lane link cause lostFrames => Sys2Proof.Machine.execLinkDown lane link cause lostFrames s
  | .pause lane link flit => Sys2Proof.Machine.execPause lane link flit s
  | .fabricFrame lane link sof reply pk => Sys2Proof.Machine.execFabricFrame lane link sof reply pk s
  | .helloSend lane link => Sys2Proof.Machine.execHelloSend lane link s
  | .hello lane link payload => Sys2Proof.Machine.execHello lane link payload s
  | .adjacencyTimeout lane link => Sys2Proof.Machine.execAdjacencyTimeout lane link s
  | .linkStateRecord lane link payload => Sys2Proof.Machine.execLinkStateRecord lane link payload s
  | .linkStateRefresh => Sys2Proof.Machine.execLinkStateRefresh s
  | .linkStateExpiry serial => Sys2Proof.Machine.execLinkStateExpiry serial s
  | .addressComputation => Sys2Proof.Machine.execAddressComputation s
  | .routeInstall => Sys2Proof.Machine.execRouteInstall s
  | .timeFlit lane link flit => Sys2Proof.Machine.execTimeFlit lane link flit s
  | .timeFlitSend lane link => Sys2Proof.Machine.execTimeFlitSend lane link s
  | .fabricTimeSourceLost => Sys2Proof.Machine.execFabricTimeSourceLost s
  | .forwardedCommand sender header facts => Sys2Proof.Machine.execForwardedCommand sender header facts s
  -- Board memory and DMA
  | .refreshInterval channel sub bank => Sys2Proof.Machine.execRefreshInterval channel sub bank s
  | .memoryTemperatureRead channel tempC => Sys2Proof.Machine.execMemoryTemperatureRead channel tempC s
  | .rowDisturbance channel sub bank row requester => Sys2Proof.Machine.execRowDisturbance channel sub bank row requester s
  | .patrolScrub flips => Sys2Proof.Machine.execPatrolScrub flips s
  | .dqsDriftCheck channel driftPermille => Sys2Proof.Machine.execDqsDriftCheck channel driftPermille s
  | .memoryRead address flips consumer => Sys2Proof.Machine.execMemoryRead address flips consumer s
  | .dmaStep channel descriptor hostData flips => Sys2Proof.Machine.execDmaStep channel descriptor hostData flips s
  -- Counters and meters
  | .counterOverflow counter amount => Sys2Proof.Machine.execCounterOverflow counter amount s
  | .meterWindowEnd meter => Sys2Proof.Machine.execMeterWindowEnd meter s
  -- Reads with behaviour of their own, and ends of work
  | .registerRead a => Sys2Proof.Machine.execRegisterRead a s
  | .perstDeassert linkB => Sys2Proof.Machine.execPerstDeassert linkB s
  | .keyCommitComplete fn => Sys2Proof.Machine.execKeyCommitComplete fn s
  | .tableOperationComplete table => Sys2Proof.Machine.execTableOperationComplete table s
  | .tlbInvalidationComplete fn => Sys2Proof.Machine.execTlbInvalidationComplete fn s
  | .selfTestEnd kind inst faults results => Sys2Proof.Machine.execSelfTestEnd kind inst faults results s
  | .rogueProbeEnd tree => Sys2Proof.Machine.execRogueProbeEnd tree s
  | .eyeScanEnd lane link map => Sys2Proof.Machine.execEyeScanEnd lane link map s
  | .standbyTestEnd tree pass => Sys2Proof.Machine.execStandbyTestEnd tree pass s
  | .memTrainingEnd channel full ok lanesClean => Sys2Proof.Machine.execMemTrainingEnd channel full ok lanesClean s
  | .perfLevelSettled => Sys2Proof.Machine.execPerfLevelSettled s
  | .revertSend tree => Sys2Proof.Machine.execRevertSend tree s
  | .ptpMessageSend clock kind => Sys2Proof.Machine.execPtpMessageSend clock kind s
  | .domainTagIntervalEnd pipeline => Sys2Proof.Machine.execDomainTagIntervalEnd pipeline s

end Sys2Proof.Machine
end

