-- ==== Sys2Proof/Safety.lean ====
section
/-!
DEFINITION. The terms in which statements about the block are made: a command that may start, a state with nothing waiting for
a final completion, board memory in its canonical form, a run that never stops.
-/
namespace Sys2Proof.Machine

/-- The command of a row is the held command `e`, with its reserved fields zero, and it may start now (R8, R74–R76, R120, R121). -/
def startable (op : Nat) (act : Option Activity) (h : Caller) (e : Held) (s : State) : Prop :=
  findHeld h.id op act s = some e ∧ mayStart e s = true ∧ e.reserved = false

/-- No session waits to be disposed of and no ring to be destroyed, so that a final completion ends nothing but its own
command (R80, R106). -/
def nothingWaits (s : State) : Prop := settleOne s = none

/-- Board memory is in its canonical form. -/
def memoryWf (s : State) : Prop := Memory.wf s.mem = true

/-- The outcome is a next state. -/
def goesOn (o : Host.Outcome State Fault Refusal) : Prop := ∃ t, o = .next t

/-- Commands executed in turn, up to the first that stops. -/
def execAll : List Instr → State → Host.Outcome State Fault Refusal
  | [], s => .next s
  | c :: cs, s =>
    match exec c s with
    | .next t => execAll cs t
    | stopped => stopped

end Sys2Proof.Machine
end

