-- ==== Sys2Proof/Certificates/Slice0/Obligations.lean ====
section
/-!
DEFINITION. The statements for the provers: what the commands of each family do, what they leave alone, and what holds of every
step. `startable op act h e s` says that the command of the row is the held command `e` and may start at `s`; `finish e …` gives
it its final completion.
-/

open Sys2Proof Sys2Proof.Machine

/-! ## The block's step -/

/-- A step takes the command at the front of the queue and runs it with the queue's rest. -/
def Obligations.StepRunsTheFrontCommand : Prop :=
  ∀ (c : Instr) (rest : List Instr) (s : State),
    step { s with pending := c :: rest } = exec c { s with pending := rest }

/-- With no command waiting, one cycle of the time clock passes: 1 ns (the model's choice, log entry 2). While the clocks run,
every time base and its check counter advance by their frequency over what the cycle's end (`cycleEnd`) left them at; in Keep-only
they stand. -/
def Obligations.IdleStepAdvancesTheTimeClock : Prop :=
  (∀ s : State, s.pending = [] → step s = .next (idle s) ∧ (idle s).now = s.now + 1) ∧
  (∀ (s : State) (b : Nat), s.pending = [] → (cycleEnd s).time.stopped = true →
    ∃ t, step s = .next t ∧ timeBase t b = timeBase (cycleEnd s) b) ∧
  (∀ (s u : State) (b : Nat), s.pending = [] → cycleEnd s = u → u.time.stopped = false → b < 8 →
    ∃ t, step s = .next t ∧
      (timeBase t b).value = (((timeBase u b).value + unitNs + (timeBase u b).adj : Int) % timeModulus).toNat ∧
      (timeBase t b).check = (((timeBase u b).check + unitNs + (timeBase u b).adj : Int) % timeModulus).toNat)

/-- Right after reset: nothing booted, no firmware, every table at its After reset values, the alarm-free state, TB0–TB7 in
FREE_RUN and unset, and event queues with the PF of link A. -/
def Obligations.ResetState : Prop :=
  State.reset.pending = [] ∧ State.reset.boot.fwReady = false ∧ State.reset.boot.fwFault = false ∧
  State.reset.boot.stage = 0 ∧ safeState State.reset = false ∧
  (∀ fn k, (ring State.reset fn k).enabled = false) ∧ (∀ q, (evq State.reset q).enabled = false ∧ (evq State.reset q).owner = 0) ∧
  (∀ h, (session State.reset h).isOpen = false) ∧ (∀ k i, (own State.reset k i).session = 0) ∧
  (∀ t, (tree State.reset t).enabled = false ∧ (tree State.reset t).groupIndex = 1468200) ∧
  (∀ l, (line State.reset l).enabled = false) ∧ (∀ b, (timeBase State.reset b).servo = .freeRun ∧ (timeBase State.reset b).isUnset = true) ∧
  (∀ fn, (fnRegs State.reset fn).scratch = 0 ∧ (fnRegs State.reset fn).sessionReset = false) ∧
  (∀ k, (cup State.reset k).state = if alwaysUp k then .active else .off) ∧ State.reset.pwr.pl = 0 ∧
  State.reset.mem.cells = []

/-- No command stops the block: every command at every state answers a next state. -/
def Obligations.EveryCommandGoesOn : Prop :=
  ∀ (c : Instr) (s : State), goesOn (exec c s)

/-! ## Range 0x00 -/

/-- NOP, DEVICE_IDENTIFY, CAPABILITY_QUERY, RESOURCE_QUERY complete with OK and what they return; page 0 alone is defined, and
another page is EMPTY.

SESSION_OPEN opens a session under a handle that no session holds and returns it; SESSION_CLOSE closes the session at once
and waits for its commands; a session that is not open is EMPTY. -/
def Obligations.SessionsAndQueriesComplete : Prop :=
  (∀ h e s, startable 0x0000 none h e s → exec (.nop h) s = .next (finish e stOk 0 0 [] s)) ∧
  (∀ h e s, startable 0x0001 none h e s →
    exec (.deviceIdentify h) s = .next (finish e stOk 0 Config.serial (identity (fnKey h.id.fn) s) s)) ∧
  (∀ h e s, startable 0x0002 none h e s →
    exec (.capabilityQuery h 0) s = .next (finish e stOk 0 0 (capabilities s) s)) ∧
  (∀ h e s page, startable 0x0002 none h e s → page ≠ 0 →
    exec (.capabilityQuery h page) s = .next (finish e stEmpty 0 0 [] s)) ∧
  (∀ h p e s, startable 0x000A none h e s → 1 ≤ p.count → p.count ≤ 4096 → p.first + p.count ≤ kindSize p.kind.val →
    exec (.resourceQuery h p) s =
      .next (finish e stOk 0 0 ((rangeOf p).flatMap (fun i => le 4 (ownerEntry p.kind.val i s))) s)) ∧
  (∀ h keepaliveMs label e s, startable 0x0004 none h e s → h.session = 0 → keepaliveMs ≤ 60000 →
    sessionsOf (fnKey h.id.fn) s < 16 → sessionCount s < 1024 →
    ∃ k s', exec (.sessionOpen h keepaliveMs label) s = .next (finish e stOk 0 k [] s') ∧ 1 ≤ k ∧ k ≤ 65535 ∧
      (session s' k).isOpen = true ∧ (session s' k).fn = fnKey h.id.fn ∧ (session s' k).keepaliveMs = keepaliveMs ∧
      s'.ses.lastHandle = k ∧ s'.ses.owners = s.ses.owners ∧ ∀ j, j ≠ k → session s' j = session s j) ∧
  (∀ h keepaliveMs label e s, startable 0x0004 none h e s → h.session = 0 → keepaliveMs ≤ 60000 →
    (16 ≤ sessionsOf (fnKey h.id.fn) s ∨ 1024 ≤ sessionCount s) →
    exec (.sessionOpen h keepaliveMs label) s = .next (finish e stLimit 0 0 [] s)) ∧
  (∀ h handle quiesce e s, startable 0x0005 none h e s → handle ≠ 0 → (session s handle).isOpen = true →
    (session s handle).fn = fnKey h.id.fn →
    exec (.sessionClose h handle quiesce) s = .next (settle (setPhase e (.running handle) (closeSession handle quiesce s))) ∧
    (session (closeSession handle quiesce s) handle).isOpen = false ∧
    (session (closeSession handle quiesce s) handle).closing = some quiesce) ∧
  (∀ h handle quiesce e s, startable 0x0005 none h e s → handle ≠ 0 → (session s handle).isOpen = false →
    exec (.sessionClose h handle quiesce) s = .next (settle (finish e stEmpty 0 0 [] s)))

/-- RESOURCE_CLAIM gives every index of the range to the session and touches no other owner; RESOURCE_RELEASE without QUIESCE
takes the session's indices of the range from it; RESOURCE_ASSIGN gives them to a VF, with no session; a claim on an index
that another session owns is REFUSED and names the lowest such index.

RING_CREATE starts a ring with indices 0 and expected phase 1; RING_DESTROY closes the ring to fetching, has its fetched
maintenance commands presented, and waits for its commands; ring 0 and a ring that is enabled are REFUSED. -/
def Obligations.ResourcesAndRingsChangeHands : Prop :=
  (∀ h p e s, startable 0x0007 none h e s → h.session ≠ 0 → 1 ≤ p.count → p.first + p.count ≤ kindSize p.kind.val →
    (∀ i ∈ rangeOf p, claimable h.id.fn p.kind.val i s = true) → (∀ i ∈ rangeOf p, conflicts h p.kind.val i s = false) →
    exec (.resourceClaim h p) s = .next (finish e stOk 0 0 [] (takeAll h p s)) ∧
    (∀ i ∈ rangeOf p, (own (takeAll h p s) p.kind.val i).session = h.session)) ∧
  (∀ h p e s i, startable 0x0007 none h e s → h.session ≠ 0 → 1 ≤ p.count → p.first + p.count ≤ kindSize p.kind.val →
    (∀ j ∈ rangeOf p, claimable h.id.fn p.kind.val j s = true) →
    (rangeOf p).find? (fun j => conflicts h p.kind.val j s) = some i →
    exec (.resourceClaim h p) s = .next (finish e stRefused 0x0102 i [] s)) ∧
  (∀ h p e s, startable 0x0008 none h e s → h.session ≠ 0 → 1 ≤ p.count →
    exec (.resourceRelease h p false) s = .next (finish e stOk 0 0 []
      ((heldRange h p s).foldl (fun st i => setOwn st p.kind.val i { own st p.kind.val i with session := 0 }) s))) ∧
  (∀ h p f vf e s, startable 0x0009 none h e s → h.session ≠ 0 → h.id.fn = .pci f → assignable p.kind.val = true →
    1 ≤ p.count → p.first + p.count ≤ kindSize p.kind.val → vf.val ≠ 0 →
    (∀ i ∈ rangeOf p, pfOwns (pciKey f) p.kind.val i s = true) →
    exec (.resourceAssign h p vf) s = .next (finish e stOk 0 0 [] ((rangeOf p).foldl (fun st i =>
      setOwn st p.kind.val i { session := 0, assigned := some { linkB := f.linkB, num := vf } }) s))) ∧
  (∀ h p e s, startable 0x0010 none h e s → p.ring.val ≠ 0 → (ring s (fnKey h.id.fn) p.ring.val).enabled = false →
    (evq s p.evq.val).owner = fnKey h.id.fn → p.wf = true →
    exec (.ringCreate h p) s = .next (finish e stOk 0 0 [] (setRing s (fnKey h.id.fn) p.ring.val
      { enabled := true, phase := true, sqLog2 := p.sqLog2, cqLog2 := p.cqLog2, evq := p.evq.val,
        sqBase := p.sqBase, cqBase := p.cqBase }))) ∧
  (∀ h p e s, startable 0x0010 none h e s → p.ring.val ≠ 0 → (ring s (fnKey h.id.fn) p.ring.val).enabled = true →
    exec (.ringCreate h p) s = .next (finish e stRefused 0x0106 0 [] s)) ∧
  (∀ h k e s, startable 0x0011 none h e s → k.val ≠ 0 → k ≠ h.id.ring → (ring s (fnKey h.id.fn) k.val).enabled = true →
    exec (.ringDestroy h k) s = .next (settle (setPhase e (.running k.val) (presentBatch h.id.fn k
      (setRing s (fnKey h.id.fn) k.val { ring s (fnKey h.id.fn) k.val with closing := true }))))) ∧
  (∀ h k e s, startable 0x0011 none h e s → k.val ≠ 0 → k ≠ h.id.ring → (ring s (fnKey h.id.fn) k.val).enabled = false →
    exec (.ringDestroy h k) s = .next (settle (finish e stEmpty 0 0 [] s)))

/-! ## Range 0x01 -/

/-- Votes, floors and levels: a vote on an awake cupola is recorded beside the other holders' votes; a floor is set with its
hysteresis times, 0 keeping the default; lowering the performance level, when every pipeline's load fits, lowers it at once
and waits for the supply; raising it waits first.

CUPOLA_STATUS, MAINT_STATUS and SAFETY_STATUS return their 32, 64 and 32 bytes; CUPOLA_RESTORE of a fenced cupola and
SAFETY_SELF_TEST by the owner of DEVICE run on until their tests end. -/
def Obligations.PowerCommandsComplete : Prop :=
  (∀ h k level e s, startable 0x0100 (if level.val = 0 then none else some { kind := 13, scope := k.val }) h e s →
    fixedCupola k.val = false → voteWake k.val level.val s = none →
    exec (.cupolaVote h k level) s = .next (finish e stOk 0 0 []
      (riseCup k.val 0 (placeVote k.val (voteHolder (fnKey h.id.fn) h.session) level.val s)))) ∧
  (∀ k holder level s, level ≠ 0 → (⟨holder, level⟩ : Vote) ∈ (cup (placeVote k holder level s) k).votes) ∧
  (∀ h p e s, startable 0x0103 none h e s → ownsDevice h s = true → p.wf = true → fixedCupola p.cupola.val = false →
    (isDramCupola p.cupola.val = true → p.floor ≠ 3) →
    exec (.cupolaFloorSet h p) s = .next (finish e stOk 0 0 [] (setCup s p.cupola.val { cup s p.cupola.val with
      floor := p.floor, report := p.report,
      hystGated := if p.hystGated = 0 then 1 else p.hystGated,
      hystRetained := if p.hystRetained = 0 then 33 else p.hystRetained,
      hystOff := if p.hystOff = 0 then 32768 else p.hystOff }))) ∧
  (∀ h level e s, startable 0x0102 (some { kind := 9, scope := 0 }) h e s → ownsDevice h s = true → s.pwr.pl < level.val →
    (∀ p ∈ servingPipes s, pipeLoad p s ≤ pipeCapacity level.val) →
    exec (.perfLevelSet h level) s = .next (setPhase e (.running s.pwr.pl) (post 0x4F0 .info (level.val + s.pwr.pl * 2 ^ 2)
      { s with pwr := { s.pwr with plTarget := some level.val, rampEnd := s.now + rampNs s.pwr.pl level.val, pl := level.val } }))) ∧
  (∀ h level e s, startable 0x0102 (some { kind := 9, scope := 0 }) h e s → ownsDevice h s = true → level.val < s.pwr.pl →
    (∀ p ∈ servingPipes s, pipeLoad p s ≤ pipeCapacity level.val) →
    exec (.perfLevelSet h level) s = .next (setPhase e (.running s.pwr.pl)
      { s with pwr := { s.pwr with plTarget := some level.val, rampEnd := s.now + rampNs s.pwr.pl level.val } })) ∧
  (∀ h level e s p, startable 0x0102 (some { kind := 9, scope := 0 }) h e s → ownsDevice h s = true → level.val ≠ s.pwr.pl →
    p ∈ servingPipes s → pipeCapacity level.val < pipeLoad p s →
    exec (.perfLevelSet h level) s = .next (finish e stLimit 0x0110 0 [] s)) ∧
  (∀ h k e s, startable 0x0101 none h e s →
    ∃ r, exec (.cupolaStatus h k) s = .next (finish e stOk 0 0 r s) ∧ r.length = 32 ∧
      r.head? = some (BitVec.ofNat 8 (cupCode (cup s k.val).state))) ∧
  (∀ h e s, startable 0x0106 none h e s → ∃ r, exec (.maintStatus h) s = .next (finish e stOk 0 0 r s) ∧ r.length = 64) ∧
  (∀ h e s, startable 0x0107 none h e s → ∃ r, exec (.safetyStatus h) s = .next (finish e stOk 0 0 r s) ∧ r.length = 32) ∧
  (∀ h k e s, startable 0x0104 none h e s → ownsDevice h s = true → isPipelineCupola k.val = false →
    isDramCupola k.val = false → (cup s k.val).state = .fenced →
    exec (.cupolaRestore h k) s = .next (setPhase e (.running k.val) s)) ∧
  (∀ h tests e s, startable 0x0108 (some { kind := 12, scope := 0 }) h e s → ownsDevice h s = true →
    exec (.safetySelfTest h tests) s = .next (setPhase e (.running tests.toNat) s))

/-! ## Ranges 0x02 and 0x03 -/

/-- TREE_CONFIGURE, BURST_PROFILE_SET, TREE_ENABLE, TREE_DISABLE, TREE_STATUS and BURST_RECORD_READ complete with what the
tables give: the tree configured with its defaults, the profile set with its defaults, the tree started with its counts at
zero on the pipeline that the port budget places it on, the tree stopped, at its next frame boundary where it sends frames, 64
bytes of status, records most recent first.

The terminal commands: an admission of a free index and serial number lists the terminal with its default contexts; a
disable and a re-enable move it to O7 and O1; a removal leaves it unlisted; a ranging and a rogue probe run on; the status
is 64 bytes; the discovered list is read. -/
def Obligations.TreeAndTerminalCommandsComplete : Prop :=
  (∀ h p e s, startable 0x0200 none h e s → owns h kTree p.tree.val s = true → p.wf = true →
    (tree s p.tree.val).enabled = false → (portEnt s p.tree.val).enabled = false → minTeqd p.maxReach (givenIndex p) ≤ givenTeqd p →
    exec (.treeConfigure h p) s = .next (finish e stOk 0 0 [] (setTree s p.tree.val (withTree (tree s p.tree.val) p)))) ∧
  (∀ h (t : Fin 64) k p e s, startable 0x0203 none h e s → owns h kTree t.val s = true → p.wf = true →
    (tree s t.val).enabled = false →
    exec (.burstProfileSet h t k p) s = .next (finish e stOk 0 0 [] (setTree s t.val { tree s t.val with
      profiles := tset none k.val (some (profileDefaults p)) (tree s t.val).profiles }))) ∧
  (∀ h (t : Fin 64) e s s1, startable 0x0201 none h e s → owns h kTree t.val s = true → protConfigured t.val s = false →
    (cup s t.val).state = .active → (tree s t.val).configured = true → (profileOf s t.val 0).isSome = true →
    enablePort t.val (treeRate (tree s t.val).mode) s = .placed s1 →
    exec (.treeEnable h t) s = .next (finish e stOk 0 0 [] (startTree t.val true s1)) ∧
    (tree (startTree t.val true s1) t.val).enabled = true ∧ (tree (startTree t.val true s1) t.val).countBursts = 0) ∧
  (∀ h (t : Fin 64) e s, startable 0x0202 none h e s → owns h kTree t.val s = true → protConfigured t.val s = false →
    sendsFrames t.val s = false →
    exec (.treeDisable h t) s = .next (finish e stOk 0 0 [] (stopTree t.val s)) ∧
    (tree (stopTree t.val s) t.val).enabled = false ∧ (tree (stopTree t.val s) t.val).txen = false) ∧
  (∀ h (t : Fin 64) e s, startable 0x0202 none h e s → owns h kTree t.val s = true → protConfigured t.val s = false →
    sendsFrames t.val s = true → exec (.treeDisable h t) s = .next (setPhase e (.running t.val) s)) ∧
  (∀ h (t : Fin 64) e s, startable 0x0204 none h e s →
    ∃ r, exec (.treeStatus h t) s = .next (finish e stOk 0 0 r s) ∧ r.length = 64 ∧
      r.head? = some (BitVec.ofNat 8 (treeStateCode t.val s))) ∧
  (∀ h (t : Fin 64) exceptions count e s, startable 0x0205 none h e s → 1 ≤ count → count ≤ 1024 →
    (tree s t.val).bursts ≠ [] → (tree s t.val).exceptions ≠ [] →
    exec (.burstRecordRead h t exceptions count) s = .next (finish e stOk 0 0
      (((if exceptions then (tree s t.val).exceptions else (tree s t.val).bursts).take count).flatMap (recordBytes t.val)) s)) ∧
  (∀ h p e s, startable 0x0301 none h e s → owns h kTree p.tree.val s = true → ownsDomain h p.domain.val s = true →
    p.wf = true → (terminal s p.tree.val p.terminal.val).admitted = false →
    (∀ x ∈ s.tr.terminals, x.2.admitted = true → x.2.serial ≠ p.serial) →
    exec (.terminalAdmit h p) s = .next (finish e stOk 0 0 [] (admitTerminal p.tree.val p s)) ∧
    (terminal (admitTerminal p.tree.val p s) p.tree.val p.terminal.val).admitted = true ∧
    (terminal (admitTerminal p.tree.val p s) p.tree.val p.terminal.val).state = 0 ∧
    (terminal (admitTerminal p.tree.val p s) p.tree.val p.terminal.val).serial = p.serial) ∧
  (∀ h (t : Fin 64) (i : Fin 512) e s, startable 0x0303 none h e s → owns h kTree t.val s = true →
    (terminal s t.val i.val).admitted = true → (terminal s t.val i.val).ranging = none →
    (∃ s', exec (.terminalDisable h t i false) s = .next (finish e stOk 0 0 [] s') ∧ (terminal s' t.val i.val).state = 6) ∧
    (∃ s', exec (.terminalDisable h t i true) s = .next (finish e stOk 0 0 [] s') ∧ (terminal s' t.val i.val).state = 1)) ∧
  (∀ h (t : Fin 64) (i : Fin 512) e s, startable 0x0304 none h e s → owns h kTree t.val s = true →
    (terminal s t.val i.val).admitted = true →
    ∃ s', exec (.terminalRemove h t i) s = .next (finish e stOk 0 0 [] s') ∧ terminal s' t.val i.val = {}) ∧
  (∀ h (t : Fin 64) (i : Fin 512) e s, startable 0x0302 (some { kind := 7, scope := t.val }) h e s →
    owns h kTree t.val s = true → (terminal s t.val i.val).admitted = true → (tree s t.val).enabled = true →
    ((terminal s t.val i.val).state = 2 ∨ (terminal s t.val i.val).state = 4) →
    (profileOf s t.val (terminal s t.val i.val).profile).isSome = true →
    exec (.terminalRange h t i) s = .next (setPhase e (.running (t.val * 512 + i.val)) (startRanging t.val i.val s)) ∧
    (terminal (startRanging t.val i.val s) t.val i.val).state = 3) ∧
  (∀ h (t : Fin 64) (i : Fin 512) e s, startable 0x0305 none h e s → (terminal s t.val i.val).admitted = true →
    ∃ r, exec (.terminalStatus h t i) s = .next (finish e stOk 0 0 r s) ∧ r.length = 64) ∧
  (∀ h (t : Fin 64) us e s, startable 0x0306 (some { kind := 7, scope := t.val }) h e s → owns h kTree t.val s = true →
    125 ≤ us → us ≤ 10000 → us % 125 = 0 → (tree s t.val).enabled = true →
    exec (.rogueProbe h t us) s = .next (setPhase e (.running (t.val + 64 * (tree s t.val).probeSeq))
      (setTree s t.val { tree s t.val with
        probes := (tree s t.val).probes ++ [{ key := t.val + 64 * (tree s t.val).probeSeq, ends := s.now + us * 1000 }],
        probeSeq := (tree s t.val).probeSeq + 1 }))) ∧
  (∀ h (t : Fin 64) e s, startable 0x0307 none h e s → (tree s t.val).discovered ≠ [] →
    exec (.discoveredRead h t) s = .next (finish e stOk 0 0
      ((tree s t.val).discovered.flatMap (fun x => le 8 x.1 ++ le 8 x.2)) s))

/-- The equalisation delay of a tree leaves room for its reach, in the terms of R141: a TEQD_NS, after its default is
applied, that falls short of 35,000 ns + 2 × MAX_REACH_M × GROUP_INDEX / c is REFUSED with DETAIL 0x204, and the tree, as
everything but the completion, stays as it was. -/
def Obligations.EqualisationDelayLeavesRoom : Prop :=
  ∀ h p e s, startable 0x0200 none h e s → owns h kTree p.tree.val s = true → p.wf = true →
    (tree s p.tree.val).enabled = false → (portEnt s p.tree.val).enabled = false →
    ((givenTeqd p : Int) - 35000) * 299792458 * 1000000 < 2 * p.maxReach * givenIndex p * 1000000000 →
    exec (.treeConfigure h p) s = .next (finish e stRefused 0x0204 0 [] s)

/-- The burst receiver of a tree: a window that a map granted is searched once it has opened; a provisional lock wakes a gated tree and
opens the delimiter window; an amplitude step or the window's close locks again, unless a delimiter is accepted in the same cycle; a
delimiter within the window that begins at least MIN_RELOCK symbols after the lock makes the lock
final and latches amplitude and offset, and an earlier one changes nothing; after that nothing locks again.

What a granted window leaves: its record, with LATE_LOCK after a step's re-lock and NO_DELIMITER otherwise where no
delimiter was accepted; a strobe that falls due is issued, or skipped with the record marked where a reading of the tree is
pending; the reading goes into the record that waits for it; energy outside every window is counted, and powers a gated
tree. The tree's window closes.

In each ring of records the newest replaces the oldest: the all-bursts ring keeps 4,096 and the exceptions ring, of those
with one of the five flags, 1,024. -/
def Obligations.BurstsAreReceivedAndRecorded : Prop :=
  (∀ (t : Fin 64) (w : WindowFacts) s g, (tree s t.val).enabled = true → protTransmits t.val s = true →
    (tree s t.val).scheduled.find? (fun x => decide (x.terminal = w.terminal.val) && decide (x.ranging = w.ranging) &&
      decide (windowOpens t.val x s ≤ s.now)) = some g →
    exec (.burstWindowStart t w) s = .next (setTerminal (setTree s t.val { tree s t.val with
        scheduled := (tree s t.val).scheduled.erase g, window := some { record :=
          { terminal := w.terminal.val, profile := (terminal s t.val w.terminal.val).profile, ranging := w.ranging } } })
      t.val w.terminal.val { terminal s t.val w.terminal.val with windowMap := g.superframe, windowCtxs := g.ctxs })) ∧
  (∀ (t : Fin 64) symbol amplitude s w p, (tree s t.val).window = some w → windowProfile t.val w s = some p →
    w.final = false → w.lock = none →
    exec (.provisionalLock t symbol amplitude) s = .next (setTree (wakeTree t.val s) t.val { tree s t.val with
      window := some { w with lock := some symbol, close := symbol + p.delimWindow } })) ∧
  (∀ (t : Fin 64) symbol amplitude s w p, (tree s t.val).window = some w → windowProfile t.val w s = some p →
    w.final = false → w.lock.isSome = true → delimiterComes t.val s = false →
    exec (.relock t symbol amplitude) s = .next (setTree s t.val { tree s t.val with
      window := some { w with lock := some symbol, close := symbol + p.delimWindow, stepRelock := true,
                              record := { w.record with relocked := true } } }) ∧
    exec (.delimWindowClose t symbol) s = .next (setTree s t.val { tree s t.val with
      window := some { w with lock := some symbol, close := symbol + p.delimWindow,
                              record := { w.record with relocked := true } } })) ∧
  (∀ (t : Fin 64) symbol amplitude offset s w p l, (tree s t.val).window = some w → windowProfile t.val w s = some p →
    w.final = false → w.lock = some l → l + p.minRelock + delimSymbols (tree s t.val).mode ≤ symbol + 1 → symbol ≤ w.close →
    ∃ w', exec (.delimiterAccept t symbol amplitude offset) s = .next (setTerminal (setTree s t.val { tree s t.val with
        window := some w' }) t.val w.record.terminal { terminal s t.val w.record.terminal with amplitude := amplitude }) ∧
      w'.final = true ∧ w'.record.amplitude = amplitude ∧ w'.record.offset = offset ∧
      w'.record.stamp = delimiterStamp t.val s) ∧
  (∀ (t : Fin 64) symbol amplitude offset s w p l, (tree s t.val).window = some w → windowProfile t.val w s = some p →
    w.lock = some l → (symbol + 1 < l + p.minRelock + delimSymbols (tree s t.val).mode ∨ w.close < symbol ∨ w.final = true) →
    exec (.delimiterAccept t symbol amplitude offset) s = .next s) ∧
  (∀ (t : Fin 64) symbol amplitude s w, (tree s t.val).window = some w → w.final = true →
    exec (.relock t symbol amplitude) s = .next s ∧ exec (.delimWindowClose t symbol) s = .next s) ∧
  (∀ (t : Fin 64) f s w, (tree s t.val).window = some w → w.final = false →
    ∃ s', exec (.grantedWindowEnd t f) s = .next s' ∧ (tree s' t.val).window = none ∧
      (tree s' t.val).countBursts = satur 64 ((tree s t.val).countBursts + 1) ∧
      (tree s' t.val).bursts.head? = some { w.record with
        num := (tree s t.val).placed + 1, lateLock := w.stepRelock, noDelimiter := !w.stepRelock, noSignal := !w.stepRelock && !f.signalSeen }) ∧
  (∀ (t : Fin 64) f s w, (tree s t.val).window = some w → w.final = true → w.record.strobe ≠ 1 → w.record.strobe ≠ 2 →
    ∃ s' r, exec (.grantedWindowEnd t f) s = .next s' ∧ (tree s' t.val).window = none ∧
      (tree s' t.val).bursts.head? = some r ∧ r.collision = (f.stepAfter.isSome && f.failedAfterStep) ∧
      r.fecFail = decide (0 < f.cwFailed)) ∧
  (∀ (t : Fin 64) s w, (tree s t.val).window = some w → w.record.strobe = 1 → readingPending (tree s t.val) = true →
    exec (.rssiTrig t false) s = .next (setTree s t.val { tree s t.val with
      window := some { w with record := { w.record with rssiSkipped := true, strobe := 3 } } })) ∧
  (∀ (t : Fin 64) raw s r, (tree s t.val).await.find? (fun x => decide (x.strobe = 2)) = some r →
    ∃ s', exec (.rssiReading t raw true) s = .next s' ∧
      (tree s' t.val).bursts.head? = some { r with num := (tree s t.val).placed + 1, rssi := Config.rssiCentiDbm (raw % 65536), rssiValid := true, strobe := 3 } ∧
      (tree s' t.val).await = (tree s t.val).await.erase r ∧
      (terminal s' t.val r.terminal).rssi = Config.rssiCentiDbm (raw % 65536)) ∧
  (∀ (t : Fin 64) amplitude s, (cup s t.val).state = .active →
    ∃ s', exec (.outOfWindowEnergy t amplitude) s = .next s' ∧
      (tree s' t.val).countOutOfWindow = satur 32 ((tree s t.val).countOutOfWindow + 1) ∧
      (∀ u, u ≠ t.val → tree s' u = tree s u)) ∧
  (∀ (t : Nat) (r : BurstRecord) (s : State),
     (tree (placeRecord t r s) t).bursts = ({ r with num := (tree s t).placed + 1 } :: (tree s t).bursts).take 4096 ∧
     (tree (placeRecord t r s) t).exceptions =
       (if r.lateLock || r.noDelimiter || r.collision || r.fecFail || r.drift then
         ({ r with num := (tree s t).placed + 1 } :: (tree s t).exceptions).take 1024 else (tree s t).exceptions) ∧
     ∀ u, u ≠ t → tree (placeRecord t r s) u = tree s u)

/-- Discovery and ranging: a discovery window opens once DISC_PERIOD_MS has passed, and never with 0; a listed serial number is given its ONU-ID, and ranged with AUTO_RANGE; one that is not listed
goes to the head of the discovered list; a window that closes unanswered opens the next, and the last fails the ranging; a
response inside the reach moves the terminal to O5 with RTD and EQD = TEQD − RTD; a correction due is applied in O5; a probe
ends after its duration, not before.

A tree that sends frames sends one at each frame start, the first on its time base's grid: its superframe counter is the time base's at
the first frame and rises by one after that, and data pending wakes it from
duty-cycled operation; a disable that waits takes effect there; duty-cycled operation is entered after IDLE_ENTER_FRAMES idle frames, and never with 0. -/
def Obligations.TerminalsAreRangedAndSentFrames : Prop :=
  (∀ (t : Fin 64) s, (tree s t.val).enabled = true → protTransmits t.val s = true →
    discoveryDue (tree s t.val) s.now = true → (tree s t.val).probes = [] →
    exec (.discoveryWindow t) s = .next (openQuiet t.val none
      (reachSpread t.val s + Config.responseSpread (tree s t.val).mode)
      (setTree s t.val { tree s t.val with lastDisc := some s.now }))) ∧
  (∀ (t : Fin 64) s, discoveryDue (tree s t.val) s.now = false → exec (.discoveryWindow t) s = .next s) ∧
  (∀ (t : Fin 64) serial regId stamp s, (tree s t.val).enabled = true → strikesPinned t.val stamp s = false →
    (∀ x ∈ s.tr.terminals, x.1 / 512 = t.val → x.2.admitted = true → x.2.serial ≠ serial) →
    ∃ s', exec (.serialNumberResponse t serial regId stamp) s = .next s' ∧
      (tree s' t.val).discovered.head? = some (serial, stamp % 2 ^ 64) ∧ (tree s' t.val).discovered.length ≤ 64) ∧
  (∀ (t : Fin 64) serial regId stamp s k m, (tree s t.val).enabled = true → strikesPinned t.val stamp s = false →
    s.tr.terminals.find? (fun x => decide (x.1 / 512 = t.val) && x.2.admitted && decide (x.2.serial = serial)) = some (k, m) →
    m.state ≠ 6 → (profileOf s t.val m.profile).isSome = true → m.regCheck = false → m.autoRange = false →
    ∃ s', exec (.serialNumberResponse t serial regId stamp) s = .next s' ∧ (terminal s' t.val (k % 512)).state = 2) ∧
  (∀ (t : Fin 64) (i : Fin 512) s r, (terminal s t.val i.val).ranging = some r → 2 ≤ r.left →
    rangingComes t.val i.val s = false →
    exec (.rangingWindowClose t i) s = .next (openRanging t.val i.val (setTerminal s t.val i.val
      { terminal s t.val i.val with ranging := some { r with left := r.left - 1 } }))) ∧
  (∀ (t : Fin 64) (i : Fin 512) s r, (terminal s t.val i.val).ranging = some r → r.left ≤ 1 →
    rangingComes t.val i.val s = false →
    exec (.rangingWindowClose t i) s = .next (failRanging t.val i.val stEmpty 0x0304 s)) ∧
  (∀ (t : Fin 64) (i : Fin 512) grantStart delimStamp s, (terminal s t.val i.val).ranging.isSome = true →
    let rtd := roundTrip t.val i.val grantStart delimStamp s
    560000 ≤ rtd → rtd ≤ (tree s t.val).teqdNs * 16 → (tree s t.val).minReach * (32 * (tree s t.val).groupIndex * 1000) ≤ (rtd - 560000) * 299792458 →
    (rtd - 560000) * 299792458 ≤ (tree s t.val).maxReach * (32 * (tree s t.val).groupIndex * 1000) →
    exec (.rangingResponse t i grantStart delimStamp) s =
      .next (completeRunning 0x0302 (t.val * 512 + i.val) stOk 0
        (twos 32 (((tree s t.val).teqdNs * 16 : Int) - rtd) + rtd * 2 ^ 32) []
        (postTerminal t.val i.val 4 1 (emit (.ploam t.val i.val ploamRangingTime
            (sentEqd t.val (((tree s t.val).teqdNs * 16 : Int) - rtd) s))
          (setTerminal s t.val i.val { terminal s t.val i.val with
            state := 4, ranging := none, rtd := some rtd, eqd := ((tree s t.val).teqdNs * 16 : Int) - rtd,
            driftSum := 0, driftCount := 0, driftDue := none, missed := 0 }))))) ∧
  (∀ (t : Fin 64) (i : Fin 512) s d r, (terminal s t.val i.val).state = 4 → (terminal s t.val i.val).driftDue = some d → (terminal s t.val i.val).rtd = some r →
    ∃ s', exec (.driftCorrection t i) s = .next s' ∧ (terminal s' t.val i.val).rtd = some ((r : Int) + d).toNat ∧
      (terminal s' t.val i.val).eqd = ((tree s t.val).teqdNs * 16 : Int) - ((r : Int) + d).toNat ∧
      (terminal s' t.val i.val).driftDue = none) ∧
  (∀ (t : Fin 64) s p, (tree s t.val).probes.find? (fun x => decide (x.ends ≤ s.now)) = some p →
    exec (.rogueProbeEnd t) s = .next (completeRunning 0x0306 p.key stOk 0 (bit p.energy 0 + twos 16 p.maxAmp * 2 ^ 16) []
      (setTree s t.val { tree s t.val with probes := (tree s t.val).probes.erase p }))) ∧
  (∀ (t : Fin 64) s, (∀ p ∈ (tree s t.val).probes, s.now < p.ends) → exec (.rogueProbeEnd t) s = .next s) ∧
  (∀ (t : Fin 64) f s, sendsFrames t.val s = true → runsOn 0x0202 t.val s = false → firstAligned t.val s = true →
    ∃ s', exec (.downstreamFrameStart t f) s = .next s' ∧ (tree s' t.val).superframe = nextSuperframe t.val s ∧
      (tree s' t.val).started = true ∧
      (downstreamPending t.val s = true → (tree s' t.val).duty = false ∧ (tree s' t.val).idleRun = 0)) ∧
  (∀ (t : Fin 64) f s, runsOn 0x0202 t.val s = true →
    exec (.downstreamFrameStart t f) s = .next (completeRunning 0x0202 t.val stOk 0 0 [] (stopTree t.val s))) ∧
  (∀ t s, (tree s t).started = true → nextSuperframe t s = ((tree s t).superframe + 1) % 2 ^ 51) ∧
  (∀ (t : Fin 64) s, (tree s t.val).enabled = true → (tree s t.val).duty = false → (tree s t.val).idleEnter ≠ 0 →
    (tree s t.val).idleEnter ≤ (tree s t.val).idleRun →
    exec (.dutyCycleEnter t) s = .next (moveCup t.val .gated 0 (setTree s t.val { tree s t.val with duty := true }))) ∧
  (∀ (t : Fin 64) s, (tree s t.val).idleEnter = 0 → exec (.dutyCycleEnter t) s = .next s)

/-! ## Range 0x04 and the bandwidth map -/

/-- ALLOC_CONFIGURE writes the context with its parameters and pinned positions, ALLOC_REMOVE ends it, PORT_CONFIGURE and
PORT_REMOVE write and clear a port context (`beforeChange` keeps, for the frames of the same cycle, what stood before), GRANT_POLICY_SET sets the tree's policy, ALLOC_STATUS returns 64 bytes, and
COOP_INPUT_CONFIGURE sets the cooperative input.

A default context stays with its terminal: ALLOC_REMOVE and PORT_REMOVE of one are REFUSED and change nothing but the
completion. A tree never configured has no guaranteed limit: GRANT_POLICY_SET on it is REFUSED with DETAIL 0x409. -/
def Obligations.GrantCommandsComplete : Prop :=
  (∀ h p pins e s, startable 0x0400 none h e s → ownsAlloc h p.tree.val p.terminal.val s = true →
    (∀ x ∈ s.tr.allocs, x.2.present = true → x.2.tree = p.tree.val → x.1 ≠ p.ctx.val → x.2.allocId ≠ p.allocId) →
    (terminal s p.tree.val p.terminal.val).admitted = true →
    foreignCtx p.ctx.val p.tree.val p.terminal.val (alloc s p.ctx.val).present (alloc s p.ctx.val).tree
      (alloc s p.ctx.val).terminal = false →
    (tree s p.tree.val).configured = true → p.wf = true → 32768 ≤ p.ctx.val → 1024 ≤ p.allocId → p.allocId ≤ 16383 →
    furtherAllocs p.tree.val none s < 4096 → furtherAllocs p.tree.val (some p.terminal.val) s < 15 →
    admittedSum p.tree.val (some p.ctx.val) s + p.fixed + p.assured ≤ guaranteedLimit p.tree.val s →
    pinsFor p s = some pins →
    exec (.allocConfigure h p) s = .next (finish e stOk 0 (pins.headD 0) []
      (setAlloc (beforeChange s) p.ctx.val (withParams (alloc s p.ctx.val) p pins)))) ∧
  (∀ h (t : Fin 64) (ctx : Fin 65536) e s, startable 0x0401 none h e s →
    ownsAlloc h t.val (alloc s ctx.val).terminal s = true → 32768 ≤ ctx.val → (alloc s ctx.val).present = true →
    (alloc s ctx.val).tree = t.val →
    exec (.allocRemove h t ctx) s = .next (if (tree s t.val).enabled then
        setPhase e (.running ctx.val) (setAlloc s ctx.val { alloc s ctx.val with removing := true })
      else finish e stOk 0 0 [] (setAlloc (beforeChange s) ctx.val {}))) ∧
  (∀ h p e s, startable 0x0402 none h e s → owns h kTree p.tree.val s = true →
    (terminal s p.tree.val p.terminal.val).admitted = true →
    (∀ x ∈ s.tr.ports, x.2.present = true → x.2.tree = p.tree.val → x.1 ≠ p.ctx.val → x.2.portId ≠ p.portId) →
    foreignCtx p.ctx.val p.tree.val p.terminal.val (portCtx s p.ctx.val).present (portCtx s p.ctx.val).tree
      (portCtx s p.ctx.val).terminal = false →
    (p.down = true → queueDomain p.downQueue.val s = some (terminal s p.tree.val p.terminal.val).domain) → p.wf = true →
    32768 ≤ p.ctx.val → 1024 ≤ p.portId → p.portId ≤ 65534 → furtherPorts p.tree.val none s < 16384 →
    furtherPorts p.tree.val (some p.terminal.val) s < 256 →
    exec (.portConfigure h p) s = .next (finish e stOk 0 0 [] (setPortCtx (beforeChange s) p.ctx.val (portOf p.tree.val p)))) ∧
  (∀ h (t : Fin 64) (ctx : Fin 131072) e s, startable 0x0403 none h e s → owns h kTree t.val s = true → 32768 ≤ ctx.val →
    exec (.portRemove h t ctx) s = .next (finish e stOk 0 0 []
      (if (portCtx s ctx.val).tree = t.val then setPortCtx (beforeChange s) ctx.val {} else s))) ∧
  (∀ h (t : Fin 64) n limit e s, startable 0x0404 none h e s → owns h kTree t.val s = true →
    (tree s t.val).configured = true → 64 ≤ n → n ≤ 1024 → 0 < limit → limit < 2 ^ 32 →
    admittedSum t.val none s ≤ limit →
    exec (.grantPolicySet h t n limit) s = .next (finish e stOk 0 0 []
      (setTree s t.val { tree s t.val with maxStructures := n, guaranteedKbps := limit }))) ∧
  (∀ h (t : Fin 64) (ctx : Fin 65536) e s, startable 0x0405 none h e s → isVf h.id.fn = false →
    (alloc s ctx.val).present = true → (alloc s ctx.val).tree = t.val →
    ∃ r, exec (.allocStatus h t ctx) s = .next (finish e stOk 0 0 r s) ∧ r.length = 64) ∧
  (∀ h p e s, startable 0x0406 none h e s → ownsDevice h s = true → p.wf = true →
    exec (.coopInputConfigure h p) s = .next (finish e stOk 0 0 [] { s with tr := { s.tr with
      coop := { enable := p.enable, etherType := p.etherType, laneMask := p.laneMask } } })) ∧
  (∀ h (t : Fin 64) (ctx : Fin 65536) e s, startable 0x0401 none h e s →
    ownsAlloc h t.val (alloc s ctx.val).terminal s = true → ctx.val < 32768 →
    exec (.allocRemove h t ctx) s = .next (finish e stRefused 0x0402 0 [] s)) ∧
  (∀ h (t : Fin 64) (ctx : Fin 131072) e s, startable 0x0403 none h e s → owns h kTree t.val s = true → ctx.val < 32768 →
    exec (.portRemove h t ctx) s = .next (finish e stRefused 0x0407 0 [] s)) ∧
  (∀ h (t : Fin 64) n limit e s, startable 0x0404 none h e s → owns h kTree t.val s = true →
    (tree s t.val).configured = false →
    exec (.grantPolicySet h t n limit) s = .next (finish e stRefused 0x0409 0 [] s))

/-- What reaches the map: a decoded report of a burst becomes the allocation's demand, as of the map that opened its terminal's window, one
in a codeword that failed FEC does not; an announcement with another VERSION is discarded whole, one of an enabled port whose lanes LANE_MASK
admits is taken entry by entry; a map close on a tree in transmission closes the map of the next
frame, and waits for the end of the cycle where a commit, report or announcement of the cycle is still to come. -/
def Obligations.DemandAndMaps : Prop :=
  (∀ (t : Fin 64) (ctx : Fin 65536) bytes s, (alloc s ctx.val).present = true → (alloc s ctx.val).tree = t.val →
    exec (.queueReport t ctx bytes true) s = .next (setAlloc s ctx.val { alloc s ctx.val with
      reported := bytes, reportMap := (terminal s t.val (alloc s ctx.val).terminal).windowMap,
      grants := (alloc s ctx.val).grants.filter
        (fun g => decide ((terminal s t.val (alloc s ctx.val).terminal).windowMap < g.1)) })) ∧
  (∀ (t : Fin 64) (ctx : Fin 65536) bytes s, exec (.queueReport t ctx bytes false) s = .next s) ∧
  (∀ (c : CoopFrame) s, s.tr.coop.enable = true → c.etherType = s.tr.coop.etherType → (portEnt s c.port).enabled = true →
    portLanes c.port s ≠ [] → (∀ i ∈ portLanes c.port s, Nat.testBit s.tr.coop.laneMask i = true) → coopVersion c.payload = 1 →
    exec (.coopAnnouncement c) s =
      .next ((coopEntries c.payload).foldl (fun st x => coopEntry (coopDomain c s) x st) s)) ∧
  (∀ (c : CoopFrame) s, coopVersion c.payload ≠ 1 → exec (.coopAnnouncement c) s = .next s) ∧
  (∀ (t : Fin 64) s, (tree s t.val).enabled = true → protTransmits t.val s = true → mapAwaits t.val s = false →
    (∀ x ∈ s.tr.allocs, x.2.tree = t.val → x.2.removing = false) →
    ∃ s', exec (.mapClose t) s = .next s' ∧ (tree s' t.val).lastMap = nextMap t.val s ∧ (tree s' t.val).closeDue = false ∧
      (∀ u, u ≠ t.val → tree s' u = tree s u)) ∧
  (∀ (t : Fin 64) s, (tree s t.val).enabled = true → protTransmits t.val s = true → mapAwaits t.val s = true →
    exec (.mapClose t) s = .next (setTree s t.val { tree s t.val with closeDue := true }))

/-- No allocation receives more than its MAXIMUM share in one frame, pinned and fixed grants included, whatever the passes 2 to 6 are
given to fit; one with a structure that the last map could not hold receives no more than the greater of the two besides its pinned
grants. -/
def Obligations.GrantsStayWithinMaximum : Prop :=
  ∀ (level k mode : Nat) (fits : List Claim → Bool) (cs : List Claim),
    (∀ c ∈ cs, c.g1 = 0 ∧ c.g2 = 0 ∧ c.g3 = 0 ∧ c.g5 = 0 ∧ c.g6 = 0) →
    ∀ c ∈ fillPasses level k mode fits cs,
      (c.a.moved = none → c.g1 + c.total ≤ c.maximum) ∧ c.total ≤ max c.maximum (c.a.moved.getD 0)

/-- An upstream frame of a burst whose allocations all stand is checked in order, against the contexts before the cycle's changes: no context
for its Port-ID counts as an unknown port; a context of another
terminal counts as spoofed; in neither case does any queue of the packet engine take the frame. -/
def Obligations.UpstreamFramesAreChecked : Prop :=
  (∀ (t : Fin 64) x s, (tree s t.val).enabled = true → protTransmits t.val s = true →
    ((tree s t.val).staleBurst = false ∨ x.first = true) → goneOf t.val x s = none →
    (checkedPorts s).find? (fun y => y.2.present && decide (y.2.tree = t.val) && decide (y.2.portId = x.portId)) = none →
    ∃ s', exec (.upstreamXgemFrame t x) s = .next s' ∧ s'.pe.queues = s.pe.queues ∧
      (alloc s' x.ctx.val).unknownPort = satur 32 ((alloc s x.ctx.val).unknownPort + 1)) ∧
  (∀ (t : Fin 64) x s k c, (tree s t.val).enabled = true → protTransmits t.val s = true →
    ((tree s t.val).staleBurst = false ∨ x.first = true) → goneOf t.val x s = none →
    (checkedPorts s).find? (fun y => y.2.present && decide (y.2.tree = t.val) && decide (y.2.portId = x.portId)) = some (k, c) →
    c.terminal ≠ x.grantTerminal.val →
    ∃ s', exec (.upstreamXgemFrame t x) s = .next s' ∧ s'.pe.queues = s.pe.queues ∧
      (alloc s' x.ctx.val).spoof = satur 32 ((alloc s x.ctx.val).spoof + 1)) ∧
  (∀ (t : Fin 64) x s k c, (tree s t.val).enabled = true → protTransmits t.val s = true →
    ((tree s t.val).staleBurst = false ∨ x.first = true) → goneOf t.val x s = none →
    (checkedPorts s).find? (fun y => y.2.present && decide (y.2.tree = t.val) && decide (y.2.portId = x.portId)) = some (k, c) →
    c.terminal = x.grantTerminal.val → c.up = true → x.keyIndex = 0 →
    bytesOf (queue s (65536 + x.ctx.val)).onDie + x.length ≤ 1048576 →
    ∃ s' pk, exec (.upstreamXgemFrame t x) s = .next s' ∧
      (queue s' (65536 + x.ctx.val)).onDie = (queue s (65536 + x.ctx.val)).onDie ++ [pk] ∧ pk.length = x.length ∧
      tagDomain pk.tag = (terminal s t.val x.grantTerminal.val).domain % 4096)

/-! ## Range 0x05: line engines -/

/-- The line commands: a configuration that fits rate and slot is taken with its defaults, and RESULT is the symbol rate, unless
the spectrum that it produces fails the mask, which REFUSES it, as it does filters; an
enable places the port and begins acquisition, and an enabled line answers OK; a disable takes the line out of operation, and runs
until its output is muted; the queries return 64 bytes, and LINE_QUALITY's window takes the counts in or begins anew; filters and
adjustments are taken, filters of an enabled line with its next DSP frame.

The framing commands, each with the line-engine cupola awake: the configuration taken with its defaults, a tributary's
slots taken where they are free, its removal, traces written and read, the status of 64 bytes, a delay measurement begun. -/
def Obligations.LineAndFramerCommandsComplete : Prop :=
  (∀ h p e s, startable 0x0500 none h e s → owns h kLine p.line.val s = true → lineBusy p.line.val s = false →
    (line s p.line.val).enabled = false →
    (p.mode.val = 1 → p.modulation = 1 ∧ p.rate = 4) → p.wf = true → rateValid p = true → fitsSlot p = true →
    exec (.lineConfigure h p) s = .next (if spectrumOk p (line s p.line.val).filters = true then
        finish e stOk 0 (symbolKbd p) [] (setLine s p.line.val { line s p.line.val with cfg := some { p with
          mimoTaps := if p.mimoTaps = 0 then 31 else p.mimoTaps,
          sdThreshold := if p.sdThreshold = 0 then 1500 else p.sdThreshold } })
      else finish e stRefused 0x0502 0 [] s)) ∧
  (∀ h (l : Fin 4) power e s c s1, startable 0x0501 (some { kind := 8, scope := l.val }) h e s → owns h kLine l.val s = true →
    lineBusy l.val s = false → (portEnt s (0x40 + l.val)).enabled = false →
    (cup s (64 + l.val)).state = .active → (line s l.val).cfg = some c → framerFits l.val c s = true → 1300 ≤ power →
    lanternOf l.val s = true → enablePort (0x40 + l.val) (lineRate c) s = .placed s1 →
    exec (.lineEnable h l power) s = .next (finish e stOk 0 0 [] (startLine l.val s1))) ∧
  (∀ h (l : Fin 4) power e s, startable 0x0501 (some { kind := 8, scope := l.val }) h e s → owns h kLine l.val s = true →
    lineBusy l.val s = false → (portEnt s (0x40 + l.val)).enabled = true →
    exec (.lineEnable h l power) s = .next (finish e stOk 0 0 [] s)) ∧
  (∀ h (l : Fin 4) e s, startable 0x0502 none h e s → owns h kLine l.val s = true → lineBusy l.val s = false →
    exec (.lineDisable h l) s = .next (if (line s l.val).enabled = true then
        setPhase e (.running l.val) (stopLine l.val s)
      else finish e stOk 0 0 [] s)) ∧
  (∀ h (l : Fin 4) power temp e s, startable 0x0503 none h e s → lineBusy l.val s = false →
    ∃ r, exec (.lineStatus h l power temp) s = .next (finish e stOk 0 0 r s) ∧ r.length = 64) ∧
  (∀ h (l : Fin 4) clear counts m e s, startable 0x0504 none h e s → lineBusy l.val s = false → (line s l.val).lockedOnce = true →
    (clear = true → owns h kLine l.val s = true) →
    ∃ r s', exec (.lineQuality h l clear counts m) s = .next (finish e stOk 0 0 r s') ∧ r.length = 64 ∧
      (line s' l.val).quality =
        (if clear = true then { since := s.now }
         else if (line s l.val).locked = true then
           addCounts (line s l.val).quality (countsLess counts (line s l.val).early)
         else (line s l.val).quality)) ∧
  (∀ h (l : Fin 4) taps e s, startable 0x0505 none h e s → owns h kLine l.val s = true → tapsOk taps = true →
    lineBusy l.val s = false → (line s l.val).cfg = none → (line s l.val).enabled = false →
    exec (.predistortionLoad h l taps) s =
      .next (finish e stOk 0 0 [] (setLine s l.val { line s l.val with filters := some taps }))) ∧
  (∀ h (l : Fin 4) taps e s c, startable 0x0505 none h e s → owns h kLine l.val s = true → tapsOk taps = true →
    lineBusy l.val s = false → (line s l.val).cfg = some c →
    exec (.predistortionLoad h l taps) s = .next (if spectrumOk c (some taps) = true then
        finish e stOk 0 0 [] (setLine s l.val (if (line s l.val).enabled = true then
            { line s l.val with filtersNext := some taps } else { line s l.val with filters := some taps }))
      else finish e stRefused 0x0502 0 [] s)) ∧
  (∀ h p e s c, startable 0x0506 none h e s → owns h kLine p.line.val s = true → p.wf = true → lineBusy p.line.val s = false →
    (line s p.line.val).enabled = true → (line s p.line.val).cfg = some c →
    exec (.lineAdjust h p) s = .next (finish e stOk 0 0 [] (setLine s p.line.val { line s p.line.val with
      powerFrom := txPowerNow (line s p.line.val) s.now, powerSince := s.now,
      cfg := some { c with
        txPower := p.txPower, sdThreshold := if p.sdThreshold = 0 then 1500 else p.sdThreshold, maskMute := p.maskMute } }))) ∧
  (∀ h p e s, startable 0x0600 none h e s → owns h kLine p.line.val s = true → (cup s (64 + p.line.val)).state = .active →
    (line s p.line.val).enabled = false → p.wf = true →
    ∃ s', exec (.framerConfigure h p) s = .next (finish e stOk 0 0 [] s') ∧
      (framer s' p.line.val).cfg = some { p with
        nConfirm := orDefault 3 p.nConfirm, mLoss := orDefault 5 p.mLoss, mfConfirm := orDefault 2 p.mfConfirm,
        mfLoss := orDefault 5 p.mfLoss }) ∧
  (∀ h (l : Fin 4) (t : Fin 32) mask e s, startable 0x0601 none h e s → owns h kLine l.val s = true →
    (cup s (64 + l.val)).state = .active →
    (∀ u, u < 32 → u ≠ t.val →
      ((tributary s l.val u).slots ||| ((tributary s l.val u).change.getD 0)) &&& mask = 0) →
    mask ≠ 0 → mask < 2 ^ (20 * framerRate l.val s) → tributaryExists (tributary s l.val t.val) = false →
    exec (.tributaryConfigure h l t mask) s = .next (finish e stOk 0 0 [] (changeLayout l.val t.val mask s))) ∧
  (∀ h (l : Fin 4) (t : Fin 32) e s, startable 0x0602 none h e s → owns h kLine l.val s = true →
    (cup s (64 + l.val)).state = .active → tributaryExists (tributary s l.val t.val) = true →
    exec (.tributaryRemove h l t) s = .next (if framing l.val s then
        setPhase e (.running (l.val * 32 + t.val)) (changeLayout l.val t.val 0 s)
      else finish e stOk 0 0 [] (changeLayout l.val t.val 0 s))) ∧
  (∀ h (l : Fin 4) e s, startable 0x0603 none h e s → (cup s (64 + l.val)).state = .active →
    ∃ r, exec (.framerStatus h l) s = .next (finish e stOk 0 0 r s) ∧ r.length = 64) ∧
  (∀ h p e s, startable 0x0604 none h e s → owns h kLine p.line.val s = true → (cup s (64 + p.line.val)).state = .active →
    p.wf = true →
    ∃ s', exec (.ttiSet h p) s = .next (finish e stOk 0 0 [] s') ∧
      (let t := if p.pm then (framer s' p.line.val).pm else (framer s' p.line.val).sm
       if p.expected then t.expected = p.tti else if framing p.line.val s then t.next = some p.tti else t.sent = p.tti)) ∧
  (∀ h (l : Fin 4) e s, startable 0x0605 none h e s → owns h kLine l.val s = true → (cup s (64 + l.val)).state = .active →
    framing l.val s = true → (framer s l.val).measuring = false →
    exec (.delayMeasure h l) s = .next (setPhase e (.running l.val)
      (setFramer s l.val { framer s l.val with measuring := true, dmpOut := !(framer s l.val).dmpOut, dmSent := none }))) ∧
  (∀ h (l : Fin 4) e s x, startable 0x0606 none h e s → (cup s (64 + l.val)).state = .active →
    (framer s l.val).sm.accepted = some x →
    ∃ r, exec (.ttiRead h l) s = .next (finish e stOk 0 0 r s) ∧ r.length = 128 ∧ r.take 64 = traceBytes x)

/-- A native configuration outside 60 to 240 GBd completes with LIMIT and DETAIL 0x500, B being 62.320447 × n × 20 over 20 × H,
in kBd; the engine keeps what it had. -/
def Obligations.SymbolRateLimits : Prop :=
  ∀ h p e s, startable 0x0500 none h e s → owns h kLine p.line.val s = true → lineBusy p.line.val s = false →
    (line s p.line.val).enabled = false → p.mode.val = 0 → p.wf = true →
    (62320447 * p.rate * 20 < 60000000 * entropyX20 p ∨ 240000000 * entropyX20 p < 62320447 * p.rate * 20) →
    exec (.lineConfigure h p) s = .next (finish e stLimit 0x0500 0 [] s)

/-- Acquisition and the monitors: a step that ends leads to the next, step 2 taking no time, and step 9 to lock; headers of
another format or rate stop it as a mismatch; a step that overruns restarts it at step 1 and is counted; a loss of lock
restarts it at step 4; light lost by the laser or the receiver unlocks the engine.

The Lantern's monitors, the mask check and the signal-degrade check act as R208, R219 and R245 say: a monitor's condition is
set and cleared; a mask violation mutes for good where MASK_MUTE is set; a pre-FEC ratio above the threshold sets
SIGNAL_DEGRADE and one below 0.9 of it clears it. -/
def Obligations.LinesAcquireAndMonitor : Prop :=
  (∀ (l : Fin 4) format rate s c, (line s l.val).cfg = some c → (line s l.val).enabled = true → (line s l.val).step ≠ 0 →
    (line s l.val).step ≠ 9 → ((line s l.val).step ≠ 7 ∨ (format = formatOf c ∧ rate = c.rate)) →
    exec (.acquisitionStepEnd l format rate) s = .next (setLine s l.val { line s l.val with
      step := (if (line s l.val).step = 1 then 3 else (line s l.val).step + 1), stepStart := s.now })) ∧
  (∀ (l : Fin 4) format rate s c, (line s l.val).cfg = some c → (line s l.val).enabled = true → (line s l.val).step = 9 →
    ∃ s', exec (.acquisitionStepEnd l format rate) s = .next s' ∧ (line s' l.val).locked = true ∧ (line s' l.val).step = 0 ∧
      (line s' l.val).acqCount = satur 32 ((line s l.val).acqCount + 1)) ∧
  (∀ (l : Fin 4) format rate s c, (line s l.val).cfg = some c → (line s l.val).enabled = true → (line s l.val).step = 7 →
    c.mode.val = 0 → ¬(format = formatOf c ∧ rate = c.rate) →
    ∃ s', exec (.acquisitionStepEnd l format rate) s = .next s' ∧ (line s' l.val).mismatch = true ∧
      (line s' l.val).step = 0 ∧ (line s' l.val).locked = (line s l.val).locked) ∧
  (∀ (l : Fin 4) s c, (line s l.val).cfg = some c → (line s l.val).enabled = true → (line s l.val).step ≠ 0 →
    losOf (line s l.val) = false → lapsed (line s l.val).stepStart (stepBound c (line s l.val).step) s = true →
    ∃ s', exec (.acquisitionStepTimeout l) s = .next s' ∧ (line s' l.val).step = 1 ∧
      (line s' l.val).acqRetry = satur 32 ((line s l.val).acqRetry + 1)) ∧
  (∀ (l : Fin 4) s, (line s l.val).enabled = true → (line s l.val).mismatch = true → losOf (line s l.val) = false →
    (line s l.val).mismatchAt + 10000000 ≤ s.now →
    ∃ s', exec (.mismatchRestart l) s = .next s' ∧ (line s' l.val).step = 1 ∧ (line s' l.val).mismatch = false) ∧
  (∀ (l : Fin 4) s, (line s l.val).enabled = true → (line s l.val).locked = true → losOf (line s l.val) = false →
    ∃ s', exec (.lossOfLock l) s = .next s' ∧ (line s' l.val).step = 4 ∧ (line s' l.val).locked = false) ∧
  (∀ (l : Fin 4) (m : Fin 5) reading s, m.val ≠ 3 →
    ∃ s', exec (.lanternMonitorAssert l m reading) s = .next s' ∧ monitorOf m.val (line s' l.val) = true ∧
      (m.val ≤ 1 → (line s l.val).enabled = true → losOf (line s l.val) = false → (line s' l.val).locked = false)) ∧
  (∀ (l : Fin 4) (m : Fin 5) reading s,
    ∃ s', exec (.lanternMonitorClear l m reading) s = .next s' ∧ monitorOf m.val (line s' l.val) = false) ∧
  (∀ (l : Fin 4) s c, (line s l.val).enabled = true → mutedOf l.val s = false → (line s l.val).cfg = some c →
    ∃ s', exec (.maskCheck l false) s = .next s' ∧ (line s' l.val).maskViolation = true ∧
      mutedOf l.val s' = c.maskMute) ∧
  (∀ (l : Fin 4) (n : LineCounts) s c, (line s l.val).enabled = true → (line s l.val).locked = true →
    (line s l.val).cfg = some c →
    ∃ s', exec (.signalDegradeCheck l n) s = .next s' ∧
      (c.sdThreshold * n.bits < n.preFecErrors * 100000 → (line s' l.val).degrade = true) ∧
      (n.preFecErrors * 1000000 < 9 * c.sdThreshold * n.bits → (line s' l.val).degrade = false) ∧
      (line s' l.val).quality.bits = (line s l.val).quality.bits + (n.bits - (line s l.val).early.bits))

/-! ## Range 0x06: line framers -/

/-- Frame alignment goes from state to state as the table of R251 says, with N_CONFIRM and M_LOSS: a correct frame at an
untracked position with a place free (16, and R252's) is tracked with count 1, or brings IF if N is 1; with none free it is not
tracked; at N the framer aligns to the candidate and discards the others; an errored candidate is discarded; in IF, M errored
frames in a row lose alignment, and what stands elsewhere is ignored. -/
def Obligations.FrameAlignmentStates : Prop :=
  ∀ (now places : Nat) (c : FramerP) (f : Framer) (pos : Nat),
    (∀ ok, f.state = .held → alignFrame now c f pos ok places = f) ∧
    (f.state = .search ∨ f.state = .candidate → f.candidates.find? (fun x => decide (x.1 = pos)) = none →
      f.candidates.length < places → 1 < c.nConfirm →
      (alignFrame now c f pos true places).candidates = f.candidates ++ [(pos, 1)] ∧
      (alignFrame now c f pos true places).state = .candidate) ∧
    (f.state = .search ∨ f.state = .candidate → f.candidates.find? (fun x => decide (x.1 = pos)) = none →
      f.candidates.length < places → c.nConfirm ≤ 1 →
      (alignFrame now c f pos true places).state = .inFrame ∧ (alignFrame now c f pos true places).aligned = pos) ∧
    (f.state = .search ∨ f.state = .candidate → f.candidates.find? (fun x => decide (x.1 = pos)) = none →
      places ≤ f.candidates.length → alignFrame now c f pos true places = f) ∧
    (∀ n, f.state = .search ∨ f.state = .candidate → f.candidates.find? (fun x => decide (x.1 = pos)) = some (pos, n) →
      c.nConfirm ≤ n + 1 →
      (alignFrame now c f pos true places).state = .inFrame ∧ (alignFrame now c f pos true places).aligned = pos ∧
      (alignFrame now c f pos true places).candidates = []) ∧
    (∀ x, f.state = .search ∨ f.state = .candidate → f.candidates.find? (fun y => decide (y.1 = pos)) = some x →
      (alignFrame now c f pos false places).candidates = f.candidates.filter (fun y => decide (y.1 ≠ pos)) ∧
      ((alignFrame now c f pos false places).state = .search ↔ f.candidates.filter (fun y => decide (y.1 ≠ pos)) = [])) ∧
    (f.state = .inFrame → pos = f.aligned → (alignFrame now c f pos true places).frameErrors = 0 ∧
      (alignFrame now c f pos true places).state = .inFrame) ∧
    (f.state = .inFrame → pos = f.aligned → c.mLoss ≤ f.frameErrors + 1 →
      (alignFrame now c f pos false places).state = .search ∧ (alignFrame now c f pos false places).frameErrors = 0) ∧
    (f.state = .inFrame → pos = f.aligned → f.frameErrors + 1 < c.mLoss →
      (alignFrame now c f pos false places).state = .inFrame ∧
      (alignFrame now c f pos false places).frameErrors = f.frameErrors + 1) ∧
    (∀ ok, f.state = .inFrame → pos ≠ f.aligned → alignFrame now c f pos ok places = f)

/-- What a framer meets: a frame of a locked native line is aligned; LOF, after 3 ms of OOF, brings LOM with it and clears only
after 3 ms in IF; LOM is declared only in OOM, after 3 ms of it; a multiframe boundary sends every configured tributary its Cm; the
returned DMp ends a measurement, whose RESULT is the interval between the two stamps. -/
def Obligations.FramersFollowTheSignal : Prop :=
  (∀ (l : Fin 4) f s s1 c, s1 = portBoundary (0x40 + l.val) s → (framer s1 l.val).cfg = some c → lineLocked l.val s1 = true →
    line400zr l.val s1 = false → earlierWins l.val c f s1 = false →
    ∃ s', exec (.frameAlignment l f) s = .next s' ∧
      (framer s' l.val).state =
        (alignFrame s1.now c (framer s1 l.val) f.position f.correct (candidatePlaces l.val s1)).state) ∧
  (∀ (l : Fin 4) s, framing l.val s = true → oof (framer s l.val) = true → lapsed (framer s l.val).since 3000000 s = true →
    ∃ s', exec (.lofDeclare l) s = .next s' ∧ (framer s' l.val).lof = true ∧ (framer s' l.val).lom = true) ∧
  (∀ (l : Fin 4) s, oof (framer s l.val) = false →
    (lapsed (framer s l.val).since 3000000 s = true →
      ∃ s', exec (.lofClear l) s = .next s' ∧ (framer s' l.val).lof = false) ∧ exec (.lofDeclare l) s = .next s) ∧
  (∀ (l : Fin 4) s, oof (framer s l.val) = false → (framer s l.val).im = false →
    (lapsed (framer s l.val).mfSince 3000000 s = true →
      ∃ s', exec (.lomDeclare l) s = .next s' ∧ (framer s' l.val).lom = true) ∧ exec (.lomClear l) s = .next s) ∧
  (∀ (l : Fin 4) s, (framer s l.val).im = true → lapsed (framer s l.val).mfSince 3000000 s = true →
    ∃ s', exec (.lomClear l) s = .next s' ∧ (framer s' l.val).lom = false) ∧
  (∀ (l : Fin 4) ppb s s1 c, s1 = portBoundary (0x40 + l.val) s → (framer s1 l.val).cfg = some c → framing l.val s1 = true →
    exec (.multiframeBoundary l ppb) s = .next (if boundaryAwaits l.val s1 = true then
        setFramer s1 l.val { framer s1 l.val with boundaryDue := some ppb }
      else beginMultiframe l.val c ppb s1)) ∧
  (∀ (l : Fin 4) ppb s c, ∃ cms msi control, Output.multiframe l.val cms msi control ∈ (beginMultiframe l.val c ppb s).out) ∧
  (∀ (l : Fin 4) s sent, (framer s l.val).measuring = true → (framer s l.val).dmSent = some sent →
    exec (.dmpReturn l) s = .next (completeRunning 0x0605 l.val stOk 0
      ((shiftedStamp (portTimeBase (0x40 + l.val) s) 0 s / 4096 + 2 ^ 80 - sent % 2 ^ 80) % 2 ^ 40) []
      (setFramer s l.val { framer s l.val with
        measuring := false, dmSent := none, dmpIn := (framer s l.val).dmpOut })))

/-! ## Range 0x07: keys, sealing, MACsec -/

/-- The cipher commands: a key exchange runs on until the terminal answers; a seal and a MACsec configuration are taken; the
queries return 32 and 64 bytes; a zeroised store resumes while no source is present.

Reception at the edges: an accepted seal control message applies to the next multiframe, and a multiframe that opens with none
accepted counts one error; a block of a verified multiframe is counted in BLOCKS_VERIFIED if its tag passes and in BLOCKS_FAILED if it
fails; a MACsec frame that fails integrity is dropped and counted, and one that passes moves the lowest acceptable packet number up. -/
def Obligations.CipherCommandsAndReception : Prop :=
  (∀ h (t : Fin 64) (i : Fin 512) e s, startable 0x0700 none h e s → owns h kTree t.val s = true →
    (terminal s t.val i.val).state = 4 → s.cph.zeroised = false →
    exec (.treeKeyExchange h t i) s = .next (setPhase e (.running (t.val * 512 + i.val))
      (emit (.keyRequest t.val i.val (nextKeyIndex (slot s kindTree (treeSlot t.val i.val 0)))) s))) ∧
  (∀ h p e s c, startable 0x0701 none h e s → owns h kLine p.line.val s = true → (cup s (64 + p.line.val)).state = .active →
    (framer s p.line.val).cfg = some c → c.sealedLayout = true → line400zr p.line.val s = false →
    ownsDomain h p.domain.val s = true →
    exec (.lineSealConfigure h p) s = .next (finish e stOk 0 0 [] (setSeal s p.line.val { sealOf s p.line.val with
      change := some (p.enable, p.early), domain := some p.domain.val }))) ∧
  (∀ h p e s, startable 0x0702 none h e s → owns h kLaneGroup (p.lane.val / 8) s = true →
    (portEnt s (0x80 + p.lane.val)).enabled = true → ownsDomain h p.domain.val s = true → p.wf = true →
    ∃ m, exec (.macsecConfigure h p) s = .next (finish e stOk 0 0 [] (setMacsec s p.lane.val m)) ∧ m.enable = p.enable ∧
      m.domain = some p.domain.val ∧ m.replayWindow = p.replayWindow ∧ m.nextPn = (macsec s p.lane.val).nextPn ∧
      m.drops = (macsec s p.lane.val).drops) ∧
  (∀ h (k : Fin 3) n d e s, startable 0x0703 none h e s → slotExists k.val n = true → slotDomain k.val n s = some d →
    ownsDomain h d s = true →
    ∃ r, exec (.keySlotStatus h k n) s = .next (finish e stOk 0 0 r s) ∧ r.length = 32) ∧
  (∀ h e s, startable 0x0704 none h e s → ownsDevice h s = true → s.cph.zeroised = true →
    ∃ s', exec (.keyStoreResume h 0) s = .next (finish e stOk 0 0 [] s') ∧ s'.cph.zeroised = false ∧
      s'.cph.slots = s.cph.slots) ∧
  (∀ h (l : Fin 4) e s, startable 0x0705 none h e s →
    ∃ r, exec (.sealStatus h l) s = .next (finish e stOk 0 0 r s) ∧ r.length = 64) ∧
  (∀ (l : Fin 4) bytes s, lineLocked l.val s = true → (framer s l.val).im = true →
    ∃ s', exec (.sealControlMessage l bytes) s = .next s' ∧ (sealOf s' l.val).rxNext = parseSeal bytes) ∧
  (∀ l s, (sealOf s l).rxNext = none →
    (sealOf (openMultiframe l s) l).ctrlErrors = satur 32 ((sealOf s l).ctrlErrors + 1)) ∧
  (∀ (l : Fin 4) bytes n truncated delivered s, lineLocked l.val s = true → (framer s l.val).im = true →
    (sealOf s l.val).rxSealing = true → (sealOf s l.val).rxKeyOk = true →
    (halfOf (slot s kindLine (rxSlot l.val)) (sealOf s l.val).rxHalf).state = .active → pairServes 1 l.val s = true →
    ∃ s', exec (.sealingBlockReceive l false bytes true n truncated delivered) s = .next s' ∧
      (if (openBlock (halfOf (slot s kindLine (rxSlot l.val)) (sealOf s l.val).rxHalf) (sealOf s l.val).rxSeq
            ((sealOf s l.val).rxBlock + 1) bytes).2 = true then
        (sealOf s' l.val).verified = satur 64 ((sealOf s l.val).verified + 1) ∧ (sealOf s' l.val).failedRun = 0
      else
        (sealOf s' l.val).failed = satur 64 ((sealOf s l.val).failed + 1) ∧ (sealOf s' l.val).verifiedRun = 0)) ∧
  (∀ f s s1 b, (macsec s f.lane.val).enable = true → s1 = settleCommits kindMacsec (2 * f.lane.val + 1) s →
    pairServes 2 f.lane.val s1 = true → matching (slot s1 kindMacsec (2 * f.lane.val + 1)) f.an.val = some b →
    (halfOf (slot s1 kindMacsec (2 * f.lane.val + 1)) b).state = .active → f.compareOk = true →
    ∃ s', exec (.macsecRxFrame f) s = .next s' ∧
      (if icvOk (halfOf (slot s1 kindMacsec (2 * f.lane.val + 1)) b) f = true then
        (macsec s1 f.lane.val).replayProtect = false →
          (macsec s' f.lane.val).nextPn = max (macsec s1 f.lane.val).nextPn (f.pn + 1)
      else (macsec s' f.lane.val).drops = (macsec s1 f.lane.val).drops + 1))

/-- Key windows: every commit clears the page's staging registers, whatever its RESULT; one written while BUSY is discarded
with RESULT 4 and changes no slot; one that completes with RESULT 0 loads the standby half with the staged key at count 0,
and leaves the half in use as it was; an ERASE empties both halves at once. -/
def Obligations.KeyCommits : Prop :=
  (∀ f s, windowsDown s = false →
    (∃ s', exec (.keyCommitWrite f) s = .next s' ∧ (keyPage s' (pciKey f)).data = 0 ∧ (keyPage s' (pciKey f)).salt = 0 ∧
      (keyPage s' (pciKey f)).ssci = 0 ∧ (keyPage s' (pciKey f)).limit = 0 ∧ s'.cph.slots = s.cph.slots) ∧
    (∃ s', exec (.keyCommitErase f) s = .next s' ∧ (keyPage s' (pciKey f)).data = 0 ∧ (keyPage s' (pciKey f)).salt = 0 ∧
      (keyPage s' (pciKey f)).ssci = 0 ∧ (keyPage s' (pciKey f)).limit = 0)) ∧
  (∀ f s c, windowsDown s = false → (keyPage s (pciKey f)).busy = some c →
    ∃ s', exec (.keyCommitWrite f) s = .next s' ∧ exec (.keyCommitErase f) s = .next s' ∧
      (keyPage s' (pciKey f)).result = 4 ∧ (keyPage s' (pciKey f)).busy = some c ∧ s'.cph.slots = s.cph.slots) ∧
  (∀ f s c, (keyPage s (pciKey f)).busy = some c → c.result = 0 → c.erase = false → s.cph.zeroised = false →
    zeroisesNow s = false →
    ∃ s', exec (.keyCommitComplete f) s = .next s' ∧ (keyPage s' (pciKey f)).busy = none ∧
      (keyPage s' (pciKey f)).result = 0 ∧
      (let b := standby (slot s c.kind c.slot)
       (halfOf (slot s' c.kind c.slot) b).state = .loaded ∧ (halfOf (slot s' c.kind c.slot) b).key = c.staged.key ∧
       (halfOf (slot s' c.kind c.slot) b).count = 0 ∧
       halfOf (slot s' c.kind c.slot) (!b) = halfOf (slot s c.kind c.slot) (!b))) ∧
  (∀ k n s, slot (eraseSlot k n s) k n = {})

/-- Zeroisation by a source that is armed empties every half of every slot and every staging register, erases the pairing
keys, and marks the store ZEROISED; a tree's key response loads both standby halves of the terminal.

KEY_STORE_RESUME is EMPTY on a store that is not zeroised, and REFUSED with DETAIL 0x705 while a source is present. -/
def Obligations.ZeroisationEmptiesTheStore : Prop :=
  (∀ sources s, armedSources sources s ≠ 0 →
    ∃ s', exec (.zeroisation sources) s = .next s' ∧ s'.cph.zeroised = true ∧ s'.boot.pairingKeys = [] ∧
      (∀ k n, slot s' k n = {}) ∧
      (∀ f, (keyPage s' f).data = 0 ∧ (keyPage s' f).salt = 0 ∧ (keyPage s' f).ssci = 0)) ∧
  (∀ (t : Fin 64) (i : Fin 512) key s, runsOn 0x0700 (t.val * 512 + i.val) s = true → s.cph.zeroised = false →
    ∃ s1, exec (.ploamKeyResponse t i key) s = .next (completeRunning 0x0700 (t.val * 512 + i.val) stOk 0 0 [] s1) ∧
      s1 = loadStandby kindTree (treeSlot t.val i.val 1)
          { key := key % 2 ^ 128, number := nextKeyIndex (slot s kindTree (treeSlot t.val i.val 0)) }
        (loadStandby kindTree (treeSlot t.val i.val 0)
          { key := key % 2 ^ 128, number := nextKeyIndex (slot s kindTree (treeSlot t.val i.val 0)) } s)) ∧
  (∀ h sources e s, startable 0x0704 none h e s → ownsDevice h s = true → s.cph.zeroised = false →
    exec (.keyStoreResume h sources) s = .next (finish e stEmpty 0 0 [] s)) ∧
  (∀ h sources e s, startable 0x0704 none h e s → ownsDevice h s = true → s.cph.zeroised = true → sources ≠ 0 →
    exec (.keyStoreResume h sources) s = .next (finish e stRefused 0x0705 0 [] s))

/-- The use of a half that reaches its limit is its last: the half refuses from then on, and no count passes the limit. -/
def Obligations.UsageLimits : Prop :=
  ∀ k n b uses s,
    (halfOf (slot (useHalf k n b uses s) k n) b).count =
      min (halfOf (slot s k n) b).limit ((halfOf (slot s k n) b).count + uses) ∧
    ((halfOf (slot s k n) b).count < (halfOf (slot s k n) b).limit →
      (halfOf (slot s k n) b).limit ≤ (halfOf (slot s k n) b).count + uses →
      (halfOf (slot (useHalf k n b uses s) k n) b).state = .refusing) ∧
    ((halfOf (slot s k n) b).count + uses < (halfOf (slot s k n) b).limit →
      (halfOf (slot (useHalf k n b uses s) k n) b).state = (halfOf (slot s k n) b).state) ∧
    halfOf (slot (useHalf k n b uses s) k n) (!b) = halfOf (slot s k n) (!b)

/-! ## Range 0x08: packet engine -/

/-- Placement, domain and queue commands: a port's preference is taken and, where its pipeline has room, the port moves; a
failed pipeline's restoration runs on; a domain's flags and flood list, the learning parameters, a queue's and a group's
parameters are taken; the status of a pipeline or a queue is 64 bytes.

A pipeline that is declared failed is out of service, its cupola fenced, and the port budget falls to the pipelines that
remain (11,200 Gbit/s after a first failure at PL0); when its ports are placed again its remap is done; a port displaces only
ports of strictly greater REMAP_PRIORITY; an interval with domain-tag discards reports them and starts anew. -/
def Obligations.PacketEngineCommandsAndLoss : Prop :=
  (∀ h p e s, startable 0x0800 none h e s → portExists p.port = true → ownsPort h p.port s = true →
    (∀ x, p.pipeline = some x → inService x.val s = true → (portEnt s p.port).rate ≤ roomBut p.port x.val s) →
    ∃ s', exec (.portPipelineSet h p) s = .next (finish e stOk 0 0 [] s') ∧
      (portEnt s' p.port).preferred = p.pipeline.map (fun x => x.val) ∧
      (portEnt s' p.port).remapPriority = some p.remapPriority.val ∧
      (∀ x, p.pipeline = some x → (portEnt s p.port).enabled = true → inService x.val s = true →
        (portEnt s' p.port).pipeline = some x.val ∧ (portEnt s' p.port).unserved = false)) ∧
  (∀ h (p : Fin 8) e s, startable 0x0801 none h e s →
    ∃ r, exec (.pipelineStatus h p) s = .next (finish e stOk 0 0 r s) ∧ r.length = 64) ∧
  (∀ h (p : Fin 8) e s, startable 0x0802 none h e s → ownsDevice h s = true →
    exec (.pipelineRestore h p) s = .next (if inService p.val s then finish e stEmpty 0 0 [] s
      else setPhase e (.running p.val) s)) ∧
  (∀ h p e s, startable 0x0803 none h e s → h.blockLen = 64 + 64 * ((p.flood.length + 31) / 32) →
    ownsDomain h p.domain.val s = true → p.flood.length ≤ 1024 →
    (∀ q ∈ p.flood, queueDomain q.val s = some p.domain.val) →
    ∃ s', exec (.domainConfigure h p) s = .next (finish e stOk 0 0 [] s') ∧
      domainCfg s' p.domain.val = { learn := p.learn, floodUnknown := p.floodUnknown, floodMulticast := p.floodMulticast,
                                    flood := p.flood.map (fun q => q.val) } ∧
      ∀ d, d ≠ p.domain.val → domainCfg s' d = domainCfg s d) ∧
  (∀ h p e s, startable 0x0807 none h e s → ownsDevice h s = true → p.wf = true →
    ∃ s', exec (.learnConfigure h p) s = .next (finish e stOk 0 0 [] s') ∧
      s'.pe.learn = { ageScanMs := if p.ageScanMs = 0 then 20000 else p.ageScanMs,
                      ageLimit := if p.ageLimit = 0 then 15 else p.ageLimit, random := p.random,
                      moveHoldMs := if p.moveHoldMs = 0 then 1000 else p.moveHoldMs }) ∧
  (∀ h p e s, startable 0x0808 none h e s → ownsDomain h p.domain.val s = true →
    foreignQueue h (queue s p.queue.val) s = false → p.wf = true →
    (queue s p.queue.val).onDie = [] → (queue s p.queue.val).dram = [] →
    exec (.queueConfigure h p) s = .next (finish e stOk 0 0 [] (setQueue s p.queue.val { queue s p.queue.val with
      cfg := some p, domTag := domainTag p.domain.val, shaper := shaperFull p.burstBytes s.now }))) ∧
  (∀ h (q : Fin 131072) e s, startable 0x0809 none h e s → isVf h.id.fn = false →
    ∃ r, exec (.queueStatus h q) s = .next (finish e stOk 0 0 r s) ∧ r.length = 64) ∧
  (∀ h p e s, startable 0x080A none h e s → ownsPort h p.port s = true → p.wf = true → portExists p.port = true →
    groupElsewhere p.group.val p.port s = false →
    exec (.schedGroupConfigure h p) s = .next (finish e stOk 0 0 [] (setGroup s p.group.val { group s p.group.val with
      cfg := some p, shaper := shaperFull p.burstBytes s.now }))) ∧
  (∀ (p : Fin 8) s, inService p.val s = true →
    ∃ s', exec (.pipelineWatchdog p) s = .next s' ∧ inService p.val s' = false ∧ (cup s' (68 + p.val)).state = .fenced ∧
      (pipe s' p.val).remap = some 2 ∧ (s.pwr.pl = 0 → s.pe.failedPipes = 0 → portBudget s' = 11200) ∧
      ∀ q, q < 8 → q ≠ p.val → inService q s' = inService q s) ∧
  (∀ (p : Fin 8) s, inService p.val s = true →
    ∃ s', exec (.pipelineMemoryError p) s = .next s' ∧ inService p.val s' = false ∧
      (cup s' (68 + p.val)).state = .fenced ∧ (pipe s' p.val).remap = some 3) ∧
  (∀ (p : Fin 8) s reason, (pipe s p.val).remap = some reason →
    ∃ s', exec (.pipelineRemapComplete p) s = .next s' ∧ (pipe s' p.val).remap = none) ∧
  (∀ port p s l, displacedFrom port p s = some l → ∀ x ∈ l, remapOf port s < remapOf x s) ∧
  (∀ (p : Fin 8) s, (pipe s p.val).dtSince + 125000 ≤ s.now → ∃ s', exec (.domainTagIntervalEnd p) s = .next s' ∧
    (pipe s' p.val).dtSince = s.now ∧ (pipe s' p.val).dtCount = 0 ∧
    (pipe s' p.val).dtRun = if (pipe s p.val).dtCount = 0 then 0 else (pipe s p.val).dtRun + 1)

/-- TABLE_WRITE, TABLE_READ and TABLE_DELETE insert, return and remove an entry by key; a bridge entry needs both its domains
and a queue of its destination; TABLE_FLUSH leaves no entry that names the domain.

A write to TBL_CMD of a PF, on a page that serves and is not BUSY, makes its page BUSY and counts the operation; when it
completes, BUSY clears and RESULT, index, key and data are loaded; a domain that no session of the PF owns gives DENIED; a
write while BUSY is discarded with RESULT 4 and changes nothing else. -/
def Obligations.TableOperationsComplete : Prop :=
  (∀ h p e s i s1, startable 0x0804 none h e s → p.table.val < 8 → ownsDomain h (p.key.toNat / 2 ^ 48 % 4096) s = true →
    inService p.table.val s = true →
    insertLearn p.table.val (learnOf p.key.toNat p.data.toNat s) (noteTables s) = (some i, s1) →
    exec (.tableWrite h p) s = .next (finish e stOk 0 i [] s1) ∧
    learnEntry s1 p.table.val i = some (learnOf p.key.toNat p.data.toNat s)) ∧
  (∀ h p e s i s1, startable 0x0804 none h e s → p.table.val = 9 → ownsDomain h (p.key.toNat / 2 ^ 48 % 4096) s = true →
    insertAll (learnOf p.key.toNat p.data.toNat s) (noteTables s) (learnTargets 9 s) = (some i, s1) →
    exec (.tableWrite h p) s = .next (finish e stOk 0 i [] s1)) ∧
  (∀ h p e s i s1, startable 0x0804 none h e s → p.table.val = 8 → serviceKind p.key.toNat ≠ 1 → serviceKind p.key.toNat ≤ 2 →
    ownsAll h (serviceDomains p.key.toNat p.data.toNat ++ heldDomains p.key.toNat s) s = true →
    insertService p.key.toNat p.data.toNat (noteTables s) = (some i, s1) →
    exec (.tableWrite h p) s = .next (finish e stOk 0 i [] s1)) ∧
  (∀ h p e s, startable 0x0804 none h e s → p.table.val = 8 → serviceKind p.key.toNat = 1 →
    bridgeOk h p.key.toNat p.data.toNat s = false →
    exec (.tableWrite h p) s = .next (finish e stRefused 0x0802 0 [] s)) ∧
  (∀ h p e s i x, startable 0x0805 none h e s → p.table.val < 8 → ownsDomain h (p.key.toNat / 2 ^ 48 % 4096) s = true →
    inService p.table.val s = true → findLearn p.table.val (p.key.toNat % 2 ^ 60) s = some (i, x) →
    exec (.tableRead h p) s = .next (finish e stOk 0 0 (le 16 x.key ++ le 16 (learnData x)) s)) ∧
  (∀ h p e s i, startable 0x0806 none h e s → p.table.val = 8 → serviceIndex p.key.toNat s = some i →
    ownsAll h (heldDomains p.key.toNat s) s = true →
    exec (.tableDelete h p) s = .next (finish e stOk 0 0 [] (setService (noteTables s) i none)) ∧
    serviceEntry (setService (noteTables s) i none) i = none) ∧
  (∀ h p e s, startable 0x0806 none h e s → p.table.val < 8 → ownsDomain h (p.key.toNat / 2 ^ 48 % 4096) s = true →
    inService p.table.val s = false →
    exec (.tableDelete h p) s = .next (finish e stFaulted 0x0807 0 [] s)) ∧
  (∀ h (d : Fin 4096) e s, startable 0x080B none h e s → ownsDomain h d.val s = true →
    ∃ s', exec (.tableFlush h d false) s = .next (finish e stOk 0 0 [] s') ∧
      (∀ x ∈ s'.pe.learned, ∀ y, x.2 = some y → y.key / 2 ^ 48 ≠ d.val) ∧
      (∀ x ∈ s'.pe.service, serviceOf d.val x.2 = false)) ∧
  (∀ f (t : Fin 9) s, windowsDown s = false → isPf f = true → (tablePage s t.val).busy = none →
    (t.val < 8 → inService t.val s = true ∧ (cup s (68 + t.val)).state = .active) →
    (∃ s', exec (.tblRead f t) s = .next s' ∧ (tablePage s' t.val).busy.isSome = true ∧
      (tablePage s' t.val).ops = ((tablePage s t.val).ops + 1) % 2 ^ 16) ∧
    (∃ s', exec (.tblSearch f t) s = .next s' ∧ (tablePage s' t.val).busy.isSome = true ∧
      (tablePage s' t.val).ops = ((tablePage s t.val).ops + 1) % 2 ^ 16) ∧
    (∃ s', exec (.tblInsert f t) s = .next s' ∧ (tablePage s' t.val).busy.isSome = true ∧
      (tablePage s' t.val).ops = ((tablePage s t.val).ops + 1) % 2 ^ 16) ∧
    (∃ s', exec (.tblDelete f t) s = .next s' ∧ (tablePage s' t.val).busy.isSome = true ∧
      (tablePage s' t.val).ops = ((tablePage s t.val).ops + 1) % 2 ^ 16)) ∧
  (∀ f (t : Fin 8) s, windowsDown s = false → isPf f = true → (tablePage s t.val).busy = none → inService t.val s = true →
    (cup s (68 + t.val)).state = .active →
    fnOwnsDomain (pciKey f) ((tablePage s t.val).key.toNat / 2 ^ 48 % 4096) s = false →
    exec (.tblInsert f (Fin.castSucc t)) s = .next (startOp t.val resDenied (tablePage s t.val).index
      (tablePage s t.val).key.toNat (tablePage s t.val).data.toNat s)) ∧
  (∀ f (t : Fin 9) s x, windowsDown s = false → isPf f = true → (tablePage s t.val).busy = some x →
    (t.val < 8 → inService t.val s = true ∧ (cup s (68 + t.val)).state = .active) →
    exec (.tblInsert f t) s = .next (setTablePage s t.val { tablePage s t.val with result := resDiscarded }) ∧
    exec (.tblDelete f t) s = .next (setTablePage s t.val { tablePage s t.val with result := resDiscarded })) ∧
  (∀ (t : Fin 9) s r i k d, (tablePage s t.val).busy = some (r, i, k, d) →
    exec (.tableOperationComplete t) s = .next (setTablePage s t.val { tablePage s t.val with
      busy := none, result := r, index := i, key := BitVec.ofNat 128 k, data := BitVec.ofNat 128 d }))

/-- Learning within a pipeline: a known address at its own queue is only marked HIT; at another queue it moves where its hold-down
has passed and otherwise stays where it is; a static entry never changes.

An aging pass of a pipeline in service, when its scan is due: it waits for the lookups of its cycle; a marked entry goes, a static
one stays as it is, a hit is taken back with AGE 0, and an entry without hits ages by one and goes at the limit; an entry hit in the
cycle, and the other pipelines' entries, stay. -/
def Obligations.LearningAndAging : Prop :=
  (∀ (p : Nat) (src : BitVec 48) (d q : Nat) (s : State) (i : Nat) (x : LearnEntry), findLearn p (learnKey src d) s = some (i, x) →
     (x.isStatic = true → (learnRequest p src d q s).pe.learned = s.pe.learned) ∧
     (x.isStatic = false → x.queue = q → learnRequest p src d q s = setLearn s p i (some { x with hit := true })) ∧
     (x.isStatic = false → x.queue ≠ q → (nowMs s + 2 ^ 32 - x.movedMs % 2 ^ 32) % 2 ^ 32 < s.pe.learn.moveHoldMs →
       (learnRequest p src d q s).pe.learned = s.pe.learned) ∧
     (x.isStatic = false → x.queue ≠ q → s.pe.learn.moveHoldMs ≤ (nowMs s + 2 ^ 32 - x.movedMs % 2 ^ 32) % 2 ^ 32 →
       learnEntry (learnRequest p src d q s) p i = some { x with queue := q, movedMs := nowMs s, age := 0 })) ∧
  (∀ (p : Fin 8) s s1, scanDue p.val s = true → s1 = setPipe s p.val { pipe s p.val with scannedAt := s.now } →
    exec (.ageScan p) s = .next (if lookupsToCome s = true then
        { s1 with pe := { s1.pe with scansDue := s1.pe.scansDue ++ [p.val] } } else ageScan p.val s1)) ∧
  (∀ (p : Fin 8) s, scanDue p.val s = false → exec (.ageScan p) s = .next s) ∧
  (∀ p s, scanDue p s = true ↔ inService p s = true ∧ (pipe s p).scannedAt + 1000000 * s.pe.learn.ageScanMs ≤ s.now) ∧
  (∀ p q i s, tableWf none s.pe.learned = true → i < 262144 → learnEntry (ageScan p s) q i =
    if q = p ∧ q * 262144 + i ∉ hitsOf s then (learnEntry s q i).bind (ageEntry s.pe.learn.ageLimit) else learnEntry s q i) ∧
  (∀ limit x, ageEntry limit x = if x.parity then none else if x.isStatic then some x
    else if x.hit then some { x with age := 0, hit := false }
    else if limit ≤ x.age + 1 then none else some { x with age := x.age + 1 })

/-- Packets: an arrival waits for what its cycle commits, and is then classified: one of a client port that no classification entry
matches is dropped before any lookup and counted in NO_DOMAIN, and a classified one goes on with its entry's domain; at egress a
packet whose tag agrees with its queue's tag leaves, and one whose tag does not is discarded whole; a spilled packet comes back on die
in order. -/
def Obligations.PacketsMove : Prop :=
  (∀ pk s, exec (.packetIngress pk) s = .next (if arrivalAwaits s = true then
      { s with pe := { s.pe with ingressDue := s.pe.ingressDue ++ [pk] } } else ingress pk (portBoundary pk.port s))) ∧
  (∀ pk s p, portServes pk.port s = true → (portEnt s pk.port).pipeline = some p → 0x80 ≤ pk.port → pk.port < 0xC0 →
    pk.length ≤ 16352 → pk.parity = [] → needsVerified pk.port s = false → isFabricPort pk.port = false →
    findService (classKey pk.port 0 pk.vlan) (lookupView s) = none →
    (ingress pk s).pe.queues = s.pe.queues ∧
    (pipe (ingress pk s) p).noDomain = satur 64 ((pipe s p).noDomain + 1)) ∧
  (∀ pk s p i x, portServes pk.port s = true → (portEnt s pk.port).pipeline = some p → 0x80 ≤ pk.port → pk.port < 0xC0 →
    pk.length ≤ 16352 → pk.parity = [] → needsVerified pk.port s = false → isFabricPort pk.port = false →
    findService (classKey pk.port 0 pk.vlan) (lookupView s) = some (i, x) →
    ∃ g, ingress pk s = forward g pk.tributary (meterPacket pk.port false pk.length s) ∧
      g.pipeline = p ∧ g.packet.tag = domainTag (x.data % 4096) ∧ g.packet.length = pk.length) ∧
  (∀ port upset qUpset ok s p, (portEnt (portBoundary port s) port).pipeline = some p →
    portTransmits port (portBoundary port s) = true → isFabricPort port = false →
    exec (.packetEgress port upset qUpset ok) s = .next (servePort port p upset qUpset ok (portBoundary port s))) ∧
  (∀ port p upset qUpset ok s q s1 pk s2 s3 held tag, schedule port s = some (q, s1) → takePacket q s1 = some (pk, s2) →
    held = (queue s q).domTag ^^^ qUpset → tag = pk.tag ^^^ upset →
    s3 = freeBuffer 0x10 pk.buffer 0 (setQueue s2 q { queue s2 q with domTag := held }) →
    (tagAgrees held tag = false → servePort port p upset qUpset ok s =
      discardTag p (tagDomain held) (tagDomain tag) q (!tagParityOk tag || !tagParityOk held) s3) ∧
    (∀ s4, tagAgrees held tag = true → sealPacket port q ok (chargePacket q pk s3) = (s4, .released) →
      servePort port p upset qUpset ok s = transmit port q pk s4) ∧
    (∀ s4, tagAgrees held tag = true → sealPacket port q ok (chargePacket q pk s3) = (s4, .dropped) →
      servePort port p upset qUpset ok s = s4)) ∧
  (∀ (q : Fin 65536) s c x rest ptr s1, (queue s q.val).cfg = some c → (queue s q.val).dram = x :: rest →
    2 * bytesOf (queue s q.val).onDie < c.spillThreshold → (queue s q.val).poisoned = false →
    tryAlloc 0x11 0 true 4 (mappedPool 0x11 (classFor x.length) s) s = (.inl ptr, s1) →
    ∃ s', exec (.spillReadback q) s = .next s' ∧ (queue s' q.val).dram = rest ∧
      (queue s' q.val).onDie = (queue s1 q.val).onDie ++ [{ x with buffer := ptr, cut := false }] ∧
      (queue s' q.val).spilling = !rest.isEmpty)

/-- A packet leaves a queue only where the domain of its tag is that of the queue's tag, both with good parity bits. -/
def Obligations.DomainTagsGuardEgress : Prop :=
  (∀ held tag, tagAgrees held tag = true ↔
    tagDomain tag = tagDomain held ∧ tag = domainTag (tagDomain tag) ∧ held = domainTag (tagDomain held)) ∧
  (∀ d, d < 4096 → tagDomain (domainTag d) = d ∧ tagParityOk (domainTag d) = true) ∧
  (∀ d (i : Fin 14), d < 4096 → tagParityOk (domainTag d ^^^ BitVec.twoPow 14 i.val) = false)

/-! ## Range 0x09: buffer pools -/

/-- The pool commands: a pool that holds no allocated buffer takes a new configuration that fits; its status is 64 bytes and
starts LOW_WATER anew; a requester's map is set; a rebuild clears CORRUPT and returns the number of free buffers.

The operations on buffers, each alone in its cycle: an ALLOC that its pool admits answers a buffer whose owner is the requester with
one reference, and one that no pool admits is held; SHARE adds references, GIVE passes the buffer on, FREE gives up a reference and,
from the owner, the last one; each is refused as its checks say, the double free and the free of another's last reference leaving the
header as it was. Operations of one cycle wait for its end, where the FREEs come first. -/
def Obligations.PoolsAndBuffers : Prop :=
  (∀ h p e s, startable 0x0900 none h e s → ownsDevice h s = true → p.bpHold ≤ 1024 → allocated p.pool.val s = 0 →
    (p.enable = true → extentOk p s = true) →
    ∃ s', exec (.poolConfigure h p) s = .next (finish e stOk 0 0 [] s') ∧
      (pool s' p.pool.val).cfg = some { p with bpHold := if p.bpHold = 0 then 64 else p.bpHold }) ∧
  (∀ h (q : Fin 16) e s, startable 0x0901 none h e s → ownsDevice h s = true →
    ∃ r, exec (.poolStatus h q) s = .next (finish e stOk 0 0 r
        (setPool s q.val { pool s q.val with lowWater := some (freeCount q.val s) })) ∧ r.length = 64) ∧
  (∀ h r c0 c1 c2 c3 e s, startable 0x0902 none h e s → ownsDevice h s = true → requesterOk r = true →
    ∃ s', exec (.poolMapSet h r c0 c1 c2 c3) s = .next (finish e stOk 0 0 [] s') ∧ mappedPool r 0 s' = c0.val ∧
      mappedPool r 1 s' = 4 + c1.val ∧ mappedPool r 2 s' = 8 + c2.val ∧ mappedPool r 3 s' = 12 + c3.val) ∧
  (∀ h (q : Fin 16) e s, startable 0x0903 none h e s → ownsDevice h s = true →
    ∃ s', exec (.poolRebuild h q) s = .next (finish e stOk 0 (freeCount q.val s') [] s') ∧
      (pool s' q.val).corrupt = false ∧ (pool s' q.val).quarantined = []) ∧
  (∀ r (cls : Fin 4) (pr : Fin 3) ok s, poolAwaits s = false →
    admits (pool s (mappedPool r cls.val s)).level (requestPriority r pr.val) = true →
    0 < freeCount (mappedPool r cls.val s) s →
    ∃ ptr s', exec (.alloc r cls pr ok) s = .next (emit (.buffer r 0 (some ptr)) s') ∧
      header s' ptr = { owner := r, refs := 1 }) ∧
  (∀ r (cls : Fin 4) (pr : Fin 3) ok s, poolAwaits s = false → freeCount (mappedPool r cls.val s) s = 0 →
    (poolCfg (mappedPool r cls.val s) s).spillUp = false →
    ∃ s', exec (.alloc r cls pr ok) s = .next (emit (.buffer r 1 none) s') ∧ s'.pool.held = s.pool.held ++
      [{ requester := r, cls := cls.val, priority := requestPriority r pr.val, pool := mappedPool r cls.val s,
         since := s.now }]) ∧
  (∀ r (cls : Fin 4) ok s x, heldAlloc r cls.val s = some x → poolAwaits (dropHeldAlloc x s) = false →
    exec (.allocRetry r cls ok) s = .next (presentAlloc x ok (dropHeldAlloc x s))) ∧
  (∀ r (cls : Fin 4) s x, heldAlloc r cls.val s = some x → r < 8 → holdExpired x s = true →
    exec (.bpHoldExpiry r cls) s = .next (setPool (dropHeldAlloc x s) x.pool { pool s x.pool with
      dropped := satur 32 ((pool s x.pool).dropped + 1) })) ∧
  (∀ r ptr k s q, poolAwaits s = false → pointerPool ptr s = some q → (header s ptr).refs ≠ 0 →
    (header s ptr).refs + k ≤ 4095 →
    exec (.share r ptr k 0) s = .next (setHeader s ptr { header s ptr with refs := (header s ptr).refs + k })) ∧
  (∀ r ptr o s q, poolAwaits s = false → pointerPool ptr s = some q → (header s ptr).refs ≠ 0 → (header s ptr).owner = r →
    exec (.give r ptr o 0) s = .next (setHeader s ptr { header s ptr with owner := o })) ∧
  (∀ r ptr s q, poolAwaits s = false → pointerPool ptr s = some q → 1 < (header s ptr).refs →
    exec (.free r ptr 0) s = .next (setHeader s ptr { header s ptr with refs := (header s ptr).refs - 1 })) ∧
  (∀ r ptr s q, poolAwaits s = false → pointerPool ptr s = some q → (header s ptr).refs = 1 → (header s ptr).owner = r →
    ∃ s', exec (.free r ptr 0) s = .next s' ∧ (header s' ptr).refs = 0) ∧
  (∀ r ptr s q, poolAwaits s = false → pointerPool ptr s = some q →
    ((header s ptr).refs = 0 ∨ ((header s ptr).refs = 1 ∧ (header s ptr).owner ≠ r)) →
    ∃ s', exec (.free r ptr 0) s = .next s' ∧ s'.pool.headers = s.pool.headers) ∧
  (∀ r ptr o s, poolAwaits s = true → exec (.give r ptr o 0) s =
    .next { s with pool := { s.pool with opsDue := s.pool.opsDue ++ [.give r ptr o 0] } }) ∧
  (∀ r w ptr o s, s.pool.opsDue = [.give w ptr o 0, .free r ptr 0] →
    runOps s = performOp (.give w ptr o 0) (performOp (.free r ptr 0) { s with pool := { s.pool with opsDue := [] } }))

/-! ## Range 0x0A and Campanile -/

/-- The commands of range 0x0A complete: a time base configured with its defaults, input kind 0 freeing it and 4 handing it
to the host; 64 bytes of status; TIME_SET at once, or waiting for the next PPS edge; an authorised step applied and the one
pending gone, a mismatch REFUSED with 0xA02, and with none pending EMPTY; PPS inputs, pulse outputs, PTP clocks and ports,
times of day, witnesses and ports' time bases set, the last to take effect at the port's next boundary; their statuses read. -/
def Obligations.TimeCommandsComplete : Prop :=
  (∀ h p e s, startable 0x0A00 none h e s → owns h kTimeBase p.tb.val s = true → p.wf = true → p.fabricTb = false →
    p.inputKind.val ≠ 2 →
    ∃ s', exec (.timeBaseConfigure h p) s = .next (finish e stOk 0 0 [] s') ∧
      (timeBase s' p.tb.val).stepGuardNs = (if p.stepGuardNs = 0 then 1000 else p.stepGuardNs) ∧
      (timeBase s' p.tb.val).maxSlewPpb = (if p.maxSlewPpb = 0 then 1000 else p.maxSlewPpb) ∧
      (timeBase s' p.tb.val).lockNs = (if p.lockNs = 0 then 20 else p.lockNs) ∧
      (p.inputKind.val = 0 → (timeBase s' p.tb.val).servo = .freeRun) ∧
      (p.inputKind.val = 4 → (timeBase s' p.tb.val).servo = .host) ∧
      ∀ b, b ≠ p.tb.val → timeBase s' b = timeBase s b) ∧
  (∀ h (b : Fin 8) e s, startable 0x0A01 none h e s →
    ∃ r, exec (.timeBaseStatus h b) s = .next (finish e stOk 0 0 r s) ∧ r.length = 64) ∧
  (∀ h p e s, startable 0x0A02 none h e s → owns h kTimeBase p.tb.val s = true → p.wf = true → p.atPps = none →
    ∃ s', exec (.timeSet h p) s = .next (finish e stOk 0 0 [] s') ∧
      (timeBase s' p.tb.val).value = timeOf p.seconds p.ns p.frac ∧ (timeBase s' p.tb.val).isUnset = false ∧
      ∀ b, b ≠ p.tb.val → timeBase s' b = timeBase s b) ∧
  (∀ h p i e s, startable 0x0A02 none h e s → owns h kTimeBase p.tb.val s = true → p.wf = true → p.atPps = some i →
    exec (.timeSet h p) s = .next (setPhase e (.running p.tb.val) (setTimeBase s p.tb.val { timeBase s p.tb.val with
      setWait := some { input := i.val, value := timeOf p.seconds p.ns p.frac } }))) ∧
  (∀ h p e s s1 c, startable 0x0A03 none h e s → owns h kTimeBase p.tb.val s = true → s1 = replaceFirst p.tb.val s →
    (timeBase s1 p.tb.val).pending = some c → (timeBase s1 p.tb.val).stepSeq = p.stepSeq →
    (c - p.expected).natAbs ≤ p.toleranceNs * 65536 →
    ∃ s', exec (.timeStepAuthorise h p) s = .next (finish e stOk 0 0 [] s') ∧
      (timeBase s' p.tb.val).value = addFrac (timeBase s1 p.tb.val).value c ∧
      (timeBase s' p.tb.val).check = addFrac (timeBase s1 p.tb.val).check c ∧
      (timeBase s' p.tb.val).pending = none ∧ (timeBase s' p.tb.val).servo = .acquiring ∧
      (timeBase s' p.tb.val).stepsApplied = satur 32 ((timeBase s1 p.tb.val).stepsApplied + 1)) ∧
  (∀ h p e s s1 c, startable 0x0A03 none h e s → owns h kTimeBase p.tb.val s = true → s1 = replaceFirst p.tb.val s →
    (timeBase s1 p.tb.val).pending = some c →
    ((timeBase s1 p.tb.val).stepSeq ≠ p.stepSeq ∨ p.toleranceNs * 65536 < (c - p.expected).natAbs) →
    exec (.timeStepAuthorise h p) s = .next (finish e stRefused 0x0A02 0 [] s1)) ∧
  (∀ h p e s s1, startable 0x0A03 none h e s → owns h kTimeBase p.tb.val s = true → s1 = replaceFirst p.tb.val s →
    (timeBase s1 p.tb.val).pending = none → exec (.timeStepAuthorise h p) s = .next (finish e stEmpty 0 0 [] s1)) ∧
  (∀ h p e s, startable 0x0A04 none h e s → owns h kTimeBase p.tb.val s = true →
    ∃ s', exec (.ppsInputConfigure h p) s = .next (finish e stOk 0 0 [] s') ∧
      pps s' p.input.val = { pps s p.input.val with
        enabled := p.enable, tb := p.tb.val, falling := p.falling, inDelay := p.inDelay, present := (pps s p.input.val).present && p.enable }) ∧
  (∀ h p e s, startable 0x0A05 none h e s → owns h kTimeBase p.tb.val s = true → p.wf = true →
    (p.mode.val = 1 → (timeBase s p.tb.val).value + 1000 * unitNs ≤ p.startSec * unitSec + p.startNs * unitNs) →
    (p.mode.val = 2 → p.widthNs < p.periodNs) →
    ∃ s' v, exec (.pulseOutputConfigure h p) s = .next (finish e stOk 0 0 [] s') ∧ s' = setPulse s p.output.val v ∧
      v.tb = p.tb.val ∧ v.mode = p.mode.val ∧ v.widthNs = p.widthNs ∧
      (p.mode.val = 0 → v.next = none) ∧
      (p.mode.val = 1 → v.next = some (p.startSec * unitSec + p.startNs * unitNs)) ∧
      (p.mode.val = 2 → ∃ k, v.next = some (p.startSec * unitSec + p.startNs * unitNs + k * (p.periodNs * unitNs)))) ∧
  (∀ h p e s, startable 0x0A06 none h e s → owns h kTimeBase p.tb.val s = true → p.wf = true →
    (∀ x ∈ s.time.clocks, x.1 ≠ p.clock.val → x.2.bound = true → x.2.tb ≠ p.tb.val) →
    ∃ s', exec (.ptpClockConfigure h p) s = .next (finish e stOk 0 0 [] s') ∧
      ptpClock s' p.clock.val = { ptpClock s p.clock.val with
        enabled := p.enable, bound := true, tb := p.tb.val, domainNumber := p.domainNumber, priority2 := p.priority2, localPriority := p.localPriority,
        clockIdentity := p.clockIdentity }) ∧
  (∀ h p e s, startable 0x0A07 none h e s → owns h kTimeBase (ptpClock s p.clock.val).tb s = true →
    portExists p.port = true → p.enable = true → assignedBase p.port s = (ptpClock s p.clock.val).tb →
    (ptpClock s p.clock.val).ports.length < 32 →
    ∃ s' x, exec (.ptpPortConfigure h p) s = .next (finish e stOk 0 0 [] s') ∧ x ∈ (ptpClock s' p.clock.val).ports ∧
      x.port = p.port ∧ x.masterOnly = p.masterOnly ∧ x.delayAsymmetry = p.delayAsymmetry) ∧
  (∀ h p e s, startable 0x0A07 none h e s → owns h kTimeBase (ptpClock s p.clock.val).tb s = true →
    portExists p.port = true → p.enable = true → assignedBase p.port s ≠ (ptpClock s p.clock.val).tb →
    exec (.ptpPortConfigure h p) s = .next (finish e stRefused 0x0A08 0 [] s)) ∧
  (∀ h (c : Fin 8) e s, startable 0x0A08 none h e s →
    exec (.ptpStatus h c) s = .next (finish e stOk 0 0 (ptpStatus (ptpClock s c.val)) s)) ∧
  (∀ h p e s, startable 0x0A09 none h e s → owns h kTree p.tree.val s = true → p.wf = true →
    exec (.treeTodConfigure h p) s = .next (finish e stOk 0 0 [] (setTod s p.tree.val { tod s p.tree.val with
      enabled := p.enable, periodS := if p.periodS = 0 then 10 else p.periodS, asymPpb := p.asymPpb,
      driftNs := if p.driftNs = 0 then 2 else p.driftNs }))) ∧
  (∀ h p e s, startable 0x0A0A none h e s → owns h kLine p.line.val s = true → p.wf = true →
    line400zr p.line.val s = false →
    ∃ w, exec (.witnessConfigure h p) s = .next (finish e stOk 0 0 [] (setWitness s p.line.val w)) ∧
      w.enabled = p.enable ∧ w.thresholdNs = (if p.thresholdNs = 0 then 20 else p.thresholdNs) ∧
      w.holdS = (if p.holdS = 0 then 60 else p.holdS)) ∧
  (∀ h (l : Fin 4) e s, startable 0x0A0B none h e s →
    ∃ r, exec (.witnessStatus h l) s = .next (finish e stOk 0 0 r s) ∧ r.length = 64) ∧
  (∀ h (l : Fin 4) k e s, startable 0x0A0C none h e s → owns h kLine l.val s = true →
    (witness s l.val).step = true → (witness s l.val).stepSeq = k →
    ∃ s', exec (.witnessApply h l k true) s = .next (finish e stOk 0 0 [] s') ∧
      (witness s' l.val).step = false ∧ (witness s' l.val).refLost = false ∧ (witness s' l.val).reference = none ∧
      (witness s' l.val).rebases = satur 32 ((witness s l.val).rebases + 1)) ∧
  (∀ h (l : Fin 4) k e s peer, startable 0x0A0C none h e s → owns h kLine l.val s = true →
    (witness s l.val).step = true → (witness s l.val).refLost = false → (witness s l.val).stepSeq = k →
    (witness s l.val).peerStep = some peer →
    ∃ s', exec (.witnessApply h l k false) s = .next (finish e stOk 0 0 [] s') ∧ (witness s' l.val).step = false) ∧
  (∀ h port (b : Fin 8) e s, startable 0x0A0D none h e s → portExists port = true → 0x40 ≤ port →
    ownsPort h port s = true →
    ∃ s', exec (.portTimeBaseSet h port b) s = .next (finish e stOk 0 0 [] s') ∧ assignedBase port s' = b.val ∧
      portTimeBase port s' = portTimeBase port s ∧ portTimeBase port (portBoundary port s') = b.val) ∧
  (∀ h (t : Fin 64) (i : Fin 512) e s, startable 0x0A0E none h e s → i.val ∈ admittedTerminals t.val s →
    ∃ r, exec (.treeTodStatus h t i) s = .next (finish e stOk 0 0 r s) ∧ r.length = 32)

/-- The servo: in ACQUIRING an error beyond the slew limit and within the guard is stepped at once, and one beyond the guard
is refused, pending and counted, and holds the time base in STEP_HELD; a smaller one, as any in LOCKED, is slewed within
MAX_SLEW_PPB. Lock after 64 s of small errors, loss of lock after 8 s of large ones, and
a correction discarded after 4 s of errors within the guard, move the servo. -/
def Obligations.ServoStepsSlewsOrRefuses : Prop :=
  (∀ (b : Fin 8) (x : Int) s, (timeBase s b.val).measured = some x → (timeBase s b.val).servo = .acquiring →
    (timeBase s b.val).slewLimitNs * 65536 < x.natAbs →
    beyondGuard (timeBase s b.val) x = false →
    ∃ s', exec (.servoCorrection b) s = .next s' ∧ (timeBase s' b.val).value = addFrac (timeBase s b.val).value (-x) ∧
      (timeBase s' b.val).check = addFrac (timeBase s b.val).check (-x) ∧
      (timeBase s' b.val).stepsApplied = satur 32 ((timeBase s b.val).stepsApplied + 1) ∧
      (timeBase s' b.val).isUnset = false) ∧
  (∀ (b : Fin 8) (x : Int) s, (timeBase s b.val).measured = some x → (timeBase s b.val).servo = .acquiring →
    (timeBase s b.val).slewLimitNs * 65536 < x.natAbs →
    beyondGuard (timeBase s b.val) x = true →
    ∃ s', exec (.servoCorrection b) s = .next s' ∧ (timeBase s' b.val).value = (timeBase s b.val).value ∧
      (timeBase s' b.val).pending = some (-x) ∧ (timeBase s' b.val).servo = .stepHeld ∧
      (timeBase s' b.val).stepSeq = ((timeBase s b.val).stepSeq + 1) % 256 ∧
      (timeBase s' b.val).stepsRefused = satur 32 ((timeBase s b.val).stepsRefused + 1)) ∧
  (∀ (b : Fin 8) (x : Int) s, (timeBase s b.val).measured = some x → ((timeBase s b.val).servo = .locked ∨
      ((timeBase s b.val).servo = .acquiring ∧ x.natAbs ≤ (timeBase s b.val).slewLimitNs * 65536)) →
    ∃ s', exec (.servoCorrection b) s = .next s' ∧ (timeBase s' b.val).value = (timeBase s b.val).value ∧
      (timeBase s' b.val).adj.natAbs ≤ 102400000 ∧
      (timeBase s' b.val).adj.natAbs ≤ (timeBase s b.val).maxSlewPpb * 1024 ∧
      (timeBase s' b.val).servo = (timeBase s b.val).servo ∧ (timeBase s' b.val).phaseError = x) ∧
  (∀ (b : Fin 8) s, (timeBase s b.val).servo = .acquiring → heldFor 64 (timeBase s b.val) s.now = true →
    ∃ s', exec (.lockAchieved b) s = .next s' ∧ (timeBase s' b.val).servo = .locked ∧
      (timeBase s' b.val).isUnset = false) ∧
  (∀ (b : Fin 8) s, (timeBase s b.val).servo = .locked → heldFor 8 (timeBase s b.val) s.now = true →
    ∃ s', exec (.lockLost b) s = .next s' ∧ (timeBase s' b.val).servo = .acquiring) ∧
  (∀ (b : Fin 8) s, (timeBase s b.val).servo = .stepHeld → heldFor 4 (timeBase s b.val) s.now = true →
    ∃ s', exec (.pendingDiscard b) s = .next s' ∧ (timeBase s' b.val).servo = .acquiring ∧
      (timeBase s' b.val).pending = none)

/-- R382: one write to CAMP_LATCH_ALL takes the snapshot of every time base whose bit is set, all at that one instant, and sets HELD
of those pages; no other page changes. A read of CAMP_SNAP_FRAC of such a page, at any later time that leaves the page alone,
returns the fraction of that snapshot and clears HELD. -/
def Obligations.LatchAllTakesEverySnapshot : Prop :=
  ∀ (f : PciFn) (mask : BitVec 8) (s : State), s.boot.fwReady = true → isPf f = true →
    ∃ t, exec (.campLatchAll f mask) s = .next t ∧
      (∀ b, b < 8 → timeBase t b =
        if mask.getLsbD b then { timeBase s b with snapshot := (timeBase s b).value, latched := true } else timeBase s b) ∧
      ∀ (b : Fin 8) (u : State), mask.getLsbD b.val = true → u.boot.fwReady = true → timeBase u b.val = timeBase t b.val →
        ∃ v, exec (.campSnapFrac f b) u = .next v ∧ (timeBase v b.val).latched = false ∧
          v.out = .registerRead (pciKey f) (0x300000 + b.val * 0x1000) (fracOf (timeBase s b.val).value) :: u.out

/-- The Campanile windows: a read of SNAP_FRAC answers the fraction of a snapshot taken at the read, or of the one LATCH_ALL
took; the PF that steers a time base sets its frequency within ±100,000 ppb and steps it by the phase register, with RESULT 0,
and one that does not steer it gets RESULT 2 and changes nothing else; a second step within 200 ns gets RESULT 3.

The pins and messages of time: an edge of an enabled PPS input restores it; its loss is noted; a one-shot pulse goes out
at its instant and is over; a cross-check beyond 4 ns fails the time base and one within it leaves it; a PTP Delay_Req to a
master port is answered, a Sync at the slave port measures, and the loss of Sync is noted; Sync and its Follow_Up leave by the
master ports; a tree's time-of-day message carries its superframe; a witness message of bad CRC is counted alone, and a lost
reference is declared; after Keep-only each time base resumes at its value plus the ledger's ticks. -/
def Obligations.CampanileRegistersAndTimeEvents : Prop :=
  (∀ f (b : Fin 8) s, s.boot.fwReady = true → (timeBase s b.val).latched = false →
    ∃ s', exec (.campSnapFrac f b) s = .next s' ∧ (timeBase s' b.val).snapshot = (timeBase s b.val).value ∧
      s'.out = .registerRead (pciKey f) (0x300000 + b.val * 0x1000) (fracOf (timeBase s b.val).value) :: s.out) ∧
  (∀ f (b : Fin 8) s, s.boot.fwReady = true → (timeBase s b.val).latched = true →
    ∃ s', exec (.campSnapFrac f b) s = .next s' ∧ (timeBase s' b.val).latched = false ∧
      s'.out = .registerRead (pciKey f) (0x300000 + b.val * 0x1000) (fracOf (timeBase s b.val).snapshot) :: s.out) ∧
  (∀ f mask s, s.boot.fwReady = true → isPf f = true →
    ∃ s', exec (.campLatchAll f mask) s = .next s' ∧ ∀ b, b < 8 →
      if mask.getLsbD b then (timeBase s' b).latched = true ∧ (timeBase s' b).snapshot = (timeBase s b).value
      else timeBase s' b = timeBase s b) ∧
  (∀ f (b : Fin 8) a s, s.boot.fwReady = true → isPf f = true → steers f b.val s = true →
    exec (.campFreq f b a) s = .next (setTimeBase s b.val { timeBase s b.val with adj := clampAdj a, adjResult := 0 }) ∧
    (clampAdj a).natAbs ≤ 102400000) ∧
  (∀ f (b : Fin 8) a s, s.boot.fwReady = true → isPf f = true → steers f b.val s = false →
    exec (.campFreq f b a) s = .next (setTimeBase s b.val { timeBase s b.val with adjResult := 2 })) ∧
  (∀ f (b : Fin 8) authorise s, s.boot.fwReady = true → isPf f = true → steers f b.val s = true →
    (∀ t, (timeBase s b.val).lastApply = some t → t + 200 ≤ s.now) →
    (beyondGuard (timeBase s b.val) (timeBase s b.val).phaseReg = false ∨ authorise = true) →
    ∃ s', exec (.campAdjApply f b authorise) s = .next s' ∧
      (timeBase s' b.val).value = addFrac (timeBase s b.val).value (timeBase s b.val).phaseReg ∧
      (timeBase s' b.val).adjResult = 0 ∧ (timeBase s' b.val).applied = ((timeBase s b.val).applied + 1) % 65536) ∧
  (∀ f (b : Fin 8) authorise s t, s.boot.fwReady = true → isPf f = true → steers f b.val s = true →
    (timeBase s b.val).lastApply = some t → s.now < t + 200 →
    exec (.campAdjApply f b authorise) s = .next (setTimeBase s b.val { timeBase s b.val with adjResult := 3 })) ∧
  (∀ (i : Fin 4) k s, (pps s i.val).enabled = true →
    ∃ s', exec (.ppsEdge i k) s = .next s' ∧ (pps s' i.val).present = true ∧ (pps s' i.val).edgeAt = s.now ∧
      (pps s' i.val).lastStamp = ppsStamp (pps s i.val) (k % 16) (pps s i.val).tb s) ∧
  (∀ (i : Fin 4) s, (pps s i.val).present = true → lapsed (pps s i.val).edgeAt 2500000000 s = true →
    ∃ s', exec (.ppsInputLost i) s = .next s' ∧ (pps s' i.val).present = false) ∧
  (∀ (o : Fin 8) s, exec (.pulseEdge o) s = .next (if stepAwaits s = true then
      { s with time := { s.time with pulsesDue := s.time.pulsesDue ++ [o.val] } } else pulseEdge o.val s)) ∧
  (∀ o s x, (pulse s o).next = some x → (pulse s o).mode = 1 → edgeDue (pulse s o) x s = true →
    (timeBase s (pulse s o).tb).checkFault = false →
    pulseEdge o s = post (0x318 + o) .info 0
      (setPulse (emit (.pulse o ((driven (pulse s o) x % (timeModulus : Int)).toNat) (pulse s o).widthNs (pulse s o).activeLow) s) o
        { pulse s o with next := none })) ∧
  (∀ (b : Fin 8) d s, (timeBase s b.val).checkEnable = true → secOf (timeBase s b.val).value ≠ (timeBase s b.val).checkedSec →
    4 * unitNs < (((timeBase s b.val).value : Int) - (addFrac (timeBase s b.val).check d : Int)).natAbs →
    ∃ s', exec (.crossCheck b d) s = .next s' ∧ (timeBase s' b.val).checkFault = true) ∧
  (∀ (b : Fin 8) d s, (timeBase s b.val).checkEnable = true → secOf (timeBase s b.val).value ≠ (timeBase s b.val).checkedSec →
    (timeBase s b.val).checkPps = none →
    (((timeBase s b.val).value : Int) - (addFrac (timeBase s b.val).check d : Int)).natAbs ≤ 4 * unitNs →
    ∃ s', exec (.crossCheck b d) s = .next s' ∧ (timeBase s' b.val).checkFault = (timeBase s b.val).checkFault ∧
      (timeBase s' b.val).checkPpsBad = 0 ∧ (timeBase s' b.val).checkedSec = secOf (timeBase s b.val).value) ∧
  (∀ (f : PtpFrame) s s1 k c p, s1 = portBoundary f.port s → stampsAt f.port s1 = true →
    s1.time.clocks.find? (fun e => e.2.enabled && e.2.bound && decide (e.2.domainNumber = f.domainNumber) &&
      decide (portTimeBase f.port s1 = e.2.tb) && e.2.ports.any (ptpPortMatches f)) = some (k, c) →
    c.ports.find? (ptpPortMatches f) = some p →
    (f.kind.val = 0 → f.twoStep = false → p.state = 9 →
      ∃ s', exec (.ptpMessage f) s = .next s' ∧ (ptpClock s' k).syncLost = false ∧ (ptpClock s' k).syncAt = s.now ∧
        (ptpClock s' k).offset =
          (receiveStamp p.port c.tb s1 : Int) - f.stamp - f.correction - p.delayAsymmetry - c.meanDelay) ∧
    (f.kind.val = 1 → p.state = 6 →
      ∃ s', exec (.ptpMessage f) s = .next s' ∧
        Output.ptpMessage k 9 p.port p.tributary (receiveStamp p.port c.tb s1) none ∈ s'.out)) ∧
  (∀ (c : Fin 8) s, (ptpClock s c.val).enabled = true → lapsed (ptpClock s c.val).syncAt 1000000000 s = true →
    ∃ s', exec (.ptpInputLost c) s = .next s' ∧ (ptpClock s' c.val).syncLost = true) ∧
  (∀ (c : Fin 8) s s1 p, (ptpClock s c.val).enabled = true → (timeBase s (ptpClock s c.val).tb).checkFault = false →
    messageDue 0 (ptpClock s c.val) s.now = true → (ptpClock s c.val).ports = [p] → p.state = 6 →
    s1 = portBoundary p.port s → portTimeBase p.port s1 = (ptpClock s c.val).tb →
    exec (.ptpMessageSend c 0) s = .next
      (emit (.ptpMessage c.val 8 p.port p.tributary (sendStamp p.port (ptpClock s c.val).tb s1) none)
        (emit (.ptpMessage c.val 0 p.port p.tributary (sendStamp p.port (ptpClock s c.val).tb s1) none)
          (setPtpClock s1 c.val { ptpClock s c.val with syncSent := some s.now })))) ∧
  (∀ (t : Fin 64) n s, (tod s t.val).enabled = true → treeOn t.val s = true → treeDoubleRate t.val s = false →
    (timeBase s (treeTimeBase t.val s)).checkFault = false → todDue t.val s = true → (tree s t.val).superframe + 80 ≤ n →
    exec (.todMessage t n) s = .next (emit (.todMessage t.val n none (predicted t.val n s))
      (setTod s t.val { tod s t.val with superframe := n, instant := predicted t.val n s, sentAt := s.now,
                                         period := framePeriod (tree s t.val).frameStamps,
                                         messages := satur 32 ((tod s t.val).messages + 1) }))) ∧
  (∀ (l : Fin 4) bytes s, (witness s l.val).enabled = true → lineStamps l.val s = true → line400zr l.val s = false →
    leavesIm l.val s = false → parseWitness bytes = none →
    exec (.witnessMessage l bytes) s = .next (setWitness s l.val { witness s l.val with
      crcErrors := satur 32 ((witness s l.val).crcErrors + 1) })) ∧
  (∀ (l : Fin 4) s, (witness s l.val).enabled = true → (witness s l.val).reference.isSome = true →
    (witness s l.val).refLost = false → lineStamps l.val s = false →
    lapsed (framer s l.val).mfSince ((witness s l.val).holdS * 1000000000) s = true →
    ∃ s', exec (.witnessHoldExpiry l) s = .next s' ∧ (witness s' l.val).refLost = true ∧
      (witness s' l.val).stepSeq = ((witness s l.val).stepSeq + 1) % 65536) ∧
  (∀ n s, s.time.stopped = true → s.pwr.keep.asleep = false →
    ∃ s', exec (.sleepLedgerResume n) s = .next s' ∧ s'.time.stopped = false ∧ ∀ b, b < 8 →
      (timeBase s' b).value = ((timeBase s b).value + n % 2 ^ 48 * (unitSec / 32768)) % timeModulus)

/-! ## Range 0x0B: protection and the Belfry lease -/

/-- The commands of range 0x0B: a group is configured with its defaults; PROT_ENABLE starts the member claiming behind its
fence and runs on; PROT_DISABLE takes the member out and its tree down, but the holder only with FORCE; PROT_SWITCH asks the
peer to take over and runs on; 64 bytes of status; a standby test runs on, and ends with its result; pairing leaves the group's
key, or times out; the arbiter serves a group.

Heartbeats, handover and the Marl image: a heartbeat is sent; an accepted one restores the peer; silence of HB_TIMEOUT_US
loses it, and a holder keeps its lease; optical drive behind the fence fences the tree's cupola and takes the member out;
after WTR the primary names S, and it asks again from S − 12 µs; the release of the lease at S − 4 µs needs a REVERT that
names S and is no older than 10 µs, and is abandoned without one; a Marl piece lands in its slot of the saved-state
partition, and a part that is whole completes its image. -/
def Obligations.ProtectionCommandsAndHandover : Prop :=
  (∀ h p e s, startable 0x0B00 none h e s → owns h kTree p.tree.val s = true → p.wf = true →
    (tree s p.tree.val).enabled = false → (member s p.tree.val).enabled = false → p.arbiter ≠ p.peer →
    s.fab.address ≠ some p.arbiter.val →
    exec (.protGroupConfigure h p) s = .next (finish e stOk 0 0 [] (setMember s p.tree.val
      { member s p.tree.val with cfg := some { p with
        hbTimeoutUs := if p.hbTimeoutUs = 0 then 12 else p.hbTimeoutUs,
        wtrS := if p.wtrS = 0 then 300 else p.wtrS,
        staleLimit := if p.staleLimit = 0 then 80 else p.staleLimit } }))) ∧
  (∀ h p e s, startable 0x0B00 none h e s → owns h kTree p.tree.val s = true → p.wf = true →
    ((tree s p.tree.val).enabled = true ∨ (member s p.tree.val).enabled = true) →
    exec (.protGroupConfigure h p) s = .next (finish e stRefused 0x0B01 0 [] s)) ∧
  (∀ h (t : Fin 64) c e s s1, startable 0x0B01 (some { kind := 2, scope := t.val }) h e s → owns h kTree t.val s = true →
    (member s t.val).cfg = some c → (member s t.val).enabled = false → protDeps t.val s = true →
    (tget none c.group.val s.boot.pairingKeys).isSome = true →
    enablePort t.val (treeRate (tree s t.val).mode) s = .placed s1 →
    ∃ s', exec (.protEnable h t) s = .next (setPhase e (.running t.val) s') ∧ (member s' t.val).enabled = true ∧
      (member s' t.val).state = 1 ∧ (member s' t.val).claiming = true ∧ (member s' t.val).holding = false ∧
      (member s' t.val).fence = true ∧ (member s' t.val).switchovers = 0) ∧
  (∀ h (t : Fin 64) c e s, startable 0x0B01 (some { kind := 2, scope := t.val }) h e s → owns h kTree t.val s = true →
    (member s t.val).cfg = some c → (member s t.val).enabled = false → protDeps t.val s = false →
    exec (.protEnable h t) s = .next (finish e stRefused 0x0B00 0 [] s)) ∧
  (∀ h (t : Fin 64) force e s, startable 0x0B02 none h e s → owns h kTree t.val s = true →
    ((member s t.val).holding = false ∨ force = true) →
    ∃ s', exec (.protDisable h t force) s = .next (finish e stOk 0 0 [] s') ∧ (member s' t.val).enabled = false ∧
      (tree s' t.val).enabled = false ∧ (tree s' t.val).txen = false) ∧
  (∀ h (t : Fin 64) e s, startable 0x0B02 none h e s → owns h kTree t.val s = true → (member s t.val).holding = true →
    exec (.protDisable h t false) s = .next (finish e stRefused 0x0B03 0 [] s)) ∧
  (∀ h (t : Fin 64) e s, startable 0x0B03 none h e s → owns h kTree t.val s = true → (member s t.val).holding = true →
    (member s t.val).peerCurrent = true → (member s t.val).peerHealthy = true → (member s t.val).peerLost = false →
    ∃ s', exec (.protSwitch h t) s = .next (setPhase e (.running t.val) s') ∧
      (member s' t.val).dueRelease = some (handoverFrame t.val s) ∧ (member s' t.val).holding = true) ∧
  (∀ h (t : Fin 64) e s, startable 0x0B03 none h e s → owns h kTree t.val s = true →
    ((member s t.val).holding = false ∨ (member s t.val).peerCurrent = false ∨ (member s t.val).peerHealthy = false) →
    exec (.protSwitch h t) s = .next (finish e stRefused 0x0B02 0 [] s)) ∧
  (∀ h (t : Fin 64) e s, startable 0x0B04 none h e s → owns h kTree t.val s = true → protConfigured t.val s = true →
    ∃ r, exec (.protStatus h t) s = .next (finish e stOk 0 0 r s) ∧ r.length = 64 ∧
      r.head? = some (BitVec.ofNat 8 (member s t.val).state)) ∧
  (∀ h (t : Fin 64) us e s, startable 0x0B05 (some { kind := 6, scope := t.val }) h e s → owns h kTree t.val s = true →
    125 ≤ us → us ≤ 10000 → us % 125 = 0 → (member s t.val).state = 3 →
    exec (.protStandbyTest h t us) s = .next (setPhase e (.running t.val)
      (setMember s t.val { member s t.val with state := 7, testEnds := s.now + us * 1000 }))) ∧
  (∀ (t : Fin 64) pass s, (member s t.val).state = 7 → (member s t.val).testEnds ≤ s.now →
    exec (.standbyTestEnd t pass) s = .next (completeRunning 0x0B05 t.val stOk 0 (if pass then 1 else 0) []
      (setMember s t.val { member s t.val with state := if (member s t.val).current then 3 else 4 }))) ∧
  (∀ h (t : Fin 64) c message e s d s1, startable 0x0B06 none h e s → owns h kTree t.val s = true →
    (member s t.val).cfg = some c → d = (draw s).1 % (p256.n - 1) + 1 →
    s1 = emit (.pairing c.peer.val (ownPairingMessage d c.group.val)) (draw s).2 →
    (serialOf c.peer.val s = none → exec (.protPair h t message) s = .next (finish e stTimeout 0 0 [] s1)) ∧
    (∀ n keys, serialOf c.peer.val s = some n → keys = tset none c.group.val
        (some (pairingKey (sharedX p256 d (publicKey p256 (natsOf (message.take 64)))) c.group.val Config.serial n))
        s1.boot.pairingKeys →
      exec (.protPair h t message) s = .next (if pairingOk c.group.val n message = true then
          finish e stOk 0 0 [] { s1 with boot := { s1.boot with pairingKeys := keys } }
        else finish e stTimeout 0 0 [] s1))) ∧
  (∀ h p e s, startable 0x0B07 none h e s → ownsDevice h s = true → p.serve = true → groupsServed p.group.val s < 256 →
    exec (.leaseArbiterConfigure h p) s = .next (finish e stOk 0 0 [] (setArbiter s p.group.val
      { arbiter s p.group.val with
        serve := true, hostMode := p.hostMode, armedPrimary := p.armedPrimary, armedSecondary := p.armedSecondary,
        armedAt := s.now, wasPrimary := armedBit false (arbiter s p.group.val) s.now,
        wasSecondary := armedBit true (arbiter s p.group.val) s.now, primary := p.primary.val, secondary := p.secondary.val }))) ∧
  (∀ (t : Fin 64) served s c, (member s t.val).enabled = true → (member s t.val).holding = true → (member s t.val).cfg = some c →
    (∀ l, (member s t.val).hbSent = some l → l + 5000 ≤ s.now) → canSend (peerOf t.val s) s = true →
    ∃ s' flags seq epoch frame, exec (.heartbeatSend t served) s = .next s' ∧
      s'.out.head? = some (.lease (peerOf t.val s) (leaseBytes leaseHeartbeat c.group.val (selfAddress s) (selfAddress s)
        flags seq epoch frame)) ∧ (member s' t.val).hbSent = some s.now) ∧
  (∀ (t : Fin 64) bytes g s c, (member s t.val).cfg = some c → g = readLease bytes → soundMessage g = true →
    g.group = c.group → g.kind = leaseHeartbeat →
    (member s t.val).enabled = true → g.sender = c.peer → g.healthy = true → (member s t.val).holding = true →
    (member s t.val).claiming = false →
    ∃ s', exec (.heartbeat t bytes) s = .next s' ∧ (member s' t.val).peerLost = false ∧
      (member s' t.val).hbLast = some s.now ∧ (member s' t.val).peerHealthy = true ∧
      (member s' t.val).peerCurrent = g.imageCurrent) ∧
  (∀ (t : Fin 64) s c, (member s t.val).cfg = some c → (member s t.val).enabled = true →
    (member s t.val).peerLost = false →
    lapsed ((member s t.val).hbLast.getD (member s t.val).enabledAt) (usNs c.hbTimeoutUs) s = true →
    ∃ s', exec (.heartbeatTimeout t) s = .next s' ∧ ((member s t.val).state ≠ 7 → (member s' t.val).peerLost = true) ∧
      (member s' t.val).holding = (member s t.val).holding ∧
      ((member s t.val).state = 3 → (member s t.val).current = true → (member s t.val).holding = false →
        (cup s t.val).state ≠ .fenced → (member s' t.val).claiming = true)) ∧
  (∀ (t : Fin 64) ns s, (member s t.val).fence = true →
    ∃ s', exec (.transmitWithoutLease t ns) s = .next s' ∧ (member s' t.val).enabled = false ∧
      (member s' t.val).holding = false ∧ (tree s' t.val).txen = false ∧ (cup s' t.val).state = .fenced) ∧
  (∀ (t : Fin 64) s c w, (member s t.val).cfg = some c → (member s t.val).wtrSince = some w → (member s t.val).state = 8 →
    (member s t.val).taking = none → wtrHolds (member s t.val) = true → w + c.wtrS * 1000000000 ≤ s.now →
    ∃ s', exec (.wtrExpiry t) s = .next s' ∧ (member s' t.val).taking = some (handoverFrame t.val s, false)) ∧
  (∀ (t : Fin 64) s b x, (member s t.val).taking = some (b, x) → (member s t.val).holding = false →
    untilFrame t.val b s ≤ 12000 → -20000 ≤ untilFrame t.val b s →
    ((member s t.val).reverting = true → ∀ l, (member s t.val).revertSent = some l → l + 5000 ≤ s.now) →
    ∃ s', exec (.revertSend t) s = .next s' ∧ (member s' t.val).reverting = true ∧
      (member s' t.val).seq = ((member s t.val).seq + 1) % 2 ^ 32) ∧
  (∀ (t : Fin 64) s c b r, (member s t.val).dueRelease = some b → (member s t.val).holding = true →
    (member s t.val).cfg = some c → messageComes c.group s = false →
    untilFrame t.val b s ≤ 4000 → r ∈ (member s t.val).reverts → r.1 = b → s.now ≤ r.2 + 10000 →
    ∃ s', exec (.handoverRelease t) s = .next (completeRunning 0x0B03 t.val stOk 0 0 [] (postProt t.val 7
      (completeRunning 0x0B01 t.val stOk 0 0 [] s'))) ∧ (member s' t.val).holding = false ∧
      (member s' t.val).fence = true ∧ (tree s' t.val).enabled = false) ∧
  (∀ (t : Fin 64) s c b, (member s t.val).dueRelease = some b → (member s t.val).holding = true →
    (member s t.val).cfg = some c → messageComes c.group s = false →
    untilFrame t.val b s ≤ 4000 → (∀ r ∈ (member s t.val).reverts, r.1 = b → r.2 + 10000 < s.now) →
    exec (.handoverRelease t) s = .next (completeRunning 0x0B03 t.val stRefused 0x0B02 0 []
      (setMember s t.val { member s t.val with dueRelease := none, releaseDue := false }))) ∧
  (∀ sof payload m s t, m = readPiece sof payload → memberTree m.group s = some t → (member s t).enabled = true →
    flitListed sof = true → m.pieceOffset + m.bytes.length ≤ (if m.partB then 0x1C0000 else 0x40000) →
    ∃ s', exec (.marlFrame sof payload) s = .next s' ∧
      (image s' t m.slot.val).superframe % 2 ^ 32 = m.superframe % 2 ^ 32 ∧
      (∀ i (hi : i < m.bytes.length), readByte (savedState t m.slot.val + partOffset m.partB + m.pieceOffset + i) s' = m.bytes[i]) ∧
      (∀ a, (a < savedState t m.slot.val + partOffset m.partB + m.pieceOffset ∨
          savedState t m.slot.val + partOffset m.partB + m.pieceOffset + m.bytes.length ≤ a) → readByte a s' = readByte a s)) ∧
  (∀ (t : Fin 64) partB superframe s k, slotOf t.val superframe s = some k → (member s t.val).enabled = true →
    (member s t.val).holding = false → (if partB then (image s t.val k).doneB else (image s t.val k).doneA) = false →
    (partComplete t.val k partB s = true →
      ∃ s', exec (.marlPartComplete t partB superframe) s = .next s' ∧
        (if partB then (image s' t.val k).doneB else (image s' t.val k).doneA) = true) ∧
    (partComplete t.val k partB s = false → exec (.marlPartComplete t partB superframe) s = .next s))

/-- The member's side of the lease: at the fence instant the holder stops transmitting behind its fence, before anything else
is looked at; a request goes out 5 µs after the last, with a new number and its instant, a GRANT of the same cycle being taken first;
an accepted GRANT moves the holder's fence to 18 µs after the request it answers, and makes the member that did not hold the lease the
holder, its fence released; one of an older epoch or answering no request of the last 18 µs changes nothing. -/
def Obligations.LeaseMember : Prop :=
  (∀ (t : Fin 64) s c, fenceDue t.val s = true → (member s t.val).cfg = some c →
    (∃ s', exec (.fenceInstant t) s = .next s' ∧
      (member s' t.val).holding = false ∧ (member s' t.val).fence = true ∧ (tree s' t.val).txen = false) ∧
    (∀ served, ∃ s', exec (.leaseRequestSend t served) s = .next s' ∧
      (member s' t.val).holding = false ∧ (member s' t.val).fence = true ∧ (tree s' t.val).txen = false) ∧
    (∀ bytes, ∃ s', exec (.leaseGrant t bytes) s = .next s' ∧
      (member s' t.val).holding = false ∧ (member s' t.val).fence = true ∧ (tree s' t.val).txen = false)) ∧
  (∀ (t : Fin 64) served s c, (member s t.val).cfg = some c → fenceDue t.val s = false → (member s t.val).enabled = true →
    grantComes t.val s = false → (∀ l, (member s t.val).lastSent = some l → l + 5000 ≤ s.now) →
    (((member s t.val).holding = true ∧ healthy t.val served s = true) ∨
      ((member s t.val).holding = false ∧ (member s t.val).claiming = true)) →
    ∃ s', exec (.leaseRequestSend t served) s = .next s' ∧ (member s' t.val).lastSent = some s.now ∧
      (member s' t.val).seq = ((member s t.val).seq + 1) % 2 ^ 32 ∧
      (member s' t.val).sent.head? = some (((member s t.val).seq + 1) % 2 ^ 32, s.now) ∧
      (member s' t.val).fenceAt = (member s t.val).fenceAt) ∧
  (∀ (t : Fin 64) served s, fenceDue t.val s = false → grantComes t.val s = true →
    exec (.leaseRequestSend t served) s = .next (setMember s t.val { member s t.val with requestDue := some served })) ∧
  (∀ (t : Fin 64) served s, (member s t.val).holding = true → fenceDue t.val s = false → grantComes t.val s = false →
    healthy t.val served s = false → exec (.leaseRequestSend t served) s = .next s) ∧
  (∀ (t : Fin 64) bytes g s c x, (member s t.val).cfg = some c → g = readLease bytes → fenceDue t.val s = false →
    soundMessage g = true → g.group = c.group → g.kind = leaseGrant → (member s t.val).enabled = true →
    s.fab.address = some g.target.val → (member s t.val).epoch ≤ g.epoch → (member s t.val).holding = true →
    (member s t.val).requestDue = none →
    (member s t.val).sent.find? (fun e => decide (e.1 = g.seq) && decide (s.now ≤ e.2 + 18000)) = some x →
    exec (.leaseGrant t bytes) s = .next (setMember s t.val { member s t.val with
      fenceAt := max (member s t.val).fenceAt (x.2 + 18000), epoch := g.epoch })) ∧
  (∀ (t : Fin 64) bytes g s c x, (member s t.val).cfg = some c → g = readLease bytes → soundMessage g = true →
    g.group = c.group → g.kind = leaseGrant → (member s t.val).enabled = true → s.fab.address = some g.target.val →
    (member s t.val).epoch ≤ g.epoch → (member s t.val).holding = false → (member s t.val).requestDue = none →
    (member s t.val).sent.find? (fun e => decide (e.1 = g.seq) && decide (s.now ≤ e.2 + 18000)) = some x →
    ∃ s', exec (.leaseGrant t bytes) s = .next (completeRunning 0x0B01 t.val stOk 0 0 [] s') ∧
      (member s' t.val).holding = true ∧ (member s' t.val).fence = false ∧ (member s' t.val).state = 2 ∧
      (member s' t.val).epoch = g.epoch ∧ (member s' t.val).fenceAt = max (member s t.val).fenceAt (x.2 + 18000)) ∧
  (∀ (t : Fin 64) bytes g s c, (member s t.val).cfg = some c → g = readLease bytes → fenceDue t.val s = false →
    soundMessage g = true → g.group = c.group → (member s t.val).requestDue = none →
    (g.epoch < (member s t.val).epoch ∨ s.fab.address ≠ some g.target.val ∨
      ∀ x ∈ (member s t.val).sent, x.1 = g.seq → x.2 + 18000 < s.now) →
    exec (.leaseGrant t bytes) s = .next s)

/-- The arbiter keeps one holder: until its record expires, no message but the holder's own RELEASE takes the lease from it;
a RENEW from the holder extends the record to 20 µs from now; a claim is queued, the latest of its sender kept; the record
expires first, and a claim that is then queued, armed and no older than 10 µs is granted with the epoch after. -/
def Obligations.ArbiterKeepsOneHolder : Prop :=
  (∀ bytes g s m, g = readLease bytes → (arbiter s g.group.val).serve = true → (arbiter s g.group.val).holder = some m →
    (arbiter s g.group.val).presented = [] → s.now < (arbiter s g.group.val).expiry →
    (g.kind = leaseRelease → g.sender.val ≠ m) →
    ∃ s', exec (.arbiterLeaseMessage bytes) s = .next s' ∧ (arbiter s' g.group.val).holder = some m ∧
      (arbiter s' g.group.val).epoch = (arbiter s g.group.val).epoch) ∧
  (∀ bytes g s, g = readLease bytes → (arbiter s g.group.val).serve = true →
    (arbiter s g.group.val).holder = some g.sender.val → (arbiter s g.group.val).presented = [] →
    messageComes g.group s = false → s.now < (arbiter s g.group.val).expiry → soundMessage g = true → g.kind = leaseRenew →
    ∃ s', exec (.arbiterLeaseMessage bytes) s = .next s' ∧
      (arbiter s' g.group.val).expiry = s.now + 20000 ∧
      (canSend g.sender.val s = true → s'.out =
        .lease g.sender.val (leaseBytes leaseGrant g.group.val (selfAddress s) g.sender.val 0 g.seq
          (arbiter s g.group.val).epoch 0) :: s.out)) ∧
  (∀ bytes g s m, g = readLease bytes → (arbiter s g.group.val).serve = true → (arbiter s g.group.val).holder = some m →
    (arbiter s g.group.val).presented = [] → messageComes g.group s = false →
    s.now < (arbiter s g.group.val).expiry → soundMessage g = true → g.kind = leaseClaim → g.sender.val ≠ m →
    ∃ s' q, exec (.arbiterLeaseMessage bytes) s = .next s' ∧ q ∈ (arbiter s' g.group.val).queue ∧
      q.sender = g.sender.val ∧ q.seq = g.seq ∧ q.received = s.now) ∧
  (∀ (g : Fin 4096) s q, (arbiter s g.val).serve = true → (arbiter s g.val).expiry ≤ s.now → messageComes g s = false →
    (arbiter s g.val).queue = [q] → s.now ≤ q.received + 10000 → armed (arbiter s g.val) q.sender s.now = true →
    ∃ s', exec (.arbiterLeaseExpiry g) s = .next s' ∧ (arbiter s' g.val).holder = some q.sender ∧
      (arbiter s' g.val).epoch = ((arbiter s g.val).epoch + 1) % 2 ^ 32 ∧
      (arbiter s' g.val).expiry = s.now + 20000 ∧ (arbiter s' g.val).queue = []) ∧
  (∀ (g : Fin 4096) s, (arbiter s g.val).serve = true → s.now < (arbiter s g.val).expiry →
    (arbiter s g.val).holder.isSome = true →
    ∃ s', exec (.arbiterLeaseExpiry g) s = .next s' ∧ (arbiter s' g.val).holder = (arbiter s g.val).holder) ∧
  (∀ (g : Fin 4096) (m : Fin 64) s,
    ∃ s', exec (.queuedClaimExpiry g m) s = .next s' ∧ (arbiter s' g.val).holder = (arbiter s g.val).holder ∧
      ∀ q ∈ (arbiter s' g.val).queue, q.sender = m.val → s.now ≤ q.received + 10000)

/-! ## Range 0x0C: lanes and fabric -/

/-- The commands of range 0x0C complete: a group set to its mode, figures and cost, or REFUSED with 0xC00 for another mode
while in use; a client port enabled once trained, or disabled; a link enabled, which trains and runs on, or disabled; a lane's
64 bytes of status; a retrain, an eye scan and its end, a loop set and cleared; the fabric's allow mask and time priority, its
64 bytes, a route's 32 bytes or EMPTY; a queue bound to a destination; a command forwarded, or NOT_PRESENT with 0xC03. -/
def Obligations.LaneAndFabricCommandsComplete : Prop :=
  (∀ h p e s, startable 0x0C00 none h e s → owns h kLaneGroup p.group.val s = true → p.wf = true →
    (p.mode.val = (laneGroup s p.group.val).mode ∨ groupInUse p.group.val s = false) →
    ∃ s', exec (.laneGroupConfigure h p) s = .next (finish e stOk 0 0 [] s') ∧
      laneGroup s' p.group.val =
        { mode := p.mode.val, reach := p.reach.val, fomFloor := p.fomFloor, fomRetrain := p.fomRetrain,
          retryCount := p.retryCount, cost := p.cost }) ∧
  (∀ h p e s, startable 0x0C00 none h e s → owns h kLaneGroup p.group.val s = true → p.wf = true →
    p.mode.val ≠ (laneGroup s p.group.val).mode → groupInUse p.group.val s = true →
    exec (.laneGroupConfigure h p) s = .next (finish e stRefused 0x0C00 0 [] s)) ∧
  (∀ h p e s s1, startable 0x0C01 none h e s → owns h kLaneGroup (groupOfLane p.lane.val) s = true → p.wf = true →
    (cup s (92 + groupOfLane p.lane.val)).state = .active → p.enable = true → p.trained = true →
    p.lane.val % p.width = 0 → (laneGroup s (groupOfLane p.lane.val)).mode = 0 → laneTaken p.lane.val p.width s = false →
    (portEnt s (0x80 + p.lane.val)).enabled = false → enablePort (0x80 + p.lane.val) (200 * p.width) s = .placed s1 →
    exec (.clientPortConfigure h p) s =
      .next (finish e stOk 0 0 [] (setClient s1 p.lane.val { width := p.width, phy := p.phy.val }))) ∧
  (∀ h p e s, startable 0x0C01 none h e s → owns h kLaneGroup (groupOfLane p.lane.val) s = true → p.wf = true →
    (cup s (92 + groupOfLane p.lane.val)).state = .active → p.enable = false →
    exec (.clientPortConfigure h p) s =
      .next (finish e stOk 0 0 [] (setClient (disablePort (0x80 + p.lane.val) s) p.lane.val {}))) ∧
  (∀ h p e s s1, startable 0x0C02 none h e s → owns h kLaneGroup (groupOfLane (portLink p.port / 2)) s = true →
    p.wf = true → (cup s (92 + groupOfLane (portLink p.port / 2))).state = .active → p.enable = true →
    linkExists (portLink p.port) s = true → enablePort p.port 200 s = .placed s1 →
    ∃ s', exec (.fabricLinkEnable h p) s = .next (setPhase e (.running (portLink p.port)) s') ∧
      (link s' (portLink p.port)).enabled = true ∧ (link s' (portLink p.port)).delayAsym = p.delayAsym ∧
      (link s' (portLink p.port)).adjacent = false ∧ (link s' (portLink p.port)).downEvents = 0) ∧
  (∀ h p e s, startable 0x0C02 none h e s → owns h kLaneGroup (groupOfLane (portLink p.port / 2)) s = true →
    p.wf = true → (cup s (92 + groupOfLane (portLink p.port / 2))).state = .active → p.enable = false →
    ∃ s', exec (.fabricLinkEnable h p) s = .next (finish e stOk 0 0 [] s') ∧
      (link s' (portLink p.port)).enabled = false) ∧
  (∀ h (x : Fin 48) (l : Fin 2) e s, startable 0x0C03 none h e s →
    ∃ r s', exec (.laneStatus h x l) s = .next (finish e stOk 0 0 r s') ∧ r.length = 64 ∧ s'.fab = s.fab) ∧
  (∀ h (x : Fin 48) (l : Fin 2) e s, startable 0x0C04 (some { kind := 3, scope := x.val }) h e s →
    owns h kLaneGroup (groupOfLane x.val) s = true → (cup s (92 + groupOfLane x.val)).state = .active →
    (link s (linkKey x.val l.val)).enabled = true →
    ∃ s', exec (.laneRetrain h x l) s = .next (setPhase e (.running (linkKey x.val l.val)) s') ∧
      (link s' (linkKey x.val l.val)).state = 4 ∧ (link s' (linkKey x.val l.val)).retries = 0 ∧
      (link s' (linkKey x.val l.val)).adjacent = false ∧
      (link s' (linkKey x.val l.val)).retrains = satur 32 ((link s (linkKey x.val l.val)).retrains + 1)) ∧
  (∀ h (x : Fin 48) (l : Fin 2) full dwell e s, startable 0x0C05 (some { kind := 4, scope := x.val }) h e s →
    owns h kLaneGroup (groupOfLane x.val) s = true → (cup s (92 + groupOfLane x.val)).state = .active →
    20 ≤ dwell → dwell ≤ 34 →
    exec (.eyeScan h x l full dwell) s = .next (
      if (link s (linkKey x.val l.val)).state = 5 ∨ (link s (linkKey x.val l.val)).state = 6 then
        finish e stRefused 0x0C07 0 [] s
      else setPhase e (.running (linkKey x.val l.val)) (setLink s (linkKey x.val l.val)
        { link s (linkKey x.val l.val) with scan := some (full, dwell, s.now) }))) ∧
  (∀ (x : Fin 48) (l : Fin 2) map s full dwell since, (link s (linkKey x.val l.val)).scan = some (full, dwell, since) →
    since + scanNs full dwell ≤ s.now →
    ∃ r s', exec (.eyeScanEnd x l map) s = .next (completeRunning 0x0C05 (linkKey x.val l.val) stOk 0 0 r s') ∧
      r.length = (if full = true then 64 + 4096 else 64) ∧ (link s' (linkKey x.val l.val)).scan = none) ∧
  (∀ h (x : Fin 48) (l : Fin 4) e s, startable 0x0C06 (some { kind := 5, scope := x.val }) h e s →
    owns h kLaneGroup (groupOfLane x.val) s = true → (cup s (92 + groupOfLane x.val)).state = .active →
    ∃ s', exec (.loopbackSet h x l) s = .next (finish e stOk 0 0 [] s') ∧ loopOf s' x.val = l.val ∧
      (l.val ≠ 0 → (∀ key, runsOn 0x0C05 key s = false) → (link s (linkKey x.val 0)).enabled = true →
        (link s' (linkKey x.val 0)).state = 7)) ∧
  (∀ h allow prio e s, startable 0x0C07 none h e s → ownsDevice h s = true → prio < 256 →
    ∃ s', exec (.fabricConfigure h allow prio) s = .next (finish e stOk 0 0 [] s') ∧ s'.fab.mgmtAllow = allow ∧
      s'.fab.timePriority = prio) ∧
  (∀ h e s, startable 0x0C08 none h e s →
    ∃ r, exec (.fabricStatus h) s = .next (finish e stOk 0 0 r s) ∧ r.length = 64) ∧
  (∀ h (d : Fin 64) r e s, startable 0x0C09 none h e s → routeTo d.val s = some r → reachable d.val s = true →
    exec (.fabricRouteRead h d) s = .next (finish e stOk 0 0 (routeBytes r) s) ∧ (routeBytes r).length = 32) ∧
  (∀ h (d : Fin 64) e s, startable 0x0C09 none h e s → reachable d.val s = false →
    exec (.fabricRouteRead h d) s = .next (finish e stEmpty 0 0 [] s)) ∧
  (∀ h p c e s, startable 0x0C0A none h e s → ownsDomain h p.domain.val s = true → p.unbind = false →
    (queue s p.queue.val).cfg = some c → c.targetKind.val = 3 → c.domain = p.domain →
    (∀ b ∈ s.fab.binds, b.dest = p.dest.val → b.domain ≠ p.domain.val) →
    exec (.fabricDestBind h p) s = .next (finish e stOk 0 0 [] { s with fab := { s.fab with
      binds := s.fab.binds.filter (fun b => decide (b.queue ≠ p.queue.val)) ++
        [{ queue := p.queue.val, domain := p.domain.val, dest := p.dest.val }] } })) ∧
  (∀ h p e s n, startable 0x0C0B none h e s → h.blockLen = 128 + (innerHeader p).caller.blockLen →
    (innerHeader p).caller.blockLen ≤ 8192 → p.remoteQueue = none → s.fab.address.isSome = true →
    s.fab.address ≠ some p.address.val → reachable p.address.val s = true → n = (s.fab.forwards + 1) % 2 ^ 31 →
    exec (.fabricForward h p) s = .next (setPhase e (.running (p.address.val * 2 ^ 32 + n))
      (emit (.forward p.address.val (kindThree n 0) p.inner) { s with fab := { s.fab with forwards := n } }))) ∧
  (∀ h p e s, startable 0x0C0B none h e s → h.blockLen = 128 + (innerHeader p).caller.blockLen →
    (innerHeader p).caller.blockLen ≤ 8192 → p.remoteQueue = none → reachable p.address.val s = false →
    exec (.fabricForward h p) s = .next (finish e stNotPresent 0x0C03 0 [] s))

/-- Links train and go down: a good training frame is answered, one request at a time; a request without an answer is repeated,
after 16 times training fails; a training that fails without a known-good setting parks the lane; FOM below FOM_RETRAIN or a
peer's request retrains; a known-good setting returns the link or parks it; a link that goes down leaves routing, its frames
counted, and REMOTE_FAULT is sent; a peer pauses and resumes a class.

The fabric's messages: hellos go out and make an adjacency, which 350 µs of silence end; a newer record is stored and an
older one is not, and a record expires after 3 s; after 10 ms of quiet the device adopts its computed address; routes are
installed as computed; a TIME flit that completes an exchange gives the link its delay and offset, and one of bad CRC is counted; the
source's silence is noted; a frame for another device is taken in transit with one hop fewer, or counted; a forwarded command is taken
in as the sender's fabric function's. A frame never leaves on a link that is not adjacent. -/
def Obligations.LinksTrainAndFabricMessagesAct : Prop :=
  (∀ (x : Fin 48) (l : Fin 2) control status (f : TrainingFacts) s w s1, isTraining (link s (linkKey x.val l.val)) = true →
    (link s (linkKey x.val l.val)).state ≠ 1 →
    w = takeStatus status f s.now (takeControl control (link s (linkKey x.val l.val))) →
    s1 = emit (trainingFrame (linkKey x.val l.val) w) (setLink s (linkKey x.val l.val) w) →
    exec (.trainingFrame x l control status f) s =
      .next (if 16 ≤ w.ownRun ∧ 16 ≤ w.peerRun then finishTraining (linkKey x.val l.val) w.fom s1 else s1)) ∧
  (∀ status (f : TrainingFacts) now (v : Link), v.reqOpen = true →
    (trainingWordOk status = false ∨ wordBits status 8 8 ≠ v.reqSeq) →
    (takeStatus status f now v).reqSeq = v.reqSeq ∧ (takeStatus status f now v).reqOpen = true ∧
    (takeStatus status f now v).ownRun = 0) ∧
  (∀ (x : Fin 48) (l : Fin 2) s, isTraining (link s (linkKey x.val l.val)) = true →
    (link s (linkKey x.val l.val)).reqOpen = true → (link s (linkKey x.val l.val)).reqRepeats < 16 →
    lapsed (link s (linkKey x.val l.val)).reqAt 10000 s = true →
    ∃ s', exec (.trainingRequestTimeout x l) s = .next s' ∧
      link s' (linkKey x.val l.val) = { link s (linkKey x.val l.val) with
        reqRepeats := (link s (linkKey x.val l.val)).reqRepeats + 1, reqAt := s.now }) ∧
  (∀ (x : Fin 48) (l : Fin 2) s, isTraining (link s (linkKey x.val l.val)) = true →
    (lapsed (link s (linkKey x.val l.val)).trainAt 100000000 s = true →
      exec (.trainingTimeout x l) s = .next (failTraining (linkKey x.val l.val) s)) ∧
    ((link s (linkKey x.val l.val)).reqOpen = true → 16 ≤ (link s (linkKey x.val l.val)).reqRepeats →
      lapsed (link s (linkKey x.val l.val)).reqAt 10000 s = true →
      exec (.trainingRequestTimeout x l) s = .next (failTraining (linkKey x.val l.val) s))) ∧
  (∀ k s, (link s k).fomGood = none → failTraining k s = parkLane k s) ∧
  (∀ k s, (link s k).fomGood.isSome = true → (link (failTraining k s) k).onGood = true ∧
    (link (failTraining k s) k).taps = (link s k).goodTaps) ∧
  (∀ (x : Fin 48) s, (link s (linkKey x.val 0)).enabled = true → (link s (linkKey x.val 0)).state = 1 →
    (link s (linkKey x.val 0)).onGood = false → (linkGroup s (linkKey x.val 0)).mode = 2 →
    ∃ s', exec (.echoTrainingTurn x false false) s = .next s' ∧ (link s' (linkKey x.val 0)).state = 2 ∧
      ∀ a b, (a || b) = true → exec (.echoTrainingTurn x a b) s = .next s) ∧
  (∀ (x : Fin 48) (l : Fin 2) s, linkUp (linkKey x.val l.val) s = true → s.pwr.running = [] →
    s.pwr.waiting = [] → arbiterAwaits s = false → (∀ m, m < 2 → (link s (linkKey x.val m)).retrainDue = false) →
    ∃ s', exec (.fomRetrain x l) s = .next s' ∧ (link s' (linkKey x.val l.val)).state = 4 ∧
      (link s' (linkKey x.val l.val)).adjacent = false ∧
      (link s' (linkKey x.val l.val)).retrains = satur 32 ((link s (linkKey x.val l.val)).retrains + 1)) ∧
  (∀ (x : Fin 48) (l : Fin 2) s, linkUp (linkKey x.val l.val) s = true →
    ∃ s', exec (.retrainRequest x l) s = .next s' ∧ (link s' (linkKey x.val l.val)).state = 4 ∧
      (link s' (linkKey x.val l.val)).adjacent = false) ∧
  (∀ (x : Fin 48) (l : Fin 2) fom s, (link s (linkKey x.val l.val)).onGood = true →
    (link s (linkKey x.val l.val)).state ≠ 3 → (link s (linkKey x.val l.val)).goodAt + 10000000 ≤ s.now →
    (linkGroup s (linkKey x.val l.val)).fomFloor ≤ fom →
    ∃ s', exec (.knownGoodExpiry x l fom) s = .next (settleTraining (linkKey x.val l.val) stOk 0 (satur 8 fom)
        (postLane (linkKey x.val l.val) 3 s')) ∧ (link s' (linkKey x.val l.val)).state = 3) ∧
  (∀ (x : Fin 48) (l : Fin 2) s, (link s (linkKey x.val l.val)).state = 5 → s.pwr.running = [] → s.pwr.waiting = [] →
    (link s (linkKey x.val l.val)).parkedAt + 10000000000 ≤ s.now → retrainComes x.val s = false → arbiterAwaits s = false →
    (∀ m, m < 2 → m ≠ l.val → (link s (linkKey x.val m)).retrainDue = false) →
    ∃ s', exec (.parkedRetry x l) s = .next s' ∧
      (link s' (linkKey x.val l.val)).retries = (link s (linkKey x.val l.val)).retries + 1 ∧
      ((link s' (linkKey x.val l.val)).state = 1 ∨ (link s' (linkKey x.val l.val)).state = 2)) ∧
  (∀ (x : Fin 48) (l : Fin 2) (c : Fin 6) lost s, linkUp (linkKey x.val l.val) s = true → c.val < 3 →
    ∃ s', exec (.linkDown x l c lost) s = .next s' ∧ linkUp (linkKey x.val l.val) s' = false ∧
      linkAdjacent (linkKey x.val l.val) s' = false ∧
      (link s' (linkKey x.val l.val)).linkDropped = satur 64 ((link s (linkKey x.val l.val)).linkDropped + lost) ∧
      s'.out.head? = some (.flit (linkPort (linkKey x.val l.val)) (flitBytes 6 [(1, c.val)]))) ∧
  (∀ (x : Fin 48) (l : Fin 2) flit classes s, linkUp (linkKey x.val l.val) s = true → flitListed flit = true →
    fieldAt flit 0 1 = 4 → classes = BitVec.ofNat 2 (fieldAt flit 1 1) →
    exec (.pause x l flit) s = .next (setLink s (linkKey x.val l.val) { link s (linkKey x.val l.val) with
      paused := (if fieldAt flit 2 1 = 1 then (link s (linkKey x.val l.val)).paused ||| classes
        else (link s (linkKey x.val l.val)).paused &&& ~~~classes) })) ∧
  (∀ (x : Fin 48) (l : Fin 2) s, linkUp (linkKey x.val l.val) s = true → (link s (linkKey x.val l.val)).paused = 0 →
    (∀ t, (link s (linkKey x.val l.val)).helloAt = some t → t + 100000 ≤ s.now) →
    ∃ s' hd, exec (.helloSend x l) s = .next s' ∧
      s'.out = .fabricFrame (linkPort (linkKey x.val l.val)) hd (helloBytes (ownHello (linkKey x.val l.val) s)) :: s.out) ∧
  (∀ (x : Fin 48) (l : Fin 2) payload m s, linkUp (linkKey x.val l.val) s = true → m = readHello payload → m.version = 1 →
    ∃ s', exec (.hello x l payload) s = .next s' ∧
      (link s' (linkKey x.val l.val)).adjacent = ((link s (linkKey x.val l.val)).adjacent || (m.twoWay &&
        decide (m.neighbourSerial = Config.serial) && decide (m.neighbourPort = linkPort (linkKey x.val l.val)))) ∧
      (link s' (linkKey x.val l.val)).lastHello = some s.now ∧
      ((link s' (linkKey x.val l.val)).neighbour.map (fun n => n.serial)) = some m.serial) ∧
  (∀ (x : Fin 48) (l : Fin 2) s t, (link s (linkKey x.val l.val)).lastHello = some t → lapsed t 350000 s = true →
    ∃ s', exec (.adjacencyTimeout x l) s = .next s' ∧ (link s' (linkKey x.val l.val)).adjacent = false) ∧
  (∀ (x : Fin 48) (l : Fin 2) payload r s, linkUp (linkKey x.val l.val) s = true → fieldAt payload 0 1 = 1 →
    r = readLinkState payload →
    exec (.linkStateRecord x l payload) s = .next (if r.serial = Config.serial then
        (if s.fab.lsrSeq < r.seq then floodSeq ((r.seq + 1) % 2 ^ 32) s else s)
      else storeRecord (some (linkKey x.val l.val)) r s)) ∧
  (∀ but r s, (∀ y ∈ s.fab.records, y.record.serial = r.serial → y.record.seq < r.seq) →
    ({ record := r, refreshed := s.now } : Stored) ∈ (storeRecord but r s).fab.records) ∧
  (∀ but r y s, s.fab.records.find? (fun z => decide (z.record.serial = r.serial)) = some y → r.seq ≤ y.record.seq →
    storeRecord but r s = s) ∧
  (∀ s, (recordMoved s = true ∨ s.fab.floodedAt + 1000000000 ≤ s.now) →
    ∃ s', exec .linkStateRefresh s = .next s' ∧ s'.fab.lsrSeq = (s.fab.lsrSeq + 1) % 2 ^ 32) ∧
  (∀ n y s, s.fab.records.find? (fun z => decide (z.record.serial = n)) = some y → lapsed y.refreshed 3000000000 s = true →
    ∃ s', exec (.linkStateExpiry n) s = .next s' ∧ ∀ z ∈ s'.fab.records, z.record.serial ≠ n) ∧
  (∀ s, lapsed s.fab.changed 10000000 s = true →
    ∃ s', exec .addressComputation s = .next s' ∧
      s'.fab.address = ((computeAddresses (database s)).find? (fun e => decide (e.1 = Config.serial))).map (fun e => e.2)) ∧
  (∀ s, ∃ s', exec .routeInstall s = .next s' ∧ s'.fab.routes = computeRoutes s ∧
    s'.fab.installs = satur 32 (s.fab.installs + 1)) ∧
  (∀ (x : Fin 48) (l : Fin 2) flit f e s, linkUp (linkKey x.val l.val) s = true → flitListed flit = true →
    fieldAt flit 0 1 = 3 → f = readTimeFlit flit → completed (link s (linkKey x.val l.val)) f = some e →
    ∃ s', exec (.timeFlit x l flit) s = .next s' ∧
      (link s' (linkKey x.val l.val)).delay = (((e.1 : Int) - f.txStamp) + ((f.rxStamp : Int) - e.2)) / 2 ∧
      (link s' (linkKey x.val l.val)).offset =
        (((e.1 : Int) - f.txStamp) - ((f.rxStamp : Int) - e.2)) / 2 - (link s (linkKey x.val l.val)).delayAsym * 4096) ∧
  (∀ (x : Fin 48) (l : Fin 2) flit s, linkUp (linkKey x.val l.val) s = true → flitListed flit = false →
    exec (.timeFlit x l flit) s = .next (setLink s (linkKey x.val l.val) { link s (linkKey x.val l.val) with
      ctrlErrors := satur 32 ((link s (linkKey x.val l.val)).ctrlErrors + 1) })) ∧
  (∀ (x : Fin 48) (l : Fin 2) s, linkAdjacent (linkKey x.val l.val) s = true →
    (∀ t, (link s (linkKey x.val l.val)).timeSentAt = some t → t + 125000 ≤ s.now) →
    ∃ s', exec (.timeFlitSend x l) s = .next s' ∧
      (link s' (linkKey x.val l.val)).timeSeq = ((link s (linkKey x.val l.val)).timeSeq + 1) % 256) ∧
  (∀ s a, s.fab.source = some a → s.fab.address ≠ some a → s.fab.sourceLost = false → sourceHeard a s = false →
    ∃ s', exec .fabricTimeSourceLost s = .next s' ∧ s'.fab.sourceLost = true) ∧
  (∀ (x : Fin 48) (l : Fin 2) sof hd reply pk s s1 p, s1 = portBoundary (linkPort (linkKey x.val l.val)) s →
    linkUp (linkKey x.val l.val) s1 = true → flitListed sof = true → hd = readSof sof → s1.fab.address.isSome = true →
    s1.fab.address ≠ some hd.dst.val → tagParityOk hd.tag = true → 2 ≤ hd.hops.val → frameRank hd ≠ 0 →
    chooseLink hd.dst.val hd.flowHash s1 = some p →
    ∃ s' t, exec (.fabricFrame x l sof reply pk) s = .next s' ∧ (link s' (portLink p)).transit.getLast? = some t ∧
      t.header = { hd with hops := Fin.ofNat 64 (hd.hops.val - 1) }) ∧
  (∀ (x : Fin 48) (l : Fin 2) sof hd reply pk s s1, s1 = portBoundary (linkPort (linkKey x.val l.val)) s →
    linkUp (linkKey x.val l.val) s1 = true → flitListed sof = true → hd = readSof sof → s1.fab.address.isSome = true →
    s1.fab.address ≠ some hd.dst.val → (tagParityOk hd.tag = false ∨ hd.hops.val ≤ 1) →
    exec (.fabricFrame x l sof reply pk) s = .next { s1 with fab := { s1.fab with
      transitDropped := satur 64 (s1.fab.transitDropped + 1) } }) ∧
  (∀ (a : Fin 64) header facts (d : FetchHeader) s, d = readHeader (.fabric a) 0 header facts → s.boot.fwReady = true →
    heldOf (.fabric a) s < 256 → d.activity = none → portRefusal d s = none → headerCheck d s = none →
    ∃ s' x, exec (.forwardedCommand a header facts) s = .next s' ∧ x ∈ s'.mbx.held ∧ x.id.fn = .fabric a ∧
      x.opcode = d.opcode) ∧
  (∀ a hash s p, chooseLink a hash s = some p → linkAdjacent (portLink p) s = true)

/-- The addresses computed over a database of devices of different SERIALs are different, and each is below 64; a device whose
record is the lowest SERIAL holding its address keeps it. -/
def Obligations.FabricAddressesAreDistinct : Prop :=
  ∀ l : List LsRecord, l.Pairwise (fun a b => a.serial ≠ b.serial) →
    (computeAddresses l).Pairwise (fun a b => a.2 ≠ b.2) ∧
    (∀ e ∈ computeAddresses l, e.2 < 64) ∧
    (∀ r ∈ l, r.addressValid = true → (∀ x ∈ l, x.addressValid = true → x.address = r.address → r.serial ≤ x.serial) →
      (r.serial, r.address.val) ∈ computeAddresses l)

/-! ## Range 0x0D: board memory, MMU, DMA -/

/-- The commands of range 0x0D complete: 64 bytes of a channel's status; the spill size set, BUSY while a queue holds bytes in
DRAM, REFUSED with 0xD00 where a window would fall outside; a channel trained, running on until its end, which counts it or
fences the channel; the controller configured with its defaults from the next refresh window on; a context's root set, its translations invalidated; a DMA
channel configured while idle, its tail taken, resumed at the same descriptor or the next; a function's window set. -/
def Obligations.MemoryCommandsComplete : Prop :=
  (∀ h (c : Fin 16) e s, startable 0x0D00 none h e s →
    ∃ r, exec (.memStatus h c) s = .next (finish e stOk 0 0 r s) ∧ r.length = 64 ∧
      r.head? = some (BitVec.ofNat 8 (channelCode c.val s))) ∧
  (∀ h g e s, startable 0x0D01 none h e s → ownsDevice h s = true → 32 ≤ g → g ≤ 112 →
    exec (.memPartitionSet h g) s = .next (
      if dramHeld s ≠ 0 then finish e stBusy 0 0 [] s
      else if s.mem.windows.any (fun w => !inGeneral g w.2.1 w.2.2) then finish e stRefused 0x0D00 0 [] s
      else finish e stOk 0 0 [] { s with mem := { s.mem with spillGib := g } })) ∧
  (∀ h (c : Fin 16) full e s, startable 0x0D02 (if full then some { kind := 1, scope := c.val } else none) h e s →
    ownsDevice h s = true → (cup s (76 + c.val)).state = .active →
    exec (.memTrain h c full) s = .next (setPhase e (.running (c.val * 2 + (if full then 1 else 0)))
      (startMemTraining c.val full s))) ∧
  (∀ c full s, startMemTraining c full s = setChannel s c (if (channel s c).training = true then
      { channel s c with trainNext := (channel s c).trainNext ++ [full] }
    else { channel s c with training := true, trainFull := full, trainSince := s.now })) ∧
  (∀ (c : Fin 16) full clean s, (channel s c.val).training = true → (channel s c.val).trainFull = full →
    ∃ m s', exec (.memTrainingEnd c full true clean) s = .next (nextTraining c.val (
        if full then endActivity { kind := 1, scope := c.val } (completeRunning 0x0D02 (c.val * 2 + 1) stOk 0 m [] s')
        else completeRunning 0x0D02 (c.val * 2) stOk 0 m [] s')) ∧ m < 256 ∧ (channel s' c.val).training = false ∧
      (full = true → clean = true → (channel s' c.val).marked = none) ∧
      (full = true → (channel s' c.val).fullTrains = satur 32 ((channel s c.val).fullTrains + 1))) ∧
  (∀ (c : Fin 16) clean s, (channel s c.val).training = true → (channel s c.val).trainFull = false →
    ∃ s', exec (.memTrainingEnd c false false clean) s = .next (nextTraining c.val (failWaits (76 + c.val)
        (completeRunning 0x0D02 (c.val * 2) stFaulted 0x0D01 0 [] s'))) ∧ (channel s' c.val).training = false ∧
      (cup s' (76 + c.val)).state = .fenced) ∧
  (∀ h p e s, startable 0x0D03 none h e s → ownsDevice h s = true → p.wf = true →
    ∃ s', exec (.memConfigure h p) s = .next (finish e stOk 0 0 [] s') ∧
      s'.mem.next = some { window := refreshWindow s, hotC := if p.hotC = 0 then 85 else p.hotC,
                           rhSample := if p.rhSample = 0 then 16 else p.rhSample,
                           rhLimit := if p.rhLimit = 0 then 32 else p.rhLimit,
                           scrubHours := if p.scrubHours = 0 then 24 else p.scrubHours } ∧
      (memNow s').hotC = (memNow s).hotC ∧ (memNow s').rhLimit = (memNow s).rhLimit ∧
      (memNow s').rhSample = (memNow s).rhSample ∧ (memNow s').scrubHours = (memNow s).scrubHours ∧
      (∀ u, u.mem.next = s'.mem.next → refreshWindow s < refreshWindow u → some (memNow u) = s'.mem.next)) ∧
  (∀ h root e s, startable 0x0D04 none h e s → fnKey h.id.fn < 128 → root % 65536 = 0 → root < 2 ^ 48 →
    exec (.mmuContextSet h root) s = .next (setPhase e (.running (fnKey h.id.fn)) (setMmuPage s (fnKey h.id.fn)
      { mmuPage s (fnKey h.id.fn) with root := root, before := (mmuPage s (fnKey h.id.fn)).root, busy := 2,
                                          busySince := s.now, tlb := [] }))) ∧
  (∀ f s, (mmuPage s (pciKey f)).busy ≠ 0 →
    exec (.tlbInvalidationComplete f) s = .next (completeRunning 0x0D04 (pciKey f) stOk 0 0 []
      (setMmuPage s (pciKey f) { mmuPage s (pciKey f) with busy := 0 }))) ∧
  (∀ h p e s, startable 0x0D05 none h e s → owns h kDma p.channel.val s = true → p.wf = true →
    exec (.dmaChannelConfigure h p) s = .next (
      if (dmaChannel s p.channel.val).state ≠ 0 then finish e stRefused 0x0D02 0 [] s
      else finish e stOk 0 0 [] (routeDma p.channel.val p.evq.val (fnKey h.id.fn) (setDmaChannel s p.channel.val
        { log2 := p.log2, priority := p.priority.val, evq := p.evq.val, ringBase := p.ringBase })))) ∧
  (∀ h (d : Fin 64) tail e s, startable 0x0D06 none h e s → owns h kDma d.val s = true → tail < ringSize (dmaChannel s d.val) →
    (dmaChannel s d.val).state ≤ 1 →
    exec (.dmaPost h d tail) s = .next (finish e stOk 0 0 [] (setDmaChannel s d.val { dmaChannel s d.val with
      tail := tail, state := if (dmaChannel s d.val).head = tail then 0 else 1 }))) ∧
  (∀ h (d : Fin 64) e s, startable 0x0D07 none h e s → owns h kDma d.val s = true → (dmaChannel s d.val).state = 2 →
    (∃ s', exec (.dmaResume h d false) s = .next (finish e stOk 0 0 [] s') ∧
      dmaChannel s' d.val = { dmaChannel s d.val with state := 1 }) ∧
    (∃ s', exec (.dmaResume h d true) s = .next (finish e stOk 0 0 [] s') ∧ (dmaChannel s' d.val).offset = 0 ∧
      (dmaChannel s' d.val).head = ((dmaChannel s d.val).head + 1) % ringSize (dmaChannel s d.val))) ∧
  (∀ h (d : Fin 64) a e s, startable 0x0D07 none h e s → owns h kDma d.val s = true → (dmaChannel s d.val).state ≠ 2 →
    exec (.dmaResume h d a) s = .next (finish e stEmpty 0 0 [] s)) ∧
  (∀ h (d : Fin 64) e s, startable 0x0D08 none h e s → owns h kDma d.val s = true →
    ∃ r, exec (.dmaStatus h d) s = .next (finish e stOk 0 0 r s) ∧ r.length = 32 ∧
      r.head? = some (BitVec.ofNat 8 (dmaChannel s d.val).state)) ∧
  (∀ h p e s, startable 0x0D0A none h e s → ownsDevice h s = true → p.wf = true → p.size ≠ 0 →
    inGeneral s.mem.spillGib p.base p.size = true →
    (∀ w ∈ s.mem.windows, w.1 / 4 ≠ pciKey p.fn → w.2.1 + w.2.2 ≤ p.base ∨ p.base + p.size ≤ w.2.1) →
    exec (.memWindowSet h p) s = .next (finish e stOk 0 0 [] { s with mem := { s.mem with
      windows := tset (0, 0) (pciKey p.fn * 4 + p.window.val) (p.base, p.size) s.mem.windows } })) ∧
  (∀ h p e s, startable 0x0D0A none h e s → ownsDevice h s = true → p.wf = true → p.size ≠ 0 →
    inGeneral s.mem.spillGib p.base p.size = false →
    exec (.memWindowSet h p) s = .next (finish e stRefused 0x0D03 0 [] s))

/-- What the memory controller does of its own: a bank accrues a refresh, none owing more than 8; a temperature above
REFRESH_HOT_C doubles the rate, 3 °C below it ends that; a disturbed row's requester is throttled for 1 ms and its neighbours
refreshed; what the outer code corrects is a codeword with at most four bytes wrong, two beside a marked lane, and an access counts as
corrected or as uncorrectable by it; drift beyond 2 % retrains; a read and the scrub's next access enter the queue; a TLB invalidation is
merged into a running one.

A DMA step is taken of the descriptor under way, or of the one that the ring's bytes hold. One that faults writes nothing,
suspends the channel at that descriptor and offset (firmware's channels 60 to 63 abandon it), and records the address; one that fills
writes its pattern to where the destination translates, and goes on at the next offset or, at the end, the next descriptor; one whose
data were poisoned stops its channel. A read through BAR2 waits for its accesses, and answers 0xFF where nothing translates. -/
def Obligations.MemoryControllerAndDmaAct : Prop :=
  (∀ (c : Fin 16) (sub : Fin 2) (b : Fin 16) s, (bankOf s c.val sub.val b.val).debt ≤ 8 →
    ∃ s', exec (.refreshInterval c sub b) s = .next s' ∧ (bankOf s' c.val sub.val b.val).debt ≤ 8 ∧
      ((bankOf s c.val sub.val b.val).accrueAt ≤ s.now → channelCode c.val s ≠ 1 →
        (bankOf s' c.val sub.val b.val).debt = min 8 ((bankOf s c.val sub.val b.val).debt + 1) ∧
        (bankOf s' c.val sub.val b.val).accrueAt = (bankOf s c.val sub.val b.val).accrueAt + refreshNs (channel s c.val)) ∧
      (∀ i, i < 16 → i ≠ b.val → bankOf s' c.val sub.val i = bankOf s c.val sub.val i) ∧
      s'.mem.cells = s.mem.cells) ∧
  (∀ (c : Fin 16) temp s, (channel s c.val).tempAt ≤ s.now → (channel s c.val).hot = false → (memNow s).hotC < temp →
    ∃ s', exec (.memoryTemperatureRead c temp) s = .next s' ∧ (channel s' c.val).hot = true ∧
      (channel s' c.val).tempC = temp ∧ refreshNs (channel s' c.val) = 1952) ∧
  (∀ (c : Fin 16) temp s, (channel s c.val).tempAt ≤ s.now → (channel s c.val).hot = true → temp + 3 ≤ (memNow s).hotC →
    ∃ s', exec (.memoryTemperatureRead c temp) s = .next s' ∧ (channel s' c.val).hot = false) ∧
  (∀ (c : Fin 16) temp s, (channel s c.val).tempAt ≤ s.now → (channel s c.val).hot = true → (memNow s).hotC < temp + 3 →
    exec (.memoryTemperatureRead c temp) s = .next (setChannel s c.val { channel s c.val with
      tempC := temp, tempAt := s.now + 4000000 })) ∧
  (∀ (c : Fin 16) (sub : Fin 2) (b : Fin 16) row requester s, (sub.val, b.val, row, requester) ∈ (channel s c.val).disturbed →
    ∃ s', exec (.rowDisturbance c sub b row requester) s = .next s' ∧
      (∃ x ∈ (channel s' c.val).throttled, x.requester = requester ∧ x.until_ = s.now + 1000000) ∧
      (sub.val, b.val, row) ∈ (channel s' c.val).directedDue ∧
      (channel s' c.val).directed = satur 32 ((channel s c.val).directed + 1)) ∧
  (∀ (c : Fin 16) (sub : Fin 2) (b : Fin 16) row requester s,
    (sub.val, b.val, row, requester) ∉ (channel s c.val).disturbed →
    exec (.rowDisturbance c sub b row requester) s = .next s) ∧
  (∀ marked word data bad, rsDecode marked word = some (data, bad) →
    bad.length ≤ (if marked = none then 4 else 5) ∧ (bad.filter (fun b => !(erasures marked).contains b)).length ≤
      (if marked = none then 4 else 2)) ∧
  (∀ marked word errs, rsErrors marked word = some errs → ∀ x ∈ rsSyndromes
    (errs.foldl (fun w e => w.set e.1 (w.getD e.1 0 ^^^ BitVec.ofNat 8 e.2)) word), x = 0) ∧
  (∀ c bank word s, rsDecode (channel s c).marked word = none →
    (decodeAccess c bank word s).2 = none ∧
    (channel (decodeAccess c bank word s).1 c).uncorrectable = satur 64 ((channel s c).uncorrectable + 1)) ∧
  (∀ c bank word s data b rest, rsDecode (channel s c).marked word = some (data, b :: rest) →
    (decodeAccess c bank word s).2 = some data ∧
    (channel (decodeAccess c bank word s).1 c).corrected = satur 64 ((channel s c).corrected + 1)) ∧
  (∀ c bank word s data, rsDecode (channel s c).marked word = some (data, []) → decodeAccess c bank word s = (s, some data)) ∧
  (∀ flips s, scrubAt s ≤ s.now →
    ∃ s', exec (.patrolScrub flips) s = .next s' ∧ s'.mem.cells = s.mem.cells ∧
      s'.mem.scrubNext = (if s.mem.scrubNext + 1 = accesses then 0 else s.mem.scrubNext + 1) ∧
      ∃ x ∈ s'.mem.waiting, x.num = s.mem.requestNum ∧ x.line = s.mem.scrubNext ∧ x.client = .scrub ∧ x.flips = flips) ∧
  (∀ address flips who s,
    ∃ s', exec (.memoryRead address flips who) s = .next s' ∧ s'.mem.cells = s.mem.cells ∧
      ∃ x ∈ s'.mem.waiting, x.num = s.mem.requestNum ∧ x.line = address / 64 ∧ x.client = .reader who ∧ x.flips = flips) ∧
  (∀ (c : Fin 16) drift s, (channel s c.val).dqsAt ≤ s.now → (channel s c.val).training = false → fullDeferred c.val s = false →
    drift ≤ 20 → exec (.dqsDriftCheck c drift) s = .next (setChannel s c.val { channel s c.val with dqsAt := s.now + 100000000 })) ∧
  (∀ (c : Fin 16) drift s, (channel s c.val).dqsAt ≤ s.now → (channel s c.val).training = false → 20 < drift →
    arbiterAwaits s = false →
    ∃ s', exec (.dqsDriftCheck c drift) s = .next s' ∧ (channel s' c.val).training = true) ∧
  (∀ f s p, s.boot.fwReady = true → p = mmuPage s (pciKey f) →
    exec (.mmuTlbInvalAll f) s = .next (setMmuPage s (pciKey f) { p with
      busy := max p.busy 2, busySince := (if p.busy = 0 then s.now else p.busySince), tlb := [] }) ∧
    exec (.mmuTlbInvalPage f) s = .next (setMmuPage s (pciKey f) { p with
      busy := max p.busy 1, busySince := (if p.busy = 0 then s.now else p.busySince),
      tlb := p.tlb.filter (fun e => decide (p.invalVa % 2 ^ 52 / 2 ^ e.size ≠ e.page)) })) ∧
  (∀ (c : Fin 64) bytes data flips s fn, dmaFn c.val s = some fn → (dmaChannel s c.val).state = 1 →
    (dmaChannel s c.val).head ≠ (dmaChannel s c.val).tail → dmaTurn c.val s = true →
    (∀ d, (dmaChannel s c.val).current = some d →
      exec (.dmaStep c bytes data flips) s = .next (takeStep c.val fn d data flips s)) ∧
    ((dmaChannel s c.val).current = none → 64 ≤ bytes.length → descriptorOk (bytes.take 64) = true →
      exec (.dmaStep c bytes data flips) s = .next (takeStep c.val fn (readDescriptor bytes) data flips
        (setDmaChannel s c.val { dmaChannel s c.val with
          current := some (readDescriptor bytes), tag := (readDescriptor bytes).tag })))) ∧
  (∀ c fn d data flips s a k w, stepFault fn d (dmaChannel s c).offset s = some (a, k, w) →
    (takeStep c fn d data flips s).mem.cells = s.mem.cells ∧
    (c < 60 → dmaChannel (takeStep c fn d data flips s) c = { dmaChannel s c with
      state := 2, tag := d.tag, faultVa := a % 2 ^ 52, faultKind := k }) ∧
    (60 ≤ c → (dmaChannel (takeStep c fn d data flips s) c).head =
      ((dmaChannel s c).head + 1) % ringSize (dmaChannel s c)) ∧
    (mmuPage (takeStep c fn d data flips s) fn).valid = true) ∧
  (∀ c fn d data flips s pa u, d.fill = true → d.dstHost = false →
    translate fn (d.dst + (dmaChannel s c).offset) true s = .at pa → fencedAt pa s = false →
    u = takeStep c fn d data flips s →
    (∀ i, i < stepBytes d (dmaChannel s c).offset → readByte (pa + i) u =
      BitVec.ofNat 8 (d.src / 256 ^ (((dmaChannel s c).offset + i) % 8))) ∧
    (∀ a, (a < pa ∨ pa + stepBytes d (dmaChannel s c).offset ≤ a) → readByte a u = readByte a s) ∧
    (if (dmaChannel s c).offset + stepBytes d (dmaChannel s c).offset < d.length then
      (dmaChannel u c).offset = (dmaChannel s c).offset + stepBytes d (dmaChannel s c).offset ∧
        (dmaChannel u c).head = (dmaChannel s c).head
    else (dmaChannel u c).offset = 0 ∧ (dmaChannel u c).head = ((dmaChannel s c).head + 1) % ringSize (dmaChannel s c))) ∧
  (∀ d offset, 0 < stepBytes d offset ∨ d.length ≤ offset) ∧
  (∀ c line s m d fn, (dmaChannel s c).move = some m → (dmaChannel s c).current = some d → dmaFn c s = some fn →
    (accessesOf ((List.range m.bytes).map (fun i => m.source + i))).all
      (fun l => (m.got ++ [(line, none)]).any (fun g => decide (g.1 = l))) = true →
    moveData { m with got := m.got ++ [(line, none)] } = none →
    (dmaChannel (dmaArrives c line none s) c).state = 3) ∧
  (∀ linkB va words flips s, words ≠ 0 → firstFault (if linkB then 64 else 0) va (4 * words) false s = none →
    ∃ s' x, exec (.bar2Read linkB va words flips) s = .next s' ∧ x ∈ s'.mem.busReads ∧ x.num = s.mem.requestNum ∧
      x.linkB = linkB ∧ x.va = va ∧ x.words.length = words ∧ s'.mem.cells = s.mem.cells) ∧
  (∀ r s, (busAccesses r.words).all (fun l => r.got.any (fun g => decide (g.1 = l))) = true →
    (answerBusRead r s).out = .busRead r.linkB r.va (r.words.flatMap (busWord r.got)) :: s.out) ∧
  (∀ linkB va flips s k, translate (if linkB then 64 else 0) va false s = .fault k →
    ∃ s', exec (.bar2Read linkB va 1 flips) s = .next s' ∧ (mmuPage s' (if linkB then 64 else 0)).valid = true ∧
      Output.busRead linkB va [0xFF, 0xFF, 0xFF, 0xFF] ∈ s'.out) ∧
  (∀ linkB va b s pa, translate (if linkB then 64 else 0) va true s = .at pa → fencedAt pa s = false →
    ∃ s', exec (.bar2Write linkB va [b]) s = .next s' ∧ readByte pa s' = b ∧
      ∀ a, a ≠ pa → readByte a s' = readByte a s)

/-- A function reaches only the memory that its windows give it: what translates lies in a window of the function; a write
through BAR2 and a DMA step leave every byte outside the windows of the function they translate for as it was; and a function
without a window translates nothing. -/
def Obligations.FunctionsReachOnlyTheirWindows : Prop :=
  (∀ fn va write s pa, translate fn va write s = .at pa → inWindows fn pa 1 s = true) ∧
  (∀ linkB va data s, ∃ s', exec (.bar2Write linkB va data) s = .next s' ∧
    ∀ a, inWindows (if linkB then 64 else 0) a 1 s = false → readByte a s' = readByte a s) ∧
  (∀ (c : Fin 64) d data flips s, ∃ s', exec (.dmaStep c d data flips) s = .next s' ∧
    ∀ a, (∀ fn, dmaFn c.val s = some fn → inWindows fn a 1 s = false) → readByte a s' = readByte a s) ∧
  (∀ fn s, (∀ w, w < 4 → (tget (0, 0) (fn * 4 + w) s.mem.windows).2 = 0) →
    ∀ va write pa, translate fn va write s ≠ .at pa)

/-! ## Range 0x0E: events and counters -/

/-- The commands and registers of events complete: a source routed to the issuer's queue; a queue created empty with phase 1,
destroyed with the routes that name it, assigned to a VF, its coalescing set; a source's 32 bytes; a head written, which with
ARM sends the message at once where a record waits, or leaves its pending bit set while the vector is masked; a queue faulted by the
write whose records are lost and counted; a stage flushed when its time is up; a relayed record written as its bytes spell it.

The queue's write: a record goes to TAIL with the queue's PHASE, which turns over at the wrap, and with LOST after a
discard; a full queue keeps its TAIL, counts the discard and reports it once; a masked source that may be masked posts nothing and counts; a
source without a valid route or an administrative queue is counted as undelivered; until FW_READY nothing is posted. -/
def Obligations.EventsReachTheirQueues : Prop :=
  (∀ h p e s, startable 0x0E00 none h e s → 6 < p.source.val → ownsSource h p.source.val s = true →
    (p.masked = true → guardedSource p.source.val = false) →
    (p.remote = true ∨ ownsQueueOf h p.queue.val s = true) →
    exec (.eventRouteSet h p) s = .next (finish e stOk 0 0 [] (setRoute s p.source.val
      { queue := p.queue.val, valid := p.valid, masked := p.masked, coalesce := p.coalesce, remote := p.remote,
        address := p.address.val, remoteQueue := p.remoteQueue.val }))) ∧
  (∀ h p e s, startable 0x0E00 none h e s → p.source.val ≤ 6 →
    exec (.eventRouteSet h p) s = .next (finish e stRefused 0x0E05 0 [] s)) ∧
  (∀ h p e s, startable 0x0E00 none h e s → 6 < p.source.val → ownsSource h p.source.val s = true →
    p.masked = true → guardedSource p.source.val = true →
    exec (.eventRouteSet h p) s = .next (finish e stRefused 0x0E03 0 [] s)) ∧
  (∀ h p e s, startable 0x0E01 none h e s → ownsQueueOf h p.queue.val s = true → (evq s p.queue.val).enabled = false →
    p.wf (isVf h.id.fn) = true → s.pwr.keep.wakeEventOwed = false →
    exec (.eventQueueCreate h p) s = .next (finish e stOk 0 0 [] (setEvq s p.queue.val
      { owner := (evq s p.queue.val).owner, enabled := true, log2 := p.log2, vector := p.vector, base := p.base,
        phase := true, armed := p.armed }))) ∧
  (∀ h (q : Fin 256) e s, startable 0x0E02 none h e s → ownsQueueOf h q.val s = true → (evq s q.val).enabled = true →
    namedByRing (fnKey h.id.fn) q.val s = false →
    ∃ s', exec (.eventQueueDestroy h q) s = .next (finish e stOk 0 0 [] s') ∧ (evq s' q.val).enabled = false ∧
      ∀ k, k < 4096 → (route s' k).valid = true → (route s' k).remote = false → (route s' k).queue ≠ q.val) ∧
  (∀ h (q : Fin 256) (vf : Fin 64) e s, startable 0x0E03 none h e s →
    (evq s q.val).owner / 64 = fnKey h.id.fn / 64 → (evq s q.val).enabled = false →
    exec (.eventQueueAssign h q vf) s = .next (finish e stOk 0 0 []
      (setEvq s q.val { evq s q.val with owner := pfOf (fnKey h.id.fn) + vf.val }))) ∧
  (∀ h (q : Fin 256) n us e s, startable 0x0E04 none h e s → ownsQueueOf h q.val s = true → 1 ≤ n → n ≤ 64 → 1 ≤ us →
    us ≤ 1000 → exec (.eventCoalesceSet h q n us) s = .next (finish e stOk 0 0 []
      (setEvq s q.val { evq s q.val with coalesceCount := n, coalesceUs := us }))) ∧
  (∀ h (i : Fin 4096) e s, startable 0x0E05 none h e s → isVf h.id.fn = false →
    ∃ r, exec (.eventSourceQuery h i) s = .next (finish e stOk 0 0 r s) ∧ r.length = 32 ∧
      (i.val ≤ 6 → r.take 4 = [0, 0, 0, 0])) ∧
  (∀ f (q : Fin 256) n s, s.boot.fwReady = true → (evq s q.val).owner = pciKey f → (evq s q.val).enabled = true →
    exec (.evqHead f q n) s = .next (setEvq s q.val { evq s q.val with head := n % 2 ^ ((evq s q.val).log2 + 6) }) ∧
    ∃ s', exec (.evqArm f q n) s = .next s' ∧ (evq s' q.val).head = n % 2 ^ ((evq s q.val).log2 + 6) ∧
      ((evq s q.val).faulted = false → (evq s q.val).tail ≠ n % 2 ^ ((evq s q.val).log2 + 6) →
        (evq s' q.val).armed = false ∧
        ((msixEntry s (pciKey f) (evq s q.val).vector).masked = false →
          s'.out = .interrupt (pciKey f) (msixEntry s (pciKey f) (evq s q.val).vector).addr
            (msixEntry s (pciKey f) (evq s q.val).vector).data :: .msix q.val (evq s q.val).vector :: s.out) ∧
        ((msixEntry s (pciKey f) (evq s q.val).vector).masked = true →
          (msixEntry s' (pciKey f) (evq s q.val).vector).waits = true ∧
          s'.out = .msix q.val (evq s q.val).vector :: s.out)) ∧
      ((evq s q.val).tail = n % 2 ^ ((evq s q.val).log2 + 6) → s'.out = s.out ∧ (evq s' q.val).armed = true)) ∧
  (∀ f (q : Fin 256) n s, s.boot.fwReady = true → (evq s q.val).owner ≠ pciKey f →
    exec (.evqHead f q n) s = .next (violation f (0x200000 + q.val * 0x1000) true s)) ∧
  (∀ (q : Fin 256) s, (evq s q.val).enabled = true → (evq s q.val).faulted = false → 0 < (evq s q.val).inWrite →
    ∃ s', exec (.eventQueueFault q) s = .next s' ∧ (evq s' q.val).faulted = true) ∧
  (∀ (q : Fin 256) s, (evq s q.val).enabled = true → (evq s q.val).faulted = false → 0 < (evq s q.val).inWrite →
    adminQueue s (evq s q.val).owner = some q.val →
    ∃ s', exec (.eventQueueFault q) s = .next s' ∧ (evq s' q.val).tail = (evq s q.val).tail ∧
      (evq s' q.val).lost = satur 32 ((evq s q.val).lost + (evq s q.val).inWrite)) ∧
  (∀ (q : Fin 256) s, stageDue q.val s = true → s.pending = [] →
    exec (.coalesceTimeout q) s = .next (flushStage q.val s)) ∧
  (∀ (q : Fin 256) s, stageDue q.val s = true → s.pending ≠ [] →
    exec (.coalesceTimeout q) s = .next { s with ev := { s.ev with flushDue := s.ev.flushDue ++ [q.val] } }) ∧
  (∀ (q : Fin 256) s, stageDue q.val s = false → exec (.coalesceTimeout q) s = .next s) ∧
  (∀ (q : Fin 256) s, (evq s q.val).faulted = false → (evq (flushStage q.val s) q.val).stage = []) ∧
  (∀ (q : Fin 256) payload s, s.boot.fwReady = true → (evq s q.val).enabled = true →
    exec (.relayedEventRecord (2 ^ 31 + q.val) payload) s = .next (toQueue q.val false (readRecord payload) s)) ∧
  (∀ (q : Fin 256) payload s, (evq s q.val).enabled = false →
    exec (.relayedEventRecord (2 ^ 31 + q.val) payload) s = .next s) ∧
  (∀ tag payload s, Nat.testBit tag 31 = false → exec (.relayedEventRecord tag payload) s = .next s) ∧
  (∀ q r s, (evq s q).faulted = false → evqRoom (evq s q) = true →
    (putRecord q r s).out = .event q (evq s q).tail (evq s q).phase (evq s q).lostFlag r
      ((evq s q).base + 16 * (evq s q).tail) (eventBytes (evq s q).phase (evq s q).lostFlag r) :: s.out ∧
    (evq (putRecord q r s) q).tail = ((evq s q).tail + 1) % 2 ^ ((evq s q).log2 + 6) ∧
    (evq (putRecord q r s) q).lostFlag = false ∧
    (evq (putRecord q r s) q).phase =
      (if ((evq s q).tail + 1) % 2 ^ ((evq s q).log2 + 6) = 0 then !(evq s q).phase else (evq s q).phase) ∧
    ∀ k, k ≠ q → evq (putRecord q r s) k = evq s k) ∧
  (∀ q r s, (evq s q).faulted = false → evqRoom (evq s q) = false → (evq s q).warned = true →
    (putRecord q r s).out = s.out ∧ (evq (putRecord q r s) q).tail = (evq s q).tail ∧
    (evq (putRecord q r s) q).lost = satur 32 ((evq s q).lost + 1) ∧ (evq (putRecord q r s) q).lostFlag = true) ∧
  (∀ q a r s, (evq s q).faulted = false → evqRoom (evq s q) = false → (evq s q).warned = false → a ≠ q →
    adminQueue s (evq s q).owner = some a → (evq s a).enabled = true → (evq s a).faulted = false → evqRoom (evq s a) = true →
    (evq (putRecord q r s) q).warned = true ∧ (evq (putRecord q r s) q).tail = (evq s q).tail ∧
    (evq (putRecord q r s) q).lost = satur 32 ((evq s q).lost + 1) ∧
    (evq (putRecord q r s) a).tail = ((evq s a).tail + 1) % 2 ^ ((evq s a).log2 + 6)) ∧
  (∀ src cls payload s, s.boot.fwReady = false → post src cls payload s = s) ∧
  (∀ src cls payload s, s.boot.fwReady = true → (route s src).masked = true → guarded cls = false →
    (post src cls payload s).out = s.out ∧ (post src cls payload s).ev.queues = s.ev.queues ∧
    (source (post src cls payload s) src).masked = satur 32 ((source s src).masked + 1)) ∧
  (∀ src cls payload s, s.boot.fwReady = true → (route s src).masked = false → (route s src).valid = false →
    adminQueue s (defaultFn s) = none →
    (post src cls payload s).out = s.out ∧
    (source (post src cls payload s) src).undelivered = satur 32 ((source s src).undelivered + 1)) ∧
  (∀ src cls payload s, ∃ ev out msix,
    post src cls payload s = { s with ev := ev, out := out, mbx := { s.mbx with msix := msix } })

/-- The commands and registers of counters and meters: a counter's new configuration and its CLEAR stand for the end of the cycle,
where `cleared` and `reconfigured` bring them in; REFUSED for a reserved event number, for CHAIN on an even counter, for all domains
from a VF; 32 bytes read as latched; the windows' latch, CLEAR, CLEAR_OVF and PEAK_CLEAR; a meter configured, a window that is over
closed into the last one and the peak, or at the end of a cycle in which more is to come; an increment waiting for the cycle's end,
where it counts and overflows. -/
def Obligations.CounterCommandsComplete : Prop :=
  (∀ h p e s, startable 0x0E06 none h e s → owns h kCounter (p.counter.val / 64) s = true →
    (p.domain ≠ 0xFFFF → ownsDomain h p.domain s = true ∧ packetEvent p.event = true) → eventDefined p.event = true →
    (p.chain = true → p.counter.val % 2 = 1) → (p.domain = 0xFFFF → isVf h.id.fn = false) → p.wf = true →
    exec (.counterConfigure h p) s = .next (finish e stOk 0 0 [] (setCounter s p.counter.val
      { counter s p.counter.val with
        next := some (p.event, p.inst, p.domain, p.chain),
        clearNow := (counter s p.counter.val).clearNow || p.clear }))) ∧
  (∀ h p e s, startable 0x0E06 none h e s → owns h kCounter (p.counter.val / 64) s = true → p.domain = 0xFFFF →
    (eventDefined p.event = false → exec (.counterConfigure h p) s = .next (finish e stRefused 0x0E00 0 [] s)) ∧
    (eventDefined p.event = true → p.chain = true → p.counter.val % 2 = 0 →
      exec (.counterConfigure h p) s = .next (finish e stRefused 0x0E01 0 [] s)) ∧
    (eventDefined p.event = true → p.chain = false → isVf h.id.fn = true →
      exec (.counterConfigure h p) s = .next (finish e stRefused 0x0E02 0 [] s))) ∧
  (∀ h (i : Fin 2048) clear e s, startable 0x0E07 none h e s → owns h kCounter (i.val / 64) s = true →
    ∃ r s', exec (.counterRead h false i clear) s = .next (finish e stOk 0 0 r s') ∧ r.length = 32 ∧
      (counter s' i.val).value = (counter s i.val).value ∧ (clear = true → (counter s' i.val).clearNext = true) ∧
      (clear = false → (counter s' i.val).clearNext = (counter s i.val).clearNext)) ∧
  (∀ v : Counter, (v.clearNow = true → (cleared v).value = 0) ∧ (v.clearNow = false → (cleared v).value = v.value) ∧
    (v.clearOvf = true → (cleared v).overflow = false) ∧ (cleared v).clearNow = v.clearNext ∧
    ∀ ev i d ch, v.next = some (ev, i, d, ch) →
      (reconfigured v).event = ev ∧ (reconfigured v).inst = i ∧ (reconfigured v).domain = d ∧ (reconfigured v).chain = ch ∧
      (reconfigured v).value = v.value) ∧
  (∀ h (i : Fin 2048) clear e s, startable 0x0E07 none h e s → isVf h.id.fn = false → i.val < 256 →
    ∃ r s', exec (.counterRead h true i clear) s = .next (finish e stOk 0 0 r s') ∧ r.length = 32 ∧
      (meter s' i.val).latchBytes = (meter s i.val).lastBytes ∧ (clear = true → (meter s' i.val).clearPeak = true)) ∧
  (∀ h p e s, startable 0x0E08 none h e s → ownsPort h p.port s = true → p.wf = true → portExists p.port = true →
    exec (.meterConfigure h p) s = .next (finish e stOk 0 0 [] (setMeter s p.meter.val
      { enabled := p.enable, port := p.port, egress := p.egress, windowUs := p.windowUs, since := s.now }))) ∧
  (∀ f (c : Fin 2048) s, s.boot.fwReady = true → seesBlock f (c.val / 64) s = true →
    (isChainedOdd c.val s = false → chainedAbove c.val s = false →
      ∃ s', exec (.cntLo f c) s = .next s' ∧ (counter s' c.val).shadow = (counter s c.val).value ∧
        (counter s' c.val).shadowOvf = (counter s c.val).overflow ∧
        s'.out = .registerRead (pciKey f) (0x800000 + c.val / 64 * 0x1000 + c.val % 64 * 0x10) ((counter s c.val).value % 2 ^ 32) :: s.out) ∧
    (chainedAbove c.val s = true →
      ∃ s', exec (.cntLo f c) s = .next s' ∧ (counter s' c.val).shadow = (counter s c.val).value ∧
        (counter s' (c.val + 1)).shadow = (counter s (c.val + 1)).value ∧
        (counter s' c.val).shadowOvf = (counter s (c.val + 1)).overflow) ∧
    (isChainedOdd c.val s = true → ∃ s', exec (.cntLo f c) s = .next s' ∧ s'.ev = s.ev) ∧
    exec (.cntClear f c) s = .next (setCounter s c.val { counter s c.val with clearNow := true }) ∧
    exec (.cntClearOvf f c) s = .next (setCounter s c.val { counter s c.val with clearOvf := true })) ∧
  (∀ f (c : Fin 2048) s, s.boot.fwReady = true → seesBlock f (c.val / 64) s = false →
    ∃ s', exec (.cntClear f c) s = .next s' ∧ (counter s' c.val).value = (counter s c.val).value) ∧
  (∀ f (m : Fin 256) s, s.boot.fwReady = true → isPf f = true →
    (∃ s', exec (.cntMtrBytesLo f m) s = .next s' ∧ (meter s' m.val).latchBytes = (meter s m.val).lastBytes ∧
      (meter s' m.val).latchPeak = (meter s m.val).peak ∧ (meter s' m.val).latchSeq = (meter s m.val).seq) ∧
    exec (.peakClear f m) s = .next (setMeter s m.val { meter s m.val with peak := 0 })) ∧
  (∀ (m : Fin 256) s, (meter s m.val).enabled = true → (meter s m.val).since + (meter s m.val).windowUs * 1000 ≤ s.now →
    (s.pending = [] → s.pe.ingressDue = [] →
      exec (.meterWindowEnd m) s = .next (setMeter s m.val { meter s m.val with
        lastBytes := (meter s m.val).bytes % 2 ^ 48, lastPackets := satur 32 (meter s m.val).packets,
        peak := max (meter s m.val).peak ((meter s m.val).bytes % 2 ^ 48), seq := ((meter s m.val).seq + 1) % 2 ^ 32,
        bytes := (meter s m.val).laterBytes, packets := (meter s m.val).laterPackets, laterBytes := 0, laterPackets := 0,
        since := (meter s m.val).since + (meter s m.val).windowUs * 1000, endDue := false })) ∧
    (s.pending ≠ [] → exec (.meterWindowEnd m) s = .next (setMeter s m.val { meter s m.val with endDue := true }))) ∧
  (∀ (c : Fin 2048) n s,
    exec (.counterOverflow c n) s = .next (setCounter s c.val { counter s c.val with inc := (counter s c.val).inc + n })) ∧
  (∀ (c : Fin 2048) n s, (counter s c.val).value < 2 ^ 48 → 2 ^ 48 ≤ (counter s c.val).value + n →
    chainedAbove c.val s = false →
    (counter (addCounter c.val n s) c.val).overflow = true ∧
      (counter (addCounter c.val n s) c.val).value = ((counter s c.val).value + n) % 2 ^ 48)

/-- An even counter with the odd one chained onto it is one 96-bit counter: whatever a cycle adds, from 0 to 65,535, the value
that the two hold together grows by exactly that, modulo 2⁹⁶, and both stay 48-bit numbers. The second clause says so of the end
of the cycle in which COUNTER_OVERFLOW brings the amount to a device whose counters are these two. -/
def Obligations.ChainedCountersHold96Bits : Prop :=
  (∀ (c : Fin 2048) n s, n ≤ 65535 → chainedAbove c.val s = true → (counter s c.val).value < 2 ^ 48 →
    (counter s (c.val + 1)).value < 2 ^ 48 →
    (counter (addCounter c.val n s) c.val).value + 2 ^ 48 * (counter (addCounter c.val n s) (c.val + 1)).value =
        ((counter s c.val).value + 2 ^ 48 * (counter s (c.val + 1)).value + n) % 2 ^ 96 ∧
      (counter (addCounter c.val n s) c.val).value < 2 ^ 48 ∧ (counter (addCounter c.val n s) (c.val + 1)).value < 2 ^ 48) ∧
  (∀ (c : Fin 2048) n (v w : Counter) s, n ≤ 65535 → c.val % 2 = 0 → s.ev.counters = [(c.val, v), (c.val + 1, w)] → w.chain = true →
    v.value < 2 ^ 48 → w.value < 2 ^ 48 → v.inc = 0 → w.inc = 0 → v.clearNow = false → w.clearNow = false → v.next = none →
    w.next = none →
    ∃ s', exec (.counterOverflow c n) s = .next s' ∧
      (counter (finishCounters s') c.val).value + 2 ^ 48 * (counter (finishCounters s') (c.val + 1)).value =
        (v.value + 2 ^ 48 * w.value + n) % 2 ^ 96)

/-! ## Doorbells, registers and the mailbox's own steps -/

/-- Doorbells and registers: a tail makes slots visible and a head releases completion entries, modulo the ring's size; ring 0
is enabled afresh, once, and disabled with its commands' completions discarded; SCRATCH reads back what was written; before
FW_READY every other window reads zero and takes no write; a write where the function sees nothing changes nothing and is
reported.

The mailbox's own steps: a command of the ring whose turn it is that can be fetched and passes its checks is held and its
slots consumed; one that does not pass is not; a command whose time is over completes with TIMEOUT, its start undone, unless its
release or readiness came first;
what waits is released when nothing that runs excludes it; a wake that ends makes its cupola Active and its commands ready; a
ring fault stops the ring; a keepalive that expires closes its session, and no earlier. -/
def Obligations.DoorbellsRegistersAndMailboxSteps : Prop :=
  (∀ f (k : Fin 64) tail s, s.boot.fwReady = true → (ring s (pciKey f) k.val).enabled = true →
    exec (.mbxSqTail f k tail) s = .next (moveTail f k tail s) ∧
    (ring (moveTail f k tail s) (pciKey f) k.val).sqTail = tail % 2 ^ ((ring s (pciKey f) k.val).sqLog2 + 6) ∧
    (tail % 2 ^ ((ring s (pciKey f) k.val).sqLog2 + 6) ≠ (ring s (pciKey f) k.val).sqTail →
      (ring s (pciKey f) k.val).sqTail < 2 ^ ((ring s (pciKey f) k.val).sqLog2 + 6) →
      (ring (moveTail f k tail s) (pciKey f) k.val).batches = (ring s (pciKey f) k.val).batches ++
        [unread (2 ^ ((ring s (pciKey f) k.val).sqLog2 + 6)) (ring s (pciKey f) k.val).sqTail
          (tail % 2 ^ ((ring s (pciKey f) k.val).sqLog2 + 6))])) ∧
  (∀ f (k : Fin 64) head s, s.boot.fwReady = true → (ring s (pciKey f) k.val).enabled = true →
    (ring s (pciKey f) k.val).waiting = [] →
    ∃ s', exec (.mbxCqHead f k head) s = .next (settle s') ∧
      (ring s' (pciKey f) k.val).cqHead = head % 2 ^ ((ring s (pciKey f) k.val).cqLog2 + 6) ∧
      (ring s' (pciKey f) k.val).cqFull = !cqRoom (ring s' (pciKey f) k.val)) ∧
  (∀ f (k : Fin 64) x s, (s.boot.fwReady = false ∨ (ring s (pciKey f) k.val).enabled = false) →
    exec (.mbxSqTail f k x) s = .next s ∧ exec (.mbxCqHead f k x) s = .next s) ∧
  (∀ f a b (q : Fin 256) s, s.boot.fwReady = true → (ring s (pciKey f) 0).enabled = false → a < 16 → b < 16 →
    ∃ s' r, exec (.adminRingEnable f a b q) s = .next s' ∧ ring s' (pciKey f) 0 = r ∧ r.enabled = true ∧ r.sqLog2 = a ∧
      r.cqLog2 = b ∧ r.evq = q.val ∧ r.phase = true ∧ r.sqHead = 0 ∧ r.sqTail = 0 ∧ r.w = 0 ∧
      r.sqBase = (fnRegs s (pciKey f)).sqBaseLo + (fnRegs s (pciKey f)).sqBaseHi * 2 ^ 32) ∧
  (∀ f a b (q : Fin 256) s, s.boot.fwReady = true → (ring s (pciKey f) 0).enabled = true →
    ∃ s', exec (.adminRingEnable f a b q) s = .next s' ∧ ring s' (pciKey f) 0 = ring s (pciKey f) 0) ∧
  (∀ f a b (q : Fin 256) s, s.boot.fwReady = true → (ring s (pciKey f) 0).enabled = true →
    ∃ s', exec (.adminRingDisable f a b q) s = .next s' ∧ ring s' (pciKey f) 0 = {} ∧
      ∀ e ∈ s'.mbx.held, fnKey e.id.fn = pciKey f → e.id.ring.val = 0 → e.discard = true) ∧
  (∀ (f : PciFn) v s, exec (.registerWrite { fn := f, offset := 0x10, value := v }) s = .next
      (setFnRegs s (pciKey f) { fnRegs s (pciKey f) with scratch := v % 2 ^ 32 })) ∧
  (∀ (f : PciFn) v s, exec (.registerRead { fn := f, offset := 0x10, value := v }) s = .next
      (emit (.registerRead (pciKey f) 0x10 (fnRegs s (pciKey f)).scratch) s)) ∧
  (∀ (a : BarAccess) s, a.bar4 = false → a.offset % 4 = 0 → a.offset < 0x1000000 → 0x100000 ≤ a.offset → s.boot.fwReady = false →
    exec (.registerRead a) s = .next (emit (.registerRead (pciKey a.fn) a.offset 0) s) ∧
    exec (.registerWrite a) s = .next s) ∧
  (∀ (a : BarAccess) s, a.bar4 = false → a.offset % 4 = 0 → a.offset < 0x1000000 → s.boot.fwReady = true → sees a.fn a.offset true s = false →
    exec (.registerWrite a) s = .next (violation a.fn a.offset true s)) ∧
  (∀ f (k : Fin 64) hdr facts s, nextServed s = some (pciKey f * 64 + k.val) →
    visible f k (readHeader (.pci f) k hdr facts).caller.inlineSlots s = true →
    headerCheck (readHeader (.pci f) k hdr facts) s = none →
    ∃ s' x, exec (.commandFetch f k hdr facts) s = .next s' ∧ x ∈ s'.mbx.held ∧ x.num = s.mbx.fetched ∧
      x.id = { fn := .pci f, ring := k, tag := leNat ((hdr.drop 4).take 4) } ∧ x.opcode = leNat ((hdr.drop 0).take 2)) ∧
  (∀ f (k : Fin 64) hdr facts s n, nextServed s = some (pciKey f * 64 + k.val) →
    visible f k (readHeader (.pci f) k hdr facts).caller.inlineSlots s = true →
    headerCheck (readHeader (.pci f) k hdr facts) s = some n → s.mbx.held = [] →
    ∃ s', exec (.commandFetch f k hdr facts) s = .next s' ∧ s'.mbx.held = []) ∧
  (∀ f (k : Fin 64) hdr facts s, nextServed s ≠ some (pciKey f * 64 + k.val) → fetchPaused f k s = false →
    exec (.commandFetch f k hdr facts) s = .next s) ∧
  (∀ d s, (opSpec d.opcode = none → headerCheck d s = some 1) ∧
    (∀ sp, opSpec d.opcode = some sp → isVf d.caller.id.fn = true → sp.vf = false → headerCheck d s = some 2) ∧
    (∀ sp, opSpec d.opcode = some sp → (isVf d.caller.id.fn = false ∨ sp.vf = true) →
      sessionOk d.caller.id.fn d.caller.session s = false → headerCheck d s = some 3)) ∧
  (∀ i e s, s.mbx.held.find? (fun x => decide (x.id = i) && timedOut x s) = some e →
    exec (.commandTimeout i) s = .next (finish e stTimeout 0 0 [] (undoHeld e s))) ∧
  (∀ i s, (∀ e ∈ s.mbx.held, e.id = i → e.untimed = true ∨ s.now ≤ e.fetchedAt + e.timeoutUs * 1000) →
    exec (.commandTimeout i) s = .next s) ∧
  (∀ s w num, s.pwr.waiting = [w] → w.owner = some num → compatible w.activity s = true →
    ∃ s', exec .maintRelease s = .next s' ∧ s'.pwr.waiting = [] ∧ { activity := w.activity, owner := some num } ∈ s'.pwr.running ∧
      ∀ e ∈ s.mbx.held, e.num = num → e.phase = .deferred →
        ∃ x ∈ s'.mbx.held, x.num = num ∧ x.id = e.id ∧ x.opcode = e.opcode ∧ x.phase = .released) ∧
  (∀ s w, s.pwr.waiting = [w] → compatible w.activity s = false → exec .maintRelease s = .next s) ∧
  (∀ (k : Fin 112) s, fenceAwaits k.val s = false → (cup s k.val).state ≠ .fenced → (cup s k.val).state ≠ .active →
    (cup s k.val).waking.isSome = true → isLineCupola k.val = false →
    ∃ s', exec (.cupolaWakeReady k false true) s = .next s' ∧ (cup s' k.val).state = .active ∧
      (cup s' k.val).waking = none ∧
      ∀ e ∈ s.mbx.held, e.phase = .waking k.val →
        ∃ x ∈ s'.mbx.held, x.num = e.num ∧ x.id = e.id ∧ x.opcode = e.opcode ∧ x.phase = .ready) ∧
  (∀ (k : Fin 112) r l s, fenceAwaits k.val s = false → (cup s k.val).state = .fenced →
    exec (.cupolaWakeReady k r l) s = .next (failWaits k.val s)) ∧
  (∀ (k : Fin 112) r l s, fenceAwaits k.val s = true → ∃ s', exec (.cupolaWakeReady k r l) s = .next s' ∧
    s'.pwr.readyDue = s.pwr.readyDue ++ [(k.val, r, l)] ∧ s'.pwr.cupolas = s.pwr.cupolas ∧ s'.mbx = s.mbx) ∧
  (∀ f k kind tag s, (ring s (pciKey f) k.val).enabled = true → (ring s (pciKey f) k.val).faulted = false →
    ∃ s', exec (.ringFault f k kind tag) s = .next (settle (presentBatch (.pci f) k s')) ∧ (ring s' (pciKey f) k.val).faulted = true ∧
      (ring s' (pciKey f) k.val).waiting = [] ∧
      ∀ e ∈ s'.mbx.held, fnKey e.id.fn = pciKey f → e.id.ring = k → e.discard = true) ∧
  (∀ h s, (session s h).isOpen = true → (session s h).keepaliveMs ≠ 0 →
    (session s h).lastFetch + (session s h).keepaliveMs * 1000000 < s.now →
    ∃ s' a b p, exec (.sessionKeepaliveExpiry h) s = .next (postFn a 5 .warning p (postFn b 5 .warning p (settle s'))) ∧
      (session s' h).isOpen = false ∧ (session s' h).closing = some false) ∧
  (∀ h s, ((session s h).keepaliveMs = 0 ∨ s.now ≤ (session s h).lastFetch + (session s h).keepaliveMs * 1000000) →
    exec (.sessionKeepaliveExpiry h) s = .next s) ∧
  (∀ op act cupola h body e k s, startable op act h e s → cupola s = some k → (cup s k).state = .fenced →
    perform op act cupola h body s = .next (finish e stFaulted 0 0 [] s)) ∧
  (∀ op act cupola h body e k s, startable op act h e s → cupola s = some k → longAsleep k s = true →
    mayWake e.opcode = true → e.phase ≠ .ready →
    perform op act cupola h body s = .next (interim e stWaking (.waking k)
      (setCup s k { cup s k with fwVote := true, waking := some s.now })))

/-- R612: doorbell writes to a ring that is not enabled, however many, change nothing; a ring enabled through MBX_ADMIN_CTRL or by
RING_CREATE starts with head and tail indices 0, completion write index 0 and expected phase 1, whatever was written to its
doorbell page before. -/
def Obligations.DoorbellsOfADisabledRingAreDiscarded : Prop :=
  (∀ (f : PciFn) (k : Fin 64) (writes : List Instr) (s : State), (ring s (pciKey f) k.val).enabled = false →
    (∀ c ∈ writes, ∃ v, c = .mbxSqTail f k v ∨ c = .mbxCqHead f k v) →
    execAll writes s = .next s) ∧
  (∀ (f : PciFn) a b (q : Fin 256) (s : State), s.boot.fwReady = true → (ring s (pciKey f) 0).enabled = false →
    ∃ t, exec (.adminRingEnable f a b q) s = .next t ∧ (ring t (pciKey f) 0).enabled = true ∧
      (ring t (pciKey f) 0).sqHead = 0 ∧ (ring t (pciKey f) 0).sqTail = 0 ∧ (ring t (pciKey f) 0).cqHead = 0 ∧
      (ring t (pciKey f) 0).w = 0 ∧ (ring t (pciKey f) 0).phase = true) ∧
  (∀ h p e (s : State), startable 0x0010 none h e s → p.ring.val ≠ 0 → (ring s (fnKey h.id.fn) p.ring.val).enabled = false →
    (evq s p.evq.val).owner = fnKey h.id.fn → p.wf = true →
    ∃ r, exec (.ringCreate h p) s = .next (finish e stOk 0 0 [] (setRing s (fnKey h.id.fn) p.ring.val r)) ∧ r.enabled = true ∧
      r.sqHead = 0 ∧ r.sqTail = 0 ∧ r.cqHead = 0 ∧ r.w = 0 ∧ r.phase = true)

/-! ## Range 0x0F, the Keep port, boot -/

/-- The commands of range 0x0F complete: an update begun, its data taken, its image staged or rejected with the step's DETAIL,
activated by a reset 1 ms later, confirmed; the fused minimum raised to the running version; the log, a quote of 192 bytes and
the identity read.

The Keep port: its reads answer and count as transactions; a write whose PEC is missing or wrong is NACKed, counted, and
ignored; WAKE wakes a device that sleeps; RESET of class 2 or 3 follows in 1 ms, but not while a lease is held; CMD takes in a
command of the port's own function, or answers NOT_PRESENT while the device cannot serve it. -/
def Obligations.FirmwareCommandsAndKeepPort : Prop :=
  (∀ h n e s, startable 0x0F00 (some actUpdate) h e s → ownsDevice h s = true → 1 ≤ n → n ≤ 33554432 → s.boot.update = none →
    ∃ s', exec (.fwUpdateBegin h n) s = .next (finish e stOk 0 0 [] s') ∧
      s'.boot.update = some { length := n, pieces := [] } ∧ s'.boot.staged = none ∧ s'.boot.running = s.boot.running) ∧
  (∀ h n u e s, startable 0x0F00 (some actUpdate) h e s → ownsDevice h s = true → 1 ≤ n → n ≤ 33554432 →
    s.boot.update = some u → exec (.fwUpdateBegin h n) s = .next (finish e stBusy 0 0 [] s)) ∧
  (∀ h o (data : List Byte) u e s, startable 0x0F01 (some actUpdate) h e s → h.blockLen = 64 + data.length →
    data.length ≤ 1048512 → ownsDevice h s = true → s.boot.update = some u → o + data.length ≤ u.length →
    exec (.fwUpdateData h o data) s = .next (finish e stOk 0 0 [] { s with boot := { s.boot with
      update := some { u with pieces := (o, data) :: u.pieces } } })) ∧
  (∀ h u e s, startable 0x0F02 (some actUpdate) h e s → ownsDevice h s = true → s.boot.update = some u →
    (stagedRefusal u (updateImage u) s = none →
      ∃ s', exec (.fwUpdateEnd h) s = .next (finish e stOk 0 0 [] s') ∧ s'.boot.update = none ∧
        s'.boot.staged = some (updateImage u) ∧ stagedState s' = .pending) ∧
    (∀ d, stagedRefusal u (updateImage u) s = some d →
      ∃ s', exec (.fwUpdateEnd h) s = .next (finish e stRefused d 0 [] s') ∧ s'.boot.update = none ∧
        s'.boot.staged = s.boot.staged)) ∧
  (∀ h force e s, startable 0x0F03 (some actUpdate) h e s → activateRefusal h 1 force s = none →
    ∃ s', exec (.fwActivate h 1 force) s = .next (postResetPending (finish e stOk 0 0 [] (acceptReset 1 1000 s'))) ∧
      stagedState s' = .trying) ∧
  (∀ h force e s b, startable 0x0F03 (some actUpdate) h e s → activateRefusal h 2 force s = none → s.boot.source = some b →
    ∃ s', exec (.fwActivate h 2 force) s = .next (postResetPending (finish e stOk 0 0 [] (acceptReset 2 1000 s')))) ∧
  (∀ h cls force d e s, startable 0x0F03 (some actUpdate) h e s → activateRefusal h cls force s = some d →
    exec (.fwActivate h cls force) s = .next (finish e stRefused d 0 [] s)) ∧
  (∀ h e s, startable 0x0F04 (some actUpdate) h e s → ownsDevice h s = true → runningState s ≠ .good →
    ∃ s', exec (.fwConfirm h) s = .next (finish e stOk 0 0 [] s') ∧ runningState s' = .good) ∧
  (∀ h e s, startable 0x0F04 (some actUpdate) h e s → ownsDevice h s = true → runningState s = .good →
    exec (.fwConfirm h) s = .next (finish e stEmpty 0 0 [] s)) ∧
  (∀ h e s, startable 0x0F05 (some actUpdate) h e s → ownsDevice h s = true → runningState s = .good →
    s.boot.fuses.minimum < runningSecurity s →
    ∃ s', exec (.fwSecurityCommit h) s = .next (finish e stOk 0 (runningSecurity s) [] s') ∧
      s'.boot.fuses = { s.boot.fuses with minimum := runningSecurity s }) ∧
  (∀ h e s, startable 0x0F05 (some actUpdate) h e s → ownsDevice h s = true → runningState s ≠ .good →
    exec (.fwSecurityCommit h) s = .next (finish e stRefused 0x0F07 0 [] s)) ∧
  (∀ h a n e s, startable 0x0F06 none h e s → 1 ≤ n → n ≤ logLimit h.id.fn → a < s.boot.log.length →
    exec (.measurementLogRead h a n) s = .next (finish e stOk 0 0 (((s.boot.log.drop a).take n).flatMap logBytes) s)) ∧
  (∀ h n e s, startable 0x0F07 none h e s → quotesNow s < 100 →
    ∃ s', exec (.attestQuote h n) s = .next (finish e stOk 0 0 (quote n s) s') ∧ (quote n s).length = 192 ∧
      quotesNow s' = quotesNow s + 1) ∧
  (∀ h n e s, startable 0x0F07 none h e s → 100 ≤ quotesNow s →
    exec (.attestQuote h n) s = .next (finish e stBusy 0 0 [] s)) ∧
  (∀ h e s, startable 0x0F08 none h e s →
    exec (.identityRead h) s = .next (finish e stOk 0 0 identityRead s) ∧ identityRead.length = 192) ∧
  (∀ s, ∃ s' data, exec .keepPortStatus s = .next s' ∧ s'.out = .keepPort 1 data :: s.out ∧ data.length = 8 ∧
    s'.boot.port.transactions = satur 16 (s.boot.port.transactions + 1)) ∧
  (∀ s, ∃ s' data, exec .keepPortLedger s = .next s' ∧ s'.out = .keepPort 4 data :: s.out ∧ data.length = 6) ∧
  (∀ s, ∃ s' data, exec .keepPortIdentity s = .next s' ∧ s'.out = .keepPort 5 data :: s.out ∧ data.length = 72) ∧
  (∀ s, ∃ s', exec .keepPortResult s = .next s' ∧
    s'.out = .keepPort 0x11 (match s.boot.port.result with | some r => 1 :: r | none => [0]) :: s.out) ∧
  (∀ d (hdr : List Byte) facts s t,
    (exec (.keepPortWake false) s = .next t ∨ exec (.keepPortReset false d) s = .next t ∨
      exec (.keepPortBootSource false d) s = .next t ∨ exec (.keepPortCmd false hdr facts) s = .next t) →
    t.boot.port.nacks = satur 8 (s.boot.port.nacks + 1) ∧ t.boot.port.pecErrors = satur 8 (s.boot.port.pecErrors + 1) ∧
    t.boot.port.lastResult = 2 ∧ t.ses = s.ses ∧ t.mbx = s.mbx ∧ t.pwr = s.pwr) ∧
  (∀ s, s.pwr.keep.asleep = true → s.pwr.keep.entering = false →
    ∃ s', exec (.keepPortWake true) s = .next s' ∧ s'.pwr.keep.asleep = false ∧ s'.pwr.keep.wakeCause = 1 ∧
      s'.boot.stage = 6 ∧ s'.pwr.keep.wakes = (s.pwr.keep.wakes + 1) % 2 ^ 32) ∧
  (∀ d : BitVec 8, ∀ s, 2 ≤ d.toNat % 4 → d.toNat / 4 % 32 = 0 → (holdsLease s = false ∨ d.getLsbD 7 = true) →
    ∃ s', exec (.keepPortReset true d) s = .next (acceptReset (d.toNat % 4) 1000 s') ∧ s'.ses = s.ses) ∧
  (∀ d : BitVec 8, ∀ s, 2 ≤ d.toNat % 4 → d.toNat / 4 % 32 = 0 → holdsLease s = true → d.getLsbD 7 = false →
    ∃ s', exec (.keepPortReset true d) s = .next s' ∧ s'.ses = s.ses ∧ s'.boot.port.lastResult = 1) ∧
  (∀ d : BitVec 8, ∀ s, d.toNat ≤ 3 →
    ∃ s', exec (.keepPortBootSource true d) s = .next s' ∧ s'.boot.port.bootSource = d.toNat) ∧
  (∀ (hdr : List Byte) facts s, s.boot.port.cmdPending = false → s.boot.fwReady = true →
    keepAllows (leNat (hdr.take 2)) = true →
    headerCheck (readHeader .keep 0 hdr { facts with activity := none }) s = none →
    ∃ s' x, exec (.keepPortCmd true hdr facts) s = .next s' ∧ x ∈ s'.mbx.held ∧ x.id.fn = .keep ∧
      x.opcode = leNat (hdr.take 2) ∧ s'.boot.port.cmdPending = true) ∧
  (∀ (hdr : List Byte) facts s, s.boot.port.cmdPending = false → s.boot.fwReady = false →
    ∃ s', exec (.keepPortCmd true hdr facts) s = .next s' ∧ s'.mbx.held = s.mbx.held ∧ s'.boot.port.cmdPending = false ∧
      s'.boot.port.result.isSome = true)

/-- Booting: after POWER_ON nothing is ready, the fuses and pins are as found, and without an answering flash the ROM waits for
the host at stage 0xD; the host's image runs when it passes its checks, and else its RESULT says why; FW_READY is reached at
stage 0x7 with an image that runs. No image runs, of the flash or of the host, that fails its checks. -/
def Obligations.OnlyVerifiedImagesBoot : Prop :=
  (∀ (f : PowerOnFacts) s, ∃ s', exec (.powerOn f) s = .next s' ∧ s'.boot.fwReady = false ∧ s'.pending = s.pending ∧
    s'.boot.fuses.minimum = f.fusedMinimum ∧ s'.boot.fuses.keyHashes = f.keyHashes ∧ s'.mbx.held = [] ∧ s'.mem.cells = [] ∧
    s'.mbx.splitMode = f.pcieSplit ∧ s'.fab.strap = f.addrStrap.val ∧
    (f.flashAnswers = false → s'.boot.stage = 0xD ∧ s'.boot.running = none) ∧
    ∀ i, s'.boot.running = some i → checkImage i s' = 2 ∧ s'.boot.stage = 2) ∧
  (∀ f s, pciKey f = 0 → s.boot.stage = 0xD → s.boot.bootResult ≠ 1 →
    exec (.glbBootGo f) s = .next { s with boot := { s.boot with bootResult := 1 } }) ∧
  (∀ f s, (pciKey f ≠ 0 ∨ s.boot.stage ≠ 0xD) → exec (.glbBootGo f) s = .next s) ∧
  (∀ d s, s.boot.stage = 0xD → s.boot.bootResult = 1 →
    (checkImage (readImage d) s = 2 →
      ∃ s', exec (.bootImageFetched (some d)) s = .next s' ∧ s'.boot.running = some (readImage d) ∧ s'.boot.stage = 2 ∧
        s'.boot.source = none ∧ s'.boot.bootResult = 2 ∧ checkImage (readImage d) s' = 2) ∧
    (checkImage (readImage d) s ≠ 2 →
      exec (.bootImageFetched (some d)) s = .next { s with boot := { s.boot with bootResult := checkImage (readImage d) s } })) ∧
  (∀ s, s.boot.stage = 0xD → s.boot.bootResult = 1 →
    exec (.bootImageFetched none) s = .next { s with boot := { s.boot with bootResult := 7 } }) ∧
  (∀ l t s i, s.boot.fwReady = false → s.boot.running = some i → s.boot.stage ≠ 0xD → s.boot.stage ≠ 0xE →
    s.pwr.keep.asleep = false → s.pwr.mainLost = 0 →
    ∃ s', exec (.fwReady l t) s = .next s' ∧ s'.boot.fwReady = true ∧ s'.boot.stage = 7 ∧ s'.boot.owed = []) ∧
  (∀ l t s, (s.boot.running = none ∨ s.boot.stage = 0xD ∨ s.boot.stage = 0xE) → exec (.fwReady l t) s = .next s)

/-! ## Resets, power, supplies, clocks, temperature -/

/-- DEVICE_RESET of class 0 completes with OK and restarts the issuer's sessions; one of class 1 to 3 from the owner of
DEVICE, no lease held, completes with OK, is pending, and is announced. COMMAND_ABORT ends a deferred or waking command of the
function with REFUSED, and completes with OK after it.

The resets: class 0 takes a function's rings, sessions and event queues down and marks SESSION_RESET; a link's reset is
asserted and released; the pending reset begins at its instant and no earlier: class 1 keeps time and memory, classes 2 and 3
put every block outside the Keep at its After reset value, the Keep's members, arbiters and key slots and, in class 2, board memory
staying; the third watchdog within 60 s stops firmware, a core
fault restarts it. -/
def Obligations.ResetsAct : Prop :=
  (∀ h p e s, startable 0x0003 none h e s → p.cls = 0 →
    exec (.deviceReset h p) s = .next (restartFunction (fnKey h.id.fn) (finish e stOk 0 0 [] s))) ∧
  (∀ h p e s, startable 0x0003 none h e s → p.wf = true → 1 ≤ p.cls → isVf h.id.fn = false → ownsDevice h s = true →
    (holdsLease s = false ∨ p.force = true) →
    exec (.deviceReset h p) s = .next (postResetPending (finish e stOk 0 0 [] (acceptReset p.cls p.delayUs s)))) ∧
  (∀ cls delayUs s, s.ses.pendingReset = none →
    acceptReset cls delayUs s = { s with ses := { s.ses with
      pendingReset := some { cls := cls, instant := s.now + delayUs * 1000, accepted := s.now } } }) ∧
  (∀ h k tag e x s, startable 0x0006 none h e s →
    s.mbx.held.find? (fun y => decide (y.id = { fn := h.id.fn, ring := k, tag := tag }) &&
        (y.deferredOnce || y.wakingOnce) && !startsNow y s) = some x →
    exec (.commandAbort h k tag) s = .next (finish e stOk 0 0 [] (finish x stRefused 0x0100 0 [] s))) ∧
  (∀ f s, ∃ s', exec (.functionLevelReset f) s = .next (clearMsix (fun g => decide (g = pciKey f))
      (settle (presentAll (fun g => decide (g = pciKey f)) s'))) ∧ (∀ k, k < 64 → ring s' (pciKey f) k = {}) ∧
    (∀ t v, v < 256 → msixEntry (clearMsix (fun g => decide (g = pciKey f)) t) (pciKey f) v = {}) ∧
    (fnRegs s' (pciKey f)).sessionReset = true ∧ (fnRegs s' (pciKey f)).scratch = (fnRegs s (pciKey f)).scratch ∧
    (∀ h, (session s' h).isOpen = true → (session s' h).fn ≠ pciKey f) ∧
    (∀ q, (evq s' q).enabled = true → (evq s' q).owner ≠ pciKey f) ∧
    (∀ e ∈ s'.mbx.held, fnKey e.id.fn = pciKey f → e.discard = true)) ∧
  (∀ linkB split s, ∃ s', exec (.conventionalReset linkB split) s = .next s' ∧
    (if linkB then s'.mbx.resetB = true else s'.mbx.resetA = true)) ∧
  (∀ linkB s, exec (.perstDeassert linkB) s = .next { s with mbx := { s.mbx with
    resetA := s.mbx.resetA && linkB, resetB := s.mbx.resetB && !linkB } }) ∧
  (∀ s, s.ses.pendingReset = none → exec .resetDelayExpiry s = .next s) ∧
  (∀ s p, s.ses.pendingReset = some p → s.now < p.instant → exec .resetDelayExpiry s = .next s) ∧
  (∀ s p, s.ses.pendingReset = some p → p.cls = 1 → p.instant ≤ s.now → s.mbx.held = [] →
    ∃ s', exec .resetDelayExpiry s = .next s' ∧ s'.boot.fwReady = false ∧ s'.ses.pendingReset = none ∧
      s'.time.bases = s.time.bases ∧ s'.mem.cells = s.mem.cells ∧ s'.boot.fuses = s.boot.fuses) ∧
  (∀ s p, s.ses.pendingReset = some p → (p.cls = 2 ∨ p.cls = 3) → p.instant ≤ s.now →
    ∃ s', exec .resetDelayExpiry s = .next s' ∧ s'.boot.fwReady = false ∧ s'.ses = {} ∧ s'.mbx.held = [] ∧
      s'.time = {} ∧ s'.tr = {} ∧ s'.pe = {} ∧ s'.pool = {} ∧ s'.frm = {} ∧
      s'.prot = { members := tmap {} (fun _ m => keptMember m) s.prot.members, arbiters := s.prot.arbiters,
                  badMessages := s.prot.badMessages, blobIvs := s.prot.blobIvs } ∧
      s'.cph = { slots := s.cph.slots, zeroised := s.cph.zeroised } ∧
      s'.mem.cells = (if p.cls = 2 then s.mem.cells else []) ∧
      s'.boot.fuses = s.boot.fuses ∧ s'.pwr.keep.ticks = s.pwr.keep.ticks ∧ s'.pending = s.pending) ∧
  (∀ s i, s.boot.running = some i → s.boot.fwFault = false → s.pwr.keep.asleep = false → s.boot.resetAt ≠ some s.now →
    resetAwaits s = false → s.ses.pendingReset = none →
    2 ≤ (s.boot.watchdogAt.filter (fun t => decide (s.now < t + 60000000000))).length →
    ∃ s', exec .firmwareWatchdog s = .next s' ∧ s'.boot.fwFault = true ∧ s'.boot.stage = 0xE ∧ s'.boot.fwReady = false) ∧
  (∀ s i, s.boot.running = some i → s.boot.fwFault = false → s.pwr.keep.asleep = false → s.boot.resetAt ≠ some s.now →
    resetAwaits s = false → s.ses.pendingReset = none →
    (s.boot.watchdogAt.filter (fun t => decide (s.now < t + 60000000000))).length < 2 →
    ∃ s', exec .firmwareWatchdog s = .next s' ∧ s'.boot.fwReady = false ∧
      s'.boot.watchdogAt = s.now :: s.boot.watchdogAt.filter (fun t => decide (s.now < t + 60000000000))) ∧
  (∀ s i, s.boot.running = some i → s.boot.fwFault = false → s.pwr.keep.asleep = false → s.boot.resetAt ≠ some s.now →
    (resetAwaits s = true → exec .firmwareWatchdog s = .next { s with boot := { s.boot with watchdogDue := true } }) ∧
    (resetAwaits s = false → mergedClass s ≠ 1 →
      exec .firmwareWatchdog s = .next (performReset (mergedClass s) (clearMerged s)))) ∧
  (∀ s, (s.boot.running = none ∨ s.boot.resetAt = some s.now) → exec .firmwareWatchdog s = .next s) ∧
  (∀ (c : Fin 12) s i, s.boot.running = some i → s.boot.fwFault = false → s.pwr.keep.asleep = false →
    exec (.coreFault c) s = .next (resetFirmware s) ∧ (resetFirmware s).boot.fwReady = false)

/-- Supplies, clocks and temperature: a lost main rail takes firmware down and every TREE_TXEN with it, VCORE, VSRAM and VR_PGOOD
the keys too, and the return of the rails starts the device cold; one Keep feed's loss is counted and reported and changes
nothing else, both feeds' resets the Keep; REFCLK's loss holds over every time base that follows an input; CLK32K's is noted;
a warning begins and ends; a trip darkens every tree before it fences.

Cupolas, levels and Keep-only: after its hysteresis a cupola goes down one state, never below its votes and floor; a
performance level in change is reached; self-tests end their commands; KEEP_ONLY_ENTER is taken when nothing is in use, entry
stops the time bases and firmware, and light, the ledger's alarm and the masks decide what wakes the device. -/
def Obligations.SuppliesAndPowerStepsAct : Prop :=
  (∀ rails : BitVec 10, ∀ s, rails ≠ 0 → s.pwr.keep.asleep = false →
    ∃ s', exec (.mainRailLoss rails) s = .next s' ∧ s'.boot.fwReady = false ∧ s'.pwr.mainLost = (s.pwr.mainLost ||| rails) ∧
      (∀ t, (tree s' t).txen = false) ∧ (rails.getLsbD 0 = true → s'.cph.zeroised = true ∧ s'.cph.slots = [])) ∧
  (∀ s, s.pwr.mainLost ≠ 0 → s.pwr.keep.asleep = false → s.boot.stage ≠ 6 →
    exec .mainRailsGood s = .next (resetCold { s with pwr := { s.pwr with mainLost := 0 } })) ∧
  (∀ s, s.pwr.mainLost = 0 → exec .mainRailsGood s = .next s) ∧
  (∀ s, s.pwr.keep.feedA = true → s.pwr.keep.feedB = true →
    exec (.keepFeedLoss false) s = .next (postFeeds { s with pwr := { s.pwr with keep := { s.pwr.keep with
      feedA := false, feedLossA := satur 16 (s.pwr.keep.feedLossA + 1) } } }) ∧
    exec (.keepFeedLoss true) s = .next (postFeeds { s with pwr := { s.pwr with keep := { s.pwr.keep with
      feedB := false, feedLossB := satur 16 (s.pwr.keep.feedLossB + 1) } } })) ∧
  (∀ s, s.pwr.keep.feedA = true → s.pwr.keep.feedB = false → swapAwaits true false s = false →
    ∃ s', exec (.keepFeedLoss false) s = .next s' ∧ s'.cph = {} ∧ s'.prot = {} ∧ s'.pwr.keep.feedA = false ∧
      s'.boot.fuses = s.boot.fuses ∧ s'.pending = s.pending) ∧
  (∀ s, s.pwr.keep.feedA = true → s.pwr.keep.feedB = false → swapAwaits true false s = true →
    exec (.keepFeedLoss false) s = .next (postFeeds { s with pwr := { s.pwr with keep := { s.pwr.keep with
      feedA := false, feedLossA := satur 16 (s.pwr.keep.feedLossA + 1), feedB := true } } })) ∧
  (∀ s, s.pwr.keep.feedA = true → s.pwr.keep.feedB = false → swapAwaits false true s = false →
    exec (.keepFeedRestore true) s = .next (postFeeds { s with pwr := { s.pwr with keep := { s.pwr.keep with
      feedB := true } } })) ∧
  (∀ s, s.pwr.refclkLost = false → ∃ s', exec .refclkLoss s = .next s' ∧ s'.pwr.refclkLost = true ∧ ∀ b, b < 8 →
    ((timeBase s b).servo = .freeRun ∨ (timeBase s b).servo = .host → timeBase s' b = timeBase s b) ∧
    ((timeBase s b).servo ≠ .freeRun → (timeBase s b).servo ≠ .host → (timeBase s' b).servo = .holdover ∧
      (timeBase s' b).pending = none)) ∧
  (∀ s, s.pwr.refclkLost = true → ∃ s', exec .refclkReturn s = .next s' ∧ s'.pwr.refclkLost = false) ∧
  (∀ s, s.pwr.clk32kLost = false → ∃ s', exec .clk32kLoss s = .next s' ∧ s'.pwr.clk32kLost = true ∧ s'.time = s.time) ∧
  (∀ s, s.pwr.clk32kLost = true → ∃ s', exec .clk32kReturn s = .next s' ∧ s'.pwr.clk32kLost = false ∧ s'.time = s.time) ∧
  (∀ (x : Fin 20) temp s, s.pwr.warned = false → exec (.thermalWarning x temp) s = .next (postThermal 0 x.val temp
    { s with pwr := { s.pwr with warned := true } })) ∧
  (∀ (x : Fin 20) temp s, s.pwr.warned = true → exec (.thermalWarningClear x temp) s = .next (postThermal 1 x.val temp
    { s with pwr := { s.pwr with warned := false } })) ∧
  (∀ (x : Fin 20) temp s, s.pwr.tripped = false →
    ∃ s', exec (.thermalTrip x temp) s = .next (postThermal 2 x.val temp
      ((List.range 112).foldl (fun st k => failWaits k (tripCupola k st)) s')) ∧ s'.pwr.tripped = true ∧
      ∀ t, (tree s' t).txen = false) ∧
  (∀ (k : Fin 112) s, (cup s k.val).state ≠ .fenced → (cup s k.val).waking = none → fixedCupola k.val = false →
    cupCode (cup s k.val).state < target k.val s → target k.val s ≤ 3 → hysteresisPassed (cup s k.val) s.now = true →
    ∃ s', exec (.cupolaHysteresisExpiry k) s = .next s' ∧
      cupCode (cup s' k.val).state = cupCode (cup s k.val).state + 1 ∧ ∀ j, j ≠ k.val → cup s' j = cup s j) ∧
  (∀ (k : Fin 112) s, (target k.val s ≤ cupCode (cup s k.val).state ∨ hysteresisPassed (cup s k.val) s.now = false) → exec (.cupolaHysteresisExpiry k) s = .next s) ∧
  (∀ s l, s.pwr.plTarget = some l → s.now < s.pwr.rampEnd → exec .perfLevelSettled s = .next s) ∧
  (∀ s l, s.pwr.plTarget = some l → s.pwr.rampEnd ≤ s.now →
    ∃ s', exec .perfLevelSettled s = .next ((List.range 4).foldl (fun st k => completeRunning 0x0102 k stOk 0 0 [] st) s') ∧
      s'.pwr.pl = l ∧ s'.pwr.plTarget = none) ∧
  (∀ k p r s, runsOn 0x0104 k s = true →
    exec (.selfTestEnd 0 k p r) s = .next (if p &&& testParts k = 0
      then completeRunning 0x0104 k stOk 0 0 [] (restoreCupola k (r.getLsbD 0) s)
      else completeRunning 0x0104 k stFaulted 0 0 [] s)) ∧
  (∀ k p r s, runsOn 0x0802 k s = true →
    exec (.selfTestEnd 1 k p r) s = .next (if p &&& testParts (68 + k) = 0
      then completeRunning 0x0802 k stOk 0 0 [] (restorePipeline k s)
      else completeRunning 0x0802 k stFaulted 0 0 [] s)) ∧
  (∀ k p r t s, runningTests s = some t →
    exec (.selfTestEnd 2 k p r) s = .next (completeRunning 0x0108 t stOk 0 (BitVec.ofNat 4 t &&& r).toNat []
      (recordSelfTest (BitVec.ofNat 4 t) r s))) ∧
  (∀ h mask ticks e s, startable 0x0105 (some actKeepOnly) h e s → ownsDevice h s = true → mask.toNat < 64 → ticks < 2 ^ 64 →
    deviceInUse s = false → s.pwr.keep.entering = false →
    ∃ s', exec (.keepOnlyEnter h mask ticks) s = .next (finish e stOk 0 0 [] s') ∧ s'.pwr.keep.entering = true ∧
      s'.pwr.keep.wakeMask = mask ∧ s'.pwr.keep.alarmTicks = ticks ∧ s'.pwr.keep.enterAt = s.now + 10000000) ∧
  (∀ h mask ticks e s, startable 0x0105 (some actKeepOnly) h e s → ownsDevice h s = true → mask.toNat < 64 → ticks < 2 ^ 64 →
    deviceInUse s = true → exec (.keepOnlyEnter h mask ticks) s = .next (finish e stRefused 0x0113 0 [] s)) ∧
  (∀ s, s.pwr.keep.entering = true → s.now < s.pwr.keep.enterAt → exec .keepOnlyEntry s = .next s) ∧
  (∀ s, s.pwr.keep.entering = true → s.pwr.keep.enterAt ≤ s.now → s.pwr.keep.wakeOwed = false →
    ∃ s', exec .keepOnlyEntry s = .next s' ∧ s'.pwr.keep.asleep = true ∧ s'.pwr.keep.entering = false ∧
      s'.boot.fwReady = false ∧ s'.time.stopped = true) ∧
  (∀ (l : Fin 4) s, s.pwr.keep.asleep = true → s.pwr.keep.wakeMask.getLsbD l.val = true →
    ∃ s', exec (.lanternLightWake l) s = .next s' ∧ s'.pwr.keep.asleep = false ∧ s'.pwr.keep.wakeCause = 2 ∧
      s'.pwr.keep.wakeLine = l.val ∧ s'.boot.stage = 6) ∧
  (∀ s, s.pwr.keep.asleep = true → s.pwr.keep.wakeMask.getLsbD 5 = true → s.pwr.keep.alarmTicks ≤ ledgerMost s →
    ∃ s', exec .ledgerAlarm s = .next s' ∧ s'.pwr.keep.asleep = false ∧ s'.pwr.keep.wakeCause = 4 ∧ s'.boot.stage = 6) ∧
  (∀ (l : Fin 4) s, (s.pwr.keep.asleep = false ∨ s.pwr.keep.wakeMask.getLsbD l.val = false) →
    exec (.lanternLightWake l) s = .next s)

/-! ## Whole-machine rules -/

/-- Board memory stays in its canonical form: from every state where it is, whatever command stands at the front of the queue,
and with none, a step leads to a state where it is. -/
def Obligations.MemoryStaysCanonical : Prop :=
  ∀ s t : State, memoryWf s → step s = .next t → memoryWf t

/-- Board memory is in its canonical form right after reset. -/
def Obligations.ResetMemoryIsCanonical : Prop :=
  memoryWf State.reset

/-- No command touches the queue or the model's instant: what waits behind it waits after it, in the same order. -/
def Obligations.CommandsLeaveTheQueue : Prop :=
  ∀ (c : Instr) (s t : State), exec c s = .next t → t.pending = s.pending ∧ t.now = s.now

/-- The fuses change only as FW_SECURITY_COMMIT burns them, which raises the fused minimum and nothing else, or as POWER_ON
finds them. -/
def Obligations.FusesChangeOnlyByBurning : Prop :=
  ∀ (c : Instr) (s t : State), exec c s = .next t →
    (∀ f, c ≠ .powerOn f) →
    t.boot.fuses.keyHashes = s.boot.fuses.keyHashes ∧ t.boot.fuses.revoked = s.boot.fuses.revoked ∧
    t.boot.fuses.set1Only = s.boot.fuses.set1Only ∧ s.boot.fuses.minimum ≤ t.boot.fuses.minimum ∧
    ((∀ h, c ≠ .fwSecurityCommit h) → t.boot.fuses = s.boot.fuses)

/-- Each of these commands completes: for every state and operands that meet its conditions, exec answers the next state
in which it has had its effect. NOP, DEVICE_IDENTIFY, CAPABILITY_QUERY, SESSION_OPEN, SESSION_CLOSE, RESOURCE_CLAIM, RESOURCE_RELEASE,
RESOURCE_ASSIGN, RESOURCE_QUERY, RING_CREATE, RING_DESTROY; CUPOLA_VOTE, CUPOLA_STATUS, PERF_LEVEL_SET, CUPOLA_FLOOR_SET,
CUPOLA_RESTORE, MAINT_STATUS, SAFETY_STATUS, SAFETY_SELF_TEST. What each leaves beyond its final OK is in
SessionsAndQueriesComplete, ResourcesAndRingsChangeHands and PowerCommandsComplete. -/
def Obligations.CommandsOfRanges00And01Complete : Prop :=
  (∀ h e s, startable 0x0000 none h e s →
    ∃ detail result resp s', exec (.nop h) s = .next (finish e stOk detail result resp s')) ∧
  (∀ h e s, startable 0x0001 none h e s →
    ∃ detail result resp s', exec (.deviceIdentify h) s = .next (finish e stOk detail result resp s')) ∧
  (∀ h e s, startable 0x0002 none h e s →
    ∃ detail result resp s', exec (.capabilityQuery h 0) s = .next (finish e stOk detail result resp s')) ∧
  (∀ h p e s, startable 0x000A none h e s → 1 ≤ p.count → p.count ≤ 4096 → p.first + p.count ≤ kindSize p.kind.val →
    ∃ detail result resp s', exec (.resourceQuery h p) s = .next (finish e stOk detail result resp s')) ∧
  (∀ h keepaliveMs label e s, startable 0x0004 none h e s → h.session = 0 → keepaliveMs ≤ 60000 →
    sessionsOf (fnKey h.id.fn) s < 16 → sessionCount s < 1024 →
    ∃ detail result resp s', exec (.sessionOpen h keepaliveMs label) s = .next (finish e stOk detail result resp s')) ∧
  (∀ h handle quiesce e s, startable 0x0005 none h e s → handle ≠ 0 → (session s handle).isOpen = true →
    (session s handle).fn = fnKey h.id.fn →
    exec (.sessionClose h handle quiesce) s = .next (settle (setPhase e (.running handle) (closeSession handle quiesce s))) ∧
      (session (closeSession handle quiesce s) handle).isOpen = false ∧ (session (closeSession handle quiesce s)
      handle).closing = some quiesce) ∧
  (∀ h p e s, startable 0x0007 none h e s → h.session ≠ 0 → 1 ≤ p.count → p.first + p.count ≤ kindSize p.kind.val →
    (∀ i ∈ rangeOf p, claimable h.id.fn p.kind.val i s = true) → (∀ i ∈ rangeOf p, conflicts h p.kind.val i s = false) →
    ∃ detail result resp s', exec (.resourceClaim h p) s = .next (finish e stOk detail result resp s')) ∧
  (∀ h p e s, startable 0x0008 none h e s → h.session ≠ 0 → 1 ≤ p.count →
    ∃ detail result resp s', exec (.resourceRelease h p false) s = .next (finish e stOk detail result resp s')) ∧
  (∀ h p f vf e s, startable 0x0009 none h e s → h.session ≠ 0 → h.id.fn = .pci f → assignable p.kind.val = true →
    1 ≤ p.count → p.first + p.count ≤ kindSize p.kind.val → vf.val ≠ 0 →
    (∀ i ∈ rangeOf p, pfOwns (pciKey f) p.kind.val i s = true) →
    ∃ detail result resp s', exec (.resourceAssign h p vf) s = .next (finish e stOk detail result resp s')) ∧
  (∀ h p e s, startable 0x0010 none h e s → p.ring.val ≠ 0 → (ring s (fnKey h.id.fn) p.ring.val).enabled = false →
    (evq s p.evq.val).owner = fnKey h.id.fn → p.wf = true →
    ∃ detail result resp s', exec (.ringCreate h p) s = .next (finish e stOk detail result resp s')) ∧
  (∀ h k e s, startable 0x0011 none h e s → k.val ≠ 0 → k ≠ h.id.ring → (ring s (fnKey h.id.fn) k.val).enabled = true →
    exec (.ringDestroy h k) s = .next (settle (setPhase e (.running k.val) (presentBatch h.id.fn k (setRing s (fnKey h.id.fn)
      k.val { ring s (fnKey h.id.fn) k.val with closing := true }))))) ∧
  (∀ h k level e s, startable 0x0100 (if level.val = 0 then none else some { kind := 13, scope := k.val }) h e s →
    fixedCupola k.val = false → voteWake k.val level.val s = none →
    ∃ detail result resp s', exec (.cupolaVote h k level) s = .next (finish e stOk detail result resp s')) ∧
  (∀ h p e s, startable 0x0103 none h e s → ownsDevice h s = true → p.wf = true → fixedCupola p.cupola.val = false →
    (isDramCupola p.cupola.val = true → p.floor ≠ 3) →
    ∃ detail result resp s', exec (.cupolaFloorSet h p) s = .next (finish e stOk detail result resp s')) ∧
  (∀ h level e s, startable 0x0102 (some { kind := 9, scope := 0 }) h e s → ownsDevice h s = true → level.val < s.pwr.pl →
    (∀ p ∈ servingPipes s, pipeLoad p s ≤ pipeCapacity level.val) →
    exec (.perfLevelSet h level) s = .next (setPhase e (.running s.pwr.pl)
      { s with pwr := { s.pwr with plTarget := some level.val, rampEnd := s.now + rampNs s.pwr.pl level.val } })) ∧
  (∀ h k e s, startable 0x0101 none h e s →
    ∃ detail result resp s', exec (.cupolaStatus h k) s = .next (finish e stOk detail result resp s')) ∧
  (∀ h e s, startable 0x0106 none h e s →
    ∃ detail result resp s', exec (.maintStatus h) s = .next (finish e stOk detail result resp s')) ∧
  (∀ h e s, startable 0x0107 none h e s →
    ∃ detail result resp s', exec (.safetyStatus h) s = .next (finish e stOk detail result resp s')) ∧
  (∀ h k e s, startable 0x0104 none h e s → ownsDevice h s = true → isPipelineCupola k.val = false →
    isDramCupola k.val = false → (cup s k.val).state = .fenced →
    exec (.cupolaRestore h k) s = .next (setPhase e (.running k.val) s)) ∧
  (∀ h tests e s, startable 0x0108 (some { kind := 12, scope := 0 }) h e s → ownsDevice h s = true →
    exec (.safetySelfTest h tests) s = .next (setPhase e (.running tests.toNat) s))

/-- Each of these commands completes: TREE_CONFIGURE, BURST_PROFILE_SET, TREE_ENABLE, TREE_DISABLE, TREE_STATUS,
BURST_RECORD_READ; TERMINAL_ADMIT, TERMINAL_DISABLE, TERMINAL_REMOVE, TERMINAL_RANGE, TERMINAL_STATUS, ROGUE_PROBE,
DISCOVERED_READ; ALLOC_CONFIGURE, ALLOC_REMOVE, PORT_CONFIGURE, PORT_REMOVE, GRANT_POLICY_SET, ALLOC_STATUS, COOP_INPUT_CONFIGURE. What each
leaves beyond its final OK is in TreeAndTerminalCommandsComplete and GrantCommandsComplete. -/
def Obligations.CommandsOfRanges02To04Complete : Prop :=
  (∀ h p e s, startable 0x0200 none h e s → owns h kTree p.tree.val s = true → p.wf = true →
    (tree s p.tree.val).enabled = false → (portEnt s p.tree.val).enabled = false →
    minTeqd p.maxReach (givenIndex p) ≤ givenTeqd p →
    ∃ detail result resp s', exec (.treeConfigure h p) s = .next (finish e stOk detail result resp s')) ∧
  (∀ h (t : Fin 64) k p e s, startable 0x0203 none h e s → owns h kTree t.val s = true → p.wf = true →
    (tree s t.val).enabled = false →
    ∃ detail result resp s', exec (.burstProfileSet h t k p) s = .next (finish e stOk detail result resp s')) ∧
  (∀ h (t : Fin 64) e s s1, startable 0x0201 none h e s → owns h kTree t.val s = true → protConfigured t.val s = false →
    (cup s t.val).state = .active → (tree s t.val).configured = true → (profileOf s t.val 0).isSome = true →
    enablePort t.val (treeRate (tree s t.val).mode) s = .placed s1 →
    ∃ detail result resp s', exec (.treeEnable h t) s = .next (finish e stOk detail result resp s')) ∧
  (∀ h (t : Fin 64) e s, startable 0x0202 none h e s → owns h kTree t.val s = true → protConfigured t.val s = false →
    sendsFrames t.val s = false →
    ∃ detail result resp s', exec (.treeDisable h t) s = .next (finish e stOk detail result resp s')) ∧
  (∀ h (t : Fin 64) e s, startable 0x0204 none h e s →
    ∃ detail result resp s', exec (.treeStatus h t) s = .next (finish e stOk detail result resp s')) ∧
  (∀ h (t : Fin 64) exceptions count e s, startable 0x0205 none h e s → 1 ≤ count → count ≤ 1024 →
    (tree s t.val).bursts ≠ [] → (tree s t.val).exceptions ≠ [] →
    ∃ detail result resp s', exec (.burstRecordRead h t exceptions count) s = .next (finish e stOk detail result resp s')) ∧
  (∀ h p e s, startable 0x0301 none h e s → owns h kTree p.tree.val s = true → ownsDomain h p.domain.val s = true →
    p.wf = true → (terminal s p.tree.val p.terminal.val).admitted = false →
    (∀ x ∈ s.tr.terminals, x.2.admitted = true → x.2.serial ≠ p.serial) →
    ∃ detail result resp s', exec (.terminalAdmit h p) s = .next (finish e stOk detail result resp s')) ∧
  (∀ h (t : Fin 64) (i : Fin 512) e s, startable 0x0303 none h e s → owns h kTree t.val s = true →
    (terminal s t.val i.val).admitted = true → (terminal s t.val i.val).ranging = none →
    (∃ detail result resp s', exec (.terminalDisable h t i false) s = .next (finish e stOk detail result resp s')) ∧
    (∃ detail result resp s', exec (.terminalDisable h t i true) s = .next (finish e stOk detail result resp s'))) ∧
  (∀ h (t : Fin 64) (i : Fin 512) e s, startable 0x0304 none h e s → owns h kTree t.val s = true →
    (terminal s t.val i.val).admitted = true →
    ∃ detail result resp s', exec (.terminalRemove h t i) s = .next (finish e stOk detail result resp s')) ∧
  (∀ h (t : Fin 64) (i : Fin 512) e s, startable 0x0302 (some { kind := 7, scope := t.val }) h e s →
    owns h kTree t.val s = true → (terminal s t.val i.val).admitted = true → (tree s t.val).enabled = true →
    ((terminal s t.val i.val).state = 2 ∨ (terminal s t.val i.val).state = 4) →
    (profileOf s t.val (terminal s t.val i.val).profile).isSome = true →
    exec (.terminalRange h t i) s = .next (setPhase e (.running (t.val * 512 + i.val)) (startRanging t.val i.val s)) ∧
      (terminal (startRanging t.val i.val s) t.val i.val).state = 3) ∧
  (∀ h (t : Fin 64) (i : Fin 512) e s, startable 0x0305 none h e s → (terminal s t.val i.val).admitted = true →
    ∃ detail result resp s', exec (.terminalStatus h t i) s = .next (finish e stOk detail result resp s')) ∧
  (∀ h (t : Fin 64) us e s, startable 0x0306 (some { kind := 7, scope := t.val }) h e s → owns h kTree t.val s = true →
    125 ≤ us → us ≤ 10000 → us % 125 = 0 → (tree s t.val).enabled = true →
    exec (.rogueProbe h t us) s = .next (setPhase e (.running (t.val + 64 * (tree s t.val).probeSeq)) (setTree s t.val
      { tree s t.val with
        probes := (tree s t.val).probes ++ [{ key := t.val + 64 * (tree s t.val).probeSeq, ends := s.now + us * 1000 }],
        probeSeq := (tree s t.val).probeSeq + 1 }))) ∧
  (∀ h (t : Fin 64) e s, startable 0x0307 none h e s → (tree s t.val).discovered ≠ [] →
    ∃ detail result resp s', exec (.discoveredRead h t) s = .next (finish e stOk detail result resp s')) ∧
  (∀ h p pins e s, startable 0x0400 none h e s → ownsAlloc h p.tree.val p.terminal.val s = true →
    (∀ x ∈ s.tr.allocs, x.2.present = true → x.2.tree = p.tree.val → x.1 ≠ p.ctx.val → x.2.allocId ≠ p.allocId) →
    (terminal s p.tree.val p.terminal.val).admitted = true →
    foreignCtx p.ctx.val p.tree.val p.terminal.val (alloc s p.ctx.val).present (alloc s p.ctx.val).tree (alloc s
      p.ctx.val).terminal = false →
    (tree s p.tree.val).configured = true → p.wf = true → 32768 ≤ p.ctx.val → 1024 ≤ p.allocId → p.allocId ≤ 16383 →
    furtherAllocs p.tree.val none s < 4096 → furtherAllocs p.tree.val (some p.terminal.val) s < 15 →
    admittedSum p.tree.val (some p.ctx.val) s + p.fixed + p.assured ≤ guaranteedLimit p.tree.val s →
    pinsFor p s = some pins →
    ∃ detail result resp s', exec (.allocConfigure h p) s = .next (finish e stOk detail result resp s')) ∧
  (∀ h (t : Fin 64) (ctx : Fin 65536) e s, startable 0x0401 none h e s →
    ownsAlloc h t.val (alloc s ctx.val).terminal s = true → 32768 ≤ ctx.val → (alloc s ctx.val).present = true →
    (alloc s ctx.val).tree = t.val →
    exec (.allocRemove h t ctx) s = .next (if (tree s t.val).enabled then setPhase e (.running ctx.val) (setAlloc s ctx.val
      { alloc s ctx.val with removing := true }) else finish e stOk 0 0 [] (setAlloc (beforeChange s) ctx.val {}))) ∧
  (∀ h p e s, startable 0x0402 none h e s → owns h kTree p.tree.val s = true →
    (terminal s p.tree.val p.terminal.val).admitted = true →
    (∀ x ∈ s.tr.ports, x.2.present = true → x.2.tree = p.tree.val → x.1 ≠ p.ctx.val → x.2.portId ≠ p.portId) →
    foreignCtx p.ctx.val p.tree.val p.terminal.val (portCtx s p.ctx.val).present (portCtx s p.ctx.val).tree (portCtx s
      p.ctx.val).terminal = false →
    (p.down = true → queueDomain p.downQueue.val s = some (terminal s p.tree.val p.terminal.val).domain) → p.wf = true →
    32768 ≤ p.ctx.val → 1024 ≤ p.portId → p.portId ≤ 65534 → furtherPorts p.tree.val none s < 16384 →
    furtherPorts p.tree.val (some p.terminal.val) s < 256 →
    ∃ detail result resp s', exec (.portConfigure h p) s = .next (finish e stOk detail result resp s')) ∧
  (∀ h (t : Fin 64) (ctx : Fin 131072) e s, startable 0x0403 none h e s → owns h kTree t.val s = true → 32768 ≤ ctx.val →
    ∃ detail result resp s', exec (.portRemove h t ctx) s = .next (finish e stOk detail result resp s')) ∧
  (∀ h (t : Fin 64) n limit e s, startable 0x0404 none h e s → owns h kTree t.val s = true →
    (tree s t.val).configured = true → 64 ≤ n → n ≤ 1024 → 0 < limit → limit < 2 ^ 32 → admittedSum t.val none s ≤ limit →
    ∃ detail result resp s', exec (.grantPolicySet h t n limit) s = .next (finish e stOk detail result resp s')) ∧
  (∀ h (t : Fin 64) (ctx : Fin 65536) e s, startable 0x0405 none h e s → isVf h.id.fn = false →
    (alloc s ctx.val).present = true → (alloc s ctx.val).tree = t.val →
    ∃ detail result resp s', exec (.allocStatus h t ctx) s = .next (finish e stOk detail result resp s')) ∧
  (∀ h p e s, startable 0x0406 none h e s → ownsDevice h s = true → p.wf = true →
    ∃ detail result resp s', exec (.coopInputConfigure h p) s = .next (finish e stOk detail result resp s'))

/-- Each of these occurrences has its own effect: the burst receiver (BURST_WINDOW_START, PROVISIONAL_LOCK, RELOCK,
DELIM_WINDOW_CLOSE, DELIMITER_ACCEPT, GRANTED_WINDOW_END, RSSI_TRIG, RSSI_READING, OUT_OF_WINDOW_ENERGY), discovery and ranging
(DISCOVERY_WINDOW, SERIAL_NUMBER_RESPONSE, RANGING_RESPONSE, RANGING_WINDOW_CLOSE, DRIFT_CORRECTION, ROGUE_PROBE_END),
downstream frames (DOWNSTREAM_FRAME_START, DUTY_CYCLE_ENTER), demand (QUEUE_REPORT, COOP_ANNOUNCEMENT, MAP_CLOSE) and
UPSTREAM_XGEM_FRAME. -/
def Obligations.TreeOccurrencesComplete : Prop :=
  (∀ (t : Fin 64) (w : WindowFacts) s g, (tree s t.val).enabled = true → protTransmits t.val s = true →
    (tree s t.val).scheduled.find? (fun x => decide (x.terminal = w.terminal.val) && decide (x.ranging = w.ranging) && decide
      (windowOpens t.val x s ≤ s.now)) = some g →
    exec (.burstWindowStart t w) s = .next (setTerminal (setTree s t.val
      { tree s t.val with
        scheduled := (tree s t.val).scheduled.erase g,
        window := some { record := { terminal := w.terminal.val, profile := (terminal s t.val w.terminal.val).profile, ranging := w.ranging } } })
      t.val w.terminal.val { terminal s t.val w.terminal.val with windowMap := g.superframe, windowCtxs := g.ctxs })) ∧
  (∀ (t : Fin 64) symbol amplitude s w p, (tree s t.val).window = some w → windowProfile t.val w s = some p →
    w.final = false → w.lock = none →
    exec (.provisionalLock t symbol amplitude) s = .next (setTree (wakeTree t.val s) t.val
      { tree s t.val with window := some { w with lock := some symbol, close := symbol + p.delimWindow } })) ∧
  (∀ (t : Fin 64) symbol amplitude s w p, (tree s t.val).window = some w → windowProfile t.val w s = some p →
    w.final = false → w.lock.isSome = true → delimiterComes t.val s = false →
    exec (.relock t symbol amplitude) s = .next (setTree s t.val
      { tree s t.val with
        window := some { w with lock := some symbol, close := symbol + p.delimWindow, stepRelock := true, record := { w.record with relocked := true } } })
      ∧ exec (.delimWindowClose t symbol) s = .next (setTree s t.val
      { tree s t.val with
        window := some { w with lock := some symbol, close := symbol + p.delimWindow, record := { w.record with relocked := true } } })) ∧
  (∀ (t : Fin 64) symbol amplitude offset s w p l, (tree s t.val).window = some w → windowProfile t.val w s = some p →
    w.final = false → w.lock = some l → l + p.minRelock + delimSymbols (tree s t.val).mode ≤ symbol + 1 →
    symbol ≤ w.close →
    ∃ w', exec (.delimiterAccept t symbol amplitude offset) s = .next (setTerminal (setTree s t.val
      { tree s t.val with window := some w' }) t.val w.record.terminal
      { terminal s t.val w.record.terminal with amplitude := amplitude }) ∧ w'.final = true ∧ w'.record.amplitude =
      amplitude ∧ w'.record.offset = offset ∧ w'.record.stamp = delimiterStamp t.val s) ∧
  (∀ (t : Fin 64) f s w, (tree s t.val).window = some w → w.final = false →
    ∃ s', exec (.grantedWindowEnd t f) s = .next s' ∧ (tree s' t.val).window = none ∧ (tree s' t.val).countBursts = satur 64
      ((tree s t.val).countBursts + 1) ∧ (tree s' t.val).bursts.head? = some
      { w.record with
        num := (tree s t.val).placed + 1, lateLock := w.stepRelock, noDelimiter := !w.stepRelock,
        noSignal := !w.stepRelock && !f.signalSeen }) ∧
  (∀ (t : Fin 64) s w, (tree s t.val).window = some w → w.record.strobe = 1 → readingPending (tree s t.val) = true →
    exec (.rssiTrig t false) s = .next (setTree s t.val
      { tree s t.val with window := some { w with record := { w.record with rssiSkipped := true, strobe := 3 } } })) ∧
  (∀ (t : Fin 64) raw s r, (tree s t.val).await.find? (fun x => decide (x.strobe = 2)) = some r →
    ∃ s', exec (.rssiReading t raw true) s = .next s' ∧ (tree s' t.val).bursts.head? = some
      { r with num := (tree s t.val).placed + 1, rssi := Config.rssiCentiDbm (raw % 65536), rssiValid := true, strobe := 3 }
      ∧ (tree s' t.val).await = (tree s t.val).await.erase r ∧ (terminal s' t.val r.terminal).rssi = Config.rssiCentiDbm
      (raw % 65536)) ∧
  (∀ (t : Fin 64) amplitude s, (cup s t.val).state = .active →
    ∃ s', exec (.outOfWindowEnergy t amplitude) s = .next s' ∧ (tree s' t.val).countOutOfWindow = satur 32 ((tree s
      t.val).countOutOfWindow + 1) ∧ (∀ u, u ≠ t.val → tree s' u = tree s u)) ∧
  (∀ (t : Fin 64) s, (tree s t.val).enabled = true → protTransmits t.val s = true →
    discoveryDue (tree s t.val) s.now = true → (tree s t.val).probes = [] →
    exec (.discoveryWindow t) s = .next (openQuiet t.val none
      (reachSpread t.val s + Config.responseSpread (tree s t.val).mode)
      (setTree s t.val { tree s t.val with lastDisc := some s.now }))) ∧
  (∀ (t : Fin 64) serial regId stamp s, (tree s t.val).enabled = true → strikesPinned t.val stamp s = false →
    (∀ x ∈ s.tr.terminals, x.1 / 512 = t.val → x.2.admitted = true → x.2.serial ≠ serial) →
    ∃ s', exec (.serialNumberResponse t serial regId stamp) s = .next s' ∧
      (tree s' t.val).discovered.head? = some (serial, stamp % 2 ^ 64) ∧ (tree s' t.val).discovered.length ≤ 64) ∧
  (∀ (t : Fin 64) (i : Fin 512) s r, (terminal s t.val i.val).ranging = some r → 2 ≤ r.left →
    rangingComes t.val i.val s = false →
    exec (.rangingWindowClose t i) s = .next (openRanging t.val i.val (setTerminal s t.val i.val
      { terminal s t.val i.val with ranging := some { r with left := r.left - 1 } }))) ∧
  (∀ (t : Fin 64) (i : Fin 512) grantStart delimStamp s, (terminal s t.val i.val).ranging.isSome = true →
    let rtd := roundTrip t.val i.val grantStart delimStamp s
    560000 ≤ rtd → rtd ≤ (tree s t.val).teqdNs * 16 →
    (tree s t.val).minReach * (32 * (tree s t.val).groupIndex * 1000) ≤ (rtd - 560000) * 299792458 →
    (rtd - 560000) * 299792458 ≤ (tree s t.val).maxReach * (32 * (tree s t.val).groupIndex * 1000) →
    exec (.rangingResponse t i grantStart delimStamp) s =
      .next (completeRunning 0x0302 (t.val * 512 + i.val) stOk 0
        (twos 32 (((tree s t.val).teqdNs * 16 : Int) - rtd) + rtd * 2 ^ 32) []
        (postTerminal t.val i.val 4 1 (emit (.ploam t.val i.val ploamRangingTime
            (sentEqd t.val (((tree s t.val).teqdNs * 16 : Int) - rtd) s))
          (setTerminal s t.val i.val { terminal s t.val i.val with
            state := 4, ranging := none, rtd := some rtd, eqd := ((tree s t.val).teqdNs * 16 : Int) - rtd,
            driftSum := 0, driftCount := 0, driftDue := none, missed := 0 }))))) ∧
  (∀ (t : Fin 64) (i : Fin 512) s d r, (terminal s t.val i.val).state = 4 → (terminal s t.val i.val).driftDue = some d →
    (terminal s t.val i.val).rtd = some r →
    ∃ s', exec (.driftCorrection t i) s = .next s' ∧ (terminal s' t.val i.val).rtd = some ((r : Int) + d).toNat ∧
      (terminal s' t.val i.val).eqd = ((tree s t.val).teqdNs * 16 : Int) - ((r : Int) + d).toNat ∧
      (terminal s' t.val i.val).driftDue = none) ∧
  (∀ (t : Fin 64) s p, (tree s t.val).probes.find? (fun x => decide (x.ends ≤ s.now)) = some p →
    exec (.rogueProbeEnd t) s = .next (completeRunning 0x0306 p.key stOk 0 (bit p.energy 0 + twos 16 p.maxAmp * 2 ^ 16) []
      (setTree s t.val { tree s t.val with probes := (tree s t.val).probes.erase p }))) ∧
  (∀ (t : Fin 64) f s, sendsFrames t.val s = true → runsOn 0x0202 t.val s = false → firstAligned t.val s = true →
    ∃ s', exec (.downstreamFrameStart t f) s = .next s' ∧ (tree s' t.val).superframe = nextSuperframe t.val s ∧
      (tree s' t.val).started = true ∧
      (downstreamPending t.val s = true → (tree s' t.val).duty = false ∧ (tree s' t.val).idleRun = 0)) ∧
  (∀ (t : Fin 64) s, (tree s t.val).enabled = true → (tree s t.val).duty = false → (tree s t.val).idleEnter ≠ 0 →
    (tree s t.val).idleEnter ≤ (tree s t.val).idleRun →
    exec (.dutyCycleEnter t) s = .next (moveCup t.val .gated 0 (setTree s t.val { tree s t.val with duty := true }))) ∧
  (∀ (t : Fin 64) (ctx : Fin 65536) bytes s, (alloc s ctx.val).present = true → (alloc s ctx.val).tree = t.val →
    exec (.queueReport t ctx bytes true) s = .next (setAlloc s ctx.val
      { alloc s ctx.val with
        reported := bytes, reportMap := (terminal s t.val (alloc s ctx.val).terminal).windowMap,
        grants := (alloc s ctx.val).grants.filter (fun g => decide ((terminal s t.val (alloc s ctx.val).terminal).windowMap < g.1)) })) ∧
  (∀ (c : CoopFrame) s, s.tr.coop.enable = true → c.etherType = s.tr.coop.etherType → (portEnt s c.port).enabled = true →
    portLanes c.port s ≠ [] → (∀ i ∈ portLanes c.port s, Nat.testBit s.tr.coop.laneMask i = true) →
    coopVersion c.payload = 1 →
    exec (.coopAnnouncement c) s = .next ((coopEntries c.payload).foldl (fun st x => coopEntry (coopDomain c s) x st) s)) ∧
  (∀ (t : Fin 64) s, (tree s t.val).enabled = true → protTransmits t.val s = true → mapAwaits t.val s = false →
    (∀ x ∈ s.tr.allocs, x.2.tree = t.val → x.2.removing = false) →
    ∃ s', exec (.mapClose t) s = .next s' ∧ (tree s' t.val).lastMap = nextMap t.val s ∧ (tree s' t.val).closeDue = false ∧ (∀
      u, u ≠ t.val → tree s' u = tree s u)) ∧
  (∀ (t : Fin 64) x s k c, (tree s t.val).enabled = true → protTransmits t.val s = true →
    ((tree s t.val).staleBurst = false ∨ x.first = true) → goneOf t.val x s = none →
    (checkedPorts s).find? (fun y => y.2.present && decide (y.2.tree = t.val) && decide (y.2.portId = x.portId)) = some (k, c) →
    c.terminal = x.grantTerminal.val → c.up = true → x.keyIndex = 0 →
    bytesOf (queue s (65536 + x.ctx.val)).onDie + x.length ≤ 1048576 →
    ∃ s' pk, exec (.upstreamXgemFrame t x) s = .next s' ∧ (queue s' (65536 + x.ctx.val)).onDie = (queue s (65536 +
      x.ctx.val)).onDie ++ [pk] ∧ pk.length = x.length ∧ tagDomain pk.tag = (terminal s t.val x.grantTerminal.val).domain
      % 4096)

/-- Each of these commands completes: LINE_CONFIGURE, LINE_ENABLE, LINE_DISABLE, LINE_STATUS, LINE_QUALITY, PREDISTORTION_LOAD,
LINE_ADJUST; FRAMER_CONFIGURE, TRIBUTARY_CONFIGURE, TRIBUTARY_REMOVE, FRAMER_STATUS, TTI_SET, DELAY_MEASURE, TTI_READ. What
each leaves beyond its final OK is in LineAndFramerCommandsComplete. -/
def Obligations.CommandsOfRanges05And06Complete : Prop :=
  (∀ h (l : Fin 4) power e s c s1, startable 0x0501 (some { kind := 8, scope := l.val }) h e s →
    owns h kLine l.val s = true → lineBusy l.val s = false → (portEnt s (0x40 + l.val)).enabled = false →
    (cup s (64 + l.val)).state = .active → (line s l.val).cfg = some c → framerFits l.val c s = true → 1300 ≤ power →
    lanternOf l.val s = true → enablePort (0x40 + l.val) (lineRate c) s = .placed s1 →
    ∃ detail result resp s', exec (.lineEnable h l power) s = .next (finish e stOk detail result resp s')) ∧
  (∀ h (l : Fin 4) e s, startable 0x0502 none h e s → owns h kLine l.val s = true → lineBusy l.val s = false →
    exec (.lineDisable h l) s = .next (if (line s l.val).enabled = true then
        setPhase e (.running l.val) (stopLine l.val s)
      else finish e stOk 0 0 [] s)) ∧
  (∀ h (l : Fin 4) power temp e s, startable 0x0503 none h e s → lineBusy l.val s = false →
    ∃ detail result resp s', exec (.lineStatus h l power temp) s = .next (finish e stOk detail result resp s')) ∧
  (∀ h (l : Fin 4) clear counts m e s, startable 0x0504 none h e s → lineBusy l.val s = false →
    (line s l.val).lockedOnce = true → (clear = true → owns h kLine l.val s = true) →
    ∃ detail result resp s', exec (.lineQuality h l clear counts m) s = .next (finish e stOk detail result resp s')) ∧
  (∀ h (l : Fin 4) taps e s, startable 0x0505 none h e s → owns h kLine l.val s = true → tapsOk taps = true →
    lineBusy l.val s = false → (line s l.val).cfg = none → (line s l.val).enabled = false →
    ∃ detail result resp s', exec (.predistortionLoad h l taps) s = .next (finish e stOk detail result resp s')) ∧
  (∀ h p e s c, startable 0x0506 none h e s → owns h kLine p.line.val s = true → p.wf = true →
    lineBusy p.line.val s = false → (line s p.line.val).enabled = true → (line s p.line.val).cfg = some c →
    ∃ detail result resp s', exec (.lineAdjust h p) s = .next (finish e stOk detail result resp s')) ∧
  (∀ h p e s, startable 0x0600 none h e s → owns h kLine p.line.val s = true → (cup s (64 + p.line.val)).state = .active →
    (line s p.line.val).enabled = false → p.wf = true →
    ∃ detail result resp s', exec (.framerConfigure h p) s = .next (finish e stOk detail result resp s')) ∧
  (∀ h (l : Fin 4) (t : Fin 32) mask e s, startable 0x0601 none h e s → owns h kLine l.val s = true →
    (cup s (64 + l.val)).state = .active →
    (∀ u, u < 32 → u ≠ t.val → ((tributary s l.val u).slots ||| ((tributary s l.val u).change.getD 0)) &&& mask = 0) →
    mask ≠ 0 → mask < 2 ^ (20 * framerRate l.val s) → tributaryExists (tributary s l.val t.val) = false →
    ∃ detail result resp s', exec (.tributaryConfigure h l t mask) s = .next (finish e stOk detail result resp s')) ∧
  (∀ h (l : Fin 4) (t : Fin 32) e s, startable 0x0602 none h e s → owns h kLine l.val s = true →
    (cup s (64 + l.val)).state = .active → tributaryExists (tributary s l.val t.val) = true →
    exec (.tributaryRemove h l t) s = .next (if framing l.val s then
        setPhase e (.running (l.val * 32 + t.val)) (changeLayout l.val t.val 0 s)
      else finish e stOk 0 0 [] (changeLayout l.val t.val 0 s))) ∧
  (∀ h (l : Fin 4) e s, startable 0x0603 none h e s → (cup s (64 + l.val)).state = .active →
    ∃ detail result resp s', exec (.framerStatus h l) s = .next (finish e stOk detail result resp s')) ∧
  (∀ h p e s, startable 0x0604 none h e s → owns h kLine p.line.val s = true → (cup s (64 + p.line.val)).state = .active →
    p.wf = true → ∃ detail result resp s', exec (.ttiSet h p) s = .next (finish e stOk detail result resp s')) ∧
  (∀ h (l : Fin 4) e s, startable 0x0605 none h e s → owns h kLine l.val s = true → (cup s (64 + l.val)).state = .active →
    framing l.val s = true → (framer s l.val).measuring = false →
    exec (.delayMeasure h l) s = .next (setPhase e (.running l.val)
      (setFramer s l.val { framer s l.val with measuring := true, dmpOut := !(framer s l.val).dmpOut, dmSent := none }))) ∧
  (∀ h (l : Fin 4) e s x, startable 0x0606 none h e s → (cup s (64 + l.val)).state = .active →
    (framer s l.val).sm.accepted = some x →
    ∃ detail result resp s', exec (.ttiRead h l) s = .next (finish e stOk detail result resp s'))
end

