-- ==== Sys2Proof/Laws/Maps.lean ====
section
/-!
SUPPORT. The laws of a keyed table: a read after a write, the other instances, and its canonical form, which every write keeps.
-/
namespace Sys2Proof.Machine

variable {α : Type}

@[simp] theorem tget_nil (d : α) (k : Nat) : tget d k [] = d := rfl

theorem tget_tins_same (d : α) (k : Nat) (v : α) (t : Table α) : tget d k (tins k v t) = v := by
  induction t with
  | nil => simp [tins, tget]
  | cons e t ih =>
    obtain ⟨j, w⟩ := e
    unfold tins
    split
    · simp [tget]
    · split
      · simp [tget]
      · rename_i h
        simp [tget, h, ih]

theorem tget_tins_other (d : α) (j k : Nat) (v : α) (t : Table α) (h : j ≠ k) : tget d j (tins k v t) = tget d j t := by
  induction t with
  | nil => simp [tins, tget, h]
  | cons e t ih =>
    obtain ⟨i, w⟩ := e
    unfold tins
    split
    · simp [tget, h]
    · split
      · rename_i h2
        simp [tget, h, ← h2]
      · simp [tget, ih]

theorem tget_filter_ne_same (d : α) (k : Nat) (t : Table α) :
    tget d k (t.filter (fun e => decide (e.1 ≠ k))) = d := by
  induction t with
  | nil => rfl
  | cons e t ih =>
    obtain ⟨i, w⟩ := e
    by_cases h : i = k
    · simpa [List.filter, h] using ih
    · have h' : ¬k = i := fun x => h x.symm
      simpa [List.filter, h, tget, h'] using ih

theorem tget_filter_ne_other (d : α) (j k : Nat) (t : Table α) (h : j ≠ k) :
    tget d j (t.filter (fun e => decide (e.1 ≠ k))) = tget d j t := by
  induction t with
  | nil => rfl
  | cons e t ih =>
    obtain ⟨i, w⟩ := e
    by_cases h2 : i = k
    · have h3 : ¬j = i := by omega
      simpa [List.filter, h2, tget, h, h3] using ih
    · simp only [ne_eq, decide_not] at ih
      simp [List.filter, h2, tget, ih]

section

variable [DecidableEq α]

/-- A read after a write of the same instance gives the value written. -/
@[simp] theorem tget_tset_same (d : α) (k : Nat) (v : α) (t : Table α) : tget d k (tset d k v t) = v := by
  unfold tset
  split
  · rename_i h
    rw [tget_filter_ne_same, h]
  · exact tget_tins_same d k v t

/-- A write leaves every other instance alone. -/
theorem tget_tset_other (d : α) (j k : Nat) (v : α) (t : Table α) (h : j ≠ k) :
    tget d j (tset d k v t) = tget d j t := by
  unfold tset
  split
  · exact tget_filter_ne_other d j k t h
  · exact tget_tins_other d j k v t h

end

/-- The keys of a table lie above `k`. -/
def above (k : Nat) (t : Table α) : Prop := ∀ e ∈ t, k < e.1

/-- The canonical form, entry by entry. -/
theorem tableWf_cons [DecidableEq α] (d : α) (k : Nat) (v : α) (t : Table α) :
    tableWf d ((k, v) :: t) = true ↔ v ≠ d ∧ above k t ∧ tableWf d t = true := by
  induction t generalizing k v with
  | nil => simp [tableWf, above]
  | cons e t ih =>
    obtain ⟨j, w⟩ := e
    have h := ih j w
    simp only [tableWf, Bool.and_eq_true, decide_eq_true_eq]
    constructor
    · rintro ⟨⟨a, b⟩, c⟩
      refine ⟨a, ?_, c⟩
      intro x hx
      rcases List.mem_cons.1 hx with rfl | hx
      · exact b
      · have := (h.1 c).2.1 x hx
        omega
    · rintro ⟨a, b, c⟩
      exact ⟨⟨a, b (j, w) (by simp)⟩, c⟩

theorem above_tins (i k : Nat) (v : α) (t : Table α) (h : above i t) (hk : i < k) : above i (tins k v t) := by
  induction t with
  | nil =>
    intro x hx
    simp only [tins, List.mem_singleton] at hx
    subst hx
    exact hk
  | cons e t ih =>
    obtain ⟨j, w⟩ := e
    have hj : i < j := h (j, w) (by simp)
    have ht : above i t := fun x hx => h x (by simp [hx])
    unfold tins
    split
    · intro x hx
      rcases List.mem_cons.1 hx with rfl | hx
      · exact hk
      · exact h x hx
    · split
      · intro x hx
        rcases List.mem_cons.1 hx with rfl | hx
        · exact hk
        · exact ht x hx
      · intro x hx
        rcases List.mem_cons.1 hx with rfl | hx
        · exact hj
        · exact ih ht x hx

section

variable [DecidableEq α]

theorem tableWf_tins (d : α) (k : Nat) (v : α) (t : Table α) (hv : v ≠ d) (h : tableWf d t = true) :
    tableWf d (tins k v t) = true := by
  induction t with
  | nil => simp [tins, tableWf, hv]
  | cons e t ih =>
    obtain ⟨j, w⟩ := e
    obtain ⟨a, b, c⟩ := (tableWf_cons d j w t).1 h
    unfold tins
    split
    · rename_i hk
      refine (tableWf_cons d k v _).2 ⟨hv, ?_, h⟩
      intro x hx
      rcases List.mem_cons.1 hx with rfl | hx
      · exact hk
      · have := b x hx
        omega
    · split
      · rename_i hk
        subst hk
        exact (tableWf_cons d k v t).2 ⟨hv, b, c⟩
      · rename_i h1 h2
        exact (tableWf_cons d j w _).2 ⟨a, above_tins j k v t b (by omega), ih c⟩

theorem tableWf_filter (d : α) (p : Nat × α → Bool) (t : Table α) (h : tableWf d t = true) :
    tableWf d (t.filter p) = true := by
  induction t with
  | nil => exact h
  | cons e t ih =>
    obtain ⟨j, w⟩ := e
    obtain ⟨a, b, c⟩ := (tableWf_cons d j w t).1 h
    by_cases hp : p (j, w) = true
    · rw [List.filter_cons_of_pos hp]
      refine (tableWf_cons d j w _).2 ⟨a, ?_, ih c⟩
      intro x hx
      exact b x (List.mem_filter.1 hx).1
    · rw [List.filter_cons_of_neg hp]
      exact ih c

/-- A write keeps the canonical form. -/
theorem tableWf_tset (d : α) (k : Nat) (v : α) (t : Table α) (h : tableWf d t = true) :
    tableWf d (tset d k v t) = true := by
  unfold tset
  split
  · exact tableWf_filter d _ t h
  · rename_i hv
    exact tableWf_tins d k v t hv h

/-- Keeping some of the instances keeps the canonical form. -/
theorem tableWf_tkeep (d : α) (p : Nat → Bool) (t : Table α) (h : tableWf d t = true) :
    tableWf d (tkeep p t) = true := tableWf_filter d _ t h

theorem tget_above (d : α) (k : Nat) (t : Table α) (h : above k t) : tget d k t = d := by
  induction t with
  | nil => rfl
  | cons e t ih =>
    obtain ⟨j, w⟩ := e
    have hj : k < j := h (j, w) (by simp)
    have : k ≠ j := by omega
    simp only [tget, this, if_false]
    exact ih (fun x hx => h x (by simp [hx]))

/-- Reading after changing every listed instance by an `f` that keeps the default. -/
theorem tget_tmap (d : α) (f : Nat → α → α) (k : Nat) (t : Table α) (hf : f k d = d) (h : tableWf d t = true) :
    tget d k (tmap d f t) = f k (tget d k t) := by
  induction t with
  | nil => simp [tmap, hf]
  | cons e t ih =>
    obtain ⟨j, w⟩ := e
    obtain ⟨-, ha, ht⟩ := (tableWf_cons d j w t).1 h
    have ih := ih ht
    by_cases hk : k = j
    · subst hk
      by_cases hw : f k w = d
      · rw [tget_above d k t ha, hf] at ih
        simpa [tmap, tget, hw] using ih
      · simp [tmap, tget, hw]
    · by_cases hw : f j w = d
      · simpa [tmap, tget, hw, hk] using ih
      · simpa [tmap, tget, hw, hk] using ih

end

end Sys2Proof.Machine
end

