-- ==== Sys2Proof/Laws/State.lean ====
section
/-!
SUPPORT. The laws of the state's accessors: which component each update leaves as it was, and a read after a write.
-/
namespace Sys2Proof.Machine

/-! ## setRing -/

@[simp] theorem setRing_pending (s : State) (fn k : Nat) (r : Ring) : (setRing s fn k r).pending = s.pending := rfl
@[simp] theorem setRing_now (s : State) (fn k : Nat) (r : Ring) : (setRing s fn k r).now = s.now := rfl
@[simp] theorem setRing_draws (s : State) (fn k : Nat) (r : Ring) : (setRing s fn k r).draws = s.draws := rfl
@[simp] theorem setRing_out (s : State) (fn k : Nat) (r : Ring) : (setRing s fn k r).out = s.out := rfl
@[simp] theorem setRing_ses (s : State) (fn k : Nat) (r : Ring) : (setRing s fn k r).ses = s.ses := rfl
@[simp] theorem setRing_ev (s : State) (fn k : Nat) (r : Ring) : (setRing s fn k r).ev = s.ev := rfl
@[simp] theorem setRing_pwr (s : State) (fn k : Nat) (r : Ring) : (setRing s fn k r).pwr = s.pwr := rfl
@[simp] theorem setRing_boot (s : State) (fn k : Nat) (r : Ring) : (setRing s fn k r).boot = s.boot := rfl
@[simp] theorem setRing_time (s : State) (fn k : Nat) (r : Ring) : (setRing s fn k r).time = s.time := rfl
@[simp] theorem setRing_tr (s : State) (fn k : Nat) (r : Ring) : (setRing s fn k r).tr = s.tr := rfl
@[simp] theorem setRing_pe (s : State) (fn k : Nat) (r : Ring) : (setRing s fn k r).pe = s.pe := rfl
@[simp] theorem setRing_line (s : State) (fn k : Nat) (r : Ring) : (setRing s fn k r).line = s.line := rfl
@[simp] theorem setRing_frm (s : State) (fn k : Nat) (r : Ring) : (setRing s fn k r).frm = s.frm := rfl
@[simp] theorem setRing_cph (s : State) (fn k : Nat) (r : Ring) : (setRing s fn k r).cph = s.cph := rfl
@[simp] theorem setRing_pool (s : State) (fn k : Nat) (r : Ring) : (setRing s fn k r).pool = s.pool := rfl
@[simp] theorem setRing_prot (s : State) (fn k : Nat) (r : Ring) : (setRing s fn k r).prot = s.prot := rfl
@[simp] theorem setRing_fab (s : State) (fn k : Nat) (r : Ring) : (setRing s fn k r).fab = s.fab := rfl
@[simp] theorem setRing_mem (s : State) (fn k : Nat) (r : Ring) : (setRing s fn k r).mem = s.mem := rfl
@[simp] theorem setRing_tap (s : State) (fn k : Nat) (r : Ring) : (setRing s fn k r).tap = s.tap := rfl

/-! ## setFnRegs -/

@[simp] theorem setFnRegs_pending (s : State) (fn : Nat) (r : FnRegs) : (setFnRegs s fn r).pending = s.pending := rfl
@[simp] theorem setFnRegs_now (s : State) (fn : Nat) (r : FnRegs) : (setFnRegs s fn r).now = s.now := rfl
@[simp] theorem setFnRegs_draws (s : State) (fn : Nat) (r : FnRegs) : (setFnRegs s fn r).draws = s.draws := rfl
@[simp] theorem setFnRegs_out (s : State) (fn : Nat) (r : FnRegs) : (setFnRegs s fn r).out = s.out := rfl
@[simp] theorem setFnRegs_ses (s : State) (fn : Nat) (r : FnRegs) : (setFnRegs s fn r).ses = s.ses := rfl
@[simp] theorem setFnRegs_ev (s : State) (fn : Nat) (r : FnRegs) : (setFnRegs s fn r).ev = s.ev := rfl
@[simp] theorem setFnRegs_pwr (s : State) (fn : Nat) (r : FnRegs) : (setFnRegs s fn r).pwr = s.pwr := rfl
@[simp] theorem setFnRegs_boot (s : State) (fn : Nat) (r : FnRegs) : (setFnRegs s fn r).boot = s.boot := rfl
@[simp] theorem setFnRegs_time (s : State) (fn : Nat) (r : FnRegs) : (setFnRegs s fn r).time = s.time := rfl
@[simp] theorem setFnRegs_tr (s : State) (fn : Nat) (r : FnRegs) : (setFnRegs s fn r).tr = s.tr := rfl
@[simp] theorem setFnRegs_pe (s : State) (fn : Nat) (r : FnRegs) : (setFnRegs s fn r).pe = s.pe := rfl
@[simp] theorem setFnRegs_line (s : State) (fn : Nat) (r : FnRegs) : (setFnRegs s fn r).line = s.line := rfl
@[simp] theorem setFnRegs_frm (s : State) (fn : Nat) (r : FnRegs) : (setFnRegs s fn r).frm = s.frm := rfl
@[simp] theorem setFnRegs_cph (s : State) (fn : Nat) (r : FnRegs) : (setFnRegs s fn r).cph = s.cph := rfl
@[simp] theorem setFnRegs_pool (s : State) (fn : Nat) (r : FnRegs) : (setFnRegs s fn r).pool = s.pool := rfl
@[simp] theorem setFnRegs_prot (s : State) (fn : Nat) (r : FnRegs) : (setFnRegs s fn r).prot = s.prot := rfl
@[simp] theorem setFnRegs_fab (s : State) (fn : Nat) (r : FnRegs) : (setFnRegs s fn r).fab = s.fab := rfl
@[simp] theorem setFnRegs_mem (s : State) (fn : Nat) (r : FnRegs) : (setFnRegs s fn r).mem = s.mem := rfl
@[simp] theorem setFnRegs_tap (s : State) (fn : Nat) (r : FnRegs) : (setFnRegs s fn r).tap = s.tap := rfl

/-! ## setHeld -/

@[simp] theorem setHeld_pending (s : State) (h : List Held) : (setHeld s h).pending = s.pending := rfl
@[simp] theorem setHeld_now (s : State) (h : List Held) : (setHeld s h).now = s.now := rfl
@[simp] theorem setHeld_draws (s : State) (h : List Held) : (setHeld s h).draws = s.draws := rfl
@[simp] theorem setHeld_out (s : State) (h : List Held) : (setHeld s h).out = s.out := rfl
@[simp] theorem setHeld_ses (s : State) (h : List Held) : (setHeld s h).ses = s.ses := rfl
@[simp] theorem setHeld_ev (s : State) (h : List Held) : (setHeld s h).ev = s.ev := rfl
@[simp] theorem setHeld_pwr (s : State) (h : List Held) : (setHeld s h).pwr = s.pwr := rfl
@[simp] theorem setHeld_boot (s : State) (h : List Held) : (setHeld s h).boot = s.boot := rfl
@[simp] theorem setHeld_time (s : State) (h : List Held) : (setHeld s h).time = s.time := rfl
@[simp] theorem setHeld_tr (s : State) (h : List Held) : (setHeld s h).tr = s.tr := rfl
@[simp] theorem setHeld_pe (s : State) (h : List Held) : (setHeld s h).pe = s.pe := rfl
@[simp] theorem setHeld_line (s : State) (h : List Held) : (setHeld s h).line = s.line := rfl
@[simp] theorem setHeld_frm (s : State) (h : List Held) : (setHeld s h).frm = s.frm := rfl
@[simp] theorem setHeld_cph (s : State) (h : List Held) : (setHeld s h).cph = s.cph := rfl
@[simp] theorem setHeld_pool (s : State) (h : List Held) : (setHeld s h).pool = s.pool := rfl
@[simp] theorem setHeld_prot (s : State) (h : List Held) : (setHeld s h).prot = s.prot := rfl
@[simp] theorem setHeld_fab (s : State) (h : List Held) : (setHeld s h).fab = s.fab := rfl
@[simp] theorem setHeld_mem (s : State) (h : List Held) : (setHeld s h).mem = s.mem := rfl
@[simp] theorem setHeld_tap (s : State) (h : List Held) : (setHeld s h).tap = s.tap := rfl

/-! ## setSession -/

@[simp] theorem setSession_pending (s : State) (h : Nat) (v : Session) : (setSession s h v).pending = s.pending := rfl
@[simp] theorem setSession_now (s : State) (h : Nat) (v : Session) : (setSession s h v).now = s.now := rfl
@[simp] theorem setSession_draws (s : State) (h : Nat) (v : Session) : (setSession s h v).draws = s.draws := rfl
@[simp] theorem setSession_out (s : State) (h : Nat) (v : Session) : (setSession s h v).out = s.out := rfl
@[simp] theorem setSession_mbx (s : State) (h : Nat) (v : Session) : (setSession s h v).mbx = s.mbx := rfl
@[simp] theorem setSession_ev (s : State) (h : Nat) (v : Session) : (setSession s h v).ev = s.ev := rfl
@[simp] theorem setSession_pwr (s : State) (h : Nat) (v : Session) : (setSession s h v).pwr = s.pwr := rfl
@[simp] theorem setSession_boot (s : State) (h : Nat) (v : Session) : (setSession s h v).boot = s.boot := rfl
@[simp] theorem setSession_time (s : State) (h : Nat) (v : Session) : (setSession s h v).time = s.time := rfl
@[simp] theorem setSession_tr (s : State) (h : Nat) (v : Session) : (setSession s h v).tr = s.tr := rfl
@[simp] theorem setSession_pe (s : State) (h : Nat) (v : Session) : (setSession s h v).pe = s.pe := rfl
@[simp] theorem setSession_line (s : State) (h : Nat) (v : Session) : (setSession s h v).line = s.line := rfl
@[simp] theorem setSession_frm (s : State) (h : Nat) (v : Session) : (setSession s h v).frm = s.frm := rfl
@[simp] theorem setSession_cph (s : State) (h : Nat) (v : Session) : (setSession s h v).cph = s.cph := rfl
@[simp] theorem setSession_pool (s : State) (h : Nat) (v : Session) : (setSession s h v).pool = s.pool := rfl
@[simp] theorem setSession_prot (s : State) (h : Nat) (v : Session) : (setSession s h v).prot = s.prot := rfl
@[simp] theorem setSession_fab (s : State) (h : Nat) (v : Session) : (setSession s h v).fab = s.fab := rfl
@[simp] theorem setSession_mem (s : State) (h : Nat) (v : Session) : (setSession s h v).mem = s.mem := rfl
@[simp] theorem setSession_tap (s : State) (h : Nat) (v : Session) : (setSession s h v).tap = s.tap := rfl

/-! ## setOwn -/

@[simp] theorem setOwn_pending (s : State) (kind idx : Nat) (o : Own) : (setOwn s kind idx o).pending = s.pending := rfl
@[simp] theorem setOwn_now (s : State) (kind idx : Nat) (o : Own) : (setOwn s kind idx o).now = s.now := rfl
@[simp] theorem setOwn_draws (s : State) (kind idx : Nat) (o : Own) : (setOwn s kind idx o).draws = s.draws := rfl
@[simp] theorem setOwn_out (s : State) (kind idx : Nat) (o : Own) : (setOwn s kind idx o).out = s.out := rfl
@[simp] theorem setOwn_mbx (s : State) (kind idx : Nat) (o : Own) : (setOwn s kind idx o).mbx = s.mbx := rfl
@[simp] theorem setOwn_ev (s : State) (kind idx : Nat) (o : Own) : (setOwn s kind idx o).ev = s.ev := rfl
@[simp] theorem setOwn_pwr (s : State) (kind idx : Nat) (o : Own) : (setOwn s kind idx o).pwr = s.pwr := rfl
@[simp] theorem setOwn_boot (s : State) (kind idx : Nat) (o : Own) : (setOwn s kind idx o).boot = s.boot := rfl
@[simp] theorem setOwn_time (s : State) (kind idx : Nat) (o : Own) : (setOwn s kind idx o).time = s.time := rfl
@[simp] theorem setOwn_tr (s : State) (kind idx : Nat) (o : Own) : (setOwn s kind idx o).tr = s.tr := rfl
@[simp] theorem setOwn_pe (s : State) (kind idx : Nat) (o : Own) : (setOwn s kind idx o).pe = s.pe := rfl
@[simp] theorem setOwn_line (s : State) (kind idx : Nat) (o : Own) : (setOwn s kind idx o).line = s.line := rfl
@[simp] theorem setOwn_frm (s : State) (kind idx : Nat) (o : Own) : (setOwn s kind idx o).frm = s.frm := rfl
@[simp] theorem setOwn_cph (s : State) (kind idx : Nat) (o : Own) : (setOwn s kind idx o).cph = s.cph := rfl
@[simp] theorem setOwn_pool (s : State) (kind idx : Nat) (o : Own) : (setOwn s kind idx o).pool = s.pool := rfl
@[simp] theorem setOwn_prot (s : State) (kind idx : Nat) (o : Own) : (setOwn s kind idx o).prot = s.prot := rfl
@[simp] theorem setOwn_fab (s : State) (kind idx : Nat) (o : Own) : (setOwn s kind idx o).fab = s.fab := rfl
@[simp] theorem setOwn_mem (s : State) (kind idx : Nat) (o : Own) : (setOwn s kind idx o).mem = s.mem := rfl
@[simp] theorem setOwn_tap (s : State) (kind idx : Nat) (o : Own) : (setOwn s kind idx o).tap = s.tap := rfl

/-! ## setTree -/

@[simp] theorem setTree_pending (s : State) (t : Nat) (v : Tree) : (setTree s t v).pending = s.pending := rfl
@[simp] theorem setTree_now (s : State) (t : Nat) (v : Tree) : (setTree s t v).now = s.now := rfl
@[simp] theorem setTree_draws (s : State) (t : Nat) (v : Tree) : (setTree s t v).draws = s.draws := rfl
@[simp] theorem setTree_out (s : State) (t : Nat) (v : Tree) : (setTree s t v).out = s.out := rfl
@[simp] theorem setTree_mbx (s : State) (t : Nat) (v : Tree) : (setTree s t v).mbx = s.mbx := rfl
@[simp] theorem setTree_ses (s : State) (t : Nat) (v : Tree) : (setTree s t v).ses = s.ses := rfl
@[simp] theorem setTree_ev (s : State) (t : Nat) (v : Tree) : (setTree s t v).ev = s.ev := rfl
@[simp] theorem setTree_pwr (s : State) (t : Nat) (v : Tree) : (setTree s t v).pwr = s.pwr := rfl
@[simp] theorem setTree_boot (s : State) (t : Nat) (v : Tree) : (setTree s t v).boot = s.boot := rfl
@[simp] theorem setTree_time (s : State) (t : Nat) (v : Tree) : (setTree s t v).time = s.time := rfl
@[simp] theorem setTree_pe (s : State) (t : Nat) (v : Tree) : (setTree s t v).pe = s.pe := rfl
@[simp] theorem setTree_line (s : State) (t : Nat) (v : Tree) : (setTree s t v).line = s.line := rfl
@[simp] theorem setTree_frm (s : State) (t : Nat) (v : Tree) : (setTree s t v).frm = s.frm := rfl
@[simp] theorem setTree_cph (s : State) (t : Nat) (v : Tree) : (setTree s t v).cph = s.cph := rfl
@[simp] theorem setTree_pool (s : State) (t : Nat) (v : Tree) : (setTree s t v).pool = s.pool := rfl
@[simp] theorem setTree_prot (s : State) (t : Nat) (v : Tree) : (setTree s t v).prot = s.prot := rfl
@[simp] theorem setTree_fab (s : State) (t : Nat) (v : Tree) : (setTree s t v).fab = s.fab := rfl
@[simp] theorem setTree_mem (s : State) (t : Nat) (v : Tree) : (setTree s t v).mem = s.mem := rfl
@[simp] theorem setTree_tap (s : State) (t : Nat) (v : Tree) : (setTree s t v).tap = s.tap := rfl

/-! ## setTerminal -/

@[simp] theorem setTerminal_pending (s : State) (t i : Nat) (v : Terminal) : (setTerminal s t i v).pending = s.pending := rfl
@[simp] theorem setTerminal_now (s : State) (t i : Nat) (v : Terminal) : (setTerminal s t i v).now = s.now := rfl
@[simp] theorem setTerminal_draws (s : State) (t i : Nat) (v : Terminal) : (setTerminal s t i v).draws = s.draws := rfl
@[simp] theorem setTerminal_out (s : State) (t i : Nat) (v : Terminal) : (setTerminal s t i v).out = s.out := rfl
@[simp] theorem setTerminal_mbx (s : State) (t i : Nat) (v : Terminal) : (setTerminal s t i v).mbx = s.mbx := rfl
@[simp] theorem setTerminal_ses (s : State) (t i : Nat) (v : Terminal) : (setTerminal s t i v).ses = s.ses := rfl
@[simp] theorem setTerminal_ev (s : State) (t i : Nat) (v : Terminal) : (setTerminal s t i v).ev = s.ev := rfl
@[simp] theorem setTerminal_pwr (s : State) (t i : Nat) (v : Terminal) : (setTerminal s t i v).pwr = s.pwr := rfl
@[simp] theorem setTerminal_boot (s : State) (t i : Nat) (v : Terminal) : (setTerminal s t i v).boot = s.boot := rfl
@[simp] theorem setTerminal_time (s : State) (t i : Nat) (v : Terminal) : (setTerminal s t i v).time = s.time := rfl
@[simp] theorem setTerminal_pe (s : State) (t i : Nat) (v : Terminal) : (setTerminal s t i v).pe = s.pe := rfl
@[simp] theorem setTerminal_line (s : State) (t i : Nat) (v : Terminal) : (setTerminal s t i v).line = s.line := rfl
@[simp] theorem setTerminal_frm (s : State) (t i : Nat) (v : Terminal) : (setTerminal s t i v).frm = s.frm := rfl
@[simp] theorem setTerminal_cph (s : State) (t i : Nat) (v : Terminal) : (setTerminal s t i v).cph = s.cph := rfl
@[simp] theorem setTerminal_pool (s : State) (t i : Nat) (v : Terminal) : (setTerminal s t i v).pool = s.pool := rfl
@[simp] theorem setTerminal_prot (s : State) (t i : Nat) (v : Terminal) : (setTerminal s t i v).prot = s.prot := rfl
@[simp] theorem setTerminal_fab (s : State) (t i : Nat) (v : Terminal) : (setTerminal s t i v).fab = s.fab := rfl
@[simp] theorem setTerminal_mem (s : State) (t i : Nat) (v : Terminal) : (setTerminal s t i v).mem = s.mem := rfl
@[simp] theorem setTerminal_tap (s : State) (t i : Nat) (v : Terminal) : (setTerminal s t i v).tap = s.tap := rfl

/-! ## setAlloc -/

@[simp] theorem setAlloc_pending (s : State) (a : Nat) (v : Alloc) : (setAlloc s a v).pending = s.pending := rfl
@[simp] theorem setAlloc_now (s : State) (a : Nat) (v : Alloc) : (setAlloc s a v).now = s.now := rfl
@[simp] theorem setAlloc_draws (s : State) (a : Nat) (v : Alloc) : (setAlloc s a v).draws = s.draws := rfl
@[simp] theorem setAlloc_out (s : State) (a : Nat) (v : Alloc) : (setAlloc s a v).out = s.out := rfl
@[simp] theorem setAlloc_mbx (s : State) (a : Nat) (v : Alloc) : (setAlloc s a v).mbx = s.mbx := rfl
@[simp] theorem setAlloc_ses (s : State) (a : Nat) (v : Alloc) : (setAlloc s a v).ses = s.ses := rfl
@[simp] theorem setAlloc_ev (s : State) (a : Nat) (v : Alloc) : (setAlloc s a v).ev = s.ev := rfl
@[simp] theorem setAlloc_pwr (s : State) (a : Nat) (v : Alloc) : (setAlloc s a v).pwr = s.pwr := rfl
@[simp] theorem setAlloc_boot (s : State) (a : Nat) (v : Alloc) : (setAlloc s a v).boot = s.boot := rfl
@[simp] theorem setAlloc_time (s : State) (a : Nat) (v : Alloc) : (setAlloc s a v).time = s.time := rfl
@[simp] theorem setAlloc_pe (s : State) (a : Nat) (v : Alloc) : (setAlloc s a v).pe = s.pe := rfl
@[simp] theorem setAlloc_line (s : State) (a : Nat) (v : Alloc) : (setAlloc s a v).line = s.line := rfl
@[simp] theorem setAlloc_frm (s : State) (a : Nat) (v : Alloc) : (setAlloc s a v).frm = s.frm := rfl
@[simp] theorem setAlloc_cph (s : State) (a : Nat) (v : Alloc) : (setAlloc s a v).cph = s.cph := rfl
@[simp] theorem setAlloc_pool (s : State) (a : Nat) (v : Alloc) : (setAlloc s a v).pool = s.pool := rfl
@[simp] theorem setAlloc_prot (s : State) (a : Nat) (v : Alloc) : (setAlloc s a v).prot = s.prot := rfl
@[simp] theorem setAlloc_fab (s : State) (a : Nat) (v : Alloc) : (setAlloc s a v).fab = s.fab := rfl
@[simp] theorem setAlloc_mem (s : State) (a : Nat) (v : Alloc) : (setAlloc s a v).mem = s.mem := rfl
@[simp] theorem setAlloc_tap (s : State) (a : Nat) (v : Alloc) : (setAlloc s a v).tap = s.tap := rfl

/-! ## setPortCtx -/

@[simp] theorem setPortCtx_pending (s : State) (p : Nat) (v : PortCtx) : (setPortCtx s p v).pending = s.pending := rfl
@[simp] theorem setPortCtx_now (s : State) (p : Nat) (v : PortCtx) : (setPortCtx s p v).now = s.now := rfl
@[simp] theorem setPortCtx_draws (s : State) (p : Nat) (v : PortCtx) : (setPortCtx s p v).draws = s.draws := rfl
@[simp] theorem setPortCtx_out (s : State) (p : Nat) (v : PortCtx) : (setPortCtx s p v).out = s.out := rfl
@[simp] theorem setPortCtx_mbx (s : State) (p : Nat) (v : PortCtx) : (setPortCtx s p v).mbx = s.mbx := rfl
@[simp] theorem setPortCtx_ses (s : State) (p : Nat) (v : PortCtx) : (setPortCtx s p v).ses = s.ses := rfl
@[simp] theorem setPortCtx_ev (s : State) (p : Nat) (v : PortCtx) : (setPortCtx s p v).ev = s.ev := rfl
@[simp] theorem setPortCtx_pwr (s : State) (p : Nat) (v : PortCtx) : (setPortCtx s p v).pwr = s.pwr := rfl
@[simp] theorem setPortCtx_boot (s : State) (p : Nat) (v : PortCtx) : (setPortCtx s p v).boot = s.boot := rfl
@[simp] theorem setPortCtx_time (s : State) (p : Nat) (v : PortCtx) : (setPortCtx s p v).time = s.time := rfl
@[simp] theorem setPortCtx_pe (s : State) (p : Nat) (v : PortCtx) : (setPortCtx s p v).pe = s.pe := rfl
@[simp] theorem setPortCtx_line (s : State) (p : Nat) (v : PortCtx) : (setPortCtx s p v).line = s.line := rfl
@[simp] theorem setPortCtx_frm (s : State) (p : Nat) (v : PortCtx) : (setPortCtx s p v).frm = s.frm := rfl
@[simp] theorem setPortCtx_cph (s : State) (p : Nat) (v : PortCtx) : (setPortCtx s p v).cph = s.cph := rfl
@[simp] theorem setPortCtx_pool (s : State) (p : Nat) (v : PortCtx) : (setPortCtx s p v).pool = s.pool := rfl
@[simp] theorem setPortCtx_prot (s : State) (p : Nat) (v : PortCtx) : (setPortCtx s p v).prot = s.prot := rfl
@[simp] theorem setPortCtx_fab (s : State) (p : Nat) (v : PortCtx) : (setPortCtx s p v).fab = s.fab := rfl
@[simp] theorem setPortCtx_mem (s : State) (p : Nat) (v : PortCtx) : (setPortCtx s p v).mem = s.mem := rfl
@[simp] theorem setPortCtx_tap (s : State) (p : Nat) (v : PortCtx) : (setPortCtx s p v).tap = s.tap := rfl

/-! ## setEvq -/

@[simp] theorem setEvq_pending (s : State) (q : Nat) (e : Evq) : (setEvq s q e).pending = s.pending := rfl
@[simp] theorem setEvq_now (s : State) (q : Nat) (e : Evq) : (setEvq s q e).now = s.now := rfl
@[simp] theorem setEvq_draws (s : State) (q : Nat) (e : Evq) : (setEvq s q e).draws = s.draws := rfl
@[simp] theorem setEvq_out (s : State) (q : Nat) (e : Evq) : (setEvq s q e).out = s.out := rfl
@[simp] theorem setEvq_mbx (s : State) (q : Nat) (e : Evq) : (setEvq s q e).mbx = s.mbx := rfl
@[simp] theorem setEvq_ses (s : State) (q : Nat) (e : Evq) : (setEvq s q e).ses = s.ses := rfl
@[simp] theorem setEvq_pwr (s : State) (q : Nat) (e : Evq) : (setEvq s q e).pwr = s.pwr := rfl
@[simp] theorem setEvq_boot (s : State) (q : Nat) (e : Evq) : (setEvq s q e).boot = s.boot := rfl
@[simp] theorem setEvq_time (s : State) (q : Nat) (e : Evq) : (setEvq s q e).time = s.time := rfl
@[simp] theorem setEvq_tr (s : State) (q : Nat) (e : Evq) : (setEvq s q e).tr = s.tr := rfl
@[simp] theorem setEvq_pe (s : State) (q : Nat) (e : Evq) : (setEvq s q e).pe = s.pe := rfl
@[simp] theorem setEvq_line (s : State) (q : Nat) (e : Evq) : (setEvq s q e).line = s.line := rfl
@[simp] theorem setEvq_frm (s : State) (q : Nat) (e : Evq) : (setEvq s q e).frm = s.frm := rfl
@[simp] theorem setEvq_cph (s : State) (q : Nat) (e : Evq) : (setEvq s q e).cph = s.cph := rfl
@[simp] theorem setEvq_pool (s : State) (q : Nat) (e : Evq) : (setEvq s q e).pool = s.pool := rfl
@[simp] theorem setEvq_prot (s : State) (q : Nat) (e : Evq) : (setEvq s q e).prot = s.prot := rfl
@[simp] theorem setEvq_fab (s : State) (q : Nat) (e : Evq) : (setEvq s q e).fab = s.fab := rfl
@[simp] theorem setEvq_mem (s : State) (q : Nat) (e : Evq) : (setEvq s q e).mem = s.mem := rfl
@[simp] theorem setEvq_tap (s : State) (q : Nat) (e : Evq) : (setEvq s q e).tap = s.tap := rfl

/-! ## setRoute -/

@[simp] theorem setRoute_pending (s : State) (src : Nat) (r : RouteEnt) : (setRoute s src r).pending = s.pending := rfl
@[simp] theorem setRoute_now (s : State) (src : Nat) (r : RouteEnt) : (setRoute s src r).now = s.now := rfl
@[simp] theorem setRoute_draws (s : State) (src : Nat) (r : RouteEnt) : (setRoute s src r).draws = s.draws := rfl
@[simp] theorem setRoute_out (s : State) (src : Nat) (r : RouteEnt) : (setRoute s src r).out = s.out := rfl
@[simp] theorem setRoute_mbx (s : State) (src : Nat) (r : RouteEnt) : (setRoute s src r).mbx = s.mbx := rfl
@[simp] theorem setRoute_ses (s : State) (src : Nat) (r : RouteEnt) : (setRoute s src r).ses = s.ses := rfl
@[simp] theorem setRoute_pwr (s : State) (src : Nat) (r : RouteEnt) : (setRoute s src r).pwr = s.pwr := rfl
@[simp] theorem setRoute_boot (s : State) (src : Nat) (r : RouteEnt) : (setRoute s src r).boot = s.boot := rfl
@[simp] theorem setRoute_time (s : State) (src : Nat) (r : RouteEnt) : (setRoute s src r).time = s.time := rfl
@[simp] theorem setRoute_tr (s : State) (src : Nat) (r : RouteEnt) : (setRoute s src r).tr = s.tr := rfl
@[simp] theorem setRoute_pe (s : State) (src : Nat) (r : RouteEnt) : (setRoute s src r).pe = s.pe := rfl
@[simp] theorem setRoute_line (s : State) (src : Nat) (r : RouteEnt) : (setRoute s src r).line = s.line := rfl
@[simp] theorem setRoute_frm (s : State) (src : Nat) (r : RouteEnt) : (setRoute s src r).frm = s.frm := rfl
@[simp] theorem setRoute_cph (s : State) (src : Nat) (r : RouteEnt) : (setRoute s src r).cph = s.cph := rfl
@[simp] theorem setRoute_pool (s : State) (src : Nat) (r : RouteEnt) : (setRoute s src r).pool = s.pool := rfl
@[simp] theorem setRoute_prot (s : State) (src : Nat) (r : RouteEnt) : (setRoute s src r).prot = s.prot := rfl
@[simp] theorem setRoute_fab (s : State) (src : Nat) (r : RouteEnt) : (setRoute s src r).fab = s.fab := rfl
@[simp] theorem setRoute_mem (s : State) (src : Nat) (r : RouteEnt) : (setRoute s src r).mem = s.mem := rfl
@[simp] theorem setRoute_tap (s : State) (src : Nat) (r : RouteEnt) : (setRoute s src r).tap = s.tap := rfl

/-! ## setSource -/

@[simp] theorem setSource_pending (s : State) (src : Nat) (c : SourceCount) : (setSource s src c).pending = s.pending := rfl
@[simp] theorem setSource_now (s : State) (src : Nat) (c : SourceCount) : (setSource s src c).now = s.now := rfl
@[simp] theorem setSource_draws (s : State) (src : Nat) (c : SourceCount) : (setSource s src c).draws = s.draws := rfl
@[simp] theorem setSource_out (s : State) (src : Nat) (c : SourceCount) : (setSource s src c).out = s.out := rfl
@[simp] theorem setSource_mbx (s : State) (src : Nat) (c : SourceCount) : (setSource s src c).mbx = s.mbx := rfl
@[simp] theorem setSource_ses (s : State) (src : Nat) (c : SourceCount) : (setSource s src c).ses = s.ses := rfl
@[simp] theorem setSource_pwr (s : State) (src : Nat) (c : SourceCount) : (setSource s src c).pwr = s.pwr := rfl
@[simp] theorem setSource_boot (s : State) (src : Nat) (c : SourceCount) : (setSource s src c).boot = s.boot := rfl
@[simp] theorem setSource_time (s : State) (src : Nat) (c : SourceCount) : (setSource s src c).time = s.time := rfl
@[simp] theorem setSource_tr (s : State) (src : Nat) (c : SourceCount) : (setSource s src c).tr = s.tr := rfl
@[simp] theorem setSource_pe (s : State) (src : Nat) (c : SourceCount) : (setSource s src c).pe = s.pe := rfl
@[simp] theorem setSource_line (s : State) (src : Nat) (c : SourceCount) : (setSource s src c).line = s.line := rfl
@[simp] theorem setSource_frm (s : State) (src : Nat) (c : SourceCount) : (setSource s src c).frm = s.frm := rfl
@[simp] theorem setSource_cph (s : State) (src : Nat) (c : SourceCount) : (setSource s src c).cph = s.cph := rfl
@[simp] theorem setSource_pool (s : State) (src : Nat) (c : SourceCount) : (setSource s src c).pool = s.pool := rfl
@[simp] theorem setSource_prot (s : State) (src : Nat) (c : SourceCount) : (setSource s src c).prot = s.prot := rfl
@[simp] theorem setSource_fab (s : State) (src : Nat) (c : SourceCount) : (setSource s src c).fab = s.fab := rfl
@[simp] theorem setSource_mem (s : State) (src : Nat) (c : SourceCount) : (setSource s src c).mem = s.mem := rfl
@[simp] theorem setSource_tap (s : State) (src : Nat) (c : SourceCount) : (setSource s src c).tap = s.tap := rfl

/-! ## setCounter -/

@[simp] theorem setCounter_pending (s : State) (c : Nat) (v : Counter) : (setCounter s c v).pending = s.pending := rfl
@[simp] theorem setCounter_now (s : State) (c : Nat) (v : Counter) : (setCounter s c v).now = s.now := rfl
@[simp] theorem setCounter_draws (s : State) (c : Nat) (v : Counter) : (setCounter s c v).draws = s.draws := rfl
@[simp] theorem setCounter_out (s : State) (c : Nat) (v : Counter) : (setCounter s c v).out = s.out := rfl
@[simp] theorem setCounter_mbx (s : State) (c : Nat) (v : Counter) : (setCounter s c v).mbx = s.mbx := rfl
@[simp] theorem setCounter_ses (s : State) (c : Nat) (v : Counter) : (setCounter s c v).ses = s.ses := rfl
@[simp] theorem setCounter_pwr (s : State) (c : Nat) (v : Counter) : (setCounter s c v).pwr = s.pwr := rfl
@[simp] theorem setCounter_boot (s : State) (c : Nat) (v : Counter) : (setCounter s c v).boot = s.boot := rfl
@[simp] theorem setCounter_time (s : State) (c : Nat) (v : Counter) : (setCounter s c v).time = s.time := rfl
@[simp] theorem setCounter_tr (s : State) (c : Nat) (v : Counter) : (setCounter s c v).tr = s.tr := rfl
@[simp] theorem setCounter_pe (s : State) (c : Nat) (v : Counter) : (setCounter s c v).pe = s.pe := rfl
@[simp] theorem setCounter_line (s : State) (c : Nat) (v : Counter) : (setCounter s c v).line = s.line := rfl
@[simp] theorem setCounter_frm (s : State) (c : Nat) (v : Counter) : (setCounter s c v).frm = s.frm := rfl
@[simp] theorem setCounter_cph (s : State) (c : Nat) (v : Counter) : (setCounter s c v).cph = s.cph := rfl
@[simp] theorem setCounter_pool (s : State) (c : Nat) (v : Counter) : (setCounter s c v).pool = s.pool := rfl
@[simp] theorem setCounter_prot (s : State) (c : Nat) (v : Counter) : (setCounter s c v).prot = s.prot := rfl
@[simp] theorem setCounter_fab (s : State) (c : Nat) (v : Counter) : (setCounter s c v).fab = s.fab := rfl
@[simp] theorem setCounter_mem (s : State) (c : Nat) (v : Counter) : (setCounter s c v).mem = s.mem := rfl
@[simp] theorem setCounter_tap (s : State) (c : Nat) (v : Counter) : (setCounter s c v).tap = s.tap := rfl

/-! ## setMeter -/

@[simp] theorem setMeter_pending (s : State) (m : Nat) (v : Meter) : (setMeter s m v).pending = s.pending := rfl
@[simp] theorem setMeter_now (s : State) (m : Nat) (v : Meter) : (setMeter s m v).now = s.now := rfl
@[simp] theorem setMeter_draws (s : State) (m : Nat) (v : Meter) : (setMeter s m v).draws = s.draws := rfl
@[simp] theorem setMeter_out (s : State) (m : Nat) (v : Meter) : (setMeter s m v).out = s.out := rfl
@[simp] theorem setMeter_mbx (s : State) (m : Nat) (v : Meter) : (setMeter s m v).mbx = s.mbx := rfl
@[simp] theorem setMeter_ses (s : State) (m : Nat) (v : Meter) : (setMeter s m v).ses = s.ses := rfl
@[simp] theorem setMeter_pwr (s : State) (m : Nat) (v : Meter) : (setMeter s m v).pwr = s.pwr := rfl
@[simp] theorem setMeter_boot (s : State) (m : Nat) (v : Meter) : (setMeter s m v).boot = s.boot := rfl
@[simp] theorem setMeter_time (s : State) (m : Nat) (v : Meter) : (setMeter s m v).time = s.time := rfl
@[simp] theorem setMeter_tr (s : State) (m : Nat) (v : Meter) : (setMeter s m v).tr = s.tr := rfl
@[simp] theorem setMeter_pe (s : State) (m : Nat) (v : Meter) : (setMeter s m v).pe = s.pe := rfl
@[simp] theorem setMeter_line (s : State) (m : Nat) (v : Meter) : (setMeter s m v).line = s.line := rfl
@[simp] theorem setMeter_frm (s : State) (m : Nat) (v : Meter) : (setMeter s m v).frm = s.frm := rfl
@[simp] theorem setMeter_cph (s : State) (m : Nat) (v : Meter) : (setMeter s m v).cph = s.cph := rfl
@[simp] theorem setMeter_pool (s : State) (m : Nat) (v : Meter) : (setMeter s m v).pool = s.pool := rfl
@[simp] theorem setMeter_prot (s : State) (m : Nat) (v : Meter) : (setMeter s m v).prot = s.prot := rfl
@[simp] theorem setMeter_fab (s : State) (m : Nat) (v : Meter) : (setMeter s m v).fab = s.fab := rfl
@[simp] theorem setMeter_mem (s : State) (m : Nat) (v : Meter) : (setMeter s m v).mem = s.mem := rfl
@[simp] theorem setMeter_tap (s : State) (m : Nat) (v : Meter) : (setMeter s m v).tap = s.tap := rfl

/-! ## setTimeBase -/

@[simp] theorem setTimeBase_pending (s : State) (b : Nat) (v : TimeBase) : (setTimeBase s b v).pending = s.pending := rfl
@[simp] theorem setTimeBase_now (s : State) (b : Nat) (v : TimeBase) : (setTimeBase s b v).now = s.now := rfl
@[simp] theorem setTimeBase_draws (s : State) (b : Nat) (v : TimeBase) : (setTimeBase s b v).draws = s.draws := rfl
@[simp] theorem setTimeBase_out (s : State) (b : Nat) (v : TimeBase) : (setTimeBase s b v).out = s.out := rfl
@[simp] theorem setTimeBase_mbx (s : State) (b : Nat) (v : TimeBase) : (setTimeBase s b v).mbx = s.mbx := rfl
@[simp] theorem setTimeBase_ses (s : State) (b : Nat) (v : TimeBase) : (setTimeBase s b v).ses = s.ses := rfl
@[simp] theorem setTimeBase_ev (s : State) (b : Nat) (v : TimeBase) : (setTimeBase s b v).ev = s.ev := rfl
@[simp] theorem setTimeBase_pwr (s : State) (b : Nat) (v : TimeBase) : (setTimeBase s b v).pwr = s.pwr := rfl
@[simp] theorem setTimeBase_boot (s : State) (b : Nat) (v : TimeBase) : (setTimeBase s b v).boot = s.boot := rfl
@[simp] theorem setTimeBase_tr (s : State) (b : Nat) (v : TimeBase) : (setTimeBase s b v).tr = s.tr := rfl
@[simp] theorem setTimeBase_pe (s : State) (b : Nat) (v : TimeBase) : (setTimeBase s b v).pe = s.pe := rfl
@[simp] theorem setTimeBase_line (s : State) (b : Nat) (v : TimeBase) : (setTimeBase s b v).line = s.line := rfl
@[simp] theorem setTimeBase_frm (s : State) (b : Nat) (v : TimeBase) : (setTimeBase s b v).frm = s.frm := rfl
@[simp] theorem setTimeBase_cph (s : State) (b : Nat) (v : TimeBase) : (setTimeBase s b v).cph = s.cph := rfl
@[simp] theorem setTimeBase_pool (s : State) (b : Nat) (v : TimeBase) : (setTimeBase s b v).pool = s.pool := rfl
@[simp] theorem setTimeBase_prot (s : State) (b : Nat) (v : TimeBase) : (setTimeBase s b v).prot = s.prot := rfl
@[simp] theorem setTimeBase_fab (s : State) (b : Nat) (v : TimeBase) : (setTimeBase s b v).fab = s.fab := rfl
@[simp] theorem setTimeBase_mem (s : State) (b : Nat) (v : TimeBase) : (setTimeBase s b v).mem = s.mem := rfl
@[simp] theorem setTimeBase_tap (s : State) (b : Nat) (v : TimeBase) : (setTimeBase s b v).tap = s.tap := rfl

/-! ## setLine -/

@[simp] theorem setLine_pending (s : State) (l : Nat) (v : LineEngine) : (setLine s l v).pending = s.pending := rfl
@[simp] theorem setLine_now (s : State) (l : Nat) (v : LineEngine) : (setLine s l v).now = s.now := rfl
@[simp] theorem setLine_draws (s : State) (l : Nat) (v : LineEngine) : (setLine s l v).draws = s.draws := rfl
@[simp] theorem setLine_out (s : State) (l : Nat) (v : LineEngine) : (setLine s l v).out = s.out := rfl
@[simp] theorem setLine_mbx (s : State) (l : Nat) (v : LineEngine) : (setLine s l v).mbx = s.mbx := rfl
@[simp] theorem setLine_ses (s : State) (l : Nat) (v : LineEngine) : (setLine s l v).ses = s.ses := rfl
@[simp] theorem setLine_ev (s : State) (l : Nat) (v : LineEngine) : (setLine s l v).ev = s.ev := rfl
@[simp] theorem setLine_pwr (s : State) (l : Nat) (v : LineEngine) : (setLine s l v).pwr = s.pwr := rfl
@[simp] theorem setLine_boot (s : State) (l : Nat) (v : LineEngine) : (setLine s l v).boot = s.boot := rfl
@[simp] theorem setLine_time (s : State) (l : Nat) (v : LineEngine) : (setLine s l v).time = s.time := rfl
@[simp] theorem setLine_tr (s : State) (l : Nat) (v : LineEngine) : (setLine s l v).tr = s.tr := rfl
@[simp] theorem setLine_pe (s : State) (l : Nat) (v : LineEngine) : (setLine s l v).pe = s.pe := rfl
@[simp] theorem setLine_frm (s : State) (l : Nat) (v : LineEngine) : (setLine s l v).frm = s.frm := rfl
@[simp] theorem setLine_cph (s : State) (l : Nat) (v : LineEngine) : (setLine s l v).cph = s.cph := rfl
@[simp] theorem setLine_pool (s : State) (l : Nat) (v : LineEngine) : (setLine s l v).pool = s.pool := rfl
@[simp] theorem setLine_prot (s : State) (l : Nat) (v : LineEngine) : (setLine s l v).prot = s.prot := rfl
@[simp] theorem setLine_fab (s : State) (l : Nat) (v : LineEngine) : (setLine s l v).fab = s.fab := rfl
@[simp] theorem setLine_mem (s : State) (l : Nat) (v : LineEngine) : (setLine s l v).mem = s.mem := rfl
@[simp] theorem setLine_tap (s : State) (l : Nat) (v : LineEngine) : (setLine s l v).tap = s.tap := rfl

/-! ## setFramer -/

@[simp] theorem setFramer_pending (s : State) (l : Nat) (v : Framer) : (setFramer s l v).pending = s.pending := rfl
@[simp] theorem setFramer_now (s : State) (l : Nat) (v : Framer) : (setFramer s l v).now = s.now := rfl
@[simp] theorem setFramer_draws (s : State) (l : Nat) (v : Framer) : (setFramer s l v).draws = s.draws := rfl
@[simp] theorem setFramer_out (s : State) (l : Nat) (v : Framer) : (setFramer s l v).out = s.out := rfl
@[simp] theorem setFramer_mbx (s : State) (l : Nat) (v : Framer) : (setFramer s l v).mbx = s.mbx := rfl
@[simp] theorem setFramer_ses (s : State) (l : Nat) (v : Framer) : (setFramer s l v).ses = s.ses := rfl
@[simp] theorem setFramer_ev (s : State) (l : Nat) (v : Framer) : (setFramer s l v).ev = s.ev := rfl
@[simp] theorem setFramer_pwr (s : State) (l : Nat) (v : Framer) : (setFramer s l v).pwr = s.pwr := rfl
@[simp] theorem setFramer_boot (s : State) (l : Nat) (v : Framer) : (setFramer s l v).boot = s.boot := rfl
@[simp] theorem setFramer_time (s : State) (l : Nat) (v : Framer) : (setFramer s l v).time = s.time := rfl
@[simp] theorem setFramer_tr (s : State) (l : Nat) (v : Framer) : (setFramer s l v).tr = s.tr := rfl
@[simp] theorem setFramer_pe (s : State) (l : Nat) (v : Framer) : (setFramer s l v).pe = s.pe := rfl
@[simp] theorem setFramer_line (s : State) (l : Nat) (v : Framer) : (setFramer s l v).line = s.line := rfl
@[simp] theorem setFramer_cph (s : State) (l : Nat) (v : Framer) : (setFramer s l v).cph = s.cph := rfl
@[simp] theorem setFramer_pool (s : State) (l : Nat) (v : Framer) : (setFramer s l v).pool = s.pool := rfl
@[simp] theorem setFramer_prot (s : State) (l : Nat) (v : Framer) : (setFramer s l v).prot = s.prot := rfl
@[simp] theorem setFramer_fab (s : State) (l : Nat) (v : Framer) : (setFramer s l v).fab = s.fab := rfl
@[simp] theorem setFramer_mem (s : State) (l : Nat) (v : Framer) : (setFramer s l v).mem = s.mem := rfl
@[simp] theorem setFramer_tap (s : State) (l : Nat) (v : Framer) : (setFramer s l v).tap = s.tap := rfl

/-! ## setTributary -/

@[simp] theorem setTributary_pending (s : State) (l t : Nat) (v : Tributary) : (setTributary s l t v).pending = s.pending := rfl
@[simp] theorem setTributary_now (s : State) (l t : Nat) (v : Tributary) : (setTributary s l t v).now = s.now := rfl
@[simp] theorem setTributary_draws (s : State) (l t : Nat) (v : Tributary) : (setTributary s l t v).draws = s.draws := rfl
@[simp] theorem setTributary_out (s : State) (l t : Nat) (v : Tributary) : (setTributary s l t v).out = s.out := rfl
@[simp] theorem setTributary_mbx (s : State) (l t : Nat) (v : Tributary) : (setTributary s l t v).mbx = s.mbx := rfl
@[simp] theorem setTributary_ses (s : State) (l t : Nat) (v : Tributary) : (setTributary s l t v).ses = s.ses := rfl
@[simp] theorem setTributary_ev (s : State) (l t : Nat) (v : Tributary) : (setTributary s l t v).ev = s.ev := rfl
@[simp] theorem setTributary_pwr (s : State) (l t : Nat) (v : Tributary) : (setTributary s l t v).pwr = s.pwr := rfl
@[simp] theorem setTributary_boot (s : State) (l t : Nat) (v : Tributary) : (setTributary s l t v).boot = s.boot := rfl
@[simp] theorem setTributary_time (s : State) (l t : Nat) (v : Tributary) : (setTributary s l t v).time = s.time := rfl
@[simp] theorem setTributary_tr (s : State) (l t : Nat) (v : Tributary) : (setTributary s l t v).tr = s.tr := rfl
@[simp] theorem setTributary_pe (s : State) (l t : Nat) (v : Tributary) : (setTributary s l t v).pe = s.pe := rfl
@[simp] theorem setTributary_line (s : State) (l t : Nat) (v : Tributary) : (setTributary s l t v).line = s.line := rfl
@[simp] theorem setTributary_cph (s : State) (l t : Nat) (v : Tributary) : (setTributary s l t v).cph = s.cph := rfl
@[simp] theorem setTributary_pool (s : State) (l t : Nat) (v : Tributary) : (setTributary s l t v).pool = s.pool := rfl
@[simp] theorem setTributary_prot (s : State) (l t : Nat) (v : Tributary) : (setTributary s l t v).prot = s.prot := rfl
@[simp] theorem setTributary_fab (s : State) (l t : Nat) (v : Tributary) : (setTributary s l t v).fab = s.fab := rfl
@[simp] theorem setTributary_mem (s : State) (l t : Nat) (v : Tributary) : (setTributary s l t v).mem = s.mem := rfl
@[simp] theorem setTributary_tap (s : State) (l t : Nat) (v : Tributary) : (setTributary s l t v).tap = s.tap := rfl

/-! ## setSeal -/

@[simp] theorem setSeal_pending (s : State) (l : Nat) (v : Seal) : (setSeal s l v).pending = s.pending := rfl
@[simp] theorem setSeal_now (s : State) (l : Nat) (v : Seal) : (setSeal s l v).now = s.now := rfl
@[simp] theorem setSeal_draws (s : State) (l : Nat) (v : Seal) : (setSeal s l v).draws = s.draws := rfl
@[simp] theorem setSeal_out (s : State) (l : Nat) (v : Seal) : (setSeal s l v).out = s.out := rfl
@[simp] theorem setSeal_mbx (s : State) (l : Nat) (v : Seal) : (setSeal s l v).mbx = s.mbx := rfl
@[simp] theorem setSeal_ses (s : State) (l : Nat) (v : Seal) : (setSeal s l v).ses = s.ses := rfl
@[simp] theorem setSeal_ev (s : State) (l : Nat) (v : Seal) : (setSeal s l v).ev = s.ev := rfl
@[simp] theorem setSeal_pwr (s : State) (l : Nat) (v : Seal) : (setSeal s l v).pwr = s.pwr := rfl
@[simp] theorem setSeal_boot (s : State) (l : Nat) (v : Seal) : (setSeal s l v).boot = s.boot := rfl
@[simp] theorem setSeal_time (s : State) (l : Nat) (v : Seal) : (setSeal s l v).time = s.time := rfl
@[simp] theorem setSeal_tr (s : State) (l : Nat) (v : Seal) : (setSeal s l v).tr = s.tr := rfl
@[simp] theorem setSeal_pe (s : State) (l : Nat) (v : Seal) : (setSeal s l v).pe = s.pe := rfl
@[simp] theorem setSeal_line (s : State) (l : Nat) (v : Seal) : (setSeal s l v).line = s.line := rfl
@[simp] theorem setSeal_frm (s : State) (l : Nat) (v : Seal) : (setSeal s l v).frm = s.frm := rfl
@[simp] theorem setSeal_pool (s : State) (l : Nat) (v : Seal) : (setSeal s l v).pool = s.pool := rfl
@[simp] theorem setSeal_prot (s : State) (l : Nat) (v : Seal) : (setSeal s l v).prot = s.prot := rfl
@[simp] theorem setSeal_fab (s : State) (l : Nat) (v : Seal) : (setSeal s l v).fab = s.fab := rfl
@[simp] theorem setSeal_mem (s : State) (l : Nat) (v : Seal) : (setSeal s l v).mem = s.mem := rfl
@[simp] theorem setSeal_tap (s : State) (l : Nat) (v : Seal) : (setSeal s l v).tap = s.tap := rfl

/-! ## setMacsec -/

@[simp] theorem setMacsec_pending (s : State) (x : Nat) (v : Macsec) : (setMacsec s x v).pending = s.pending := rfl
@[simp] theorem setMacsec_now (s : State) (x : Nat) (v : Macsec) : (setMacsec s x v).now = s.now := rfl
@[simp] theorem setMacsec_draws (s : State) (x : Nat) (v : Macsec) : (setMacsec s x v).draws = s.draws := rfl
@[simp] theorem setMacsec_out (s : State) (x : Nat) (v : Macsec) : (setMacsec s x v).out = s.out := rfl
@[simp] theorem setMacsec_mbx (s : State) (x : Nat) (v : Macsec) : (setMacsec s x v).mbx = s.mbx := rfl
@[simp] theorem setMacsec_ses (s : State) (x : Nat) (v : Macsec) : (setMacsec s x v).ses = s.ses := rfl
@[simp] theorem setMacsec_ev (s : State) (x : Nat) (v : Macsec) : (setMacsec s x v).ev = s.ev := rfl
@[simp] theorem setMacsec_pwr (s : State) (x : Nat) (v : Macsec) : (setMacsec s x v).pwr = s.pwr := rfl
@[simp] theorem setMacsec_boot (s : State) (x : Nat) (v : Macsec) : (setMacsec s x v).boot = s.boot := rfl
@[simp] theorem setMacsec_time (s : State) (x : Nat) (v : Macsec) : (setMacsec s x v).time = s.time := rfl
@[simp] theorem setMacsec_tr (s : State) (x : Nat) (v : Macsec) : (setMacsec s x v).tr = s.tr := rfl
@[simp] theorem setMacsec_pe (s : State) (x : Nat) (v : Macsec) : (setMacsec s x v).pe = s.pe := rfl
@[simp] theorem setMacsec_line (s : State) (x : Nat) (v : Macsec) : (setMacsec s x v).line = s.line := rfl
@[simp] theorem setMacsec_frm (s : State) (x : Nat) (v : Macsec) : (setMacsec s x v).frm = s.frm := rfl
@[simp] theorem setMacsec_pool (s : State) (x : Nat) (v : Macsec) : (setMacsec s x v).pool = s.pool := rfl
@[simp] theorem setMacsec_prot (s : State) (x : Nat) (v : Macsec) : (setMacsec s x v).prot = s.prot := rfl
@[simp] theorem setMacsec_fab (s : State) (x : Nat) (v : Macsec) : (setMacsec s x v).fab = s.fab := rfl
@[simp] theorem setMacsec_mem (s : State) (x : Nat) (v : Macsec) : (setMacsec s x v).mem = s.mem := rfl
@[simp] theorem setMacsec_tap (s : State) (x : Nat) (v : Macsec) : (setMacsec s x v).tap = s.tap := rfl

/-! ## setSlot -/

@[simp] theorem setSlot_pending (s : State) (kind n : Nat) (v : Slot) : (setSlot s kind n v).pending = s.pending := rfl
@[simp] theorem setSlot_now (s : State) (kind n : Nat) (v : Slot) : (setSlot s kind n v).now = s.now := rfl
@[simp] theorem setSlot_draws (s : State) (kind n : Nat) (v : Slot) : (setSlot s kind n v).draws = s.draws := rfl
@[simp] theorem setSlot_out (s : State) (kind n : Nat) (v : Slot) : (setSlot s kind n v).out = s.out := rfl
@[simp] theorem setSlot_mbx (s : State) (kind n : Nat) (v : Slot) : (setSlot s kind n v).mbx = s.mbx := rfl
@[simp] theorem setSlot_ses (s : State) (kind n : Nat) (v : Slot) : (setSlot s kind n v).ses = s.ses := rfl
@[simp] theorem setSlot_ev (s : State) (kind n : Nat) (v : Slot) : (setSlot s kind n v).ev = s.ev := rfl
@[simp] theorem setSlot_pwr (s : State) (kind n : Nat) (v : Slot) : (setSlot s kind n v).pwr = s.pwr := rfl
@[simp] theorem setSlot_boot (s : State) (kind n : Nat) (v : Slot) : (setSlot s kind n v).boot = s.boot := rfl
@[simp] theorem setSlot_time (s : State) (kind n : Nat) (v : Slot) : (setSlot s kind n v).time = s.time := rfl
@[simp] theorem setSlot_tr (s : State) (kind n : Nat) (v : Slot) : (setSlot s kind n v).tr = s.tr := rfl
@[simp] theorem setSlot_pe (s : State) (kind n : Nat) (v : Slot) : (setSlot s kind n v).pe = s.pe := rfl
@[simp] theorem setSlot_line (s : State) (kind n : Nat) (v : Slot) : (setSlot s kind n v).line = s.line := rfl
@[simp] theorem setSlot_frm (s : State) (kind n : Nat) (v : Slot) : (setSlot s kind n v).frm = s.frm := rfl
@[simp] theorem setSlot_pool (s : State) (kind n : Nat) (v : Slot) : (setSlot s kind n v).pool = s.pool := rfl
@[simp] theorem setSlot_prot (s : State) (kind n : Nat) (v : Slot) : (setSlot s kind n v).prot = s.prot := rfl
@[simp] theorem setSlot_fab (s : State) (kind n : Nat) (v : Slot) : (setSlot s kind n v).fab = s.fab := rfl
@[simp] theorem setSlot_mem (s : State) (kind n : Nat) (v : Slot) : (setSlot s kind n v).mem = s.mem := rfl
@[simp] theorem setSlot_tap (s : State) (kind n : Nat) (v : Slot) : (setSlot s kind n v).tap = s.tap := rfl

/-! ## setKeyPage -/

@[simp] theorem setKeyPage_pending (s : State) (fn : Nat) (v : KeyPage) : (setKeyPage s fn v).pending = s.pending := rfl
@[simp] theorem setKeyPage_now (s : State) (fn : Nat) (v : KeyPage) : (setKeyPage s fn v).now = s.now := rfl
@[simp] theorem setKeyPage_draws (s : State) (fn : Nat) (v : KeyPage) : (setKeyPage s fn v).draws = s.draws := rfl
@[simp] theorem setKeyPage_out (s : State) (fn : Nat) (v : KeyPage) : (setKeyPage s fn v).out = s.out := rfl
@[simp] theorem setKeyPage_mbx (s : State) (fn : Nat) (v : KeyPage) : (setKeyPage s fn v).mbx = s.mbx := rfl
@[simp] theorem setKeyPage_ses (s : State) (fn : Nat) (v : KeyPage) : (setKeyPage s fn v).ses = s.ses := rfl
@[simp] theorem setKeyPage_ev (s : State) (fn : Nat) (v : KeyPage) : (setKeyPage s fn v).ev = s.ev := rfl
@[simp] theorem setKeyPage_pwr (s : State) (fn : Nat) (v : KeyPage) : (setKeyPage s fn v).pwr = s.pwr := rfl
@[simp] theorem setKeyPage_boot (s : State) (fn : Nat) (v : KeyPage) : (setKeyPage s fn v).boot = s.boot := rfl
@[simp] theorem setKeyPage_time (s : State) (fn : Nat) (v : KeyPage) : (setKeyPage s fn v).time = s.time := rfl
@[simp] theorem setKeyPage_tr (s : State) (fn : Nat) (v : KeyPage) : (setKeyPage s fn v).tr = s.tr := rfl
@[simp] theorem setKeyPage_pe (s : State) (fn : Nat) (v : KeyPage) : (setKeyPage s fn v).pe = s.pe := rfl
@[simp] theorem setKeyPage_line (s : State) (fn : Nat) (v : KeyPage) : (setKeyPage s fn v).line = s.line := rfl
@[simp] theorem setKeyPage_frm (s : State) (fn : Nat) (v : KeyPage) : (setKeyPage s fn v).frm = s.frm := rfl
@[simp] theorem setKeyPage_pool (s : State) (fn : Nat) (v : KeyPage) : (setKeyPage s fn v).pool = s.pool := rfl
@[simp] theorem setKeyPage_prot (s : State) (fn : Nat) (v : KeyPage) : (setKeyPage s fn v).prot = s.prot := rfl
@[simp] theorem setKeyPage_fab (s : State) (fn : Nat) (v : KeyPage) : (setKeyPage s fn v).fab = s.fab := rfl
@[simp] theorem setKeyPage_mem (s : State) (fn : Nat) (v : KeyPage) : (setKeyPage s fn v).mem = s.mem := rfl
@[simp] theorem setKeyPage_tap (s : State) (fn : Nat) (v : KeyPage) : (setKeyPage s fn v).tap = s.tap := rfl

/-! ## setPipe -/

@[simp] theorem setPipe_pending (s : State) (p : Nat) (v : Pipeline) : (setPipe s p v).pending = s.pending := rfl
@[simp] theorem setPipe_now (s : State) (p : Nat) (v : Pipeline) : (setPipe s p v).now = s.now := rfl
@[simp] theorem setPipe_draws (s : State) (p : Nat) (v : Pipeline) : (setPipe s p v).draws = s.draws := rfl
@[simp] theorem setPipe_out (s : State) (p : Nat) (v : Pipeline) : (setPipe s p v).out = s.out := rfl
@[simp] theorem setPipe_mbx (s : State) (p : Nat) (v : Pipeline) : (setPipe s p v).mbx = s.mbx := rfl
@[simp] theorem setPipe_ses (s : State) (p : Nat) (v : Pipeline) : (setPipe s p v).ses = s.ses := rfl
@[simp] theorem setPipe_ev (s : State) (p : Nat) (v : Pipeline) : (setPipe s p v).ev = s.ev := rfl
@[simp] theorem setPipe_pwr (s : State) (p : Nat) (v : Pipeline) : (setPipe s p v).pwr = s.pwr := rfl
@[simp] theorem setPipe_boot (s : State) (p : Nat) (v : Pipeline) : (setPipe s p v).boot = s.boot := rfl
@[simp] theorem setPipe_time (s : State) (p : Nat) (v : Pipeline) : (setPipe s p v).time = s.time := rfl
@[simp] theorem setPipe_tr (s : State) (p : Nat) (v : Pipeline) : (setPipe s p v).tr = s.tr := rfl
@[simp] theorem setPipe_line (s : State) (p : Nat) (v : Pipeline) : (setPipe s p v).line = s.line := rfl
@[simp] theorem setPipe_frm (s : State) (p : Nat) (v : Pipeline) : (setPipe s p v).frm = s.frm := rfl
@[simp] theorem setPipe_cph (s : State) (p : Nat) (v : Pipeline) : (setPipe s p v).cph = s.cph := rfl
@[simp] theorem setPipe_pool (s : State) (p : Nat) (v : Pipeline) : (setPipe s p v).pool = s.pool := rfl
@[simp] theorem setPipe_prot (s : State) (p : Nat) (v : Pipeline) : (setPipe s p v).prot = s.prot := rfl
@[simp] theorem setPipe_fab (s : State) (p : Nat) (v : Pipeline) : (setPipe s p v).fab = s.fab := rfl
@[simp] theorem setPipe_mem (s : State) (p : Nat) (v : Pipeline) : (setPipe s p v).mem = s.mem := rfl
@[simp] theorem setPipe_tap (s : State) (p : Nat) (v : Pipeline) : (setPipe s p v).tap = s.tap := rfl

/-! ## setQueue -/

@[simp] theorem setQueue_pending (s : State) (q : Nat) (v : Queue) : (setQueue s q v).pending = s.pending := rfl
@[simp] theorem setQueue_now (s : State) (q : Nat) (v : Queue) : (setQueue s q v).now = s.now := rfl
@[simp] theorem setQueue_draws (s : State) (q : Nat) (v : Queue) : (setQueue s q v).draws = s.draws := rfl
@[simp] theorem setQueue_out (s : State) (q : Nat) (v : Queue) : (setQueue s q v).out = s.out := rfl
@[simp] theorem setQueue_mbx (s : State) (q : Nat) (v : Queue) : (setQueue s q v).mbx = s.mbx := rfl
@[simp] theorem setQueue_ses (s : State) (q : Nat) (v : Queue) : (setQueue s q v).ses = s.ses := rfl
@[simp] theorem setQueue_ev (s : State) (q : Nat) (v : Queue) : (setQueue s q v).ev = s.ev := rfl
@[simp] theorem setQueue_pwr (s : State) (q : Nat) (v : Queue) : (setQueue s q v).pwr = s.pwr := rfl
@[simp] theorem setQueue_boot (s : State) (q : Nat) (v : Queue) : (setQueue s q v).boot = s.boot := rfl
@[simp] theorem setQueue_time (s : State) (q : Nat) (v : Queue) : (setQueue s q v).time = s.time := rfl
@[simp] theorem setQueue_tr (s : State) (q : Nat) (v : Queue) : (setQueue s q v).tr = s.tr := rfl
@[simp] theorem setQueue_line (s : State) (q : Nat) (v : Queue) : (setQueue s q v).line = s.line := rfl
@[simp] theorem setQueue_frm (s : State) (q : Nat) (v : Queue) : (setQueue s q v).frm = s.frm := rfl
@[simp] theorem setQueue_cph (s : State) (q : Nat) (v : Queue) : (setQueue s q v).cph = s.cph := rfl
@[simp] theorem setQueue_pool (s : State) (q : Nat) (v : Queue) : (setQueue s q v).pool = s.pool := rfl
@[simp] theorem setQueue_prot (s : State) (q : Nat) (v : Queue) : (setQueue s q v).prot = s.prot := rfl
@[simp] theorem setQueue_fab (s : State) (q : Nat) (v : Queue) : (setQueue s q v).fab = s.fab := rfl
@[simp] theorem setQueue_mem (s : State) (q : Nat) (v : Queue) : (setQueue s q v).mem = s.mem := rfl
@[simp] theorem setQueue_tap (s : State) (q : Nat) (v : Queue) : (setQueue s q v).tap = s.tap := rfl

/-! ## setGroup -/

@[simp] theorem setGroup_pending (s : State) (g : Nat) (v : Group) : (setGroup s g v).pending = s.pending := rfl
@[simp] theorem setGroup_now (s : State) (g : Nat) (v : Group) : (setGroup s g v).now = s.now := rfl
@[simp] theorem setGroup_draws (s : State) (g : Nat) (v : Group) : (setGroup s g v).draws = s.draws := rfl
@[simp] theorem setGroup_out (s : State) (g : Nat) (v : Group) : (setGroup s g v).out = s.out := rfl
@[simp] theorem setGroup_mbx (s : State) (g : Nat) (v : Group) : (setGroup s g v).mbx = s.mbx := rfl
@[simp] theorem setGroup_ses (s : State) (g : Nat) (v : Group) : (setGroup s g v).ses = s.ses := rfl
@[simp] theorem setGroup_ev (s : State) (g : Nat) (v : Group) : (setGroup s g v).ev = s.ev := rfl
@[simp] theorem setGroup_pwr (s : State) (g : Nat) (v : Group) : (setGroup s g v).pwr = s.pwr := rfl
@[simp] theorem setGroup_boot (s : State) (g : Nat) (v : Group) : (setGroup s g v).boot = s.boot := rfl
@[simp] theorem setGroup_time (s : State) (g : Nat) (v : Group) : (setGroup s g v).time = s.time := rfl
@[simp] theorem setGroup_tr (s : State) (g : Nat) (v : Group) : (setGroup s g v).tr = s.tr := rfl
@[simp] theorem setGroup_line (s : State) (g : Nat) (v : Group) : (setGroup s g v).line = s.line := rfl
@[simp] theorem setGroup_frm (s : State) (g : Nat) (v : Group) : (setGroup s g v).frm = s.frm := rfl
@[simp] theorem setGroup_cph (s : State) (g : Nat) (v : Group) : (setGroup s g v).cph = s.cph := rfl
@[simp] theorem setGroup_pool (s : State) (g : Nat) (v : Group) : (setGroup s g v).pool = s.pool := rfl
@[simp] theorem setGroup_prot (s : State) (g : Nat) (v : Group) : (setGroup s g v).prot = s.prot := rfl
@[simp] theorem setGroup_fab (s : State) (g : Nat) (v : Group) : (setGroup s g v).fab = s.fab := rfl
@[simp] theorem setGroup_mem (s : State) (g : Nat) (v : Group) : (setGroup s g v).mem = s.mem := rfl
@[simp] theorem setGroup_tap (s : State) (g : Nat) (v : Group) : (setGroup s g v).tap = s.tap := rfl

/-! ## setCup -/

@[simp] theorem setCup_pending (s : State) (k : Nat) (c : Cupola) : (setCup s k c).pending = s.pending := rfl
@[simp] theorem setCup_now (s : State) (k : Nat) (c : Cupola) : (setCup s k c).now = s.now := rfl
@[simp] theorem setCup_draws (s : State) (k : Nat) (c : Cupola) : (setCup s k c).draws = s.draws := rfl
@[simp] theorem setCup_out (s : State) (k : Nat) (c : Cupola) : (setCup s k c).out = s.out := rfl
@[simp] theorem setCup_mbx (s : State) (k : Nat) (c : Cupola) : (setCup s k c).mbx = s.mbx := rfl
@[simp] theorem setCup_ses (s : State) (k : Nat) (c : Cupola) : (setCup s k c).ses = s.ses := rfl
@[simp] theorem setCup_ev (s : State) (k : Nat) (c : Cupola) : (setCup s k c).ev = s.ev := rfl
@[simp] theorem setCup_boot (s : State) (k : Nat) (c : Cupola) : (setCup s k c).boot = s.boot := rfl
@[simp] theorem setCup_time (s : State) (k : Nat) (c : Cupola) : (setCup s k c).time = s.time := rfl
@[simp] theorem setCup_tr (s : State) (k : Nat) (c : Cupola) : (setCup s k c).tr = s.tr := rfl
@[simp] theorem setCup_pe (s : State) (k : Nat) (c : Cupola) : (setCup s k c).pe = s.pe := rfl
@[simp] theorem setCup_line (s : State) (k : Nat) (c : Cupola) : (setCup s k c).line = s.line := rfl
@[simp] theorem setCup_frm (s : State) (k : Nat) (c : Cupola) : (setCup s k c).frm = s.frm := rfl
@[simp] theorem setCup_cph (s : State) (k : Nat) (c : Cupola) : (setCup s k c).cph = s.cph := rfl
@[simp] theorem setCup_pool (s : State) (k : Nat) (c : Cupola) : (setCup s k c).pool = s.pool := rfl
@[simp] theorem setCup_prot (s : State) (k : Nat) (c : Cupola) : (setCup s k c).prot = s.prot := rfl
@[simp] theorem setCup_fab (s : State) (k : Nat) (c : Cupola) : (setCup s k c).fab = s.fab := rfl
@[simp] theorem setCup_mem (s : State) (k : Nat) (c : Cupola) : (setCup s k c).mem = s.mem := rfl
@[simp] theorem setCup_tap (s : State) (k : Nat) (c : Cupola) : (setCup s k c).tap = s.tap := rfl

/-! ## setMember -/

@[simp] theorem setMember_pending (s : State) (t : Nat) (v : Member) : (setMember s t v).pending = s.pending := rfl
@[simp] theorem setMember_now (s : State) (t : Nat) (v : Member) : (setMember s t v).now = s.now := rfl
@[simp] theorem setMember_draws (s : State) (t : Nat) (v : Member) : (setMember s t v).draws = s.draws := rfl
@[simp] theorem setMember_out (s : State) (t : Nat) (v : Member) : (setMember s t v).out = s.out := rfl
@[simp] theorem setMember_mbx (s : State) (t : Nat) (v : Member) : (setMember s t v).mbx = s.mbx := rfl
@[simp] theorem setMember_ses (s : State) (t : Nat) (v : Member) : (setMember s t v).ses = s.ses := rfl
@[simp] theorem setMember_ev (s : State) (t : Nat) (v : Member) : (setMember s t v).ev = s.ev := rfl
@[simp] theorem setMember_pwr (s : State) (t : Nat) (v : Member) : (setMember s t v).pwr = s.pwr := rfl
@[simp] theorem setMember_boot (s : State) (t : Nat) (v : Member) : (setMember s t v).boot = s.boot := rfl
@[simp] theorem setMember_time (s : State) (t : Nat) (v : Member) : (setMember s t v).time = s.time := rfl
@[simp] theorem setMember_tr (s : State) (t : Nat) (v : Member) : (setMember s t v).tr = s.tr := rfl
@[simp] theorem setMember_pe (s : State) (t : Nat) (v : Member) : (setMember s t v).pe = s.pe := rfl
@[simp] theorem setMember_line (s : State) (t : Nat) (v : Member) : (setMember s t v).line = s.line := rfl
@[simp] theorem setMember_frm (s : State) (t : Nat) (v : Member) : (setMember s t v).frm = s.frm := rfl
@[simp] theorem setMember_cph (s : State) (t : Nat) (v : Member) : (setMember s t v).cph = s.cph := rfl
@[simp] theorem setMember_pool (s : State) (t : Nat) (v : Member) : (setMember s t v).pool = s.pool := rfl
@[simp] theorem setMember_fab (s : State) (t : Nat) (v : Member) : (setMember s t v).fab = s.fab := rfl
@[simp] theorem setMember_mem (s : State) (t : Nat) (v : Member) : (setMember s t v).mem = s.mem := rfl
@[simp] theorem setMember_tap (s : State) (t : Nat) (v : Member) : (setMember s t v).tap = s.tap := rfl

/-! ## setLink -/

@[simp] theorem setLink_pending (s : State) (k : Nat) (v : Link) : (setLink s k v).pending = s.pending := rfl
@[simp] theorem setLink_now (s : State) (k : Nat) (v : Link) : (setLink s k v).now = s.now := rfl
@[simp] theorem setLink_draws (s : State) (k : Nat) (v : Link) : (setLink s k v).draws = s.draws := rfl
@[simp] theorem setLink_out (s : State) (k : Nat) (v : Link) : (setLink s k v).out = s.out := rfl
@[simp] theorem setLink_mbx (s : State) (k : Nat) (v : Link) : (setLink s k v).mbx = s.mbx := rfl
@[simp] theorem setLink_ses (s : State) (k : Nat) (v : Link) : (setLink s k v).ses = s.ses := rfl
@[simp] theorem setLink_ev (s : State) (k : Nat) (v : Link) : (setLink s k v).ev = s.ev := rfl
@[simp] theorem setLink_pwr (s : State) (k : Nat) (v : Link) : (setLink s k v).pwr = s.pwr := rfl
@[simp] theorem setLink_boot (s : State) (k : Nat) (v : Link) : (setLink s k v).boot = s.boot := rfl
@[simp] theorem setLink_time (s : State) (k : Nat) (v : Link) : (setLink s k v).time = s.time := rfl
@[simp] theorem setLink_tr (s : State) (k : Nat) (v : Link) : (setLink s k v).tr = s.tr := rfl
@[simp] theorem setLink_pe (s : State) (k : Nat) (v : Link) : (setLink s k v).pe = s.pe := rfl
@[simp] theorem setLink_line (s : State) (k : Nat) (v : Link) : (setLink s k v).line = s.line := rfl
@[simp] theorem setLink_frm (s : State) (k : Nat) (v : Link) : (setLink s k v).frm = s.frm := rfl
@[simp] theorem setLink_cph (s : State) (k : Nat) (v : Link) : (setLink s k v).cph = s.cph := rfl
@[simp] theorem setLink_pool (s : State) (k : Nat) (v : Link) : (setLink s k v).pool = s.pool := rfl
@[simp] theorem setLink_prot (s : State) (k : Nat) (v : Link) : (setLink s k v).prot = s.prot := rfl
@[simp] theorem setLink_mem (s : State) (k : Nat) (v : Link) : (setLink s k v).mem = s.mem := rfl
@[simp] theorem setLink_tap (s : State) (k : Nat) (v : Link) : (setLink s k v).tap = s.tap := rfl

/-! ## setPortEnt -/

@[simp] theorem setPortEnt_pending (s : State) (port : Nat) (p : PortEnt) : (setPortEnt s port p).pending = s.pending := rfl
@[simp] theorem setPortEnt_now (s : State) (port : Nat) (p : PortEnt) : (setPortEnt s port p).now = s.now := rfl
@[simp] theorem setPortEnt_draws (s : State) (port : Nat) (p : PortEnt) : (setPortEnt s port p).draws = s.draws := rfl
@[simp] theorem setPortEnt_out (s : State) (port : Nat) (p : PortEnt) : (setPortEnt s port p).out = s.out := rfl
@[simp] theorem setPortEnt_mbx (s : State) (port : Nat) (p : PortEnt) : (setPortEnt s port p).mbx = s.mbx := rfl
@[simp] theorem setPortEnt_ses (s : State) (port : Nat) (p : PortEnt) : (setPortEnt s port p).ses = s.ses := rfl
@[simp] theorem setPortEnt_ev (s : State) (port : Nat) (p : PortEnt) : (setPortEnt s port p).ev = s.ev := rfl
@[simp] theorem setPortEnt_pwr (s : State) (port : Nat) (p : PortEnt) : (setPortEnt s port p).pwr = s.pwr := rfl
@[simp] theorem setPortEnt_boot (s : State) (port : Nat) (p : PortEnt) : (setPortEnt s port p).boot = s.boot := rfl
@[simp] theorem setPortEnt_time (s : State) (port : Nat) (p : PortEnt) : (setPortEnt s port p).time = s.time := rfl
@[simp] theorem setPortEnt_tr (s : State) (port : Nat) (p : PortEnt) : (setPortEnt s port p).tr = s.tr := rfl
@[simp] theorem setPortEnt_line (s : State) (port : Nat) (p : PortEnt) : (setPortEnt s port p).line = s.line := rfl
@[simp] theorem setPortEnt_frm (s : State) (port : Nat) (p : PortEnt) : (setPortEnt s port p).frm = s.frm := rfl
@[simp] theorem setPortEnt_cph (s : State) (port : Nat) (p : PortEnt) : (setPortEnt s port p).cph = s.cph := rfl
@[simp] theorem setPortEnt_pool (s : State) (port : Nat) (p : PortEnt) : (setPortEnt s port p).pool = s.pool := rfl
@[simp] theorem setPortEnt_prot (s : State) (port : Nat) (p : PortEnt) : (setPortEnt s port p).prot = s.prot := rfl
@[simp] theorem setPortEnt_fab (s : State) (port : Nat) (p : PortEnt) : (setPortEnt s port p).fab = s.fab := rfl
@[simp] theorem setPortEnt_mem (s : State) (port : Nat) (p : PortEnt) : (setPortEnt s port p).mem = s.mem := rfl
@[simp] theorem setPortEnt_tap (s : State) (port : Nat) (p : PortEnt) : (setPortEnt s port p).tap = s.tap := rfl

/-! ## setChannel -/

@[simp] theorem setChannel_pending (s : State) (c : Nat) (v : Channel) : (setChannel s c v).pending = s.pending := rfl
@[simp] theorem setChannel_now (s : State) (c : Nat) (v : Channel) : (setChannel s c v).now = s.now := rfl
@[simp] theorem setChannel_draws (s : State) (c : Nat) (v : Channel) : (setChannel s c v).draws = s.draws := rfl
@[simp] theorem setChannel_out (s : State) (c : Nat) (v : Channel) : (setChannel s c v).out = s.out := rfl
@[simp] theorem setChannel_mbx (s : State) (c : Nat) (v : Channel) : (setChannel s c v).mbx = s.mbx := rfl
@[simp] theorem setChannel_ses (s : State) (c : Nat) (v : Channel) : (setChannel s c v).ses = s.ses := rfl
@[simp] theorem setChannel_ev (s : State) (c : Nat) (v : Channel) : (setChannel s c v).ev = s.ev := rfl
@[simp] theorem setChannel_pwr (s : State) (c : Nat) (v : Channel) : (setChannel s c v).pwr = s.pwr := rfl
@[simp] theorem setChannel_boot (s : State) (c : Nat) (v : Channel) : (setChannel s c v).boot = s.boot := rfl
@[simp] theorem setChannel_time (s : State) (c : Nat) (v : Channel) : (setChannel s c v).time = s.time := rfl
@[simp] theorem setChannel_tr (s : State) (c : Nat) (v : Channel) : (setChannel s c v).tr = s.tr := rfl
@[simp] theorem setChannel_pe (s : State) (c : Nat) (v : Channel) : (setChannel s c v).pe = s.pe := rfl
@[simp] theorem setChannel_line (s : State) (c : Nat) (v : Channel) : (setChannel s c v).line = s.line := rfl
@[simp] theorem setChannel_frm (s : State) (c : Nat) (v : Channel) : (setChannel s c v).frm = s.frm := rfl
@[simp] theorem setChannel_cph (s : State) (c : Nat) (v : Channel) : (setChannel s c v).cph = s.cph := rfl
@[simp] theorem setChannel_pool (s : State) (c : Nat) (v : Channel) : (setChannel s c v).pool = s.pool := rfl
@[simp] theorem setChannel_prot (s : State) (c : Nat) (v : Channel) : (setChannel s c v).prot = s.prot := rfl
@[simp] theorem setChannel_fab (s : State) (c : Nat) (v : Channel) : (setChannel s c v).fab = s.fab := rfl
@[simp] theorem setChannel_tap (s : State) (c : Nat) (v : Channel) : (setChannel s c v).tap = s.tap := rfl

/-! ## setBank -/

@[simp] theorem setBank_pending (s : State) (c sub b : Nat) (v : MemBank) : (setBank s c sub b v).pending = s.pending := rfl
@[simp] theorem setBank_now (s : State) (c sub b : Nat) (v : MemBank) : (setBank s c sub b v).now = s.now := rfl
@[simp] theorem setBank_draws (s : State) (c sub b : Nat) (v : MemBank) : (setBank s c sub b v).draws = s.draws := rfl
@[simp] theorem setBank_out (s : State) (c sub b : Nat) (v : MemBank) : (setBank s c sub b v).out = s.out := rfl
@[simp] theorem setBank_mbx (s : State) (c sub b : Nat) (v : MemBank) : (setBank s c sub b v).mbx = s.mbx := rfl
@[simp] theorem setBank_ses (s : State) (c sub b : Nat) (v : MemBank) : (setBank s c sub b v).ses = s.ses := rfl
@[simp] theorem setBank_ev (s : State) (c sub b : Nat) (v : MemBank) : (setBank s c sub b v).ev = s.ev := rfl
@[simp] theorem setBank_pwr (s : State) (c sub b : Nat) (v : MemBank) : (setBank s c sub b v).pwr = s.pwr := rfl
@[simp] theorem setBank_boot (s : State) (c sub b : Nat) (v : MemBank) : (setBank s c sub b v).boot = s.boot := rfl
@[simp] theorem setBank_time (s : State) (c sub b : Nat) (v : MemBank) : (setBank s c sub b v).time = s.time := rfl
@[simp] theorem setBank_tr (s : State) (c sub b : Nat) (v : MemBank) : (setBank s c sub b v).tr = s.tr := rfl
@[simp] theorem setBank_pe (s : State) (c sub b : Nat) (v : MemBank) : (setBank s c sub b v).pe = s.pe := rfl
@[simp] theorem setBank_line (s : State) (c sub b : Nat) (v : MemBank) : (setBank s c sub b v).line = s.line := rfl
@[simp] theorem setBank_frm (s : State) (c sub b : Nat) (v : MemBank) : (setBank s c sub b v).frm = s.frm := rfl
@[simp] theorem setBank_cph (s : State) (c sub b : Nat) (v : MemBank) : (setBank s c sub b v).cph = s.cph := rfl
@[simp] theorem setBank_pool (s : State) (c sub b : Nat) (v : MemBank) : (setBank s c sub b v).pool = s.pool := rfl
@[simp] theorem setBank_prot (s : State) (c sub b : Nat) (v : MemBank) : (setBank s c sub b v).prot = s.prot := rfl
@[simp] theorem setBank_fab (s : State) (c sub b : Nat) (v : MemBank) : (setBank s c sub b v).fab = s.fab := rfl
@[simp] theorem setBank_tap (s : State) (c sub b : Nat) (v : MemBank) : (setBank s c sub b v).tap = s.tap := rfl

/-! ## setDmaChannel -/

@[simp] theorem setDmaChannel_pending (s : State) (d : Nat) (v : DmaChannel) : (setDmaChannel s d v).pending = s.pending := rfl
@[simp] theorem setDmaChannel_now (s : State) (d : Nat) (v : DmaChannel) : (setDmaChannel s d v).now = s.now := rfl
@[simp] theorem setDmaChannel_draws (s : State) (d : Nat) (v : DmaChannel) : (setDmaChannel s d v).draws = s.draws := rfl
@[simp] theorem setDmaChannel_out (s : State) (d : Nat) (v : DmaChannel) : (setDmaChannel s d v).out = s.out := rfl
@[simp] theorem setDmaChannel_mbx (s : State) (d : Nat) (v : DmaChannel) : (setDmaChannel s d v).mbx = s.mbx := rfl
@[simp] theorem setDmaChannel_ses (s : State) (d : Nat) (v : DmaChannel) : (setDmaChannel s d v).ses = s.ses := rfl
@[simp] theorem setDmaChannel_ev (s : State) (d : Nat) (v : DmaChannel) : (setDmaChannel s d v).ev = s.ev := rfl
@[simp] theorem setDmaChannel_pwr (s : State) (d : Nat) (v : DmaChannel) : (setDmaChannel s d v).pwr = s.pwr := rfl
@[simp] theorem setDmaChannel_boot (s : State) (d : Nat) (v : DmaChannel) : (setDmaChannel s d v).boot = s.boot := rfl
@[simp] theorem setDmaChannel_time (s : State) (d : Nat) (v : DmaChannel) : (setDmaChannel s d v).time = s.time := rfl
@[simp] theorem setDmaChannel_tr (s : State) (d : Nat) (v : DmaChannel) : (setDmaChannel s d v).tr = s.tr := rfl
@[simp] theorem setDmaChannel_pe (s : State) (d : Nat) (v : DmaChannel) : (setDmaChannel s d v).pe = s.pe := rfl
@[simp] theorem setDmaChannel_line (s : State) (d : Nat) (v : DmaChannel) : (setDmaChannel s d v).line = s.line := rfl
@[simp] theorem setDmaChannel_frm (s : State) (d : Nat) (v : DmaChannel) : (setDmaChannel s d v).frm = s.frm := rfl
@[simp] theorem setDmaChannel_cph (s : State) (d : Nat) (v : DmaChannel) : (setDmaChannel s d v).cph = s.cph := rfl
@[simp] theorem setDmaChannel_pool (s : State) (d : Nat) (v : DmaChannel) : (setDmaChannel s d v).pool = s.pool := rfl
@[simp] theorem setDmaChannel_prot (s : State) (d : Nat) (v : DmaChannel) : (setDmaChannel s d v).prot = s.prot := rfl
@[simp] theorem setDmaChannel_fab (s : State) (d : Nat) (v : DmaChannel) : (setDmaChannel s d v).fab = s.fab := rfl
@[simp] theorem setDmaChannel_tap (s : State) (d : Nat) (v : DmaChannel) : (setDmaChannel s d v).tap = s.tap := rfl

/-! ## setLaneGroup -/

@[simp] theorem setLaneGroup_pending (s : State) (g : Nat) (v : LaneGroup) : (setLaneGroup s g v).pending = s.pending := rfl
@[simp] theorem setLaneGroup_now (s : State) (g : Nat) (v : LaneGroup) : (setLaneGroup s g v).now = s.now := rfl
@[simp] theorem setLaneGroup_draws (s : State) (g : Nat) (v : LaneGroup) : (setLaneGroup s g v).draws = s.draws := rfl
@[simp] theorem setLaneGroup_out (s : State) (g : Nat) (v : LaneGroup) : (setLaneGroup s g v).out = s.out := rfl
@[simp] theorem setLaneGroup_mbx (s : State) (g : Nat) (v : LaneGroup) : (setLaneGroup s g v).mbx = s.mbx := rfl
@[simp] theorem setLaneGroup_ses (s : State) (g : Nat) (v : LaneGroup) : (setLaneGroup s g v).ses = s.ses := rfl
@[simp] theorem setLaneGroup_ev (s : State) (g : Nat) (v : LaneGroup) : (setLaneGroup s g v).ev = s.ev := rfl
@[simp] theorem setLaneGroup_pwr (s : State) (g : Nat) (v : LaneGroup) : (setLaneGroup s g v).pwr = s.pwr := rfl
@[simp] theorem setLaneGroup_boot (s : State) (g : Nat) (v : LaneGroup) : (setLaneGroup s g v).boot = s.boot := rfl
@[simp] theorem setLaneGroup_time (s : State) (g : Nat) (v : LaneGroup) : (setLaneGroup s g v).time = s.time := rfl
@[simp] theorem setLaneGroup_tr (s : State) (g : Nat) (v : LaneGroup) : (setLaneGroup s g v).tr = s.tr := rfl
@[simp] theorem setLaneGroup_pe (s : State) (g : Nat) (v : LaneGroup) : (setLaneGroup s g v).pe = s.pe := rfl
@[simp] theorem setLaneGroup_line (s : State) (g : Nat) (v : LaneGroup) : (setLaneGroup s g v).line = s.line := rfl
@[simp] theorem setLaneGroup_frm (s : State) (g : Nat) (v : LaneGroup) : (setLaneGroup s g v).frm = s.frm := rfl
@[simp] theorem setLaneGroup_cph (s : State) (g : Nat) (v : LaneGroup) : (setLaneGroup s g v).cph = s.cph := rfl
@[simp] theorem setLaneGroup_pool (s : State) (g : Nat) (v : LaneGroup) : (setLaneGroup s g v).pool = s.pool := rfl
@[simp] theorem setLaneGroup_prot (s : State) (g : Nat) (v : LaneGroup) : (setLaneGroup s g v).prot = s.prot := rfl
@[simp] theorem setLaneGroup_mem (s : State) (g : Nat) (v : LaneGroup) : (setLaneGroup s g v).mem = s.mem := rfl
@[simp] theorem setLaneGroup_tap (s : State) (g : Nat) (v : LaneGroup) : (setLaneGroup s g v).tap = s.tap := rfl

/-! ## setClient -/

@[simp] theorem setClient_pending (s : State) (lane : Nat) (v : Client) : (setClient s lane v).pending = s.pending := rfl
@[simp] theorem setClient_now (s : State) (lane : Nat) (v : Client) : (setClient s lane v).now = s.now := rfl
@[simp] theorem setClient_draws (s : State) (lane : Nat) (v : Client) : (setClient s lane v).draws = s.draws := rfl
@[simp] theorem setClient_out (s : State) (lane : Nat) (v : Client) : (setClient s lane v).out = s.out := rfl
@[simp] theorem setClient_mbx (s : State) (lane : Nat) (v : Client) : (setClient s lane v).mbx = s.mbx := rfl
@[simp] theorem setClient_ses (s : State) (lane : Nat) (v : Client) : (setClient s lane v).ses = s.ses := rfl
@[simp] theorem setClient_ev (s : State) (lane : Nat) (v : Client) : (setClient s lane v).ev = s.ev := rfl
@[simp] theorem setClient_pwr (s : State) (lane : Nat) (v : Client) : (setClient s lane v).pwr = s.pwr := rfl
@[simp] theorem setClient_boot (s : State) (lane : Nat) (v : Client) : (setClient s lane v).boot = s.boot := rfl
@[simp] theorem setClient_time (s : State) (lane : Nat) (v : Client) : (setClient s lane v).time = s.time := rfl
@[simp] theorem setClient_tr (s : State) (lane : Nat) (v : Client) : (setClient s lane v).tr = s.tr := rfl
@[simp] theorem setClient_pe (s : State) (lane : Nat) (v : Client) : (setClient s lane v).pe = s.pe := rfl
@[simp] theorem setClient_line (s : State) (lane : Nat) (v : Client) : (setClient s lane v).line = s.line := rfl
@[simp] theorem setClient_frm (s : State) (lane : Nat) (v : Client) : (setClient s lane v).frm = s.frm := rfl
@[simp] theorem setClient_cph (s : State) (lane : Nat) (v : Client) : (setClient s lane v).cph = s.cph := rfl
@[simp] theorem setClient_pool (s : State) (lane : Nat) (v : Client) : (setClient s lane v).pool = s.pool := rfl
@[simp] theorem setClient_prot (s : State) (lane : Nat) (v : Client) : (setClient s lane v).prot = s.prot := rfl
@[simp] theorem setClient_mem (s : State) (lane : Nat) (v : Client) : (setClient s lane v).mem = s.mem := rfl
@[simp] theorem setClient_tap (s : State) (lane : Nat) (v : Client) : (setClient s lane v).tap = s.tap := rfl

/-! ## setImage -/

@[simp] theorem setImage_pending (s : State) (t k : Nat) (v : Image) : (setImage s t k v).pending = s.pending := rfl
@[simp] theorem setImage_now (s : State) (t k : Nat) (v : Image) : (setImage s t k v).now = s.now := rfl
@[simp] theorem setImage_draws (s : State) (t k : Nat) (v : Image) : (setImage s t k v).draws = s.draws := rfl
@[simp] theorem setImage_out (s : State) (t k : Nat) (v : Image) : (setImage s t k v).out = s.out := rfl
@[simp] theorem setImage_mbx (s : State) (t k : Nat) (v : Image) : (setImage s t k v).mbx = s.mbx := rfl
@[simp] theorem setImage_ses (s : State) (t k : Nat) (v : Image) : (setImage s t k v).ses = s.ses := rfl
@[simp] theorem setImage_ev (s : State) (t k : Nat) (v : Image) : (setImage s t k v).ev = s.ev := rfl
@[simp] theorem setImage_pwr (s : State) (t k : Nat) (v : Image) : (setImage s t k v).pwr = s.pwr := rfl
@[simp] theorem setImage_boot (s : State) (t k : Nat) (v : Image) : (setImage s t k v).boot = s.boot := rfl
@[simp] theorem setImage_time (s : State) (t k : Nat) (v : Image) : (setImage s t k v).time = s.time := rfl
@[simp] theorem setImage_tr (s : State) (t k : Nat) (v : Image) : (setImage s t k v).tr = s.tr := rfl
@[simp] theorem setImage_pe (s : State) (t k : Nat) (v : Image) : (setImage s t k v).pe = s.pe := rfl
@[simp] theorem setImage_line (s : State) (t k : Nat) (v : Image) : (setImage s t k v).line = s.line := rfl
@[simp] theorem setImage_frm (s : State) (t k : Nat) (v : Image) : (setImage s t k v).frm = s.frm := rfl
@[simp] theorem setImage_cph (s : State) (t k : Nat) (v : Image) : (setImage s t k v).cph = s.cph := rfl
@[simp] theorem setImage_pool (s : State) (t k : Nat) (v : Image) : (setImage s t k v).pool = s.pool := rfl
@[simp] theorem setImage_fab (s : State) (t k : Nat) (v : Image) : (setImage s t k v).fab = s.fab := rfl
@[simp] theorem setImage_mem (s : State) (t k : Nat) (v : Image) : (setImage s t k v).mem = s.mem := rfl
@[simp] theorem setImage_tap (s : State) (t k : Nat) (v : Image) : (setImage s t k v).tap = s.tap := rfl

/-! ## setArbiter -/

@[simp] theorem setArbiter_pending (s : State) (g : Nat) (v : Arbiter) : (setArbiter s g v).pending = s.pending := rfl
@[simp] theorem setArbiter_now (s : State) (g : Nat) (v : Arbiter) : (setArbiter s g v).now = s.now := rfl
@[simp] theorem setArbiter_draws (s : State) (g : Nat) (v : Arbiter) : (setArbiter s g v).draws = s.draws := rfl
@[simp] theorem setArbiter_out (s : State) (g : Nat) (v : Arbiter) : (setArbiter s g v).out = s.out := rfl
@[simp] theorem setArbiter_mbx (s : State) (g : Nat) (v : Arbiter) : (setArbiter s g v).mbx = s.mbx := rfl
@[simp] theorem setArbiter_ses (s : State) (g : Nat) (v : Arbiter) : (setArbiter s g v).ses = s.ses := rfl
@[simp] theorem setArbiter_ev (s : State) (g : Nat) (v : Arbiter) : (setArbiter s g v).ev = s.ev := rfl
@[simp] theorem setArbiter_pwr (s : State) (g : Nat) (v : Arbiter) : (setArbiter s g v).pwr = s.pwr := rfl
@[simp] theorem setArbiter_boot (s : State) (g : Nat) (v : Arbiter) : (setArbiter s g v).boot = s.boot := rfl
@[simp] theorem setArbiter_time (s : State) (g : Nat) (v : Arbiter) : (setArbiter s g v).time = s.time := rfl
@[simp] theorem setArbiter_tr (s : State) (g : Nat) (v : Arbiter) : (setArbiter s g v).tr = s.tr := rfl
@[simp] theorem setArbiter_pe (s : State) (g : Nat) (v : Arbiter) : (setArbiter s g v).pe = s.pe := rfl
@[simp] theorem setArbiter_line (s : State) (g : Nat) (v : Arbiter) : (setArbiter s g v).line = s.line := rfl
@[simp] theorem setArbiter_frm (s : State) (g : Nat) (v : Arbiter) : (setArbiter s g v).frm = s.frm := rfl
@[simp] theorem setArbiter_cph (s : State) (g : Nat) (v : Arbiter) : (setArbiter s g v).cph = s.cph := rfl
@[simp] theorem setArbiter_pool (s : State) (g : Nat) (v : Arbiter) : (setArbiter s g v).pool = s.pool := rfl
@[simp] theorem setArbiter_fab (s : State) (g : Nat) (v : Arbiter) : (setArbiter s g v).fab = s.fab := rfl
@[simp] theorem setArbiter_mem (s : State) (g : Nat) (v : Arbiter) : (setArbiter s g v).mem = s.mem := rfl
@[simp] theorem setArbiter_tap (s : State) (g : Nat) (v : Arbiter) : (setArbiter s g v).tap = s.tap := rfl

/-! ## setMmuPage -/

@[simp] theorem setMmuPage_pending (s : State) (fn : Nat) (v : MmuPage) : (setMmuPage s fn v).pending = s.pending := rfl
@[simp] theorem setMmuPage_now (s : State) (fn : Nat) (v : MmuPage) : (setMmuPage s fn v).now = s.now := rfl
@[simp] theorem setMmuPage_draws (s : State) (fn : Nat) (v : MmuPage) : (setMmuPage s fn v).draws = s.draws := rfl
@[simp] theorem setMmuPage_out (s : State) (fn : Nat) (v : MmuPage) : (setMmuPage s fn v).out = s.out := rfl
@[simp] theorem setMmuPage_mbx (s : State) (fn : Nat) (v : MmuPage) : (setMmuPage s fn v).mbx = s.mbx := rfl
@[simp] theorem setMmuPage_ses (s : State) (fn : Nat) (v : MmuPage) : (setMmuPage s fn v).ses = s.ses := rfl
@[simp] theorem setMmuPage_ev (s : State) (fn : Nat) (v : MmuPage) : (setMmuPage s fn v).ev = s.ev := rfl
@[simp] theorem setMmuPage_pwr (s : State) (fn : Nat) (v : MmuPage) : (setMmuPage s fn v).pwr = s.pwr := rfl
@[simp] theorem setMmuPage_boot (s : State) (fn : Nat) (v : MmuPage) : (setMmuPage s fn v).boot = s.boot := rfl
@[simp] theorem setMmuPage_time (s : State) (fn : Nat) (v : MmuPage) : (setMmuPage s fn v).time = s.time := rfl
@[simp] theorem setMmuPage_tr (s : State) (fn : Nat) (v : MmuPage) : (setMmuPage s fn v).tr = s.tr := rfl
@[simp] theorem setMmuPage_pe (s : State) (fn : Nat) (v : MmuPage) : (setMmuPage s fn v).pe = s.pe := rfl
@[simp] theorem setMmuPage_line (s : State) (fn : Nat) (v : MmuPage) : (setMmuPage s fn v).line = s.line := rfl
@[simp] theorem setMmuPage_frm (s : State) (fn : Nat) (v : MmuPage) : (setMmuPage s fn v).frm = s.frm := rfl
@[simp] theorem setMmuPage_cph (s : State) (fn : Nat) (v : MmuPage) : (setMmuPage s fn v).cph = s.cph := rfl
@[simp] theorem setMmuPage_pool (s : State) (fn : Nat) (v : MmuPage) : (setMmuPage s fn v).pool = s.pool := rfl
@[simp] theorem setMmuPage_prot (s : State) (fn : Nat) (v : MmuPage) : (setMmuPage s fn v).prot = s.prot := rfl
@[simp] theorem setMmuPage_fab (s : State) (fn : Nat) (v : MmuPage) : (setMmuPage s fn v).fab = s.fab := rfl
@[simp] theorem setMmuPage_tap (s : State) (fn : Nat) (v : MmuPage) : (setMmuPage s fn v).tap = s.tap := rfl

/-! ## setMsixEntry -/

@[simp] theorem setMsixEntry_pending (s : State) (fn v : Nat) (e : MsixEntry) : (setMsixEntry s fn v e).pending = s.pending := rfl
@[simp] theorem setMsixEntry_now (s : State) (fn v : Nat) (e : MsixEntry) : (setMsixEntry s fn v e).now = s.now := rfl
@[simp] theorem setMsixEntry_draws (s : State) (fn v : Nat) (e : MsixEntry) : (setMsixEntry s fn v e).draws = s.draws := rfl
@[simp] theorem setMsixEntry_out (s : State) (fn v : Nat) (e : MsixEntry) : (setMsixEntry s fn v e).out = s.out := rfl
@[simp] theorem setMsixEntry_ses (s : State) (fn v : Nat) (e : MsixEntry) : (setMsixEntry s fn v e).ses = s.ses := rfl
@[simp] theorem setMsixEntry_ev (s : State) (fn v : Nat) (e : MsixEntry) : (setMsixEntry s fn v e).ev = s.ev := rfl
@[simp] theorem setMsixEntry_pwr (s : State) (fn v : Nat) (e : MsixEntry) : (setMsixEntry s fn v e).pwr = s.pwr := rfl
@[simp] theorem setMsixEntry_boot (s : State) (fn v : Nat) (e : MsixEntry) : (setMsixEntry s fn v e).boot = s.boot := rfl
@[simp] theorem setMsixEntry_time (s : State) (fn v : Nat) (e : MsixEntry) : (setMsixEntry s fn v e).time = s.time := rfl
@[simp] theorem setMsixEntry_tr (s : State) (fn v : Nat) (e : MsixEntry) : (setMsixEntry s fn v e).tr = s.tr := rfl
@[simp] theorem setMsixEntry_pe (s : State) (fn v : Nat) (e : MsixEntry) : (setMsixEntry s fn v e).pe = s.pe := rfl
@[simp] theorem setMsixEntry_line (s : State) (fn v : Nat) (e : MsixEntry) : (setMsixEntry s fn v e).line = s.line := rfl
@[simp] theorem setMsixEntry_frm (s : State) (fn v : Nat) (e : MsixEntry) : (setMsixEntry s fn v e).frm = s.frm := rfl
@[simp] theorem setMsixEntry_cph (s : State) (fn v : Nat) (e : MsixEntry) : (setMsixEntry s fn v e).cph = s.cph := rfl
@[simp] theorem setMsixEntry_pool (s : State) (fn v : Nat) (e : MsixEntry) : (setMsixEntry s fn v e).pool = s.pool := rfl
@[simp] theorem setMsixEntry_prot (s : State) (fn v : Nat) (e : MsixEntry) : (setMsixEntry s fn v e).prot = s.prot := rfl
@[simp] theorem setMsixEntry_fab (s : State) (fn v : Nat) (e : MsixEntry) : (setMsixEntry s fn v e).fab = s.fab := rfl
@[simp] theorem setMsixEntry_mem (s : State) (fn v : Nat) (e : MsixEntry) : (setMsixEntry s fn v e).mem = s.mem := rfl
@[simp] theorem setMsixEntry_tap (s : State) (fn v : Nat) (e : MsixEntry) : (setMsixEntry s fn v e).tap = s.tap := rfl

/-! ## setPool -/

@[simp] theorem setPool_pending (s : State) (q : Nat) (v : Pool) : (setPool s q v).pending = s.pending := rfl
@[simp] theorem setPool_now (s : State) (q : Nat) (v : Pool) : (setPool s q v).now = s.now := rfl
@[simp] theorem setPool_draws (s : State) (q : Nat) (v : Pool) : (setPool s q v).draws = s.draws := rfl
@[simp] theorem setPool_out (s : State) (q : Nat) (v : Pool) : (setPool s q v).out = s.out := rfl
@[simp] theorem setPool_mbx (s : State) (q : Nat) (v : Pool) : (setPool s q v).mbx = s.mbx := rfl
@[simp] theorem setPool_ses (s : State) (q : Nat) (v : Pool) : (setPool s q v).ses = s.ses := rfl
@[simp] theorem setPool_ev (s : State) (q : Nat) (v : Pool) : (setPool s q v).ev = s.ev := rfl
@[simp] theorem setPool_pwr (s : State) (q : Nat) (v : Pool) : (setPool s q v).pwr = s.pwr := rfl
@[simp] theorem setPool_boot (s : State) (q : Nat) (v : Pool) : (setPool s q v).boot = s.boot := rfl
@[simp] theorem setPool_time (s : State) (q : Nat) (v : Pool) : (setPool s q v).time = s.time := rfl
@[simp] theorem setPool_tr (s : State) (q : Nat) (v : Pool) : (setPool s q v).tr = s.tr := rfl
@[simp] theorem setPool_pe (s : State) (q : Nat) (v : Pool) : (setPool s q v).pe = s.pe := rfl
@[simp] theorem setPool_line (s : State) (q : Nat) (v : Pool) : (setPool s q v).line = s.line := rfl
@[simp] theorem setPool_frm (s : State) (q : Nat) (v : Pool) : (setPool s q v).frm = s.frm := rfl
@[simp] theorem setPool_cph (s : State) (q : Nat) (v : Pool) : (setPool s q v).cph = s.cph := rfl
@[simp] theorem setPool_prot (s : State) (q : Nat) (v : Pool) : (setPool s q v).prot = s.prot := rfl
@[simp] theorem setPool_fab (s : State) (q : Nat) (v : Pool) : (setPool s q v).fab = s.fab := rfl
@[simp] theorem setPool_mem (s : State) (q : Nat) (v : Pool) : (setPool s q v).mem = s.mem := rfl
@[simp] theorem setPool_tap (s : State) (q : Nat) (v : Pool) : (setPool s q v).tap = s.tap := rfl

/-! ## setHeader -/

@[simp] theorem setHeader_pending (s : State) (ptr : Nat) (h : Header) : (setHeader s ptr h).pending = s.pending := rfl
@[simp] theorem setHeader_now (s : State) (ptr : Nat) (h : Header) : (setHeader s ptr h).now = s.now := rfl
@[simp] theorem setHeader_draws (s : State) (ptr : Nat) (h : Header) : (setHeader s ptr h).draws = s.draws := rfl
@[simp] theorem setHeader_out (s : State) (ptr : Nat) (h : Header) : (setHeader s ptr h).out = s.out := rfl
@[simp] theorem setHeader_mbx (s : State) (ptr : Nat) (h : Header) : (setHeader s ptr h).mbx = s.mbx := rfl
@[simp] theorem setHeader_ses (s : State) (ptr : Nat) (h : Header) : (setHeader s ptr h).ses = s.ses := rfl
@[simp] theorem setHeader_ev (s : State) (ptr : Nat) (h : Header) : (setHeader s ptr h).ev = s.ev := rfl
@[simp] theorem setHeader_pwr (s : State) (ptr : Nat) (h : Header) : (setHeader s ptr h).pwr = s.pwr := rfl
@[simp] theorem setHeader_boot (s : State) (ptr : Nat) (h : Header) : (setHeader s ptr h).boot = s.boot := rfl
@[simp] theorem setHeader_time (s : State) (ptr : Nat) (h : Header) : (setHeader s ptr h).time = s.time := rfl
@[simp] theorem setHeader_tr (s : State) (ptr : Nat) (h : Header) : (setHeader s ptr h).tr = s.tr := rfl
@[simp] theorem setHeader_pe (s : State) (ptr : Nat) (h : Header) : (setHeader s ptr h).pe = s.pe := rfl
@[simp] theorem setHeader_line (s : State) (ptr : Nat) (h : Header) : (setHeader s ptr h).line = s.line := rfl
@[simp] theorem setHeader_frm (s : State) (ptr : Nat) (h : Header) : (setHeader s ptr h).frm = s.frm := rfl
@[simp] theorem setHeader_cph (s : State) (ptr : Nat) (h : Header) : (setHeader s ptr h).cph = s.cph := rfl
@[simp] theorem setHeader_prot (s : State) (ptr : Nat) (h : Header) : (setHeader s ptr h).prot = s.prot := rfl
@[simp] theorem setHeader_fab (s : State) (ptr : Nat) (h : Header) : (setHeader s ptr h).fab = s.fab := rfl
@[simp] theorem setHeader_mem (s : State) (ptr : Nat) (h : Header) : (setHeader s ptr h).mem = s.mem := rfl
@[simp] theorem setHeader_tap (s : State) (ptr : Nat) (h : Header) : (setHeader s ptr h).tap = s.tap := rfl

/-! ## setWitness -/

@[simp] theorem setWitness_pending (s : State) (l : Nat) (w : Witness) : (setWitness s l w).pending = s.pending := rfl
@[simp] theorem setWitness_now (s : State) (l : Nat) (w : Witness) : (setWitness s l w).now = s.now := rfl
@[simp] theorem setWitness_draws (s : State) (l : Nat) (w : Witness) : (setWitness s l w).draws = s.draws := rfl
@[simp] theorem setWitness_out (s : State) (l : Nat) (w : Witness) : (setWitness s l w).out = s.out := rfl
@[simp] theorem setWitness_mbx (s : State) (l : Nat) (w : Witness) : (setWitness s l w).mbx = s.mbx := rfl
@[simp] theorem setWitness_ses (s : State) (l : Nat) (w : Witness) : (setWitness s l w).ses = s.ses := rfl
@[simp] theorem setWitness_ev (s : State) (l : Nat) (w : Witness) : (setWitness s l w).ev = s.ev := rfl
@[simp] theorem setWitness_pwr (s : State) (l : Nat) (w : Witness) : (setWitness s l w).pwr = s.pwr := rfl
@[simp] theorem setWitness_boot (s : State) (l : Nat) (w : Witness) : (setWitness s l w).boot = s.boot := rfl
@[simp] theorem setWitness_tr (s : State) (l : Nat) (w : Witness) : (setWitness s l w).tr = s.tr := rfl
@[simp] theorem setWitness_pe (s : State) (l : Nat) (w : Witness) : (setWitness s l w).pe = s.pe := rfl
@[simp] theorem setWitness_line (s : State) (l : Nat) (w : Witness) : (setWitness s l w).line = s.line := rfl
@[simp] theorem setWitness_frm (s : State) (l : Nat) (w : Witness) : (setWitness s l w).frm = s.frm := rfl
@[simp] theorem setWitness_cph (s : State) (l : Nat) (w : Witness) : (setWitness s l w).cph = s.cph := rfl
@[simp] theorem setWitness_pool (s : State) (l : Nat) (w : Witness) : (setWitness s l w).pool = s.pool := rfl
@[simp] theorem setWitness_prot (s : State) (l : Nat) (w : Witness) : (setWitness s l w).prot = s.prot := rfl
@[simp] theorem setWitness_fab (s : State) (l : Nat) (w : Witness) : (setWitness s l w).fab = s.fab := rfl
@[simp] theorem setWitness_mem (s : State) (l : Nat) (w : Witness) : (setWitness s l w).mem = s.mem := rfl
@[simp] theorem setWitness_tap (s : State) (l : Nat) (w : Witness) : (setWitness s l w).tap = s.tap := rfl

/-! ## setLearn -/

@[simp] theorem setLearn_pending (s : State) (p i : Nat) (e : Option LearnEntry) : (setLearn s p i e).pending = s.pending := rfl
@[simp] theorem setLearn_now (s : State) (p i : Nat) (e : Option LearnEntry) : (setLearn s p i e).now = s.now := rfl
@[simp] theorem setLearn_draws (s : State) (p i : Nat) (e : Option LearnEntry) : (setLearn s p i e).draws = s.draws := rfl
@[simp] theorem setLearn_out (s : State) (p i : Nat) (e : Option LearnEntry) : (setLearn s p i e).out = s.out := rfl
@[simp] theorem setLearn_mbx (s : State) (p i : Nat) (e : Option LearnEntry) : (setLearn s p i e).mbx = s.mbx := rfl
@[simp] theorem setLearn_ses (s : State) (p i : Nat) (e : Option LearnEntry) : (setLearn s p i e).ses = s.ses := rfl
@[simp] theorem setLearn_ev (s : State) (p i : Nat) (e : Option LearnEntry) : (setLearn s p i e).ev = s.ev := rfl
@[simp] theorem setLearn_pwr (s : State) (p i : Nat) (e : Option LearnEntry) : (setLearn s p i e).pwr = s.pwr := rfl
@[simp] theorem setLearn_boot (s : State) (p i : Nat) (e : Option LearnEntry) : (setLearn s p i e).boot = s.boot := rfl
@[simp] theorem setLearn_time (s : State) (p i : Nat) (e : Option LearnEntry) : (setLearn s p i e).time = s.time := rfl
@[simp] theorem setLearn_tr (s : State) (p i : Nat) (e : Option LearnEntry) : (setLearn s p i e).tr = s.tr := rfl
@[simp] theorem setLearn_line (s : State) (p i : Nat) (e : Option LearnEntry) : (setLearn s p i e).line = s.line := rfl
@[simp] theorem setLearn_frm (s : State) (p i : Nat) (e : Option LearnEntry) : (setLearn s p i e).frm = s.frm := rfl
@[simp] theorem setLearn_cph (s : State) (p i : Nat) (e : Option LearnEntry) : (setLearn s p i e).cph = s.cph := rfl
@[simp] theorem setLearn_pool (s : State) (p i : Nat) (e : Option LearnEntry) : (setLearn s p i e).pool = s.pool := rfl
@[simp] theorem setLearn_prot (s : State) (p i : Nat) (e : Option LearnEntry) : (setLearn s p i e).prot = s.prot := rfl
@[simp] theorem setLearn_fab (s : State) (p i : Nat) (e : Option LearnEntry) : (setLearn s p i e).fab = s.fab := rfl
@[simp] theorem setLearn_mem (s : State) (p i : Nat) (e : Option LearnEntry) : (setLearn s p i e).mem = s.mem := rfl
@[simp] theorem setLearn_tap (s : State) (p i : Nat) (e : Option LearnEntry) : (setLearn s p i e).tap = s.tap := rfl

/-! ## setService -/

@[simp] theorem setService_pending (s : State) (i : Nat) (e : Option ServiceEntry) : (setService s i e).pending = s.pending := rfl
@[simp] theorem setService_now (s : State) (i : Nat) (e : Option ServiceEntry) : (setService s i e).now = s.now := rfl
@[simp] theorem setService_draws (s : State) (i : Nat) (e : Option ServiceEntry) : (setService s i e).draws = s.draws := rfl
@[simp] theorem setService_out (s : State) (i : Nat) (e : Option ServiceEntry) : (setService s i e).out = s.out := rfl
@[simp] theorem setService_mbx (s : State) (i : Nat) (e : Option ServiceEntry) : (setService s i e).mbx = s.mbx := rfl
@[simp] theorem setService_ses (s : State) (i : Nat) (e : Option ServiceEntry) : (setService s i e).ses = s.ses := rfl
@[simp] theorem setService_ev (s : State) (i : Nat) (e : Option ServiceEntry) : (setService s i e).ev = s.ev := rfl
@[simp] theorem setService_pwr (s : State) (i : Nat) (e : Option ServiceEntry) : (setService s i e).pwr = s.pwr := rfl
@[simp] theorem setService_boot (s : State) (i : Nat) (e : Option ServiceEntry) : (setService s i e).boot = s.boot := rfl
@[simp] theorem setService_time (s : State) (i : Nat) (e : Option ServiceEntry) : (setService s i e).time = s.time := rfl
@[simp] theorem setService_tr (s : State) (i : Nat) (e : Option ServiceEntry) : (setService s i e).tr = s.tr := rfl
@[simp] theorem setService_line (s : State) (i : Nat) (e : Option ServiceEntry) : (setService s i e).line = s.line := rfl
@[simp] theorem setService_frm (s : State) (i : Nat) (e : Option ServiceEntry) : (setService s i e).frm = s.frm := rfl
@[simp] theorem setService_cph (s : State) (i : Nat) (e : Option ServiceEntry) : (setService s i e).cph = s.cph := rfl
@[simp] theorem setService_pool (s : State) (i : Nat) (e : Option ServiceEntry) : (setService s i e).pool = s.pool := rfl
@[simp] theorem setService_prot (s : State) (i : Nat) (e : Option ServiceEntry) : (setService s i e).prot = s.prot := rfl
@[simp] theorem setService_fab (s : State) (i : Nat) (e : Option ServiceEntry) : (setService s i e).fab = s.fab := rfl
@[simp] theorem setService_mem (s : State) (i : Nat) (e : Option ServiceEntry) : (setService s i e).mem = s.mem := rfl
@[simp] theorem setService_tap (s : State) (i : Nat) (e : Option ServiceEntry) : (setService s i e).tap = s.tap := rfl

/-! ## setTablePage -/

@[simp] theorem setTablePage_pending (s : State) (t : Nat) (v : TablePage) : (setTablePage s t v).pending = s.pending := rfl
@[simp] theorem setTablePage_now (s : State) (t : Nat) (v : TablePage) : (setTablePage s t v).now = s.now := rfl
@[simp] theorem setTablePage_draws (s : State) (t : Nat) (v : TablePage) : (setTablePage s t v).draws = s.draws := rfl
@[simp] theorem setTablePage_out (s : State) (t : Nat) (v : TablePage) : (setTablePage s t v).out = s.out := rfl
@[simp] theorem setTablePage_mbx (s : State) (t : Nat) (v : TablePage) : (setTablePage s t v).mbx = s.mbx := rfl
@[simp] theorem setTablePage_ses (s : State) (t : Nat) (v : TablePage) : (setTablePage s t v).ses = s.ses := rfl
@[simp] theorem setTablePage_ev (s : State) (t : Nat) (v : TablePage) : (setTablePage s t v).ev = s.ev := rfl
@[simp] theorem setTablePage_pwr (s : State) (t : Nat) (v : TablePage) : (setTablePage s t v).pwr = s.pwr := rfl
@[simp] theorem setTablePage_boot (s : State) (t : Nat) (v : TablePage) : (setTablePage s t v).boot = s.boot := rfl
@[simp] theorem setTablePage_time (s : State) (t : Nat) (v : TablePage) : (setTablePage s t v).time = s.time := rfl
@[simp] theorem setTablePage_tr (s : State) (t : Nat) (v : TablePage) : (setTablePage s t v).tr = s.tr := rfl
@[simp] theorem setTablePage_line (s : State) (t : Nat) (v : TablePage) : (setTablePage s t v).line = s.line := rfl
@[simp] theorem setTablePage_frm (s : State) (t : Nat) (v : TablePage) : (setTablePage s t v).frm = s.frm := rfl
@[simp] theorem setTablePage_cph (s : State) (t : Nat) (v : TablePage) : (setTablePage s t v).cph = s.cph := rfl
@[simp] theorem setTablePage_pool (s : State) (t : Nat) (v : TablePage) : (setTablePage s t v).pool = s.pool := rfl
@[simp] theorem setTablePage_prot (s : State) (t : Nat) (v : TablePage) : (setTablePage s t v).prot = s.prot := rfl
@[simp] theorem setTablePage_fab (s : State) (t : Nat) (v : TablePage) : (setTablePage s t v).fab = s.fab := rfl
@[simp] theorem setTablePage_mem (s : State) (t : Nat) (v : TablePage) : (setTablePage s t v).mem = s.mem := rfl
@[simp] theorem setTablePage_tap (s : State) (t : Nat) (v : TablePage) : (setTablePage s t v).tap = s.tap := rfl

/-! ## setPps -/

@[simp] theorem setPps_pending (s : State) (i : Nat) (v : PpsInput) : (setPps s i v).pending = s.pending := rfl
@[simp] theorem setPps_now (s : State) (i : Nat) (v : PpsInput) : (setPps s i v).now = s.now := rfl
@[simp] theorem setPps_draws (s : State) (i : Nat) (v : PpsInput) : (setPps s i v).draws = s.draws := rfl
@[simp] theorem setPps_out (s : State) (i : Nat) (v : PpsInput) : (setPps s i v).out = s.out := rfl
@[simp] theorem setPps_mbx (s : State) (i : Nat) (v : PpsInput) : (setPps s i v).mbx = s.mbx := rfl
@[simp] theorem setPps_ses (s : State) (i : Nat) (v : PpsInput) : (setPps s i v).ses = s.ses := rfl
@[simp] theorem setPps_ev (s : State) (i : Nat) (v : PpsInput) : (setPps s i v).ev = s.ev := rfl
@[simp] theorem setPps_pwr (s : State) (i : Nat) (v : PpsInput) : (setPps s i v).pwr = s.pwr := rfl
@[simp] theorem setPps_boot (s : State) (i : Nat) (v : PpsInput) : (setPps s i v).boot = s.boot := rfl
@[simp] theorem setPps_tr (s : State) (i : Nat) (v : PpsInput) : (setPps s i v).tr = s.tr := rfl
@[simp] theorem setPps_pe (s : State) (i : Nat) (v : PpsInput) : (setPps s i v).pe = s.pe := rfl
@[simp] theorem setPps_line (s : State) (i : Nat) (v : PpsInput) : (setPps s i v).line = s.line := rfl
@[simp] theorem setPps_frm (s : State) (i : Nat) (v : PpsInput) : (setPps s i v).frm = s.frm := rfl
@[simp] theorem setPps_cph (s : State) (i : Nat) (v : PpsInput) : (setPps s i v).cph = s.cph := rfl
@[simp] theorem setPps_pool (s : State) (i : Nat) (v : PpsInput) : (setPps s i v).pool = s.pool := rfl
@[simp] theorem setPps_prot (s : State) (i : Nat) (v : PpsInput) : (setPps s i v).prot = s.prot := rfl
@[simp] theorem setPps_fab (s : State) (i : Nat) (v : PpsInput) : (setPps s i v).fab = s.fab := rfl
@[simp] theorem setPps_mem (s : State) (i : Nat) (v : PpsInput) : (setPps s i v).mem = s.mem := rfl
@[simp] theorem setPps_tap (s : State) (i : Nat) (v : PpsInput) : (setPps s i v).tap = s.tap := rfl

/-! ## setPulse -/

@[simp] theorem setPulse_pending (s : State) (o : Nat) (v : PulseOut) : (setPulse s o v).pending = s.pending := rfl
@[simp] theorem setPulse_now (s : State) (o : Nat) (v : PulseOut) : (setPulse s o v).now = s.now := rfl
@[simp] theorem setPulse_draws (s : State) (o : Nat) (v : PulseOut) : (setPulse s o v).draws = s.draws := rfl
@[simp] theorem setPulse_out (s : State) (o : Nat) (v : PulseOut) : (setPulse s o v).out = s.out := rfl
@[simp] theorem setPulse_mbx (s : State) (o : Nat) (v : PulseOut) : (setPulse s o v).mbx = s.mbx := rfl
@[simp] theorem setPulse_ses (s : State) (o : Nat) (v : PulseOut) : (setPulse s o v).ses = s.ses := rfl
@[simp] theorem setPulse_ev (s : State) (o : Nat) (v : PulseOut) : (setPulse s o v).ev = s.ev := rfl
@[simp] theorem setPulse_pwr (s : State) (o : Nat) (v : PulseOut) : (setPulse s o v).pwr = s.pwr := rfl
@[simp] theorem setPulse_boot (s : State) (o : Nat) (v : PulseOut) : (setPulse s o v).boot = s.boot := rfl
@[simp] theorem setPulse_tr (s : State) (o : Nat) (v : PulseOut) : (setPulse s o v).tr = s.tr := rfl
@[simp] theorem setPulse_pe (s : State) (o : Nat) (v : PulseOut) : (setPulse s o v).pe = s.pe := rfl
@[simp] theorem setPulse_line (s : State) (o : Nat) (v : PulseOut) : (setPulse s o v).line = s.line := rfl
@[simp] theorem setPulse_frm (s : State) (o : Nat) (v : PulseOut) : (setPulse s o v).frm = s.frm := rfl
@[simp] theorem setPulse_cph (s : State) (o : Nat) (v : PulseOut) : (setPulse s o v).cph = s.cph := rfl
@[simp] theorem setPulse_pool (s : State) (o : Nat) (v : PulseOut) : (setPulse s o v).pool = s.pool := rfl
@[simp] theorem setPulse_prot (s : State) (o : Nat) (v : PulseOut) : (setPulse s o v).prot = s.prot := rfl
@[simp] theorem setPulse_fab (s : State) (o : Nat) (v : PulseOut) : (setPulse s o v).fab = s.fab := rfl
@[simp] theorem setPulse_mem (s : State) (o : Nat) (v : PulseOut) : (setPulse s o v).mem = s.mem := rfl
@[simp] theorem setPulse_tap (s : State) (o : Nat) (v : PulseOut) : (setPulse s o v).tap = s.tap := rfl

/-! ## setPtpClock -/

@[simp] theorem setPtpClock_pending (s : State) (c : Nat) (v : PtpClock) : (setPtpClock s c v).pending = s.pending := rfl
@[simp] theorem setPtpClock_now (s : State) (c : Nat) (v : PtpClock) : (setPtpClock s c v).now = s.now := rfl
@[simp] theorem setPtpClock_draws (s : State) (c : Nat) (v : PtpClock) : (setPtpClock s c v).draws = s.draws := rfl
@[simp] theorem setPtpClock_out (s : State) (c : Nat) (v : PtpClock) : (setPtpClock s c v).out = s.out := rfl
@[simp] theorem setPtpClock_mbx (s : State) (c : Nat) (v : PtpClock) : (setPtpClock s c v).mbx = s.mbx := rfl
@[simp] theorem setPtpClock_ses (s : State) (c : Nat) (v : PtpClock) : (setPtpClock s c v).ses = s.ses := rfl
@[simp] theorem setPtpClock_ev (s : State) (c : Nat) (v : PtpClock) : (setPtpClock s c v).ev = s.ev := rfl
@[simp] theorem setPtpClock_pwr (s : State) (c : Nat) (v : PtpClock) : (setPtpClock s c v).pwr = s.pwr := rfl
@[simp] theorem setPtpClock_boot (s : State) (c : Nat) (v : PtpClock) : (setPtpClock s c v).boot = s.boot := rfl
@[simp] theorem setPtpClock_tr (s : State) (c : Nat) (v : PtpClock) : (setPtpClock s c v).tr = s.tr := rfl
@[simp] theorem setPtpClock_pe (s : State) (c : Nat) (v : PtpClock) : (setPtpClock s c v).pe = s.pe := rfl
@[simp] theorem setPtpClock_line (s : State) (c : Nat) (v : PtpClock) : (setPtpClock s c v).line = s.line := rfl
@[simp] theorem setPtpClock_frm (s : State) (c : Nat) (v : PtpClock) : (setPtpClock s c v).frm = s.frm := rfl
@[simp] theorem setPtpClock_cph (s : State) (c : Nat) (v : PtpClock) : (setPtpClock s c v).cph = s.cph := rfl
@[simp] theorem setPtpClock_pool (s : State) (c : Nat) (v : PtpClock) : (setPtpClock s c v).pool = s.pool := rfl
@[simp] theorem setPtpClock_prot (s : State) (c : Nat) (v : PtpClock) : (setPtpClock s c v).prot = s.prot := rfl
@[simp] theorem setPtpClock_fab (s : State) (c : Nat) (v : PtpClock) : (setPtpClock s c v).fab = s.fab := rfl
@[simp] theorem setPtpClock_mem (s : State) (c : Nat) (v : PtpClock) : (setPtpClock s c v).mem = s.mem := rfl
@[simp] theorem setPtpClock_tap (s : State) (c : Nat) (v : PtpClock) : (setPtpClock s c v).tap = s.tap := rfl

/-! ## setTod -/

@[simp] theorem setTod_pending (s : State) (t : Nat) (v : TreeTod) : (setTod s t v).pending = s.pending := rfl
@[simp] theorem setTod_now (s : State) (t : Nat) (v : TreeTod) : (setTod s t v).now = s.now := rfl
@[simp] theorem setTod_draws (s : State) (t : Nat) (v : TreeTod) : (setTod s t v).draws = s.draws := rfl
@[simp] theorem setTod_out (s : State) (t : Nat) (v : TreeTod) : (setTod s t v).out = s.out := rfl
@[simp] theorem setTod_mbx (s : State) (t : Nat) (v : TreeTod) : (setTod s t v).mbx = s.mbx := rfl
@[simp] theorem setTod_ses (s : State) (t : Nat) (v : TreeTod) : (setTod s t v).ses = s.ses := rfl
@[simp] theorem setTod_ev (s : State) (t : Nat) (v : TreeTod) : (setTod s t v).ev = s.ev := rfl
@[simp] theorem setTod_pwr (s : State) (t : Nat) (v : TreeTod) : (setTod s t v).pwr = s.pwr := rfl
@[simp] theorem setTod_boot (s : State) (t : Nat) (v : TreeTod) : (setTod s t v).boot = s.boot := rfl
@[simp] theorem setTod_tr (s : State) (t : Nat) (v : TreeTod) : (setTod s t v).tr = s.tr := rfl
@[simp] theorem setTod_pe (s : State) (t : Nat) (v : TreeTod) : (setTod s t v).pe = s.pe := rfl
@[simp] theorem setTod_line (s : State) (t : Nat) (v : TreeTod) : (setTod s t v).line = s.line := rfl
@[simp] theorem setTod_frm (s : State) (t : Nat) (v : TreeTod) : (setTod s t v).frm = s.frm := rfl
@[simp] theorem setTod_cph (s : State) (t : Nat) (v : TreeTod) : (setTod s t v).cph = s.cph := rfl
@[simp] theorem setTod_pool (s : State) (t : Nat) (v : TreeTod) : (setTod s t v).pool = s.pool := rfl
@[simp] theorem setTod_prot (s : State) (t : Nat) (v : TreeTod) : (setTod s t v).prot = s.prot := rfl
@[simp] theorem setTod_fab (s : State) (t : Nat) (v : TreeTod) : (setTod s t v).fab = s.fab := rfl
@[simp] theorem setTod_mem (s : State) (t : Nat) (v : TreeTod) : (setTod s t v).mem = s.mem := rfl
@[simp] theorem setTod_tap (s : State) (t : Nat) (v : TreeTod) : (setTod s t v).tap = s.tap := rfl

/-! ## Output and free values -/

@[simp] theorem emit_pending (o : Output) (s : State) : (emit o s).pending = s.pending := rfl
@[simp] theorem emit_now (o : Output) (s : State) : (emit o s).now = s.now := rfl
@[simp] theorem emit_draws (o : Output) (s : State) : (emit o s).draws = s.draws := rfl
@[simp] theorem emit_mbx (o : Output) (s : State) : (emit o s).mbx = s.mbx := rfl
@[simp] theorem emit_ses (o : Output) (s : State) : (emit o s).ses = s.ses := rfl
@[simp] theorem emit_ev (o : Output) (s : State) : (emit o s).ev = s.ev := rfl
@[simp] theorem emit_pwr (o : Output) (s : State) : (emit o s).pwr = s.pwr := rfl
@[simp] theorem emit_boot (o : Output) (s : State) : (emit o s).boot = s.boot := rfl
@[simp] theorem emit_time (o : Output) (s : State) : (emit o s).time = s.time := rfl
@[simp] theorem emit_tr (o : Output) (s : State) : (emit o s).tr = s.tr := rfl
@[simp] theorem emit_pe (o : Output) (s : State) : (emit o s).pe = s.pe := rfl
@[simp] theorem emit_line (o : Output) (s : State) : (emit o s).line = s.line := rfl
@[simp] theorem emit_frm (o : Output) (s : State) : (emit o s).frm = s.frm := rfl
@[simp] theorem emit_cph (o : Output) (s : State) : (emit o s).cph = s.cph := rfl
@[simp] theorem emit_pool (o : Output) (s : State) : (emit o s).pool = s.pool := rfl
@[simp] theorem emit_prot (o : Output) (s : State) : (emit o s).prot = s.prot := rfl
@[simp] theorem emit_fab (o : Output) (s : State) : (emit o s).fab = s.fab := rfl
@[simp] theorem emit_mem (o : Output) (s : State) : (emit o s).mem = s.mem := rfl
@[simp] theorem emit_tap (o : Output) (s : State) : (emit o s).tap = s.tap := rfl
@[simp] theorem emit_out (o : Output) (s : State) : (emit o s).out = o :: s.out := rfl
@[simp] theorem draw_pending (s : State) : (draw s).2.pending = s.pending := rfl
@[simp] theorem draw_now (s : State) : (draw s).2.now = s.now := rfl
@[simp] theorem draw_out (s : State) : (draw s).2.out = s.out := rfl
@[simp] theorem draw_mbx (s : State) : (draw s).2.mbx = s.mbx := rfl
@[simp] theorem draw_ses (s : State) : (draw s).2.ses = s.ses := rfl
@[simp] theorem draw_ev (s : State) : (draw s).2.ev = s.ev := rfl
@[simp] theorem draw_pwr (s : State) : (draw s).2.pwr = s.pwr := rfl
@[simp] theorem draw_boot (s : State) : (draw s).2.boot = s.boot := rfl
@[simp] theorem draw_time (s : State) : (draw s).2.time = s.time := rfl
@[simp] theorem draw_tr (s : State) : (draw s).2.tr = s.tr := rfl
@[simp] theorem draw_pe (s : State) : (draw s).2.pe = s.pe := rfl
@[simp] theorem draw_line (s : State) : (draw s).2.line = s.line := rfl
@[simp] theorem draw_frm (s : State) : (draw s).2.frm = s.frm := rfl
@[simp] theorem draw_cph (s : State) : (draw s).2.cph = s.cph := rfl
@[simp] theorem draw_pool (s : State) : (draw s).2.pool = s.pool := rfl
@[simp] theorem draw_prot (s : State) : (draw s).2.prot = s.prot := rfl
@[simp] theorem draw_fab (s : State) : (draw s).2.fab = s.fab := rfl
@[simp] theorem draw_mem (s : State) : (draw s).2.mem = s.mem := rfl
@[simp] theorem draw_tap (s : State) : (draw s).2.tap = s.tap := rfl
@[simp] theorem draw_draws (s : State) : (draw s).2.draws = s.draws + 1 := rfl

/-! ## A read after a write -/

@[simp] theorem session_setSession_same (s : State) (k : Nat) (v : Session) : session (setSession s k v) k = v := tget_tset_same _ _ _ _
theorem session_setSession_other (s : State) (j k : Nat) (v : Session) (h : j ≠ k) : session (setSession s k v) j = session s j :=
  tget_tset_other _ _ _ _ _ h
@[simp] theorem tree_setTree_same (s : State) (k : Nat) (v : Tree) : tree (setTree s k v) k = v := tget_tset_same _ _ _ _
theorem tree_setTree_other (s : State) (j k : Nat) (v : Tree) (h : j ≠ k) : tree (setTree s k v) j = tree s j :=
  tget_tset_other _ _ _ _ _ h
@[simp] theorem alloc_setAlloc_same (s : State) (k : Nat) (v : Alloc) : alloc (setAlloc s k v) k = v := tget_tset_same _ _ _ _
theorem alloc_setAlloc_other (s : State) (j k : Nat) (v : Alloc) (h : j ≠ k) : alloc (setAlloc s k v) j = alloc s j :=
  tget_tset_other _ _ _ _ _ h
@[simp] theorem portCtx_setPortCtx_same (s : State) (k : Nat) (v : PortCtx) : portCtx (setPortCtx s k v) k = v := tget_tset_same _ _ _ _
theorem portCtx_setPortCtx_other (s : State) (j k : Nat) (v : PortCtx) (h : j ≠ k) : portCtx (setPortCtx s k v) j = portCtx s j :=
  tget_tset_other _ _ _ _ _ h
@[simp] theorem evq_setEvq_same (s : State) (k : Nat) (v : Evq) : evq (setEvq s k v) k = v := tget_tset_same _ _ _ _
theorem evq_setEvq_other (s : State) (j k : Nat) (v : Evq) (h : j ≠ k) : evq (setEvq s k v) j = evq s j :=
  tget_tset_other _ _ _ _ _ h
@[simp] theorem route_setRoute_same (s : State) (k : Nat) (v : RouteEnt) : route (setRoute s k v) k = v := tget_tset_same _ _ _ _
theorem route_setRoute_other (s : State) (j k : Nat) (v : RouteEnt) (h : j ≠ k) : route (setRoute s k v) j = route s j :=
  tget_tset_other _ _ _ _ _ h
@[simp] theorem source_setSource_same (s : State) (k : Nat) (v : SourceCount) : source (setSource s k v) k = v := tget_tset_same _ _ _ _
theorem source_setSource_other (s : State) (j k : Nat) (v : SourceCount) (h : j ≠ k) : source (setSource s k v) j = source s j :=
  tget_tset_other _ _ _ _ _ h
@[simp] theorem counter_setCounter_same (s : State) (k : Nat) (v : Counter) : counter (setCounter s k v) k = v := tget_tset_same _ _ _ _
theorem counter_setCounter_other (s : State) (j k : Nat) (v : Counter) (h : j ≠ k) : counter (setCounter s k v) j = counter s j :=
  tget_tset_other _ _ _ _ _ h
@[simp] theorem meter_setMeter_same (s : State) (k : Nat) (v : Meter) : meter (setMeter s k v) k = v := tget_tset_same _ _ _ _
theorem meter_setMeter_other (s : State) (j k : Nat) (v : Meter) (h : j ≠ k) : meter (setMeter s k v) j = meter s j :=
  tget_tset_other _ _ _ _ _ h
@[simp] theorem timeBase_setTimeBase_same (s : State) (k : Nat) (v : TimeBase) : timeBase (setTimeBase s k v) k = v := tget_tset_same _ _ _ _
theorem timeBase_setTimeBase_other (s : State) (j k : Nat) (v : TimeBase) (h : j ≠ k) : timeBase (setTimeBase s k v) j = timeBase s j :=
  tget_tset_other _ _ _ _ _ h
@[simp] theorem line_setLine_same (s : State) (k : Nat) (v : LineEngine) : line (setLine s k v) k = v := tget_tset_same _ _ _ _
theorem line_setLine_other (s : State) (j k : Nat) (v : LineEngine) (h : j ≠ k) : line (setLine s k v) j = line s j :=
  tget_tset_other _ _ _ _ _ h
@[simp] theorem framer_setFramer_same (s : State) (k : Nat) (v : Framer) : framer (setFramer s k v) k = v := tget_tset_same _ _ _ _
theorem framer_setFramer_other (s : State) (j k : Nat) (v : Framer) (h : j ≠ k) : framer (setFramer s k v) j = framer s j :=
  tget_tset_other _ _ _ _ _ h
@[simp] theorem sealOf_setSeal_same (s : State) (k : Nat) (v : Seal) : sealOf (setSeal s k v) k = v := tget_tset_same _ _ _ _
theorem sealOf_setSeal_other (s : State) (j k : Nat) (v : Seal) (h : j ≠ k) : sealOf (setSeal s k v) j = sealOf s j :=
  tget_tset_other _ _ _ _ _ h
@[simp] theorem macsec_setMacsec_same (s : State) (k : Nat) (v : Macsec) : macsec (setMacsec s k v) k = v := tget_tset_same _ _ _ _
theorem macsec_setMacsec_other (s : State) (j k : Nat) (v : Macsec) (h : j ≠ k) : macsec (setMacsec s k v) j = macsec s j :=
  tget_tset_other _ _ _ _ _ h
@[simp] theorem keyPage_setKeyPage_same (s : State) (k : Nat) (v : KeyPage) : keyPage (setKeyPage s k v) k = v := tget_tset_same _ _ _ _
theorem keyPage_setKeyPage_other (s : State) (j k : Nat) (v : KeyPage) (h : j ≠ k) : keyPage (setKeyPage s k v) j = keyPage s j :=
  tget_tset_other _ _ _ _ _ h
@[simp] theorem pipe_setPipe_same (s : State) (k : Nat) (v : Pipeline) : pipe (setPipe s k v) k = v := tget_tset_same _ _ _ _
theorem pipe_setPipe_other (s : State) (j k : Nat) (v : Pipeline) (h : j ≠ k) : pipe (setPipe s k v) j = pipe s j :=
  tget_tset_other _ _ _ _ _ h
@[simp] theorem queue_setQueue_same (s : State) (k : Nat) (v : Queue) : queue (setQueue s k v) k = v := tget_tset_same _ _ _ _
theorem queue_setQueue_other (s : State) (j k : Nat) (v : Queue) (h : j ≠ k) : queue (setQueue s k v) j = queue s j :=
  tget_tset_other _ _ _ _ _ h
@[simp] theorem group_setGroup_same (s : State) (k : Nat) (v : Group) : group (setGroup s k v) k = v := tget_tset_same _ _ _ _
theorem group_setGroup_other (s : State) (j k : Nat) (v : Group) (h : j ≠ k) : group (setGroup s k v) j = group s j :=
  tget_tset_other _ _ _ _ _ h
@[simp] theorem member_setMember_same (s : State) (k : Nat) (v : Member) : member (setMember s k v) k = v := tget_tset_same _ _ _ _
theorem member_setMember_other (s : State) (j k : Nat) (v : Member) (h : j ≠ k) : member (setMember s k v) j = member s j :=
  tget_tset_other _ _ _ _ _ h
@[simp] theorem link_setLink_same (s : State) (k : Nat) (v : Link) : link (setLink s k v) k = v := tget_tset_same _ _ _ _
theorem link_setLink_other (s : State) (j k : Nat) (v : Link) (h : j ≠ k) : link (setLink s k v) j = link s j :=
  tget_tset_other _ _ _ _ _ h
@[simp] theorem portEnt_setPortEnt_same (s : State) (k : Nat) (v : PortEnt) : portEnt (setPortEnt s k v) k = v := tget_tset_same _ _ _ _
theorem portEnt_setPortEnt_other (s : State) (j k : Nat) (v : PortEnt) (h : j ≠ k) : portEnt (setPortEnt s k v) j = portEnt s j :=
  tget_tset_other _ _ _ _ _ h
@[simp] theorem fnRegs_setFnRegs_same (s : State) (k : Nat) (v : FnRegs) : fnRegs (setFnRegs s k v) k = v := tget_tset_same _ _ _ _
theorem fnRegs_setFnRegs_other (s : State) (j k : Nat) (v : FnRegs) (h : j ≠ k) : fnRegs (setFnRegs s k v) j = fnRegs s j :=
  tget_tset_other _ _ _ _ _ h
@[simp] theorem ring_setRing_same (s : State) (a b : Nat) (v : Ring) : ring (setRing s a b v) a b = v := tget_tset_same _ _ _ _
theorem ring_setRing_other (s : State) (a b c d : Nat) (v : Ring) (h : c * 64 + d ≠ a * 64 + b) :
    ring (setRing s a b v) c d = ring s c d := tget_tset_other _ _ _ _ _ h
@[simp] theorem own_setOwn_same (s : State) (a b : Nat) (v : Own) : own (setOwn s a b v) a b = v := tget_tset_same _ _ _ _
theorem own_setOwn_other (s : State) (a b c d : Nat) (v : Own) (h : c * 4096 + d ≠ a * 4096 + b) :
    own (setOwn s a b v) c d = own s c d := tget_tset_other _ _ _ _ _ h
@[simp] theorem terminal_setTerminal_same (s : State) (a b : Nat) (v : Terminal) : terminal (setTerminal s a b v) a b = v := tget_tset_same _ _ _ _
theorem terminal_setTerminal_other (s : State) (a b c d : Nat) (v : Terminal) (h : c * 512 + d ≠ a * 512 + b) :
    terminal (setTerminal s a b v) c d = terminal s c d := tget_tset_other _ _ _ _ _ h
@[simp] theorem tributary_setTributary_same (s : State) (a b : Nat) (v : Tributary) : tributary (setTributary s a b v) a b = v := tget_tset_same _ _ _ _
theorem tributary_setTributary_other (s : State) (a b c d : Nat) (v : Tributary) (h : c * 32 + d ≠ a * 32 + b) :
    tributary (setTributary s a b v) c d = tributary s c d := tget_tset_other _ _ _ _ _ h
@[simp] theorem slot_setSlot_same (s : State) (a b : Nat) (v : Slot) : slot (setSlot s a b v) a b = v := tget_tset_same _ _ _ _
theorem slot_setSlot_other (s : State) (a b c d : Nat) (v : Slot) (h : c * 65536 + d ≠ a * 65536 + b) :
    slot (setSlot s a b v) c d = slot s c d := tget_tset_other _ _ _ _ _ h

end Sys2Proof.Machine
end

