-- ==== Sys2Proof/Laws/Events.lean ====
section
/-!
SUPPORT. What posting an event can do: it changes the tables of events and the device's output, and nothing else.
-/
namespace Sys2Proof.Machine

/-- `t` is `s` but for the tables of events, the MSI-X tables and the output. -/
def sameButEvents (s t : State) : Prop := ∃ ev out msix, t = { s with ev := ev, out := out, mbx := { s.mbx with msix := msix } }

theorem sameButEvents_refl (s : State) : sameButEvents s s := ⟨s.ev, s.out, s.mbx.msix, rfl⟩

theorem sameButEvents_trans {s t u : State} (h : sameButEvents s t) (k : sameButEvents t u) : sameButEvents s u := by
  obtain ⟨e1, o1, m1, rfl⟩ := h
  obtain ⟨e2, o2, m2, rfl⟩ := k
  exact ⟨e2, o2, m2, rfl⟩

theorem sameButEvents_setEvq (s : State) (q : Nat) (v : Evq) : sameButEvents s (setEvq s q v) := ⟨_, s.out, s.mbx.msix, rfl⟩
theorem sameButEvents_setSource (s : State) (i : Nat) (v : SourceCount) : sameButEvents s (setSource s i v) :=
  ⟨_, s.out, s.mbx.msix, rfl⟩
theorem sameButEvents_setMsixEntry (s : State) (f i : Nat) (v : MsixEntry) : sameButEvents s (setMsixEntry s f i v) :=
  ⟨s.ev, s.out, _, rfl⟩
theorem sameButEvents_emit (o : Output) (s : State) : sameButEvents s (emit o s) := ⟨s.ev, _, s.mbx.msix, rfl⟩

theorem sameButEvents_foldl {β : Type} (f : State → β → State) (h : ∀ s b, sameButEvents s (f s b)) (l : List β) (s : State) :
    sameButEvents s (l.foldl f s) := by
  induction l generalizing s with
  | nil => exact sameButEvents_refl s
  | cons b l ih => exact sameButEvents_trans (h s b) (ih (f s b))

theorem sameButEvents_signalVector (f v : Nat) (s : State) : sameButEvents s (signalVector f v s) := by
  unfold signalVector
  simp only
  split
  · exact sameButEvents_setMsixEntry _ _ _ _
  · exact sameButEvents_emit _ _

theorem sameButEvents_sendMsix (q : Nat) (s : State) : sameButEvents s (sendMsix q s) :=
  sameButEvents_trans (sameButEvents_emit _ _) (sameButEvents_signalVector _ _ _)

theorem sameButEvents_fireMsix (q b : Nat) (s : State) : sameButEvents s (fireMsix q b s) := by
  unfold fireMsix
  simp only
  split
  · exact sameButEvents_trans (sameButEvents_setEvq _ _ _) (sameButEvents_sendMsix _ _)
  · exact sameButEvents_refl s

theorem sameButEvents_storeEvent (q : Nat) (r : Record) (s : State) : sameButEvents s (storeEvent q r s) :=
  sameButEvents_trans (sameButEvents_setEvq _ _ _) (sameButEvents_emit _ _)

theorem sameButEvents_dropRecord (q : Nat) (s : State) : sameButEvents s (dropRecord q s) := sameButEvents_setEvq _ _ _

theorem sameButEvents_warnOverflow (q : Nat) (s : State) : sameButEvents s (warnOverflow q s) := by
  unfold warnOverflow
  simp only
  split
  · exact sameButEvents_refl s
  · have h := sameButEvents_trans (sameButEvents_setEvq s q { evq s q with warned := true })
      (sameButEvents_setSource _ 2 { source (setEvq s q { evq s q with warned := true }) 2 with
        occurrences := satur 32 ((source (setEvq s q { evq s q with warned := true }) 2).occurrences + 1) })
    split
    · split
      · exact sameButEvents_trans h (sameButEvents_setSource _ _ _)
      · split
        · exact sameButEvents_trans h (sameButEvents_dropRecord _ _)
        · exact sameButEvents_trans h (sameButEvents_trans (sameButEvents_setEvq _ _ _)
            (sameButEvents_trans (sameButEvents_storeEvent _ _ _) (sameButEvents_fireMsix _ _ _)))
    · exact sameButEvents_trans h (sameButEvents_setSource _ _ _)

theorem sameButEvents_putRecord (q : Nat) (r : Record) (s : State) : sameButEvents s (putRecord q r s) := by
  unfold putRecord
  split
  · exact sameButEvents_dropRecord _ _
  · split
    · exact sameButEvents_storeEvent _ _ _
    · exact sameButEvents_trans (sameButEvents_dropRecord _ _) (sameButEvents_warnOverflow _ _)

theorem sameButEvents_writeRecords (q : Nat) (rs : List Record) (s : State) : sameButEvents s (writeRecords q rs s) :=
  sameButEvents_trans (sameButEvents_setEvq _ _ _)
    (sameButEvents_trans (sameButEvents_foldl _ (fun s r => sameButEvents_putRecord q r s) rs _) (sameButEvents_fireMsix _ _ _))

theorem sameButEvents_flushStage (q : Nat) (s : State) : sameButEvents s (flushStage q s) :=
  sameButEvents_trans (sameButEvents_setEvq _ _ _) (sameButEvents_writeRecords _ _ _)

theorem sameButEvents_toQueue (q : Nat) (c : Bool) (r : Record) (s : State) : sameButEvents s (toQueue q c r s) := by
  unfold toQueue
  simp only
  split
  · exact sameButEvents_setEvq _ _ _
  · split
    · exact sameButEvents_trans (sameButEvents_setEvq _ _ _) (sameButEvents_writeRecords _ _ _)
    · split
      · split
        · exact sameButEvents_trans (sameButEvents_setEvq _ _ _) (sameButEvents_flushStage _ _)
        · exact sameButEvents_setEvq _ _ _
      · split
        · exact sameButEvents_trans (sameButEvents_setEvq _ _ _) (sameButEvents_writeRecords _ _ _)
        · exact sameButEvents_writeRecords _ _ _

theorem sameButEvents_deliverTo (q : Option Nat) (c : Bool) (r : Record) (s : State) : sameButEvents s (deliverTo q c r s) := by
  unfold deliverTo countUndelivered
  split
  · split
    · exact sameButEvents_toQueue _ _ _ _
    · exact sameButEvents_setSource _ _ _
  · exact sameButEvents_setSource _ _ _

theorem sameButEvents_countOccurrence (i : Nat) (s : State) : sameButEvents s (countOccurrence i s) :=
  sameButEvents_setSource _ _ _
theorem sameButEvents_countMasked (i : Nat) (s : State) : sameButEvents s (countMasked i s) := sameButEvents_setSource _ _ _
theorem sameButEvents_countRelayLost (i : Nat) (s : State) : sameButEvents s (countRelayLost i s) :=
  sameButEvents_setSource _ _ _

/-- Posting a routed source changes the tables of events and the output, and nothing else. -/
theorem post_frame (src : Nat) (cls : EvClass) (payload : Nat) (s : State) : sameButEvents s (post src cls payload s) := by
  unfold post
  split
  · exact sameButEvents_refl s
  · refine sameButEvents_trans (sameButEvents_countOccurrence src s) ?_
    generalize mkRecord src cls payload s = r
    generalize countOccurrence src s = u
    simp only
    split
    · exact sameButEvents_countMasked _ _
    · split
      · exact sameButEvents_deliverTo _ _ _ _
      · split
        · split
          · split
            · exact sameButEvents_trans (sameButEvents_emit _ _) (sameButEvents_deliverTo _ _ _ _)
            · exact sameButEvents_trans (sameButEvents_countRelayLost _ _) (sameButEvents_deliverTo _ _ _ _)
          · split
            · exact sameButEvents_emit _ _
            · exact sameButEvents_countRelayLost _ _
        · split
          · exact sameButEvents_trans (sameButEvents_deliverTo _ _ _ _) (sameButEvents_deliverTo _ _ _ _)
          · exact sameButEvents_deliverTo _ _ _ _

/-- Posting a function source changes the tables of events and the output, and nothing else. -/
theorem postFn_frame (q : Option Nat) (src : Nat) (cls : EvClass) (payload : Nat) (s : State) :
    sameButEvents s (postFn q src cls payload s) := by
  unfold postFn countOccurrence
  split
  · exact sameButEvents_refl s
  · exact sameButEvents_trans (sameButEvents_setSource _ _ _) (sameButEvents_deliverTo _ _ _ _)

end Sys2Proof.Machine
end

