-- ==== Sys2Proof/Laws/HostError.lean ====
section
/-!
SUPPORT. What a host error leaves as it was, whatever the resources that it names (R13): the queue, the instant, the contents of
board memory, the Keep with its cupolas, and what boot, fuses and protection hold.
-/
namespace Sys2Proof.Machine

/-- Counters written one after the other change only the counters. -/
theorem foldl_setCounter {α β : Type} (p : State → β) (hp : ∀ s i c, p (setCounter s i c) = p s) (g : α → Nat) (v : α → Counter)
    (l : List α) (s : State) : p (l.foldl (fun st j => setCounter st (g j) (v j)) s) = p s := by
  induction l generalizing s with
  | nil => rfl
  | cons a l ih => rw [List.foldl_cons, ih, hp]

@[simp] theorem scramble_pending (f : State) (k i : Nat) (s : State) : (scramble f k i s).pending = s.pending := by
  unfold scramble
  split
  case h_8 => exact foldl_setCounter (·.pending) (fun _ _ _ => rfl) _ _ _ _
  all_goals rfl
@[simp] theorem scramble_now (f : State) (k i : Nat) (s : State) : (scramble f k i s).now = s.now := by
  unfold scramble
  split
  case h_8 => exact foldl_setCounter (·.now) (fun _ _ _ => rfl) _ _ _ _
  all_goals rfl
@[simp] theorem scramble_cells (f : State) (k i : Nat) (s : State) : (scramble f k i s).mem.cells = s.mem.cells := by
  unfold scramble
  split
  case h_8 => exact foldl_setCounter (·.mem.cells) (fun _ _ _ => rfl) _ _ _ _
  all_goals rfl
@[simp] theorem scramble_boot (f : State) (k i : Nat) (s : State) : (scramble f k i s).boot = s.boot := by
  unfold scramble
  split
  case h_8 => exact foldl_setCounter (·.boot) (fun _ _ _ => rfl) _ _ _ _
  all_goals rfl
@[simp] theorem scramble_pwr (f : State) (k i : Nat) (s : State) : (scramble f k i s).pwr = s.pwr := by
  unfold scramble
  split
  case h_8 => exact foldl_setCounter (·.pwr) (fun _ _ _ => rfl) _ _ _ _
  all_goals rfl
@[simp] theorem scramble_ses (f : State) (k i : Nat) (s : State) : (scramble f k i s).ses = s.ses := by
  unfold scramble
  split
  case h_8 => exact foldl_setCounter (·.ses) (fun _ _ _ => rfl) _ _ _ _
  all_goals rfl

/-- What every single scrambling leaves, a host error leaves: for `p` a reading that `draws` does not enter. -/
theorem scrambleAll_keeps {β : Type} (p : State → β) (hd : ∀ s n, p { s with draws := n } = p s)
    (hp : ∀ f k i s, p (scramble f k i s) = p s) (l : List (Nat × Nat)) (s : State) : p (scrambleAll l s) = p s := by
  unfold scrambleAll
  induction l generalizing s with
  | nil => rfl
  | cons a l ih => rw [List.foldl_cons, ih, hp, hd]

@[simp] theorem scrambleAll_pending (l : List (Nat × Nat)) (s : State) : (scrambleAll l s).pending = s.pending :=
  scrambleAll_keeps (·.pending) (fun _ _ => rfl) (fun _ _ _ _ => scramble_pending ..) l s
@[simp] theorem scrambleAll_now (l : List (Nat × Nat)) (s : State) : (scrambleAll l s).now = s.now :=
  scrambleAll_keeps (·.now) (fun _ _ => rfl) (fun _ _ _ _ => scramble_now ..) l s
@[simp] theorem scrambleAll_cells (l : List (Nat × Nat)) (s : State) : (scrambleAll l s).mem.cells = s.mem.cells :=
  scrambleAll_keeps (·.mem.cells) (fun _ _ => rfl) (fun _ _ _ _ => scramble_cells ..) l s
@[simp] theorem scrambleAll_boot (l : List (Nat × Nat)) (s : State) : (scrambleAll l s).boot = s.boot :=
  scrambleAll_keeps (·.boot) (fun _ _ => rfl) (fun _ _ _ _ => scramble_boot ..) l s
@[simp] theorem scrambleAll_pwr (l : List (Nat × Nat)) (s : State) : (scrambleAll l s).pwr = s.pwr :=
  scrambleAll_keeps (·.pwr) (fun _ _ => rfl) (fun _ _ _ _ => scramble_pwr ..) l s
@[simp] theorem scrambleAll_ses (l : List (Nat × Nat)) (s : State) : (scrambleAll l s).ses = s.ses :=
  scrambleAll_keeps (·.ses) (fun _ _ => rfl) (fun _ _ _ _ => scramble_ses ..) l s

end Sys2Proof.Machine
end

