-- ==== Sys2Proof/Laws/Mailbox.lean ====
section
/-!
SUPPORT. What a mailbox command comes to once it may start: its own work is run, on the state as it is or with the cupola it
needs awake.
-/
namespace Sys2Proof.Machine

variable {op : Nat} {act : Option Activity} {h : Caller} {e : Held} {s : State}

/-- A command that may start is taken up as it stands. -/
theorem takeIn_startable (hs : startable op act h e s) : takeIn op act h s = (s, some e) := by
  simp [takeIn, hs.1, hs.2.1]

/-- A command that needs no cupola runs its own work at once. -/
theorem perform_startable (cupola : State → Option Nat) (body : State → Reply) (hs : startable op act h e s)
    (hc : cupola s = none) : perform op act cupola h body s = .next (runBody e body s) := by
  simp [perform, takeIn_startable hs, hc]

/-- The same, for the commands that need no cupola at all. -/
theorem perform_noCupola (body : State → Reply) (hs : startable op act h e s) :
    perform op act noCupola h body s = .next (runBody e body s) :=
  perform_startable noCupola body hs rfl

/-- A command whose cupola is Active runs its own work at once. -/
theorem perform_awake (cupola : State → Option Nat) (body : State → Reply) (k : Nat) (hs : startable op act h e s)
    (hc : cupola s = some k) (ha : (cup s k).state = .active) :
    perform op act cupola h body s = .next (runBody e body s) := by
  simp [perform, takeIn_startable hs, hc, wakeGate, ha, longAsleep]

/-- A command whose cupola is asleep with a short wake, or has been waited for, runs its own work with the cupola Active. -/
theorem perform_wakes (cupola : State → Option Nat) (body : State → Reply) (k : Nat) (hs : startable op act h e s)
    (hc : cupola s = some k) (hf : (cup s k).state ≠ .fenced) (ha : (cup s k).state ≠ .active)
    (hw : longAsleep k s = false ∨ e.phase = .ready) :
    perform op act cupola h body s = .next (runBody e body (moveCup k .active 0 s)) := by
  rcases hw with hw | hw <;> simp [perform, takeIn_startable hs, hc, wakeGate, ha, hf, hw]

/-- A command whose cupola is fenced completes with FAULTED. -/
theorem perform_fenced (cupola : State → Option Nat) (body : State → Reply) (k : Nat) (hs : startable op act h e s)
    (hc : cupola s = some k) (hf : (cup s k).state = .fenced) :
    perform op act cupola h body s = .next (finish e stFaulted 0 0 [] s) := by
  simp [perform, takeIn_startable hs, hc, wakeGate, hf]

/-- Own work that is done. -/
theorem runBody_done (body : State → Reply) (st d r : Nat) (resp : List Byte) (t : State) (hr : e.reserved = false)
    (hb : body s = .done st d r resp t) : runBody e body s = finish e st d r resp t := by
  simp [runBody, hb, hr]

/-- Own work that runs on. -/
theorem runBody_later (body : State → Reply) (key : Nat) (t : State) (hr : e.reserved = false) (hb : body s = .later key t) :
    runBody e body s = setPhase e (.running key) t := by
  simp [runBody, hb, hr]

/-- With nothing waiting, settling changes nothing. -/
theorem settle_of_nothingWaits (hn : nothingWaits s) : settle s = s := by
  unfold settle
  cases s.mbx.held.length + s.ses.table.length with
  | zero => rfl
  | succ n => simp [settleN, show settleOne s = none from hn]

end Sys2Proof.Machine
end

