-- ==== Sys2Proof/Laws/Memory.lean ====
section
/-!
SUPPORT. The laws of board memory: a read after a write, every other byte, and the canonical form, which every write keeps.
-/
namespace Sys2Proof.Machine

/-- A read after a write of the same byte gives the byte written. -/
@[simp] theorem readByte_writeByte_same (a : Nat) (b : Byte) (s : State) : readByte a (writeByte a b s) = b :=
  tget_tset_same _ _ _ _

/-- A write leaves every other byte alone. -/
theorem readByte_writeByte_other (a c : Nat) (b : Byte) (s : State) (h : c ≠ a) :
    readByte c (writeByte a b s) = readByte c s := tget_tset_other _ _ _ _ _ h

/-- A write of bytes leaves every byte outside them alone. -/
theorem readByte_writeBytes_outside (c a : Nat) (bs : List Byte) (s : State) (h : c < a ∨ a + bs.length ≤ c) :
    readByte c (writeBytes a bs s) = readByte c s := by
  induction bs generalizing a s with
  | nil => rfl
  | cons b bs ih =>
    simp only [List.length_cons] at h
    unfold writeBytes
    rw [ih (a + 1) (writeByte a b s) (by omega), readByte_writeByte_other a c b s (by omega)]

/-- A write of bytes puts byte `i` of them at address `a + i`. -/
theorem readByte_writeBytes_inside (a i : Nat) (bs : List Byte) (s : State) (h : i < bs.length) :
    readByte (a + i) (writeBytes a bs s) = bs[i] := by
  induction bs generalizing a i s with
  | nil => simp at h
  | cons b bs ih =>
    unfold writeBytes
    cases i with
    | zero =>
      rw [readByte_writeBytes_outside (a + 0) (a + 1) bs _ (by omega)]
      exact readByte_writeByte_same a b s
    | succ i =>
      have h2 := ih (a + 1) i (writeByte a b s) (by simpa using h)
      simpa [Nat.add_assoc, Nat.add_comm 1 i] using h2

/-- A write of one byte keeps the canonical form. -/
theorem writeByte_wf (a : Nat) (b : Byte) (s : State) (h : memoryWf s) : memoryWf (writeByte a b s) :=
  tableWf_tset _ _ _ _ h

/-- A write of bytes keeps the canonical form. -/
theorem writeBytes_wf (a : Nat) (bs : List Byte) (s : State) (h : memoryWf s) : memoryWf (writeBytes a bs s) := by
  induction bs generalizing a s with
  | nil => exact h
  | cons b bs ih => exact ih (a + 1) _ (writeByte_wf a b s h)

/-- Only the cells of board memory change. -/
theorem writeBytes_frame (a : Nat) (bs : List Byte) (s : State) :
    ∃ cells, writeBytes a bs s = { s with mem := { s.mem with cells := cells } } := by
  induction bs generalizing a s with
  | nil => exact ⟨s.mem.cells, rfl⟩
  | cons b bs ih =>
    obtain ⟨cells, h⟩ := ih (a + 1) (writeByte a b s)
    exact ⟨cells, by rw [writeBytes, h]; rfl⟩

end Sys2Proof.Machine
end

