-- ==== Sys2Proof/Laws/PerInstr.lean ====
section
/-!
SUPPORT. The opcode of every row that is a mailbox command, and one lemma per constructor: the catalogue of R93 defines it.
-/
namespace Sys2Proof.Laws

/-- The opcode of a row that is a mailbox command (R93). -/
def opcodeOf (i : Instr) : Option Nat :=
  match i with
  | .nop _ => some 0x0000
  | .deviceIdentify _ => some 0x0001
  | .capabilityQuery _ _ => some 0x0002
  | .deviceReset _ _ => some 0x0003
  | .sessionOpen _ _ _ => some 0x0004
  | .sessionClose _ _ _ => some 0x0005
  | .commandAbort _ _ _ => some 0x0006
  | .resourceClaim _ _ => some 0x0007
  | .resourceRelease _ _ _ => some 0x0008
  | .resourceAssign _ _ _ => some 0x0009
  | .resourceQuery _ _ => some 0x000A
  | .ringCreate _ _ => some 0x0010
  | .ringDestroy _ _ => some 0x0011
  | .cupolaVote _ _ _ => some 0x0100
  | .cupolaStatus _ _ => some 0x0101
  | .perfLevelSet _ _ => some 0x0102
  | .cupolaFloorSet _ _ => some 0x0103
  | .cupolaRestore _ _ => some 0x0104
  | .keepOnlyEnter _ _ _ => some 0x0105
  | .maintStatus _ => some 0x0106
  | .safetyStatus _ => some 0x0107
  | .safetySelfTest _ _ => some 0x0108
  | .treeConfigure _ _ => some 0x0200
  | .treeEnable _ _ => some 0x0201
  | .treeDisable _ _ => some 0x0202
  | .burstProfileSet _ _ _ _ => some 0x0203
  | .treeStatus _ _ => some 0x0204
  | .burstRecordRead _ _ _ _ => some 0x0205
  | .terminalAdmit _ _ => some 0x0301
  | .terminalRange _ _ _ => some 0x0302
  | .terminalDisable _ _ _ _ => some 0x0303
  | .terminalRemove _ _ _ => some 0x0304
  | .terminalStatus _ _ _ => some 0x0305
  | .rogueProbe _ _ _ => some 0x0306
  | .discoveredRead _ _ => some 0x0307
  | .allocConfigure _ _ => some 0x0400
  | .allocRemove _ _ _ => some 0x0401
  | .portConfigure _ _ => some 0x0402
  | .portRemove _ _ _ => some 0x0403
  | .grantPolicySet _ _ _ _ => some 0x0404
  | .allocStatus _ _ _ => some 0x0405
  | .coopInputConfigure _ _ => some 0x0406
  | .lineConfigure _ _ => some 0x0500
  | .lineEnable _ _ _ => some 0x0501
  | .lineDisable _ _ => some 0x0502
  | .lineStatus _ _ _ _ => some 0x0503
  | .lineQuality _ _ _ _ _ => some 0x0504
  | .predistortionLoad _ _ _ => some 0x0505
  | .lineAdjust _ _ => some 0x0506
  | .framerConfigure _ _ => some 0x0600
  | .tributaryConfigure _ _ _ _ => some 0x0601
  | .tributaryRemove _ _ _ => some 0x0602
  | .framerStatus _ _ => some 0x0603
  | .ttiSet _ _ => some 0x0604
  | .delayMeasure _ _ => some 0x0605
  | .ttiRead _ _ => some 0x0606
  | .treeKeyExchange _ _ _ => some 0x0700
  | .lineSealConfigure _ _ => some 0x0701
  | .macsecConfigure _ _ => some 0x0702
  | .keySlotStatus _ _ _ => some 0x0703
  | .keyStoreResume _ _ => some 0x0704
  | .sealStatus _ _ => some 0x0705
  | .portPipelineSet _ _ => some 0x0800
  | .pipelineStatus _ _ => some 0x0801
  | .pipelineRestore _ _ => some 0x0802
  | .domainConfigure _ _ => some 0x0803
  | .tableWrite _ _ => some 0x0804
  | .tableRead _ _ => some 0x0805
  | .tableDelete _ _ => some 0x0806
  | .learnConfigure _ _ => some 0x0807
  | .queueConfigure _ _ => some 0x0808
  | .queueStatus _ _ => some 0x0809
  | .schedGroupConfigure _ _ => some 0x080A
  | .tableFlush _ _ _ => some 0x080B
  | .poolConfigure _ _ => some 0x0900
  | .poolStatus _ _ => some 0x0901
  | .poolMapSet _ _ _ _ _ _ => some 0x0902
  | .poolRebuild _ _ => some 0x0903
  | .timeBaseConfigure _ _ => some 0x0A00
  | .timeBaseStatus _ _ => some 0x0A01
  | .timeSet _ _ => some 0x0A02
  | .timeStepAuthorise _ _ => some 0x0A03
  | .ppsInputConfigure _ _ => some 0x0A04
  | .pulseOutputConfigure _ _ => some 0x0A05
  | .ptpClockConfigure _ _ => some 0x0A06
  | .ptpPortConfigure _ _ => some 0x0A07
  | .ptpStatus _ _ => some 0x0A08
  | .treeTodConfigure _ _ => some 0x0A09
  | .witnessConfigure _ _ => some 0x0A0A
  | .witnessStatus _ _ => some 0x0A0B
  | .witnessApply _ _ _ _ => some 0x0A0C
  | .portTimeBaseSet _ _ _ => some 0x0A0D
  | .treeTodStatus _ _ _ => some 0x0A0E
  | .protGroupConfigure _ _ => some 0x0B00
  | .protEnable _ _ => some 0x0B01
  | .protDisable _ _ _ => some 0x0B02
  | .protSwitch _ _ => some 0x0B03
  | .protStatus _ _ => some 0x0B04
  | .protStandbyTest _ _ _ => some 0x0B05
  | .protPair _ _ _ => some 0x0B06
  | .leaseArbiterConfigure _ _ => some 0x0B07
  | .laneGroupConfigure _ _ => some 0x0C00
  | .clientPortConfigure _ _ => some 0x0C01
  | .fabricLinkEnable _ _ => some 0x0C02
  | .laneStatus _ _ _ => some 0x0C03
  | .laneRetrain _ _ _ => some 0x0C04
  | .eyeScan _ _ _ _ _ => some 0x0C05
  | .loopbackSet _ _ _ => some 0x0C06
  | .fabricConfigure _ _ _ => some 0x0C07
  | .fabricStatus _ => some 0x0C08
  | .fabricRouteRead _ _ => some 0x0C09
  | .fabricDestBind _ _ => some 0x0C0A
  | .fabricForward _ _ => some 0x0C0B
  | .memStatus _ _ => some 0x0D00
  | .memPartitionSet _ _ => some 0x0D01
  | .memTrain _ _ _ => some 0x0D02
  | .memConfigure _ _ => some 0x0D03
  | .mmuContextSet _ _ => some 0x0D04
  | .dmaChannelConfigure _ _ => some 0x0D05
  | .dmaPost _ _ _ => some 0x0D06
  | .dmaResume _ _ _ => some 0x0D07
  | .dmaStatus _ _ => some 0x0D08
  | .memWindowSet _ _ => some 0x0D0A
  | .eventRouteSet _ _ => some 0x0E00
  | .eventQueueCreate _ _ => some 0x0E01
  | .eventQueueDestroy _ _ => some 0x0E02
  | .eventQueueAssign _ _ _ => some 0x0E03
  | .eventCoalesceSet _ _ _ _ => some 0x0E04
  | .eventSourceQuery _ _ => some 0x0E05
  | .counterConfigure _ _ => some 0x0E06
  | .counterRead _ _ _ _ => some 0x0E07
  | .meterConfigure _ _ => some 0x0E08
  | .fwUpdateBegin _ _ => some 0x0F00
  | .fwUpdateData _ _ _ => some 0x0F01
  | .fwUpdateEnd _ => some 0x0F02
  | .fwActivate _ _ _ => some 0x0F03
  | .fwConfirm _ => some 0x0F04
  | .fwSecurityCommit _ => some 0x0F05
  | .measurementLogRead _ _ _ => some 0x0F06
  | .attestQuote _ _ => some 0x0F07
  | .identityRead _ => some 0x0F08
  | .keepPortStatus => none
  | .keepPortWake _ => none
  | .keepPortReset _ _ => none
  | .keepPortLedger => none
  | .keepPortIdentity => none
  | .keepPortBootSource _ _ => none
  | .keepPortCmd _ _ _ => none
  | .keepPortResult => none
  | .mbxSqTail _ _ _ => none
  | .mbxCqHead _ _ _ => none
  | .adminRingEnable _ _ _ _ => none
  | .adminRingDisable _ _ _ _ => none
  | .evqHead _ _ _ => none
  | .evqArm _ _ _ => none
  | .campSnapFrac _ _ => none
  | .campLatchAll _ _ => none
  | .campFreq _ _ _ => none
  | .campAdjApply _ _ _ => none
  | .keyCommitWrite _ => none
  | .keyCommitErase _ => none
  | .tblRead _ _ => none
  | .tblSearch _ _ => none
  | .tblInsert _ _ => none
  | .tblDelete _ _ => none
  | .mmuTlbInvalAll _ => none
  | .mmuTlbInvalPage _ => none
  | .cntLo _ _ => none
  | .cntClear _ _ => none
  | .cntClearOvf _ _ => none
  | .cntMtrBytesLo _ _ => none
  | .peakClear _ _ => none
  | .glbBootGo _ => none
  | .registerWrite _ => none
  | .bar2Read _ _ _ _ => none
  | .bar2Write _ _ _ => none
  | .commandFetch _ _ _ _ => none
  | .commandTimeout _ => none
  | .maintRelease => none
  | .cupolaWakeReady _ _ _ => none
  | .ringFault _ _ _ _ => none
  | .eventQueueFault _ => none
  | .coalesceTimeout _ => none
  | .relayedEventRecord _ _ => none
  | .sessionKeepaliveExpiry _ => none
  | .functionLevelReset _ => none
  | .conventionalReset _ _ => none
  | .resetDelayExpiry => none
  | .firmwareWatchdog => none
  | .coreFault _ => none
  | .powerOn _ => none
  | .bootImageFetched _ => none
  | .fwReady _ _ => none
  | .mainRailLoss _ => none
  | .mainRailsGood => none
  | .keepFeedLoss _ => none
  | .keepFeedRestore _ => none
  | .zeroisation _ => none
  | .refclkLoss => none
  | .refclkReturn => none
  | .clk32kLoss => none
  | .clk32kReturn => none
  | .thermalWarning _ _ => none
  | .thermalWarningClear _ _ => none
  | .thermalTrip _ _ => none
  | .keepOnlyEntry => none
  | .lanternLightWake _ => none
  | .ledgerAlarm => none
  | .sleepLedgerResume _ => none
  | .cupolaHysteresisExpiry _ => none
  | .mapClose _ => none
  | .downstreamFrameStart _ _ => none
  | .dutyCycleEnter _ => none
  | .todMessage _ _ => none
  | .burstWindowStart _ _ => none
  | .provisionalLock _ _ _ => none
  | .relock _ _ _ => none
  | .delimWindowClose _ _ => none
  | .delimiterAccept _ _ _ _ => none
  | .grantedWindowEnd _ _ => none
  | .rssiTrig _ _ => none
  | .rssiReading _ _ _ => none
  | .outOfWindowEnergy _ _ => none
  | .upstreamXgemFrame _ _ => none
  | .queueReport _ _ _ _ => none
  | .coopAnnouncement _ => none
  | .driftCorrection _ _ => none
  | .discoveryWindow _ => none
  | .serialNumberResponse _ _ _ _ => none
  | .rangingResponse _ _ _ _ => none
  | .rangingWindowClose _ _ => none
  | .ploamKeyResponse _ _ _ => none
  | .acquisitionStepEnd _ _ _ => none
  | .acquisitionStepTimeout _ => none
  | .mismatchRestart _ => none
  | .lossOfLock _ => none
  | .lanternMonitorAssert _ _ _ => none
  | .lanternMonitorClear _ _ _ => none
  | .maskCheck _ _ => none
  | .signalDegradeCheck _ _ => none
  | .frameAlignment _ _ => none
  | .lofDeclare _ => none
  | .lofClear _ => none
  | .lomDeclare _ => none
  | .lomClear _ => none
  | .multiframeBoundary _ _ => none
  | .dmpReturn _ => none
  | .sealControlMessage _ _ => none
  | .sealingBlockReceive _ _ _ _ _ _ _ => none
  | .macsecRxFrame _ => none
  | .witnessMessage _ _ => none
  | .witnessHoldExpiry _ => none
  | .packetIngress _ => none
  | .packetEgress _ _ _ _ => none
  | .spillReadback _ => none
  | .ageScan _ => none
  | .pipelineWatchdog _ => none
  | .pipelineMemoryError _ => none
  | .pipelineRemapComplete _ => none
  | .alloc _ _ _ _ => none
  | .share _ _ _ _ => none
  | .give _ _ _ _ => none
  | .free _ _ _ => none
  | .allocRetry _ _ _ => none
  | .bpHoldExpiry _ _ => none
  | .ppsEdge _ _ => none
  | .ppsInputLost _ => none
  | .ptpMessage _ => none
  | .ptpInputLost _ => none
  | .servoCorrection _ => none
  | .lockAchieved _ => none
  | .lockLost _ => none
  | .pendingDiscard _ => none
  | .pulseEdge _ => none
  | .crossCheck _ _ => none
  | .fenceInstant _ => none
  | .leaseRequestSend _ _ => none
  | .leaseGrant _ _ => none
  | .arbiterLeaseMessage _ => none
  | .arbiterLeaseExpiry _ => none
  | .queuedClaimExpiry _ _ => none
  | .heartbeatSend _ _ => none
  | .heartbeat _ _ => none
  | .heartbeatTimeout _ => none
  | .transmitWithoutLease _ _ => none
  | .marlFrame _ _ => none
  | .marlPartComplete _ _ _ => none
  | .wtrExpiry _ => none
  | .handoverRelease _ => none
  | .trainingFrame _ _ _ _ _ => none
  | .trainingRequestTimeout _ _ => none
  | .trainingTimeout _ _ => none
  | .echoTrainingTurn _ _ _ => none
  | .fomRetrain _ _ => none
  | .retrainRequest _ _ => none
  | .knownGoodExpiry _ _ _ => none
  | .parkedRetry _ _ => none
  | .linkDown _ _ _ _ => none
  | .pause _ _ _ => none
  | .fabricFrame _ _ _ _ _ => none
  | .helloSend _ _ => none
  | .hello _ _ _ => none
  | .adjacencyTimeout _ _ => none
  | .linkStateRecord _ _ _ => none
  | .linkStateRefresh => none
  | .linkStateExpiry _ => none
  | .addressComputation => none
  | .routeInstall => none
  | .timeFlit _ _ _ => none
  | .timeFlitSend _ _ => none
  | .fabricTimeSourceLost => none
  | .forwardedCommand _ _ _ => none
  | .refreshInterval _ _ _ => none
  | .memoryTemperatureRead _ _ => none
  | .rowDisturbance _ _ _ _ _ => none
  | .patrolScrub _ => none
  | .dqsDriftCheck _ _ => none
  | .memoryRead _ _ _ => none
  | .dmaStep _ _ _ _ => none
  | .counterOverflow _ _ => none
  | .meterWindowEnd _ => none
  | .registerRead _ => none
  | .perstDeassert _ => none
  | .keyCommitComplete _ => none
  | .tableOperationComplete _ => none
  | .tlbInvalidationComplete _ => none
  | .selfTestEnd _ _ _ _ => none
  | .rogueProbeEnd _ => none
  | .eyeScanEnd _ _ _ => none
  | .standbyTestEnd _ _ => none
  | .memTrainingEnd _ _ _ _ => none
  | .perfLevelSettled => none
  | .revertSend _ => none
  | .ptpMessageSend _ _ => none
  | .domainTagIntervalEnd _ => none

/-- The catalogue of R93 defines the opcode of a row that is a mailbox command. -/
def Opcode.Statement (i : Instr) : Prop := ∀ op, opcodeOf i = some op → Machine.opDefined op = true

theorem of_opcode {i : Instr} (n : Nat) (e : opcodeOf i = some n) (d : Machine.opDefined n = true) : Opcode.Statement i := by
  intro op w
  rw [e] at w
  cases w
  exact d

theorem of_none {i : Instr} (e : opcodeOf i = none) : Opcode.Statement i := by
  intro op w
  rw [e] at w
  cases w

theorem Opcode.nop : ∀ a0, Opcode.Statement (.nop a0) := by intros; exact of_opcode 0x0000 rfl (by decide)
theorem Opcode.deviceIdentify : ∀ a0, Opcode.Statement (.deviceIdentify a0) := by intros; exact of_opcode 0x0001 rfl (by decide)
theorem Opcode.capabilityQuery : ∀ a0 a1, Opcode.Statement (.capabilityQuery a0 a1) := by intros; exact of_opcode 0x0002 rfl (by decide)
theorem Opcode.deviceReset : ∀ a0 a1, Opcode.Statement (.deviceReset a0 a1) := by intros; exact of_opcode 0x0003 rfl (by decide)
theorem Opcode.sessionOpen : ∀ a0 a1 a2, Opcode.Statement (.sessionOpen a0 a1 a2) := by intros; exact of_opcode 0x0004 rfl (by decide)
theorem Opcode.sessionClose : ∀ a0 a1 a2, Opcode.Statement (.sessionClose a0 a1 a2) := by intros; exact of_opcode 0x0005 rfl (by decide)
theorem Opcode.commandAbort : ∀ a0 a1 a2, Opcode.Statement (.commandAbort a0 a1 a2) := by intros; exact of_opcode 0x0006 rfl (by decide)
theorem Opcode.resourceClaim : ∀ a0 a1, Opcode.Statement (.resourceClaim a0 a1) := by intros; exact of_opcode 0x0007 rfl (by decide)
theorem Opcode.resourceRelease : ∀ a0 a1 a2, Opcode.Statement (.resourceRelease a0 a1 a2) := by intros; exact of_opcode 0x0008 rfl (by decide)
theorem Opcode.resourceAssign : ∀ a0 a1 a2, Opcode.Statement (.resourceAssign a0 a1 a2) := by intros; exact of_opcode 0x0009 rfl (by decide)
theorem Opcode.resourceQuery : ∀ a0 a1, Opcode.Statement (.resourceQuery a0 a1) := by intros; exact of_opcode 0x000A rfl (by decide)
theorem Opcode.ringCreate : ∀ a0 a1, Opcode.Statement (.ringCreate a0 a1) := by intros; exact of_opcode 0x0010 rfl (by decide)
theorem Opcode.ringDestroy : ∀ a0 a1, Opcode.Statement (.ringDestroy a0 a1) := by intros; exact of_opcode 0x0011 rfl (by decide)
theorem Opcode.cupolaVote : ∀ a0 a1 a2, Opcode.Statement (.cupolaVote a0 a1 a2) := by intros; exact of_opcode 0x0100 rfl (by decide)
theorem Opcode.cupolaStatus : ∀ a0 a1, Opcode.Statement (.cupolaStatus a0 a1) := by intros; exact of_opcode 0x0101 rfl (by decide)
theorem Opcode.perfLevelSet : ∀ a0 a1, Opcode.Statement (.perfLevelSet a0 a1) := by intros; exact of_opcode 0x0102 rfl (by decide)
theorem Opcode.cupolaFloorSet : ∀ a0 a1, Opcode.Statement (.cupolaFloorSet a0 a1) := by intros; exact of_opcode 0x0103 rfl (by decide)
theorem Opcode.cupolaRestore : ∀ a0 a1, Opcode.Statement (.cupolaRestore a0 a1) := by intros; exact of_opcode 0x0104 rfl (by decide)
theorem Opcode.keepOnlyEnter : ∀ a0 a1 a2, Opcode.Statement (.keepOnlyEnter a0 a1 a2) := by intros; exact of_opcode 0x0105 rfl (by decide)
theorem Opcode.maintStatus : ∀ a0, Opcode.Statement (.maintStatus a0) := by intros; exact of_opcode 0x0106 rfl (by decide)
theorem Opcode.safetyStatus : ∀ a0, Opcode.Statement (.safetyStatus a0) := by intros; exact of_opcode 0x0107 rfl (by decide)
theorem Opcode.safetySelfTest : ∀ a0 a1, Opcode.Statement (.safetySelfTest a0 a1) := by intros; exact of_opcode 0x0108 rfl (by decide)
theorem Opcode.treeConfigure : ∀ a0 a1, Opcode.Statement (.treeConfigure a0 a1) := by intros; exact of_opcode 0x0200 rfl (by decide)
theorem Opcode.treeEnable : ∀ a0 a1, Opcode.Statement (.treeEnable a0 a1) := by intros; exact of_opcode 0x0201 rfl (by decide)
theorem Opcode.treeDisable : ∀ a0 a1, Opcode.Statement (.treeDisable a0 a1) := by intros; exact of_opcode 0x0202 rfl (by decide)
theorem Opcode.burstProfileSet : ∀ a0 a1 a2 a3, Opcode.Statement (.burstProfileSet a0 a1 a2 a3) := by intros; exact of_opcode 0x0203 rfl (by decide)
theorem Opcode.treeStatus : ∀ a0 a1, Opcode.Statement (.treeStatus a0 a1) := by intros; exact of_opcode 0x0204 rfl (by decide)
theorem Opcode.burstRecordRead : ∀ a0 a1 a2 a3, Opcode.Statement (.burstRecordRead a0 a1 a2 a3) := by intros; exact of_opcode 0x0205 rfl (by decide)
theorem Opcode.terminalAdmit : ∀ a0 a1, Opcode.Statement (.terminalAdmit a0 a1) := by intros; exact of_opcode 0x0301 rfl (by decide)
theorem Opcode.terminalRange : ∀ a0 a1 a2, Opcode.Statement (.terminalRange a0 a1 a2) := by intros; exact of_opcode 0x0302 rfl (by decide)
theorem Opcode.terminalDisable : ∀ a0 a1 a2 a3, Opcode.Statement (.terminalDisable a0 a1 a2 a3) := by intros; exact of_opcode 0x0303 rfl (by decide)
theorem Opcode.terminalRemove : ∀ a0 a1 a2, Opcode.Statement (.terminalRemove a0 a1 a2) := by intros; exact of_opcode 0x0304 rfl (by decide)
theorem Opcode.terminalStatus : ∀ a0 a1 a2, Opcode.Statement (.terminalStatus a0 a1 a2) := by intros; exact of_opcode 0x0305 rfl (by decide)
theorem Opcode.rogueProbe : ∀ a0 a1 a2, Opcode.Statement (.rogueProbe a0 a1 a2) := by intros; exact of_opcode 0x0306 rfl (by decide)
theorem Opcode.discoveredRead : ∀ a0 a1, Opcode.Statement (.discoveredRead a0 a1) := by intros; exact of_opcode 0x0307 rfl (by decide)
theorem Opcode.allocConfigure : ∀ a0 a1, Opcode.Statement (.allocConfigure a0 a1) := by intros; exact of_opcode 0x0400 rfl (by decide)
theorem Opcode.allocRemove : ∀ a0 a1 a2, Opcode.Statement (.allocRemove a0 a1 a2) := by intros; exact of_opcode 0x0401 rfl (by decide)
theorem Opcode.portConfigure : ∀ a0 a1, Opcode.Statement (.portConfigure a0 a1) := by intros; exact of_opcode 0x0402 rfl (by decide)
theorem Opcode.portRemove : ∀ a0 a1 a2, Opcode.Statement (.portRemove a0 a1 a2) := by intros; exact of_opcode 0x0403 rfl (by decide)
theorem Opcode.grantPolicySet : ∀ a0 a1 a2 a3, Opcode.Statement (.grantPolicySet a0 a1 a2 a3) := by intros; exact of_opcode 0x0404 rfl (by decide)
theorem Opcode.allocStatus : ∀ a0 a1 a2, Opcode.Statement (.allocStatus a0 a1 a2) := by intros; exact of_opcode 0x0405 rfl (by decide)
theorem Opcode.coopInputConfigure : ∀ a0 a1, Opcode.Statement (.coopInputConfigure a0 a1) := by intros; exact of_opcode 0x0406 rfl (by decide)
theorem Opcode.lineConfigure : ∀ a0 a1, Opcode.Statement (.lineConfigure a0 a1) := by intros; exact of_opcode 0x0500 rfl (by decide)
theorem Opcode.lineEnable : ∀ a0 a1 a2, Opcode.Statement (.lineEnable a0 a1 a2) := by intros; exact of_opcode 0x0501 rfl (by decide)
theorem Opcode.lineDisable : ∀ a0 a1, Opcode.Statement (.lineDisable a0 a1) := by intros; exact of_opcode 0x0502 rfl (by decide)
theorem Opcode.lineStatus : ∀ a0 a1 a2 a3, Opcode.Statement (.lineStatus a0 a1 a2 a3) := by intros; exact of_opcode 0x0503 rfl (by decide)
theorem Opcode.lineQuality : ∀ a0 a1 a2 a3 a4, Opcode.Statement (.lineQuality a0 a1 a2 a3 a4) := by intros; exact of_opcode 0x0504 rfl (by decide)
theorem Opcode.predistortionLoad : ∀ a0 a1 a2, Opcode.Statement (.predistortionLoad a0 a1 a2) := by intros; exact of_opcode 0x0505 rfl (by decide)
theorem Opcode.lineAdjust : ∀ a0 a1, Opcode.Statement (.lineAdjust a0 a1) := by intros; exact of_opcode 0x0506 rfl (by decide)
theorem Opcode.framerConfigure : ∀ a0 a1, Opcode.Statement (.framerConfigure a0 a1) := by intros; exact of_opcode 0x0600 rfl (by decide)
theorem Opcode.tributaryConfigure : ∀ a0 a1 a2 a3, Opcode.Statement (.tributaryConfigure a0 a1 a2 a3) := by intros; exact of_opcode 0x0601 rfl (by decide)
theorem Opcode.tributaryRemove : ∀ a0 a1 a2, Opcode.Statement (.tributaryRemove a0 a1 a2) := by intros; exact of_opcode 0x0602 rfl (by decide)
theorem Opcode.framerStatus : ∀ a0 a1, Opcode.Statement (.framerStatus a0 a1) := by intros; exact of_opcode 0x0603 rfl (by decide)
theorem Opcode.ttiSet : ∀ a0 a1, Opcode.Statement (.ttiSet a0 a1) := by intros; exact of_opcode 0x0604 rfl (by decide)
theorem Opcode.delayMeasure : ∀ a0 a1, Opcode.Statement (.delayMeasure a0 a1) := by intros; exact of_opcode 0x0605 rfl (by decide)
theorem Opcode.ttiRead : ∀ a0 a1, Opcode.Statement (.ttiRead a0 a1) := by intros; exact of_opcode 0x0606 rfl (by decide)
theorem Opcode.treeKeyExchange : ∀ a0 a1 a2, Opcode.Statement (.treeKeyExchange a0 a1 a2) := by intros; exact of_opcode 0x0700 rfl (by decide)
theorem Opcode.lineSealConfigure : ∀ a0 a1, Opcode.Statement (.lineSealConfigure a0 a1) := by intros; exact of_opcode 0x0701 rfl (by decide)
theorem Opcode.macsecConfigure : ∀ a0 a1, Opcode.Statement (.macsecConfigure a0 a1) := by intros; exact of_opcode 0x0702 rfl (by decide)
theorem Opcode.keySlotStatus : ∀ a0 a1 a2, Opcode.Statement (.keySlotStatus a0 a1 a2) := by intros; exact of_opcode 0x0703 rfl (by decide)
theorem Opcode.keyStoreResume : ∀ a0 a1, Opcode.Statement (.keyStoreResume a0 a1) := by intros; exact of_opcode 0x0704 rfl (by decide)
theorem Opcode.sealStatus : ∀ a0 a1, Opcode.Statement (.sealStatus a0 a1) := by intros; exact of_opcode 0x0705 rfl (by decide)
theorem Opcode.portPipelineSet : ∀ a0 a1, Opcode.Statement (.portPipelineSet a0 a1) := by intros; exact of_opcode 0x0800 rfl (by decide)
theorem Opcode.pipelineStatus : ∀ a0 a1, Opcode.Statement (.pipelineStatus a0 a1) := by intros; exact of_opcode 0x0801 rfl (by decide)
theorem Opcode.pipelineRestore : ∀ a0 a1, Opcode.Statement (.pipelineRestore a0 a1) := by intros; exact of_opcode 0x0802 rfl (by decide)
theorem Opcode.domainConfigure : ∀ a0 a1, Opcode.Statement (.domainConfigure a0 a1) := by intros; exact of_opcode 0x0803 rfl (by decide)
theorem Opcode.tableWrite : ∀ a0 a1, Opcode.Statement (.tableWrite a0 a1) := by intros; exact of_opcode 0x0804 rfl (by decide)
theorem Opcode.tableRead : ∀ a0 a1, Opcode.Statement (.tableRead a0 a1) := by intros; exact of_opcode 0x0805 rfl (by decide)
theorem Opcode.tableDelete : ∀ a0 a1, Opcode.Statement (.tableDelete a0 a1) := by intros; exact of_opcode 0x0806 rfl (by decide)
theorem Opcode.learnConfigure : ∀ a0 a1, Opcode.Statement (.learnConfigure a0 a1) := by intros; exact of_opcode 0x0807 rfl (by decide)
theorem Opcode.queueConfigure : ∀ a0 a1, Opcode.Statement (.queueConfigure a0 a1) := by intros; exact of_opcode 0x0808 rfl (by decide)
theorem Opcode.queueStatus : ∀ a0 a1, Opcode.Statement (.queueStatus a0 a1) := by intros; exact of_opcode 0x0809 rfl (by decide)
theorem Opcode.schedGroupConfigure : ∀ a0 a1, Opcode.Statement (.schedGroupConfigure a0 a1) := by intros; exact of_opcode 0x080A rfl (by decide)
theorem Opcode.tableFlush : ∀ a0 a1 a2, Opcode.Statement (.tableFlush a0 a1 a2) := by intros; exact of_opcode 0x080B rfl (by decide)
theorem Opcode.poolConfigure : ∀ a0 a1, Opcode.Statement (.poolConfigure a0 a1) := by intros; exact of_opcode 0x0900 rfl (by decide)
theorem Opcode.poolStatus : ∀ a0 a1, Opcode.Statement (.poolStatus a0 a1) := by intros; exact of_opcode 0x0901 rfl (by decide)
theorem Opcode.poolMapSet : ∀ a0 a1 a2 a3 a4 a5, Opcode.Statement (.poolMapSet a0 a1 a2 a3 a4 a5) := by intros; exact of_opcode 0x0902 rfl (by decide)
theorem Opcode.poolRebuild : ∀ a0 a1, Opcode.Statement (.poolRebuild a0 a1) := by intros; exact of_opcode 0x0903 rfl (by decide)
theorem Opcode.timeBaseConfigure : ∀ a0 a1, Opcode.Statement (.timeBaseConfigure a0 a1) := by intros; exact of_opcode 0x0A00 rfl (by decide)
theorem Opcode.timeBaseStatus : ∀ a0 a1, Opcode.Statement (.timeBaseStatus a0 a1) := by intros; exact of_opcode 0x0A01 rfl (by decide)
theorem Opcode.timeSet : ∀ a0 a1, Opcode.Statement (.timeSet a0 a1) := by intros; exact of_opcode 0x0A02 rfl (by decide)
theorem Opcode.timeStepAuthorise : ∀ a0 a1, Opcode.Statement (.timeStepAuthorise a0 a1) := by intros; exact of_opcode 0x0A03 rfl (by decide)
theorem Opcode.ppsInputConfigure : ∀ a0 a1, Opcode.Statement (.ppsInputConfigure a0 a1) := by intros; exact of_opcode 0x0A04 rfl (by decide)
theorem Opcode.pulseOutputConfigure : ∀ a0 a1, Opcode.Statement (.pulseOutputConfigure a0 a1) := by intros; exact of_opcode 0x0A05 rfl (by decide)
theorem Opcode.ptpClockConfigure : ∀ a0 a1, Opcode.Statement (.ptpClockConfigure a0 a1) := by intros; exact of_opcode 0x0A06 rfl (by decide)
theorem Opcode.ptpPortConfigure : ∀ a0 a1, Opcode.Statement (.ptpPortConfigure a0 a1) := by intros; exact of_opcode 0x0A07 rfl (by decide)
theorem Opcode.ptpStatus : ∀ a0 a1, Opcode.Statement (.ptpStatus a0 a1) := by intros; exact of_opcode 0x0A08 rfl (by decide)
theorem Opcode.treeTodConfigure : ∀ a0 a1, Opcode.Statement (.treeTodConfigure a0 a1) := by intros; exact of_opcode 0x0A09 rfl (by decide)
theorem Opcode.witnessConfigure : ∀ a0 a1, Opcode.Statement (.witnessConfigure a0 a1) := by intros; exact of_opcode 0x0A0A rfl (by decide)
theorem Opcode.witnessStatus : ∀ a0 a1, Opcode.Statement (.witnessStatus a0 a1) := by intros; exact of_opcode 0x0A0B rfl (by decide)
theorem Opcode.witnessApply : ∀ a0 a1 a2 a3, Opcode.Statement (.witnessApply a0 a1 a2 a3) := by intros; exact of_opcode 0x0A0C rfl (by decide)
theorem Opcode.portTimeBaseSet : ∀ a0 a1 a2, Opcode.Statement (.portTimeBaseSet a0 a1 a2) := by intros; exact of_opcode 0x0A0D rfl (by decide)
theorem Opcode.treeTodStatus : ∀ a0 a1 a2, Opcode.Statement (.treeTodStatus a0 a1 a2) := by intros; exact of_opcode 0x0A0E rfl (by decide)
theorem Opcode.protGroupConfigure : ∀ a0 a1, Opcode.Statement (.protGroupConfigure a0 a1) := by intros; exact of_opcode 0x0B00 rfl (by decide)
theorem Opcode.protEnable : ∀ a0 a1, Opcode.Statement (.protEnable a0 a1) := by intros; exact of_opcode 0x0B01 rfl (by decide)
theorem Opcode.protDisable : ∀ a0 a1 a2, Opcode.Statement (.protDisable a0 a1 a2) := by intros; exact of_opcode 0x0B02 rfl (by decide)
theorem Opcode.protSwitch : ∀ a0 a1, Opcode.Statement (.protSwitch a0 a1) := by intros; exact of_opcode 0x0B03 rfl (by decide)
theorem Opcode.protStatus : ∀ a0 a1, Opcode.Statement (.protStatus a0 a1) := by intros; exact of_opcode 0x0B04 rfl (by decide)
theorem Opcode.protStandbyTest : ∀ a0 a1 a2, Opcode.Statement (.protStandbyTest a0 a1 a2) := by intros; exact of_opcode 0x0B05 rfl (by decide)
theorem Opcode.protPair : ∀ a0 a1 a2, Opcode.Statement (.protPair a0 a1 a2) := by intros; exact of_opcode 0x0B06 rfl (by decide)
theorem Opcode.leaseArbiterConfigure : ∀ a0 a1, Opcode.Statement (.leaseArbiterConfigure a0 a1) := by intros; exact of_opcode 0x0B07 rfl (by decide)
theorem Opcode.laneGroupConfigure : ∀ a0 a1, Opcode.Statement (.laneGroupConfigure a0 a1) := by intros; exact of_opcode 0x0C00 rfl (by decide)
theorem Opcode.clientPortConfigure : ∀ a0 a1, Opcode.Statement (.clientPortConfigure a0 a1) := by intros; exact of_opcode 0x0C01 rfl (by decide)
theorem Opcode.fabricLinkEnable : ∀ a0 a1, Opcode.Statement (.fabricLinkEnable a0 a1) := by intros; exact of_opcode 0x0C02 rfl (by decide)
theorem Opcode.laneStatus : ∀ a0 a1 a2, Opcode.Statement (.laneStatus a0 a1 a2) := by intros; exact of_opcode 0x0C03 rfl (by decide)
theorem Opcode.laneRetrain : ∀ a0 a1 a2, Opcode.Statement (.laneRetrain a0 a1 a2) := by intros; exact of_opcode 0x0C04 rfl (by decide)
theorem Opcode.eyeScan : ∀ a0 a1 a2 a3 a4, Opcode.Statement (.eyeScan a0 a1 a2 a3 a4) := by intros; exact of_opcode 0x0C05 rfl (by decide)
theorem Opcode.loopbackSet : ∀ a0 a1 a2, Opcode.Statement (.loopbackSet a0 a1 a2) := by intros; exact of_opcode 0x0C06 rfl (by decide)
theorem Opcode.fabricConfigure : ∀ a0 a1 a2, Opcode.Statement (.fabricConfigure a0 a1 a2) := by intros; exact of_opcode 0x0C07 rfl (by decide)
theorem Opcode.fabricStatus : ∀ a0, Opcode.Statement (.fabricStatus a0) := by intros; exact of_opcode 0x0C08 rfl (by decide)
theorem Opcode.fabricRouteRead : ∀ a0 a1, Opcode.Statement (.fabricRouteRead a0 a1) := by intros; exact of_opcode 0x0C09 rfl (by decide)
theorem Opcode.fabricDestBind : ∀ a0 a1, Opcode.Statement (.fabricDestBind a0 a1) := by intros; exact of_opcode 0x0C0A rfl (by decide)
theorem Opcode.fabricForward : ∀ a0 a1, Opcode.Statement (.fabricForward a0 a1) := by intros; exact of_opcode 0x0C0B rfl (by decide)
theorem Opcode.memStatus : ∀ a0 a1, Opcode.Statement (.memStatus a0 a1) := by intros; exact of_opcode 0x0D00 rfl (by decide)
theorem Opcode.memPartitionSet : ∀ a0 a1, Opcode.Statement (.memPartitionSet a0 a1) := by intros; exact of_opcode 0x0D01 rfl (by decide)
theorem Opcode.memTrain : ∀ a0 a1 a2, Opcode.Statement (.memTrain a0 a1 a2) := by intros; exact of_opcode 0x0D02 rfl (by decide)
theorem Opcode.memConfigure : ∀ a0 a1, Opcode.Statement (.memConfigure a0 a1) := by intros; exact of_opcode 0x0D03 rfl (by decide)
theorem Opcode.mmuContextSet : ∀ a0 a1, Opcode.Statement (.mmuContextSet a0 a1) := by intros; exact of_opcode 0x0D04 rfl (by decide)
theorem Opcode.dmaChannelConfigure : ∀ a0 a1, Opcode.Statement (.dmaChannelConfigure a0 a1) := by intros; exact of_opcode 0x0D05 rfl (by decide)
theorem Opcode.dmaPost : ∀ a0 a1 a2, Opcode.Statement (.dmaPost a0 a1 a2) := by intros; exact of_opcode 0x0D06 rfl (by decide)
theorem Opcode.dmaResume : ∀ a0 a1 a2, Opcode.Statement (.dmaResume a0 a1 a2) := by intros; exact of_opcode 0x0D07 rfl (by decide)
theorem Opcode.dmaStatus : ∀ a0 a1, Opcode.Statement (.dmaStatus a0 a1) := by intros; exact of_opcode 0x0D08 rfl (by decide)
theorem Opcode.memWindowSet : ∀ a0 a1, Opcode.Statement (.memWindowSet a0 a1) := by intros; exact of_opcode 0x0D0A rfl (by decide)
theorem Opcode.eventRouteSet : ∀ a0 a1, Opcode.Statement (.eventRouteSet a0 a1) := by intros; exact of_opcode 0x0E00 rfl (by decide)
theorem Opcode.eventQueueCreate : ∀ a0 a1, Opcode.Statement (.eventQueueCreate a0 a1) := by intros; exact of_opcode 0x0E01 rfl (by decide)
theorem Opcode.eventQueueDestroy : ∀ a0 a1, Opcode.Statement (.eventQueueDestroy a0 a1) := by intros; exact of_opcode 0x0E02 rfl (by decide)
theorem Opcode.eventQueueAssign : ∀ a0 a1 a2, Opcode.Statement (.eventQueueAssign a0 a1 a2) := by intros; exact of_opcode 0x0E03 rfl (by decide)
theorem Opcode.eventCoalesceSet : ∀ a0 a1 a2 a3, Opcode.Statement (.eventCoalesceSet a0 a1 a2 a3) := by intros; exact of_opcode 0x0E04 rfl (by decide)
theorem Opcode.eventSourceQuery : ∀ a0 a1, Opcode.Statement (.eventSourceQuery a0 a1) := by intros; exact of_opcode 0x0E05 rfl (by decide)
theorem Opcode.counterConfigure : ∀ a0 a1, Opcode.Statement (.counterConfigure a0 a1) := by intros; exact of_opcode 0x0E06 rfl (by decide)
theorem Opcode.counterRead : ∀ a0 a1 a2 a3, Opcode.Statement (.counterRead a0 a1 a2 a3) := by intros; exact of_opcode 0x0E07 rfl (by decide)
theorem Opcode.meterConfigure : ∀ a0 a1, Opcode.Statement (.meterConfigure a0 a1) := by intros; exact of_opcode 0x0E08 rfl (by decide)
theorem Opcode.fwUpdateBegin : ∀ a0 a1, Opcode.Statement (.fwUpdateBegin a0 a1) := by intros; exact of_opcode 0x0F00 rfl (by decide)
theorem Opcode.fwUpdateData : ∀ a0 a1 a2, Opcode.Statement (.fwUpdateData a0 a1 a2) := by intros; exact of_opcode 0x0F01 rfl (by decide)
theorem Opcode.fwUpdateEnd : ∀ a0, Opcode.Statement (.fwUpdateEnd a0) := by intros; exact of_opcode 0x0F02 rfl (by decide)
theorem Opcode.fwActivate : ∀ a0 a1 a2, Opcode.Statement (.fwActivate a0 a1 a2) := by intros; exact of_opcode 0x0F03 rfl (by decide)
theorem Opcode.fwConfirm : ∀ a0, Opcode.Statement (.fwConfirm a0) := by intros; exact of_opcode 0x0F04 rfl (by decide)
theorem Opcode.fwSecurityCommit : ∀ a0, Opcode.Statement (.fwSecurityCommit a0) := by intros; exact of_opcode 0x0F05 rfl (by decide)
theorem Opcode.measurementLogRead : ∀ a0 a1 a2, Opcode.Statement (.measurementLogRead a0 a1 a2) := by intros; exact of_opcode 0x0F06 rfl (by decide)
theorem Opcode.attestQuote : ∀ a0 a1, Opcode.Statement (.attestQuote a0 a1) := by intros; exact of_opcode 0x0F07 rfl (by decide)
theorem Opcode.identityRead : ∀ a0, Opcode.Statement (.identityRead a0) := by intros; exact of_opcode 0x0F08 rfl (by decide)
theorem Opcode.keepPortStatus : Opcode.Statement (.keepPortStatus) := by exact of_none rfl
theorem Opcode.keepPortWake : ∀ a0, Opcode.Statement (.keepPortWake a0) := by intros; exact of_none rfl
theorem Opcode.keepPortReset : ∀ a0 a1, Opcode.Statement (.keepPortReset a0 a1) := by intros; exact of_none rfl
theorem Opcode.keepPortLedger : Opcode.Statement (.keepPortLedger) := by exact of_none rfl
theorem Opcode.keepPortIdentity : Opcode.Statement (.keepPortIdentity) := by exact of_none rfl
theorem Opcode.keepPortBootSource : ∀ a0 a1, Opcode.Statement (.keepPortBootSource a0 a1) := by intros; exact of_none rfl
theorem Opcode.keepPortCmd : ∀ a0 a1 a2, Opcode.Statement (.keepPortCmd a0 a1 a2) := by intros; exact of_none rfl
theorem Opcode.keepPortResult : Opcode.Statement (.keepPortResult) := by exact of_none rfl
theorem Opcode.mbxSqTail : ∀ a0 a1 a2, Opcode.Statement (.mbxSqTail a0 a1 a2) := by intros; exact of_none rfl
theorem Opcode.mbxCqHead : ∀ a0 a1 a2, Opcode.Statement (.mbxCqHead a0 a1 a2) := by intros; exact of_none rfl
theorem Opcode.adminRingEnable : ∀ a0 a1 a2 a3, Opcode.Statement (.adminRingEnable a0 a1 a2 a3) := by intros; exact of_none rfl
theorem Opcode.adminRingDisable : ∀ a0 a1 a2 a3, Opcode.Statement (.adminRingDisable a0 a1 a2 a3) := by intros; exact of_none rfl
theorem Opcode.evqHead : ∀ a0 a1 a2, Opcode.Statement (.evqHead a0 a1 a2) := by intros; exact of_none rfl
theorem Opcode.evqArm : ∀ a0 a1 a2, Opcode.Statement (.evqArm a0 a1 a2) := by intros; exact of_none rfl
theorem Opcode.campSnapFrac : ∀ a0 a1, Opcode.Statement (.campSnapFrac a0 a1) := by intros; exact of_none rfl
theorem Opcode.campLatchAll : ∀ a0 a1, Opcode.Statement (.campLatchAll a0 a1) := by intros; exact of_none rfl
theorem Opcode.campFreq : ∀ a0 a1 a2, Opcode.Statement (.campFreq a0 a1 a2) := by intros; exact of_none rfl
theorem Opcode.campAdjApply : ∀ a0 a1 a2, Opcode.Statement (.campAdjApply a0 a1 a2) := by intros; exact of_none rfl
theorem Opcode.keyCommitWrite : ∀ a0, Opcode.Statement (.keyCommitWrite a0) := by intros; exact of_none rfl
theorem Opcode.keyCommitErase : ∀ a0, Opcode.Statement (.keyCommitErase a0) := by intros; exact of_none rfl
theorem Opcode.tblRead : ∀ a0 a1, Opcode.Statement (.tblRead a0 a1) := by intros; exact of_none rfl
theorem Opcode.tblSearch : ∀ a0 a1, Opcode.Statement (.tblSearch a0 a1) := by intros; exact of_none rfl
theorem Opcode.tblInsert : ∀ a0 a1, Opcode.Statement (.tblInsert a0 a1) := by intros; exact of_none rfl
theorem Opcode.tblDelete : ∀ a0 a1, Opcode.Statement (.tblDelete a0 a1) := by intros; exact of_none rfl
theorem Opcode.mmuTlbInvalAll : ∀ a0, Opcode.Statement (.mmuTlbInvalAll a0) := by intros; exact of_none rfl
theorem Opcode.mmuTlbInvalPage : ∀ a0, Opcode.Statement (.mmuTlbInvalPage a0) := by intros; exact of_none rfl
theorem Opcode.cntLo : ∀ a0 a1, Opcode.Statement (.cntLo a0 a1) := by intros; exact of_none rfl
theorem Opcode.cntClear : ∀ a0 a1, Opcode.Statement (.cntClear a0 a1) := by intros; exact of_none rfl
theorem Opcode.cntClearOvf : ∀ a0 a1, Opcode.Statement (.cntClearOvf a0 a1) := by intros; exact of_none rfl
theorem Opcode.cntMtrBytesLo : ∀ a0 a1, Opcode.Statement (.cntMtrBytesLo a0 a1) := by intros; exact of_none rfl
theorem Opcode.peakClear : ∀ a0 a1, Opcode.Statement (.peakClear a0 a1) := by intros; exact of_none rfl
theorem Opcode.glbBootGo : ∀ a0, Opcode.Statement (.glbBootGo a0) := by intros; exact of_none rfl
theorem Opcode.registerWrite : ∀ a0, Opcode.Statement (.registerWrite a0) := by intros; exact of_none rfl
theorem Opcode.bar2Read : ∀ a0 a1 a2 a3, Opcode.Statement (.bar2Read a0 a1 a2 a3) := by intros; exact of_none rfl
theorem Opcode.bar2Write : ∀ a0 a1 a2, Opcode.Statement (.bar2Write a0 a1 a2) := by intros; exact of_none rfl
theorem Opcode.commandFetch : ∀ a0 a1 a2 a3, Opcode.Statement (.commandFetch a0 a1 a2 a3) := by intros; exact of_none rfl
theorem Opcode.commandTimeout : ∀ a0, Opcode.Statement (.commandTimeout a0) := by intros; exact of_none rfl
theorem Opcode.maintRelease : Opcode.Statement (.maintRelease) := by exact of_none rfl
theorem Opcode.cupolaWakeReady : ∀ a0 a1 a2, Opcode.Statement (.cupolaWakeReady a0 a1 a2) := by intros; exact of_none rfl
theorem Opcode.ringFault : ∀ a0 a1 a2 a3, Opcode.Statement (.ringFault a0 a1 a2 a3) := by intros; exact of_none rfl
theorem Opcode.eventQueueFault : ∀ a0, Opcode.Statement (.eventQueueFault a0) := by intros; exact of_none rfl
theorem Opcode.coalesceTimeout : ∀ a0, Opcode.Statement (.coalesceTimeout a0) := by intros; exact of_none rfl
theorem Opcode.relayedEventRecord : ∀ a0 a1, Opcode.Statement (.relayedEventRecord a0 a1) := by intros; exact of_none rfl
theorem Opcode.sessionKeepaliveExpiry : ∀ a0, Opcode.Statement (.sessionKeepaliveExpiry a0) := by intros; exact of_none rfl
theorem Opcode.functionLevelReset : ∀ a0, Opcode.Statement (.functionLevelReset a0) := by intros; exact of_none rfl
theorem Opcode.conventionalReset : ∀ a0 a1, Opcode.Statement (.conventionalReset a0 a1) := by intros; exact of_none rfl
theorem Opcode.resetDelayExpiry : Opcode.Statement (.resetDelayExpiry) := by exact of_none rfl
theorem Opcode.firmwareWatchdog : Opcode.Statement (.firmwareWatchdog) := by exact of_none rfl
theorem Opcode.coreFault : ∀ a0, Opcode.Statement (.coreFault a0) := by intros; exact of_none rfl
theorem Opcode.powerOn : ∀ a0, Opcode.Statement (.powerOn a0) := by intros; exact of_none rfl
theorem Opcode.bootImageFetched : ∀ a0, Opcode.Statement (.bootImageFetched a0) := by intros; exact of_none rfl
theorem Opcode.fwReady : ∀ a0 a1, Opcode.Statement (.fwReady a0 a1) := by intros; exact of_none rfl
theorem Opcode.mainRailLoss : ∀ a0, Opcode.Statement (.mainRailLoss a0) := by intros; exact of_none rfl
theorem Opcode.mainRailsGood : Opcode.Statement (.mainRailsGood) := by exact of_none rfl
theorem Opcode.keepFeedLoss : ∀ a0, Opcode.Statement (.keepFeedLoss a0) := by intros; exact of_none rfl
theorem Opcode.keepFeedRestore : ∀ a0, Opcode.Statement (.keepFeedRestore a0) := by intros; exact of_none rfl
theorem Opcode.zeroisation : ∀ a0, Opcode.Statement (.zeroisation a0) := by intros; exact of_none rfl
theorem Opcode.refclkLoss : Opcode.Statement (.refclkLoss) := by exact of_none rfl
theorem Opcode.refclkReturn : Opcode.Statement (.refclkReturn) := by exact of_none rfl
theorem Opcode.clk32kLoss : Opcode.Statement (.clk32kLoss) := by exact of_none rfl
theorem Opcode.clk32kReturn : Opcode.Statement (.clk32kReturn) := by exact of_none rfl
theorem Opcode.thermalWarning : ∀ a0 a1, Opcode.Statement (.thermalWarning a0 a1) := by intros; exact of_none rfl
theorem Opcode.thermalWarningClear : ∀ a0 a1, Opcode.Statement (.thermalWarningClear a0 a1) := by intros; exact of_none rfl
theorem Opcode.thermalTrip : ∀ a0 a1, Opcode.Statement (.thermalTrip a0 a1) := by intros; exact of_none rfl
theorem Opcode.keepOnlyEntry : Opcode.Statement (.keepOnlyEntry) := by exact of_none rfl
theorem Opcode.lanternLightWake : ∀ a0, Opcode.Statement (.lanternLightWake a0) := by intros; exact of_none rfl
theorem Opcode.ledgerAlarm : Opcode.Statement (.ledgerAlarm) := by exact of_none rfl
theorem Opcode.sleepLedgerResume : ∀ a0, Opcode.Statement (.sleepLedgerResume a0) := by intros; exact of_none rfl
theorem Opcode.cupolaHysteresisExpiry : ∀ a0, Opcode.Statement (.cupolaHysteresisExpiry a0) := by intros; exact of_none rfl
theorem Opcode.mapClose : ∀ a0, Opcode.Statement (.mapClose a0) := by intros; exact of_none rfl
theorem Opcode.downstreamFrameStart : ∀ a0 a1, Opcode.Statement (.downstreamFrameStart a0 a1) := by intros; exact of_none rfl
theorem Opcode.dutyCycleEnter : ∀ a0, Opcode.Statement (.dutyCycleEnter a0) := by intros; exact of_none rfl
theorem Opcode.todMessage : ∀ a0 a1, Opcode.Statement (.todMessage a0 a1) := by intros; exact of_none rfl
theorem Opcode.burstWindowStart : ∀ a0 a1, Opcode.Statement (.burstWindowStart a0 a1) := by intros; exact of_none rfl
theorem Opcode.provisionalLock : ∀ a0 a1 a2, Opcode.Statement (.provisionalLock a0 a1 a2) := by intros; exact of_none rfl
theorem Opcode.relock : ∀ a0 a1 a2, Opcode.Statement (.relock a0 a1 a2) := by intros; exact of_none rfl
theorem Opcode.delimWindowClose : ∀ a0 a1, Opcode.Statement (.delimWindowClose a0 a1) := by intros; exact of_none rfl
theorem Opcode.delimiterAccept : ∀ a0 a1 a2 a3, Opcode.Statement (.delimiterAccept a0 a1 a2 a3) := by intros; exact of_none rfl
theorem Opcode.grantedWindowEnd : ∀ a0 a1, Opcode.Statement (.grantedWindowEnd a0 a1) := by intros; exact of_none rfl
theorem Opcode.rssiTrig : ∀ a0 a1, Opcode.Statement (.rssiTrig a0 a1) := by intros; exact of_none rfl
theorem Opcode.rssiReading : ∀ a0 a1 a2, Opcode.Statement (.rssiReading a0 a1 a2) := by intros; exact of_none rfl
theorem Opcode.outOfWindowEnergy : ∀ a0 a1, Opcode.Statement (.outOfWindowEnergy a0 a1) := by intros; exact of_none rfl
theorem Opcode.upstreamXgemFrame : ∀ a0 a1, Opcode.Statement (.upstreamXgemFrame a0 a1) := by intros; exact of_none rfl
theorem Opcode.queueReport : ∀ a0 a1 a2 a3, Opcode.Statement (.queueReport a0 a1 a2 a3) := by intros; exact of_none rfl
theorem Opcode.coopAnnouncement : ∀ a0, Opcode.Statement (.coopAnnouncement a0) := by intros; exact of_none rfl
theorem Opcode.driftCorrection : ∀ a0 a1, Opcode.Statement (.driftCorrection a0 a1) := by intros; exact of_none rfl
theorem Opcode.discoveryWindow : ∀ a0, Opcode.Statement (.discoveryWindow a0) := by intros; exact of_none rfl
theorem Opcode.serialNumberResponse : ∀ a0 a1 a2 a3, Opcode.Statement (.serialNumberResponse a0 a1 a2 a3) := by intros; exact of_none rfl
theorem Opcode.rangingResponse : ∀ a0 a1 a2 a3, Opcode.Statement (.rangingResponse a0 a1 a2 a3) := by intros; exact of_none rfl
theorem Opcode.rangingWindowClose : ∀ a0 a1, Opcode.Statement (.rangingWindowClose a0 a1) := by intros; exact of_none rfl
theorem Opcode.ploamKeyResponse : ∀ a0 a1 a2, Opcode.Statement (.ploamKeyResponse a0 a1 a2) := by intros; exact of_none rfl
theorem Opcode.acquisitionStepEnd : ∀ a0 a1 a2, Opcode.Statement (.acquisitionStepEnd a0 a1 a2) := by intros; exact of_none rfl
theorem Opcode.acquisitionStepTimeout : ∀ a0, Opcode.Statement (.acquisitionStepTimeout a0) := by intros; exact of_none rfl
theorem Opcode.mismatchRestart : ∀ a0, Opcode.Statement (.mismatchRestart a0) := by intros; exact of_none rfl
theorem Opcode.lossOfLock : ∀ a0, Opcode.Statement (.lossOfLock a0) := by intros; exact of_none rfl
theorem Opcode.lanternMonitorAssert : ∀ a0 a1 a2, Opcode.Statement (.lanternMonitorAssert a0 a1 a2) := by intros; exact of_none rfl
theorem Opcode.lanternMonitorClear : ∀ a0 a1 a2, Opcode.Statement (.lanternMonitorClear a0 a1 a2) := by intros; exact of_none rfl
theorem Opcode.maskCheck : ∀ a0 a1, Opcode.Statement (.maskCheck a0 a1) := by intros; exact of_none rfl
theorem Opcode.signalDegradeCheck : ∀ a0 a1, Opcode.Statement (.signalDegradeCheck a0 a1) := by intros; exact of_none rfl
theorem Opcode.frameAlignment : ∀ a0 a1, Opcode.Statement (.frameAlignment a0 a1) := by intros; exact of_none rfl
theorem Opcode.lofDeclare : ∀ a0, Opcode.Statement (.lofDeclare a0) := by intros; exact of_none rfl
theorem Opcode.lofClear : ∀ a0, Opcode.Statement (.lofClear a0) := by intros; exact of_none rfl
theorem Opcode.lomDeclare : ∀ a0, Opcode.Statement (.lomDeclare a0) := by intros; exact of_none rfl
theorem Opcode.lomClear : ∀ a0, Opcode.Statement (.lomClear a0) := by intros; exact of_none rfl
theorem Opcode.multiframeBoundary : ∀ a0 a1, Opcode.Statement (.multiframeBoundary a0 a1) := by intros; exact of_none rfl
theorem Opcode.dmpReturn : ∀ a0, Opcode.Statement (.dmpReturn a0) := by intros; exact of_none rfl
theorem Opcode.sealControlMessage : ∀ a0 a1, Opcode.Statement (.sealControlMessage a0 a1) := by intros; exact of_none rfl
theorem Opcode.sealingBlockReceive : ∀ a0 a1 a2 a3 a4 a5 a6, Opcode.Statement (.sealingBlockReceive a0 a1 a2 a3 a4 a5 a6) := by intros; exact of_none rfl
theorem Opcode.macsecRxFrame : ∀ a0, Opcode.Statement (.macsecRxFrame a0) := by intros; exact of_none rfl
theorem Opcode.witnessMessage : ∀ a0 a1, Opcode.Statement (.witnessMessage a0 a1) := by intros; exact of_none rfl
theorem Opcode.witnessHoldExpiry : ∀ a0, Opcode.Statement (.witnessHoldExpiry a0) := by intros; exact of_none rfl
theorem Opcode.packetIngress : ∀ a0, Opcode.Statement (.packetIngress a0) := by intros; exact of_none rfl
theorem Opcode.packetEgress : ∀ a0 a1 a2 a3, Opcode.Statement (.packetEgress a0 a1 a2 a3) := by intros; exact of_none rfl
theorem Opcode.spillReadback : ∀ a0, Opcode.Statement (.spillReadback a0) := by intros; exact of_none rfl
theorem Opcode.ageScan : ∀ a0, Opcode.Statement (.ageScan a0) := by intros; exact of_none rfl
theorem Opcode.pipelineWatchdog : ∀ a0, Opcode.Statement (.pipelineWatchdog a0) := by intros; exact of_none rfl
theorem Opcode.pipelineMemoryError : ∀ a0, Opcode.Statement (.pipelineMemoryError a0) := by intros; exact of_none rfl
theorem Opcode.pipelineRemapComplete : ∀ a0, Opcode.Statement (.pipelineRemapComplete a0) := by intros; exact of_none rfl
theorem Opcode.alloc : ∀ a0 a1 a2 a3, Opcode.Statement (.alloc a0 a1 a2 a3) := by intros; exact of_none rfl
theorem Opcode.share : ∀ a0 a1 a2 a3, Opcode.Statement (.share a0 a1 a2 a3) := by intros; exact of_none rfl
theorem Opcode.give : ∀ a0 a1 a2 a3, Opcode.Statement (.give a0 a1 a2 a3) := by intros; exact of_none rfl
theorem Opcode.free : ∀ a0 a1 a2, Opcode.Statement (.free a0 a1 a2) := by intros; exact of_none rfl
theorem Opcode.allocRetry : ∀ a0 a1 a2, Opcode.Statement (.allocRetry a0 a1 a2) := by intros; exact of_none rfl
theorem Opcode.bpHoldExpiry : ∀ a0 a1, Opcode.Statement (.bpHoldExpiry a0 a1) := by intros; exact of_none rfl
theorem Opcode.ppsEdge : ∀ a0 a1, Opcode.Statement (.ppsEdge a0 a1) := by intros; exact of_none rfl
theorem Opcode.ppsInputLost : ∀ a0, Opcode.Statement (.ppsInputLost a0) := by intros; exact of_none rfl
theorem Opcode.ptpMessage : ∀ a0, Opcode.Statement (.ptpMessage a0) := by intros; exact of_none rfl
theorem Opcode.ptpInputLost : ∀ a0, Opcode.Statement (.ptpInputLost a0) := by intros; exact of_none rfl
theorem Opcode.servoCorrection : ∀ a0, Opcode.Statement (.servoCorrection a0) := by intros; exact of_none rfl
theorem Opcode.lockAchieved : ∀ a0, Opcode.Statement (.lockAchieved a0) := by intros; exact of_none rfl
theorem Opcode.lockLost : ∀ a0, Opcode.Statement (.lockLost a0) := by intros; exact of_none rfl
theorem Opcode.pendingDiscard : ∀ a0, Opcode.Statement (.pendingDiscard a0) := by intros; exact of_none rfl
theorem Opcode.pulseEdge : ∀ a0, Opcode.Statement (.pulseEdge a0) := by intros; exact of_none rfl
theorem Opcode.crossCheck : ∀ a0 a1, Opcode.Statement (.crossCheck a0 a1) := by intros; exact of_none rfl
theorem Opcode.fenceInstant : ∀ a0, Opcode.Statement (.fenceInstant a0) := by intros; exact of_none rfl
theorem Opcode.leaseRequestSend : ∀ a0 a1, Opcode.Statement (.leaseRequestSend a0 a1) := by intros; exact of_none rfl
theorem Opcode.leaseGrant : ∀ a0 a1, Opcode.Statement (.leaseGrant a0 a1) := by intros; exact of_none rfl
theorem Opcode.arbiterLeaseMessage : ∀ a0, Opcode.Statement (.arbiterLeaseMessage a0) := by intros; exact of_none rfl
theorem Opcode.arbiterLeaseExpiry : ∀ a0, Opcode.Statement (.arbiterLeaseExpiry a0) := by intros; exact of_none rfl
theorem Opcode.queuedClaimExpiry : ∀ a0 a1, Opcode.Statement (.queuedClaimExpiry a0 a1) := by intros; exact of_none rfl
theorem Opcode.heartbeatSend : ∀ a0 a1, Opcode.Statement (.heartbeatSend a0 a1) := by intros; exact of_none rfl
theorem Opcode.heartbeat : ∀ a0 a1, Opcode.Statement (.heartbeat a0 a1) := by intros; exact of_none rfl
theorem Opcode.heartbeatTimeout : ∀ a0, Opcode.Statement (.heartbeatTimeout a0) := by intros; exact of_none rfl
theorem Opcode.transmitWithoutLease : ∀ a0 a1, Opcode.Statement (.transmitWithoutLease a0 a1) := by intros; exact of_none rfl
theorem Opcode.marlFrame : ∀ a0 a1, Opcode.Statement (.marlFrame a0 a1) := by intros; exact of_none rfl
theorem Opcode.marlPartComplete : ∀ a0 a1 a2, Opcode.Statement (.marlPartComplete a0 a1 a2) := by intros; exact of_none rfl
theorem Opcode.wtrExpiry : ∀ a0, Opcode.Statement (.wtrExpiry a0) := by intros; exact of_none rfl
theorem Opcode.handoverRelease : ∀ a0, Opcode.Statement (.handoverRelease a0) := by intros; exact of_none rfl
theorem Opcode.trainingFrame : ∀ a0 a1 a2 a3 a4, Opcode.Statement (.trainingFrame a0 a1 a2 a3 a4) := by intros; exact of_none rfl
theorem Opcode.trainingRequestTimeout : ∀ a0 a1, Opcode.Statement (.trainingRequestTimeout a0 a1) := by intros; exact of_none rfl
theorem Opcode.trainingTimeout : ∀ a0 a1, Opcode.Statement (.trainingTimeout a0 a1) := by intros; exact of_none rfl
theorem Opcode.echoTrainingTurn : ∀ a0 a1 a2, Opcode.Statement (.echoTrainingTurn a0 a1 a2) := by intros; exact of_none rfl
theorem Opcode.fomRetrain : ∀ a0 a1, Opcode.Statement (.fomRetrain a0 a1) := by intros; exact of_none rfl
theorem Opcode.retrainRequest : ∀ a0 a1, Opcode.Statement (.retrainRequest a0 a1) := by intros; exact of_none rfl
theorem Opcode.knownGoodExpiry : ∀ a0 a1 a2, Opcode.Statement (.knownGoodExpiry a0 a1 a2) := by intros; exact of_none rfl
theorem Opcode.parkedRetry : ∀ a0 a1, Opcode.Statement (.parkedRetry a0 a1) := by intros; exact of_none rfl
theorem Opcode.linkDown : ∀ a0 a1 a2 a3, Opcode.Statement (.linkDown a0 a1 a2 a3) := by intros; exact of_none rfl
theorem Opcode.pause : ∀ a0 a1 a2, Opcode.Statement (.pause a0 a1 a2) := by intros; exact of_none rfl
theorem Opcode.fabricFrame : ∀ a0 a1 a2 a3 a4, Opcode.Statement (.fabricFrame a0 a1 a2 a3 a4) := by intros; exact of_none rfl
theorem Opcode.helloSend : ∀ a0 a1, Opcode.Statement (.helloSend a0 a1) := by intros; exact of_none rfl
theorem Opcode.hello : ∀ a0 a1 a2, Opcode.Statement (.hello a0 a1 a2) := by intros; exact of_none rfl
theorem Opcode.adjacencyTimeout : ∀ a0 a1, Opcode.Statement (.adjacencyTimeout a0 a1) := by intros; exact of_none rfl
theorem Opcode.linkStateRecord : ∀ a0 a1 a2, Opcode.Statement (.linkStateRecord a0 a1 a2) := by intros; exact of_none rfl
theorem Opcode.linkStateRefresh : Opcode.Statement (.linkStateRefresh) := by exact of_none rfl
theorem Opcode.linkStateExpiry : ∀ a0, Opcode.Statement (.linkStateExpiry a0) := by intros; exact of_none rfl
theorem Opcode.addressComputation : Opcode.Statement (.addressComputation) := by exact of_none rfl
theorem Opcode.routeInstall : Opcode.Statement (.routeInstall) := by exact of_none rfl
theorem Opcode.timeFlit : ∀ a0 a1 a2, Opcode.Statement (.timeFlit a0 a1 a2) := by intros; exact of_none rfl
theorem Opcode.timeFlitSend : ∀ a0 a1, Opcode.Statement (.timeFlitSend a0 a1) := by intros; exact of_none rfl
theorem Opcode.fabricTimeSourceLost : Opcode.Statement (.fabricTimeSourceLost) := by exact of_none rfl
theorem Opcode.forwardedCommand : ∀ a0 a1 a2, Opcode.Statement (.forwardedCommand a0 a1 a2) := by intros; exact of_none rfl
theorem Opcode.refreshInterval : ∀ a0 a1 a2, Opcode.Statement (.refreshInterval a0 a1 a2) := by intros; exact of_none rfl
theorem Opcode.memoryTemperatureRead : ∀ a0 a1, Opcode.Statement (.memoryTemperatureRead a0 a1) := by intros; exact of_none rfl
theorem Opcode.rowDisturbance : ∀ a0 a1 a2 a3 a4, Opcode.Statement (.rowDisturbance a0 a1 a2 a3 a4) := by intros; exact of_none rfl
theorem Opcode.patrolScrub : ∀ a0, Opcode.Statement (.patrolScrub a0) := by intros; exact of_none rfl
theorem Opcode.dqsDriftCheck : ∀ a0 a1, Opcode.Statement (.dqsDriftCheck a0 a1) := by intros; exact of_none rfl
theorem Opcode.memoryRead : ∀ a0 a1 a2, Opcode.Statement (.memoryRead a0 a1 a2) := by intros; exact of_none rfl
theorem Opcode.dmaStep : ∀ a0 a1 a2 a3, Opcode.Statement (.dmaStep a0 a1 a2 a3) := by intros; exact of_none rfl
theorem Opcode.counterOverflow : ∀ a0 a1, Opcode.Statement (.counterOverflow a0 a1) := by intros; exact of_none rfl
theorem Opcode.meterWindowEnd : ∀ a0, Opcode.Statement (.meterWindowEnd a0) := by intros; exact of_none rfl
theorem Opcode.registerRead : ∀ a0, Opcode.Statement (.registerRead a0) := by intros; exact of_none rfl
theorem Opcode.perstDeassert : ∀ a0, Opcode.Statement (.perstDeassert a0) := by intros; exact of_none rfl
theorem Opcode.keyCommitComplete : ∀ a0, Opcode.Statement (.keyCommitComplete a0) := by intros; exact of_none rfl
theorem Opcode.tableOperationComplete : ∀ a0, Opcode.Statement (.tableOperationComplete a0) := by intros; exact of_none rfl
theorem Opcode.tlbInvalidationComplete : ∀ a0, Opcode.Statement (.tlbInvalidationComplete a0) := by intros; exact of_none rfl
theorem Opcode.selfTestEnd : ∀ a0 a1 a2 a3, Opcode.Statement (.selfTestEnd a0 a1 a2 a3) := by intros; exact of_none rfl
theorem Opcode.rogueProbeEnd : ∀ a0, Opcode.Statement (.rogueProbeEnd a0) := by intros; exact of_none rfl
theorem Opcode.eyeScanEnd : ∀ a0 a1 a2, Opcode.Statement (.eyeScanEnd a0 a1 a2) := by intros; exact of_none rfl
theorem Opcode.standbyTestEnd : ∀ a0 a1, Opcode.Statement (.standbyTestEnd a0 a1) := by intros; exact of_none rfl
theorem Opcode.memTrainingEnd : ∀ a0 a1 a2 a3, Opcode.Statement (.memTrainingEnd a0 a1 a2 a3) := by intros; exact of_none rfl
theorem Opcode.perfLevelSettled : Opcode.Statement (.perfLevelSettled) := by exact of_none rfl
theorem Opcode.revertSend : ∀ a0, Opcode.Statement (.revertSend a0) := by intros; exact of_none rfl
theorem Opcode.ptpMessageSend : ∀ a0 a1, Opcode.Statement (.ptpMessageSend a0 a1) := by intros; exact of_none rfl
theorem Opcode.domainTagIntervalEnd : ∀ a0, Opcode.Statement (.domainTagIntervalEnd a0) := by intros; exact of_none rfl

end Sys2Proof.Laws
end

