-- ==== Sys2Proof/Machine/Pins.lean ====
section
/-!
DEFINITION. What the module's balls show, the TAP and the typical power of a configuration (R588–R591, R593, R602, R603).
-/
namespace Sys2Proof.Machine

/-! ## Levels of pins -/

/-- VID of a level: 0.500 V + VID × 5 mV (R593). -/
def vidOf (level : Nat) : Nat := (levelMv level - 500) / 5

/-- VID[7:0]: during a change of level it moves by one code every 0.5 µs, until the ramp ends (R527, R593). -/
def vidPins (s : State) : Nat :=
  let left := (s.pwr.rampEnd - s.now + 499) / 500
  match s.pwr.plTarget with
  | none => vidOf s.pwr.pl
  | some l => if l < s.pwr.pl then vidOf l - left else vidOf l + left

/-- The level at which PULSE_OUT[k] rests: low until its output is configured, then inactive (R602). -/
def pulseRest (o : PulseOut) : Bool := o.everConfigured && o.activeLow

/-- TREE_TXEN[t] and ALARM_N, which is asserted low (R537, R590). -/
def txenPin (t : Nat) (s : State) : Bool := (tree s t).txen
def alarmPin (s : State) : Bool := !alarm s

/-- The optics management bus and the address at which the optics of tree `t` answer (R588). -/
def opticsBus (t : Nat) : Nat := t / 8
def opticsAddress (t : Nat) : Nat := 0x50 + t % 8

/-! ## TAP -/

/-- IDCODE: stepping C0, 0x6416, the manufacturer code, and the 1 of IEEE 1149.1 (R591). -/
def idcode : BitVec 32 := (0x3#4 ++ 0x6416#16 ++ Config.manufacturerCode) ++ 1#1

/-- The controller's next state at a rising TCK, by TMS (R591, IEEE 1149.1). -/
def tapNext (tms : Bool) (t : TapState) : TapState :=
  match t with
  | .testLogicReset => if tms then .testLogicReset else .runTestIdle
  | .runTestIdle => if tms then .selectDr else .runTestIdle
  | .selectDr => if tms then .selectIr else .captureDr
  | .captureDr => if tms then .exit1Dr else .shiftDr
  | .shiftDr => if tms then .exit1Dr else .shiftDr
  | .exit1Dr => if tms then .updateDr else .pauseDr
  | .pauseDr => if tms then .exit2Dr else .pauseDr
  | .exit2Dr => if tms then .updateDr else .shiftDr
  | .updateDr => if tms then .selectDr else .runTestIdle
  | .selectIr => if tms then .testLogicReset else .captureIr
  | .captureIr => if tms then .exit1Ir else .shiftIr
  | .shiftIr => if tms then .exit1Ir else .shiftIr
  | .exit1Ir => if tms then .updateIr else .pauseIr
  | .pauseIr => if tms then .exit2Ir else .pauseIr
  | .exit2Ir => if tms then .updateIr else .shiftIr
  | .updateIr => if tms then .selectDr else .runTestIdle

/-- The instruction of a code: all ones is BYPASS (IEEE 1149.1), the others as the device has them (R591). -/
def tapInstr (code : List Bool) : TapInstr :=
  if code.all id then .bypass
  else match Config.tapCode code with | 0 => .bypass | 1 => .idcode | 2 => .sample | 3 => .extest

/-- What the data register captures: one 0, the IDCODE, or the signal balls of R589 in boundary order. -/
def tapCapture (balls : List Bool) (i : TapInstr) : List Bool :=
  match i with
  | .bypass => [false]
  | .idcode => (List.range 32).map (fun k => idcode.getLsbD k)
  | .sample => balls
  | .extest => balls

/-- A rising TCK: TDO, and the TAP after it. Bits leave and enter least significant first (R591, IEEE 1149.1).
[log 208 DEDUCED] -/
def tapClock (tms tdi : Bool) (balls : List Bool) (t : Tap) : Bool × Tap :=
  let next := tapNext tms t.state
  let u : Tap := { t with state := next }
  match t.state with
  | .testLogicReset => (false, { u with ir := .idcode })
  | .captureDr => (false, { u with shiftDr := tapCapture balls t.ir })
  | .shiftDr => (t.shiftDr.headD false, { u with shiftDr := t.shiftDr.drop 1 ++ [tdi] })
  | .updateDr => (false, if t.ir = .sample ∨ t.ir = .extest then { u with driven := t.shiftDr } else u)
  | .captureIr => (false, { u with shiftIr := true :: List.replicate (Config.tapIrBits - 1) false })
  | .shiftIr => (t.shiftIr.headD false, { u with shiftIr := t.shiftIr.drop 1 ++ [tdi] })
  | .updateIr => (false, { u with ir := tapInstr t.shiftIr })
  | _ => (false, u)

/-- TRST_N low: the controller in its reset state, IDCODE in force (IEEE 1149.1). -/
def tapReset (t : Tap) : Tap := { t with state := .testLogicReset, ir := .idcode }

/-- What the boundary register drives onto the balls under EXTEST (R591). -/
def tapDrives (t : Tap) : Option (List Bool) := if t.ir = .extest then some t.driven else none

/-! ## Power -/

/-- Typical power of a pipeline with ports at full load, in mW, by level (R603). -/
def pipePowerMw (level : Nat) : Nat := match level with | 0 => 7000 | 1 => 4320 | 2 => 2240 | _ => 940

/-- Typical power of an enabled tree, awake or duty-cycled, in mW (R603). -/
def treePowerMw (t : Tree) : Nat :=
  match t.mode with
  | 0 => if t.duty then 30 else 120
  | 1 => if t.duty then 40 else 200
  | _ => if t.duty then 50 else 328

/-- Typical power of an enabled line engine, in mW: 3.0 W and 0.059 W for each GBd (R603). -/
def linePowerMw (p : LineP) : Nat := 3000 + symbolKbd p * 59 / 1000000

/-- Lane positions in use, by lane group: each takes 0.25 W, in mode 2 0.35 W (R603). -/
def lanePowerMw (s : State) : Nat :=
  ((List.range 48).map (fun x =>
    if lanesInUse x 1 s then (if (laneGroup s (x / 8)).mode = 2 then 350 else 250) else 0)).sum

/-- The typical power of the configuration at 85 °C junction, in mW; in Keep-only with the other main rails on (R603). -/
def typicalPowerMw (s : State) : Nat :=
  if s.pwr.keep.asleep then 250 + (if s.pwr.mainLost = 0 then 3000 else 0)
  else
    40000 + (servingPipes s).length * pipePowerMw s.pwr.pl +
      ((s.line.engines.filter (fun e => e.2.enabled)).map (fun e => (e.2.cfg.map linePowerMw).getD 0)).sum +
      ((s.tr.trees.filter (fun e => e.2.enabled)).map (fun e => treePowerMw e.2)).sum + lanePowerMw s

/-- The maximum power: the typical one × 240 / 185 (R603). -/
def maximumPowerMw (s : State) : Nat := typicalPowerMw s * 240 / 185

end Sys2Proof.Machine
end

