-- ==== Sys2Proof/Tests/Slice0.lean ====
section
/-!
SUPPORT. Tests of the model: ill-formed operands that the checks refuse, steps on small states with results from the spec, and
for every statement with hypotheses a state and operands that meet them all together.
-/
set_option maxRecDepth 20000

namespace Sys2Proof.Tests
open Sys2Proof Sys2Proof.Machine

/-! ## Small states -/

def pfA : PciFn := { linkB := false, num := 0 }
def vfA : PciFn := { linkB := false, num := 1 }
def callerOf (f : PciFn) (sess len : Nat) : Caller :=
  { id := { fn := .pci f, ring := 0, tag := 7 }, session := sess, fence := false, notify := false, slots := len / 64, respLen := 8192 }
def cal : Caller := callerOf pfA 1 64
def calF : Caller := callerOf pfA 0 64

/-- A command as it is held once fetched. -/
def ask (op : Nat) (act : Option Activity) (h : Caller) : Held :=
  { id := h.id, num := 0, opcode := op, session := h.session, fence := h.fence, notify := h.notify, respLen := h.respLen, respAddr := 0,
    timeoutUs := 0, fetchedAt := 0, activity := act, reserved := false, deferredOnce := true, wakingOnce := false, discard := false,
    untimed := false, order := 0, phase := .released }
def asked (op : Nat) (act : Option Activity) (h : Caller) (s : State) : State :=
  { s with mbx := { s.mbx with held := ask op act h :: s.mbx.held } }

/-- A held command without FENCE that none precedes is in its turn. -/
theorem ask_mayStart (op : Nat) (act : Option Activity) (h : Caller) (s : State) (hf : h.fence = false) :
    mayStart (ask op act h) (asked op act h s) = true := by
  have he : earlier (ask op act h) (asked op act h s) = [] := by simp [earlier, ask]
  have ho : owedBefore (ask op act h) (asked op act h s) = [] := by
    cases hfn : h.id.fn <;> simp [owedBefore, ask, hfn]
  have hn : (asked op act h s).mbx.held.any
      (fun x => judgedInTurn x.opcode && decide (x.num < (ask op act h).num) && inTurn x (asked op act h s)) = false := by
    simp [ask]
  unfold mayStart
  rw [hn, Bool.and_false, Bool.not_false, Bool.and_true]
  simp only [inTurn, fenceOpen, he, ho]
  simp [ask, hf]

/-- The command asked for may start. -/
theorem held_startable (op : Nat) (act : Option Activity) (h : Caller) (s : State) (hf : h.fence = false := by rfl) :
    startable op act h (ask op act h) (asked op act h s) := by
  have hm := ask_mayStart op act h s hf
  refine ⟨?_, hm, rfl⟩
  have hc : (asked op act h s).mbx.held.filter
      (fun e => decide (e.id = h.id) && decide (e.opcode = op) && decide (e.activity = act)) =
      ask op act h :: s.mbx.held.filter
        (fun e => decide (e.id = h.id) && decide (e.opcode = op) && decide (e.activity = act)) := by
    simp [asked, ask]
  unfold findHeld
  rw [hc]
  simp only [List.find?_cons, hm]

/-- A search that finds something, as the index it found and what it leaves. -/
theorem found_pair (p : Option Nat × State) (h : p.1.isSome = true) : p = (some (p.1.getD 0), p.2) := by
  obtain ⟨o, s⟩ := p
  cases o with
  | some i => rfl
  | none => cases h

/-- What is found beside the state it leaves. -/
theorem found_some {α : Type} (o : Option (α × State)) (d : α × State) (h : o.isSome = true) :
    o = some ((o.getD d).1, (o.getD d).2) := by
  cases o with
  | some x => rfl
  | none => cases h

/-- Firmware is ready, session 1 of the PF is open and owns one resource of each kind, and the cupolas that the commands use
are awake. -/
def base : State :=
  let s : State := { boot := { fwReady := true, stage := 7 }, ses := { table := [(1, { isOpen := true, fn := 0 })] } }
  let s := [(0, 0), (1, 0), (2, 0), (3, 0), (4, 3), (5, 0), (6, 0), (7, 0)].foldl
    (fun st x => setOwn st x.1 x.2 { session := 1 }) s
  [0, 64, 68, 76, 92].foldl (fun st k => setCup st k { state := .active }) s

def img : ImageFacts :=
  { wellFormed := true, keySet := 0, keyIndex := 0, curve := 0, keyHash := 77, signatureOk := true, digestsOk := true, secondStageOk := true, securityVersion := 3, fwVersion := 240, length := 1000, digest := 5, refclk156 := false, lanternMask := 0xF, dramRateMts := 12800 }
def pon : PowerOnFacts :=
  { addrStrap := 3, pcieSplit := false, flashAnswers := true, bankA := { directory := [], image := [] }, bankB := { directory := [], image := [] }, refclk156 := false, keyHashes := [77], revoked := [], set1Only := false, fusedMinimum := 3 }
def treeP : TreeP :=
  { tree := 0, mode := 0, upRate := 0, timeBase := 0, teqdNs := 0, ponId := 5, minReach := 0, maxReach := 20000, groupIndex := 0, idleEnter := 0, discPeriodMs := 0, driftLimit := 0, rangeAttempts := 0 }
def prof : ProfileP :=
  { fec := true, rssiMode := 1, guard := 64, preambleLen := 1280, preamblePattern := 0xAAAA, delimiter := 0xB2C50FA1, delimWindow := 0, minRelock := 0, rssiOffsetNs := 100, rssiWidthNs := 0, relockDb := 0 }
def allocP : AllocP :=
  { tree := 0, cls := 1, terminal := 5, ctx := 40000, allocId := 1100, fixed := 0, assured := 10000, nonAssured := 0, maximum := 100000, beWeight := 1, report := true, coop := false, grantsPerFrame := 1 }
def queueP : QueueP :=
  { queue := 9, domain := 3, targetKind := 0, priority := 2, weight := 1, target := 0, group := none, peakKbps := 0, burstBytes := 2048, spillThreshold := 0, maxDepth := 100000 }
def lineP : LineP :=
  { line := 0, mode := 0, modulation := 2, entropyX20 := 60, rate := 4, rolloff := 10, txPower := 0, slotN := 0, slotM := 12, mimoTaps := 0, maskMute := false, cdHintValid := false, predistEnable := false, cdHint := 0, cdWindow := 0, sdThreshold := 0 }
def framerP : FramerP :=
  { line := 0, rate := 4, nConfirm := 0, mLoss := 0, mfConfirm := 0, mfLoss := 0, timSm := 0, timPm := 0, lineTiming := false, actionDisable := 0, sealedLayout := true, dmNoReflect := false }
def facts : FrameFacts :=
  { position := 0, correct := true, failedWords := 0, mfas := 0, smBip := [], pmBip := [], smBei := [], pmBei := [], smBdi := false, pmBdi := false, smIae := false, pmStat := 1, dmp := false, smByte := 0, pmByte := 0, jc := [], msi := [], statAis := [] }
def packetIn : PacketIn :=
  { port := 0x80, tributary := 0, vlan := 10, dst := 0x0A0B0C0D0E0F, src := 0x112233445566, length := 300, tag := 0, flooded := false, srcAddr := 0, ingressOk := true, stagingFull := false, parity := [], bufPtr := 0 }
def xgem : XgemFrame :=
  { first := true, ctx := 40000, grantTerminal := 5, portId := 2000, length := 500, vlan := 10, dst := 0x112233445566, src := 0x0A0B0C0D0E0F, keyIndex := 0, bufPtr := 0, compareOk := true }
/-- Tree 0 is configured and enabled, with a profile, and terminal 5 on it is in O5 with a default context. -/
def treeUp : State :=
  let s := setTree base 0 { configured := true, enabled := true, profiles := [(0, some prof)], maxReach := 20000,
                            superframe := 100, started := true }
  let s := setTerminal s 0 5 { admitted := true, state := 4, serial := 77, domain := 3, rtd := some 600000 }
  setAlloc s 40000 { present := true, tree := 0, terminal := 5, allocId := 1100, assured := 10000, maximum := 100000 }
/-- Line 0 is configured and enabled, its framer configured, terminal state as a running line's. -/
def lineUp : State :=
  let s := setLine base 0 { cfg := some lineP, enabled := true, locked := true, lockedOnce := true }
  setFramer s 0 { cfg := some framerP, state := .inFrame, im := true }
/-- The fabric: address 3, a neighbour with address 9 over the adjacent link of lane position 8. -/
def fabUp : State :=
  let s := setLaneGroup base 1 { mode := 1 }
  let s := setOwn (setCup s 93 { state := .active }) 3 1 { session := 1 }
  let s := setLink s 16 { enabled := true, state := 3, adjacent := true, twoWay := true, lastHello := some 0,
                          neighbour := some { serial := 4242, port := 0xC5, address := some 9, bidirectional := false, lsrSeq := 1 } }
  let s := setPortEnt s 0xC8 { enabled := true, rate := 200, pipeline := some 0 }
  { s with fab := { s.fab with
      address := some 3, strap := 3,
      routes := [{ dest := 9, hops := 1, cost := 1, nextHops := [0xC8], backup := none }],
      records := [{ record := { serial := 4242, seq := 1, addressValid := true, timeCandidate := false, strap := 9, address := 9, timeState := 0, timePriority := 0, entries := [] }, refreshed := 0 }] } }
def protP : ProtP :=
  { tree := 0, secondary := false, group := 77, peer := 9, arbiter := 9, revertive := true, hbTimeoutUs := 12, wtrS := 300, staleLimit := 80, feederDelta := 0 }
/-- Tree 0 is configured in protection group 77 with the peer at address 9. -/
def memberOf (m : Member) : State :=
  let s := setTimeBase fabUp 0 { fabricTb := true, servo := .locked, isUnset := false }
  let s := setTree s 0 { configured := true, profiles := [(0, some prof)] }
  setMember s 0 { m with cfg := some protP }
/-- A lease message of kind `k` from address 9 to address 3 of group 77, as received. -/
def lease (k seq epoch : Nat) : List Byte := leaseBytes k 77 9 3 3 seq epoch 0
/-- The PF's device addresses 0 to 2 MiB stand for the board memory from 0x180200000 on, readable and writable. -/
def mapped (s : State) : State :=
  let s := setMmuPage { s with mem := { s.mem with windows := [(0, (0x180000000, 0x400000))] } } 0 { root := 0x180000000 }
  let s := writeBytes 0x180000000 (le 8 0x180001001) s
  let s := writeBytes 0x180001000 (le 8 0x180002001) s
  writeBytes 0x180002000 (le 8 0x18020000F) s
/-- Nothing is in use but the command's own session. -/
def idleBase : State := base

/-! ## Operands that the checks refuse -/

theorem test_ill_timeBaseP : ({ tb := 0, inputKind := 0, inputIndex := 0, firstStepGuard := false, fabricTb := false, checkEnable := true, stepGuardNs := 9, lockNs := 0, bandwidth := 0, holdoverPpb := 0, checkPps := none, checkPpsNs := 0, utcOffset := 37, maxSlewPpb := 0, slewLimitNs := 0 } : TimeBaseP).wf = false := by decide
theorem test_ill_timeSetP : ({ tb := 0, atPps := none, seconds := 0, ns := 1000000000, frac := 0 } : TimeSetP).wf = false := by decide
theorem test_ill_pulseP : ({ output := 7, tb := 0, mode := 2, activeLow := true, outDelay := 3, startSec := 5, startNs := 0, widthNs := 10, periodNs := 999 } : PulseP).wf = false := by decide
theorem test_ill_ptpClockP : ({ clock := 7, tb := 0, domainNumber := 23, enable := true, priority2 := 1, localPriority := 1, clockIdentity := 8 } : PtpClockP).wf = false := by decide
theorem test_ill_todP : ({ tree := 0, enable := true, periodS := 61, asymPpb := 5, driftNs := 0 } : TodP).wf = false := by decide
theorem test_ill_witnessP : ({ line := 0, enable := true, thresholdNs := 1001, holdS := 0 } : WitnessP).wf = false := by decide
theorem test_ill_treeP : ({ treeP with minReach := 20000, maxReach := 60001 } : TreeP).wf = false := by decide
theorem test_ill_profileP : ({ prof with preambleLen := 319 } : ProfileP).wf = false := by decide
theorem test_ill_admitP : ({ tree := 0, profile := 0, terminal := 511, domain := 3, serial := 2 ^ 64, autoRange := false, regCheck := false, regId := 0 } : AdmitP).wf = false := by decide
theorem test_ill_allocP : ({ allocP with maximum := 9999 } : AllocP).wf = false := by decide
theorem test_ill_portCtxP : ({ tree := 0, down := false, up := true, encrypt := false, terminal := 5, ctx := 131071, portId := 65536, downQueue := 0 } : PortCtxP).wf = false := by decide
theorem test_ill_coopP : ({ enable := true, etherType := 65536, laneMask := 0 } : CoopP).wf = false := by decide
theorem test_ill_lineP : ({ lineP with entropyX20 := 39 } : LineP).wf = false := by decide
theorem test_ill_adjustP : ({ line := 0, txPower := 101, sdThreshold := 0, maskMute := true } : AdjustP).wf = false := by decide
theorem test_ill_framerP : ({ framerP with rate := 17 } : FramerP).wf = false := by decide
theorem test_ill_ttiP : ({ line := 0, pm := true, expected := false, tti := List.replicate 63 1 } : TtiP).wf = false := by decide
theorem test_ill_macsecP : ({ lane := 1, enable := true, confidentiality := true, replayProtect := true, includeSci := false, domain := 3, sci := 5, peerSci := 6, replayWindow := 2 ^ 30 } : MacsecP).wf = false := by decide
theorem test_ill_learnP : ({ ageScanMs := 999, ageLimit := 0, random := true, moveHoldMs := 0 } : LearnP).wf = false := by decide
theorem test_ill_queueP : ({ queueP with targetKind := 2, target := 0x7F } : QueueP).wf = false := by decide
theorem test_ill_groupP : ({ group := 8191, port := 0x40, weight := 4097, peakKbps := 0, burstBytes := 2048 } : GroupP).wf = false := by decide
theorem test_ill_protP : ({ protP with hbTimeoutUs := 7 } : ProtP).wf = false := by decide
theorem test_ill_laneGroupP : ({ group := 0, mode := 0, reach := 1, fomFloor := 255, fomRetrain := 255, retryCount := 0, cost := 0 } : LaneGroupP).wf = false := by decide
theorem test_ill_clientP : ({ lane := 0, width := 3, phy := 2, enable := true, trained := true } : ClientP).wf = false := by decide
theorem test_ill_linkP : ({ port := 0xF0, enable := true, delayAsym := 0 } : LinkP).wf = false := by decide
theorem test_ill_memCfgP : ({ hotC := 96, rhSample := 64, rhLimit := 255, scrubHours := 168 } : MemCfgP).wf = false := by decide
theorem test_ill_dmaP : ({ channel := 0, log2 := 10, priority := 7, evq := 255, ringBase := 0x1001 } : DmaP).wf = false := by decide
theorem test_ill_windowP : ({ fn := vfA, window := 3, base := 0, size := 0x1000 } : WindowP).wf = false := by decide
theorem test_ill_descriptor : ({ fill := true, srcHost := false, dstHost := false, notify := false, fence := false, length := 0, src := 0, dst := 0x1000, tag := 5 } : Descriptor).wf = false := by decide
theorem test_ill_floorP : ({ cupola := 64, floor := 0, report := true, hystGated := 0, hystRetained := 5, hystOff := 0 } : FloorP).wf = false := by decide
theorem test_ill_resetP : ({ cls := 3, force := false, delayUs := 999 } : ResetP).wf = false := by decide
theorem test_ill_ringP : ({ ring := 1, evq := 0, sqLog2 := 11, cqLog2 := 1, sqBase := 0x1000, cqBase := 0x2000 } : RingP).wf = false := by decide
theorem test_ill_counterP : ({ counter := 3, event := 4096, inst := 0, domain := 0, chain := false, clear := true } : CounterP).wf = false := by decide
theorem test_ill_meterP : ({ meter := 255, egress := true, port := 0x43, windowUs := 0, enable := true } : MeterP).wf = false := by decide
theorem test_ill_evqP : ({ queue := 255, log2 := 10, vector := 16, armed := true, base := 0x1000 } : EvqP).wf true = false := by decide

/-! ## Results from the spec's worked examples -/

/-- "Worked example: a 1.6 Tbit/s wavelength": RESULT[31:0] = 237,411,227 kBd, and with ROLLOFF 5 the signal does not fit. -/
theorem test_symbolRate : symbolKbd { lineP with entropyX20 := 84, rate := 16, rolloff := 4, slotN := 96, slotM := 20 } = 237411227 := by
  decide
/-- "Worked example: ranging a double-rate terminal": 18,000 m. -/
theorem test_distance : distanceM 3380891 1468200 = 18000 := by decide
/-- The same example: 619,109 units of 62.5 ps are sent as 2,055,635 symbols. -/
theorem test_sentEqd : sentEqd 0 619109 (setTree base 0 { mode := 2 }) = 2055635 := by decide
/-- "Worked example: a 200 Gbit/s tributary on a sealed OTUC16": at the nominal rate 483,621 words in a multiframe. -/
theorem test_owedWords : owedNumerator 40 0 / owedDenominator = 483621 := by decide
/-- "Worked example: a chained byte counter at its carry": 2^48 - 64 and 125 more leave 61, and the odd counter takes the
carry. -/
theorem test_chainedCarry :
    let s := setCounter (setCounter base 130 { value := 2 ^ 48 - 64, event := 0x013 }) 131 { value := 5, event := 0x013, chain := true }
    ((counter (addCounter 130 125 s) 130).value, (counter (addCounter 130 125 s) 131).value) = (61, 6) := by decide

/-! ## Single steps -/

/-- The front command runs with the queue's rest. -/
theorem test_stepFront :
    (match step { State.reset with pending := [.lofClear 0, .lofClear 1] } with | .next t => t.pending | _ => []) = [.lofClear 1] := by
  rfl
/-- With nothing waiting an instant passes. -/
theorem test_stepIdle : (match step State.reset with | .next t => t.now | _ => 0) = 1 := by decide
/-- NOP completes with OK, and its caller no longer waits (R113). -/
theorem test_nop : (match exec (.nop cal) (asked 0 none cal base) with | .next t => decide (t.mbx.held = []) | _ => false) = true := by
  decide

/-! ## States that meet the hypotheses of the statements -/

theorem witness_IdleStepAdvancesTheTimeClock :
    (∃ s : State, s.pending = [] ∧ (cycleEnd s).time.stopped = true) ∧
    (∃ (s u : State) (b : Nat), s.pending = [] ∧ cycleEnd s = u ∧ u.time.stopped = false ∧ b < 8) :=
  ⟨⟨{ time := { stopped := true } }, rfl, by decide⟩, ⟨State.reset, cycleEnd State.reset, 7, rfl, rfl, by decide, by decide⟩⟩
theorem witness_DomainTagsGuardEgress : (∃ d, d < 4096) ∧ (4095 < 4096) := ⟨⟨0, by decide⟩, by decide⟩
theorem witness_MemoryStaysCanonical :
    (∃ s t : State, memoryWf s ∧ step s = .next t) ∧ ∃ s : State, memoryWf s ∧ s.mem.cells = [(5, 1)] :=
  ⟨⟨State.reset, idle State.reset, rfl, rfl⟩, ⟨writeByte 5 1 State.reset, rfl, by decide⟩⟩
theorem witness_CommandsLeaveTheQueue : ∃ (c : Instr) (s t : State), exec c s = .next t := ⟨.lofClear 0, State.reset, _, rfl⟩
theorem witness_FusesChangeOnlyByBurning :
    ∃ (c : Instr) (s t : State), exec c s = .next t ∧ (∀ f, c ≠ .powerOn f) ∧ ∀ h, c ≠ .fwSecurityCommit h := by
  refine ⟨.lofClear 0, State.reset, _, rfl, ?_, ?_⟩ <;> intro f hf <;> cases hf
theorem witness_GrantsStayWithinMaximum :
    ∃ cs : List Claim, cs.length = 1 ∧ ∀ c ∈ cs, c.g1 = 0 ∧ c.g2 = 0 ∧ c.g3 = 0 ∧ c.g5 = 0 ∧ c.g6 = 0 :=
  ⟨[{ ctx := 5, a := {}, fixed := 1, assured := 2, nonAssured := 3, maximum := 9, demand := 7 }], rfl, by
    intro c hc; rw [List.mem_singleton] at hc; subst hc; decide⟩
theorem witness_FunctionsReachOnlyTheirWindows_none : ∃ (fn : Nat) (s : State), ∀ w, w < 4 → (tget (0, 0) (fn * 4 + w) s.mem.windows).2 = 0 :=
  ⟨0, State.reset, by decide⟩
theorem witness_FunctionsReachOnlyTheirWindows_translate : ∃ pa, translate 0 0 false (mapped base) = .at pa := ⟨_, rfl⟩
/-- Each row of the alignment table of R251. -/
theorem witness_FrameAlignmentStates :
    (∃ f : Framer, f.state = .held) ∧
    (∃ (f : Framer) (c : FramerP) (pos places : Nat), (f.state = .search ∨ f.state = .candidate) ∧
      f.candidates.find? (fun x => decide (x.1 = pos)) = none ∧ f.candidates.length < places ∧ 1 < c.nConfirm) ∧
    (∃ (f : Framer) (c : FramerP) (pos places : Nat), (f.state = .search ∨ f.state = .candidate) ∧
      f.candidates.find? (fun x => decide (x.1 = pos)) = none ∧ f.candidates.length < places ∧ c.nConfirm ≤ 1) ∧
    (∃ (f : Framer) (pos places : Nat), (f.state = .search ∨ f.state = .candidate) ∧
      f.candidates.find? (fun x => decide (x.1 = pos)) = none ∧ places ≤ f.candidates.length) ∧
    (∃ (f : Framer) (c : FramerP) (pos n : Nat), (f.state = .search ∨ f.state = .candidate) ∧
      f.candidates.find? (fun x => decide (x.1 = pos)) = some (pos, n) ∧ c.nConfirm ≤ n + 1) ∧
    (∃ (f : Framer) (c : FramerP) (pos : Nat), f.state = .inFrame ∧ pos = f.aligned ∧ c.mLoss ≤ f.frameErrors + 1) ∧
    (∃ (f : Framer) (c : FramerP) (pos : Nat), f.state = .inFrame ∧ pos = f.aligned ∧ f.frameErrors + 1 < c.mLoss) ∧
    (∃ (f : Framer) (pos : Nat), f.state = .inFrame ∧ pos ≠ f.aligned) :=
  ⟨⟨{ state := .held }, rfl⟩,
   ⟨{ state := .search }, { framerP with nConfirm := 2 }, 0, 16, Or.inl rfl, rfl, by decide, by decide⟩,
   ⟨{ state := .search }, framerP, 0, 16, Or.inl rfl, rfl, by decide, by decide⟩,
   ⟨{ state := .candidate, candidates := List.replicate 16 (1, 1) }, 0, 16, Or.inr rfl, by decide, by decide⟩,
   ⟨{ state := .candidate, candidates := [(7, 2)] }, { framerP with nConfirm := 3 }, 7, 2, Or.inr rfl, by decide, by decide⟩,
   ⟨{ state := .inFrame, aligned := 5, frameErrors := 4 }, { framerP with mLoss := 5 }, 5, rfl, rfl, by decide⟩,
   ⟨{ state := .inFrame, aligned := 5, frameErrors := 3 }, { framerP with mLoss := 5 }, 5, rfl, rfl, by decide⟩,
   ⟨{ state := .inFrame, aligned := 5 }, 6, rfl, by decide⟩⟩
/-- Ring 0 of a function just reset is not enabled; ring 1 is created by a caller of the PF on an event queue of the PF. -/
theorem witness_DoorbellsOfADisabledRingAreDiscarded :
    (∃ (f : PciFn) (k : Fin 64) (writes : List Instr) (s : State), writes ≠ [] ∧ (ring s (pciKey f) k.val).enabled = false ∧
      ∀ c ∈ writes, ∃ v, c = .mbxSqTail f k v ∨ c = .mbxCqHead f k v) ∧
    (∃ (f : PciFn) (s : State), s.boot.fwReady = true ∧ (ring s (pciKey f) 0).enabled = false) ∧
    (∃ (h : Caller) (p : RingP) (e : Held) (s : State), startable 0x0010 none h e s ∧ p.ring.val ≠ 0 ∧
      (ring s (fnKey h.id.fn) p.ring.val).enabled = false ∧ (evq s p.evq.val).owner = fnKey h.id.fn ∧ p.wf = true) :=
  ⟨⟨pfA, 63, [.mbxSqTail pfA 63 5, .mbxCqHead pfA 63 0], State.reset, by decide, by decide, by
      intro c hc
      rcases List.mem_cons.mp hc with h | hc
      · exact ⟨5, Or.inl h⟩
      · exact ⟨0, Or.inr (List.mem_singleton.mp hc)⟩⟩,
   ⟨pfA, base, by decide, by decide⟩,
   ⟨cal, { ring := 1, evq := 0, sqLog2 := 0, cqLog2 := 1, sqBase := 0x1000, cqBase := 0x2000 }, _, asked 0x0010 none cal base,
     held_startable _ _ _ _, by decide, by decide, by decide, by decide⟩⟩
theorem witness_LatchAllTakesEverySnapshot :
    (∃ (f : PciFn) (s : State), s.boot.fwReady = true ∧ isPf f = true) ∧
    ∃ (b : Fin 8) (mask : BitVec 8) (t u : State), mask.getLsbD b.val = true ∧ u.boot.fwReady = true ∧
      timeBase u b.val = timeBase t b.val :=
  ⟨⟨pfA, base, by decide, by decide⟩, ⟨7, 0x80, base, base, by decide, by decide, rfl⟩⟩

theorem witness_SessionsAndQueriesComplete :
    (∃ (h : Caller) (e : Held) (s : State),
      startable 0x0000 none h e s) ∧
    (∃ (h : Caller) (e : Held) (s : State),
      startable 0x0001 none h e s) ∧
    (∃ (h : Caller) (e : Held) (s : State),
      startable 0x0002 none h e s) ∧
    (∃ (h : Caller) (e : Held) (s : State) (page : Nat),
      startable 0x0002 none h e s ∧
      page ≠ 0) ∧
    (∃ (h : Caller) (p : RangeP) (e : Held) (s : State),
      startable 0x000A none h e s ∧
      1 ≤ p.count ∧
      p.count ≤ 4096 ∧
      p.first + p.count ≤ kindSize p.kind.val) ∧
    (∃ (h : Caller) (keepaliveMs : Nat) (e : Held) (s : State),
      startable 0x0004 none h e s ∧
      h.session = 0 ∧
      keepaliveMs ≤ 60000 ∧
      sessionsOf (fnKey h.id.fn) s < 16 ∧
      sessionCount s < 1024) ∧
    (∃ (h : Caller) (keepaliveMs : Nat) (e : Held) (s : State),
      startable 0x0004 none h e s ∧
      h.session = 0 ∧
      keepaliveMs ≤ 60000 ∧
      (16 ≤ sessionsOf (fnKey h.id.fn) s ∨ 1024 ≤ sessionCount s)) ∧
    (∃ (h : Caller) (handle : Nat) (e : Held) (s : State),
      startable 0x0005 none h e s ∧
      handle ≠ 0 ∧
      (session s handle).isOpen = true ∧
      (session s handle).fn = fnKey h.id.fn) ∧
    (∃ (h : Caller) (handle : Nat) (e : Held) (s : State),
      startable 0x0005 none h e s ∧
      handle ≠ 0 ∧
      (session s handle).isOpen = false) :=
  ⟨⟨cal, (ask 0x0000 none cal), (asked 0x0000 none cal base), held_startable _ _ _ _⟩,
    ⟨cal, (ask 0x0001 none cal), (asked 0x0001 none cal base), held_startable _ _ _ _⟩,
    ⟨cal, (ask 0x0002 none cal), (asked 0x0002 none cal base), held_startable _ _ _ _⟩,
    ⟨cal, (ask 0x0002 none cal), (asked 0x0002 none cal base), 1, held_startable _ _ _ _, by decide⟩,
    ⟨cal, ({ kind := 1, first := 60, count := 4 } : RangeP), (ask 0x000A none cal), (asked 0x000A none cal base), held_startable _ _ _ _, by decide, by decide, by decide⟩,
    ⟨calF, 60000, (ask 0x0004 none calF), (asked 0x0004 none calF base), held_startable _ _ _ _, by decide, by decide, by decide, by decide⟩,
    ⟨calF, 60000, (ask 0x0004 none calF), (asked 0x0004 none calF { base with ses := { base.ses with table := (List.range 16).map (fun i => (i + 1, { isOpen := true, fn := 0 })) } }), held_startable _ _ _ _, by decide, by decide, by decide⟩,
    ⟨calF, 1, (ask 0x0005 none calF), (asked 0x0005 none calF base), held_startable _ _ _ _, by decide, by decide, by decide⟩,
    ⟨calF, 2, (ask 0x0005 none calF), (asked 0x0005 none calF base), held_startable _ _ _ _, by decide, by decide⟩⟩

theorem witness_ResourcesAndRingsChangeHands :
    (∃ (h : Caller) (p : RangeP) (e : Held) (s : State),
      startable 0x0007 none h e s ∧
      h.session ≠ 0 ∧
      1 ≤ p.count ∧
      p.first + p.count ≤ kindSize p.kind.val ∧
      (∀ i ∈ rangeOf p, claimable h.id.fn p.kind.val i s = true) ∧
      (∀ i ∈ rangeOf p, conflicts h p.kind.val i s = false)) ∧
    (∃ (h : Caller) (p : RangeP) (e : Held) (s : State) (i : Nat),
      startable 0x0007 none h e s ∧
      h.session ≠ 0 ∧
      1 ≤ p.count ∧
      p.first + p.count ≤ kindSize p.kind.val ∧
      (∀ j ∈ rangeOf p, claimable h.id.fn p.kind.val j s = true) ∧
      (rangeOf p).find? (fun j => conflicts h p.kind.val j s) = some i) ∧
    (∃ (h : Caller) (p : RangeP) (e : Held) (s : State),
      startable 0x0008 none h e s ∧
      h.session ≠ 0 ∧
      1 ≤ p.count) ∧
    (∃ (h : Caller) (p : RangeP) (f : PciFn) (vf : Fin 64) (e : Held) (s : State),
      startable 0x0009 none h e s ∧
      h.session ≠ 0 ∧
      h.id.fn = .pci f ∧
      assignable p.kind.val = true ∧
      1 ≤ p.count ∧
      p.first + p.count ≤ kindSize p.kind.val ∧
      vf.val ≠ 0 ∧
      (∀ i ∈ rangeOf p, pfOwns (pciKey f) p.kind.val i s = true)) ∧
    (∃ (h : Caller) (p : RingP) (e : Held) (s : State),
      startable 0x0010 none h e s ∧
      p.ring.val ≠ 0 ∧
      (ring s (fnKey h.id.fn) p.ring.val).enabled = false ∧
      (evq s p.evq.val).owner = fnKey h.id.fn ∧
      p.wf = true) ∧
    (∃ (h : Caller) (p : RingP) (e : Held) (s : State),
      startable 0x0010 none h e s ∧
      p.ring.val ≠ 0 ∧
      (ring s (fnKey h.id.fn) p.ring.val).enabled = true) ∧
    (∃ (h : Caller) (k : Fin 64) (e : Held) (s : State),
      startable 0x0011 none h e s ∧
      k.val ≠ 0 ∧
      k ≠ h.id.ring ∧
      (ring s (fnKey h.id.fn) k.val).enabled = true) ∧
    (∃ (h : Caller) (k : Fin 64) (e : Held) (s : State),
      startable 0x0011 none h e s ∧
      k.val ≠ 0 ∧
      k ≠ h.id.ring ∧
      (ring s (fnKey h.id.fn) k.val).enabled = false) :=
  ⟨⟨cal, ({ kind := 1, first := 60, count := 4 } : RangeP), (ask 0x0007 none cal), (asked 0x0007 none cal base), held_startable _ _ _ _, by decide, by decide, by decide, by decide, by decide⟩,
    ⟨cal, ({ kind := 1, first := 60, count := 4 } : RangeP), (ask 0x0007 none cal), (asked 0x0007 none cal (setOwn base 1 61 { session := 2 })), 61, held_startable _ _ _ _, by decide, by decide, by decide, by decide, by decide⟩,
    ⟨cal, ({ kind := 1, first := 0, count := 2 } : RangeP), (ask 0x0008 none cal), (asked 0x0008 none cal base), held_startable _ _ _ _, by decide, by decide⟩,
    ⟨cal, ({ kind := 4, first := 3, count := 1 } : RangeP), pfA, 1, (ask 0x0009 none cal), (asked 0x0009 none cal base), held_startable _ _ _ _, by decide, by decide, by decide, by decide, by decide, by decide, by decide⟩,
    ⟨cal, ({ ring := 1, evq := 0, sqLog2 := 0, cqLog2 := 1, sqBase := 0x1000, cqBase := 0x2000 } : RingP), (ask 0x0010 none cal), (asked 0x0010 none cal base), held_startable _ _ _ _, by decide, by decide, by decide, by decide⟩,
    ⟨cal, ({ ring := 1, evq := 0, sqLog2 := 0, cqLog2 := 1, sqBase := 0x1000, cqBase := 0x2000 } : RingP), (ask 0x0010 none cal), (asked 0x0010 none cal (setRing base 0 1 { enabled := true })), held_startable _ _ _ _, by decide, by decide⟩,
    ⟨cal, 1, (ask 0x0011 none cal), (asked 0x0011 none cal (setRing base 0 1 { enabled := true })), held_startable _ _ _ _, by decide, by decide, by decide⟩,
    ⟨cal, 1, (ask 0x0011 none cal), (asked 0x0011 none cal base), held_startable _ _ _ _, by decide, by decide, by decide⟩⟩

theorem witness_PowerCommandsComplete :
    (∃ (h : Caller) (k : Fin 112) (level : Fin 4) (e : Held) (s : State),
      startable 0x0100 (if level.val = 0 then none else some { kind := 13, scope := k.val }) h e s ∧
      fixedCupola k.val = false ∧
      voteWake k.val level.val s = none) ∧
    (∃ (level : Nat),
      level ≠ 0) ∧
    (∃ (h : Caller) (p : FloorP) (e : Held) (s : State),
      startable 0x0103 none h e s ∧
      ownsDevice h s = true ∧
      p.wf = true ∧
      fixedCupola p.cupola.val = false ∧
      ((isDramCupola p.cupola.val = true → p.floor ≠ 3))) ∧
    (∃ (h : Caller) (level : Fin 4) (e : Held) (s : State),
      startable 0x0102 (some { kind := 9, scope := 0 }) h e s ∧
      ownsDevice h s = true ∧
      s.pwr.pl < level.val ∧
      (∀ p ∈ servingPipes s, pipeLoad p s ≤ pipeCapacity level.val)) ∧
    (∃ (h : Caller) (level : Fin 4) (e : Held) (s : State),
      startable 0x0102 (some { kind := 9, scope := 0 }) h e s ∧
      ownsDevice h s = true ∧
      level.val < s.pwr.pl ∧
      (∀ p ∈ servingPipes s, pipeLoad p s ≤ pipeCapacity level.val)) ∧
    (∃ (h : Caller) (level : Fin 4) (e : Held) (s : State) (p : Nat),
      startable 0x0102 (some { kind := 9, scope := 0 }) h e s ∧
      ownsDevice h s = true ∧
      level.val ≠ s.pwr.pl ∧
      p ∈ servingPipes s ∧
      pipeCapacity level.val < pipeLoad p s) ∧
    (∃ (h : Caller) (e : Held) (s : State),
      startable 0x0101 none h e s) ∧
    (∃ (h : Caller) (e : Held) (s : State),
      startable 0x0106 none h e s) ∧
    (∃ (h : Caller) (e : Held) (s : State),
      startable 0x0107 none h e s) ∧
    (∃ (h : Caller) (k : Fin 112) (e : Held) (s : State),
      startable 0x0104 none h e s ∧
      ownsDevice h s = true ∧
      isPipelineCupola k.val = false ∧
      isDramCupola k.val = false ∧
      (cup s k.val).state = .fenced) ∧
    (∃ (h : Caller) (e : Held) (s : State),
      startable 0x0108 (some { kind := 12, scope := 0 }) h e s ∧
      ownsDevice h s = true) :=
  ⟨⟨cal, 70, 0, (ask 0x0100 (if (0 : Fin 4).val = 0 then none else some { kind := 13, scope := (70 : Fin 112).val }) cal), (asked 0x0100 (if (0 : Fin 4).val = 0 then none else some { kind := 13, scope := (70 : Fin 112).val }) cal base), held_startable _ _ _ _, by decide, by decide⟩,
    ⟨1, by decide⟩,
    ⟨cal, ({ cupola := 64, floor := 3, report := true, hystGated := 0, hystRetained := 5, hystOff := 0 } : FloorP), (ask 0x0103 none cal), (asked 0x0103 none cal base), held_startable _ _ _ _, by decide, by decide, by decide, by decide⟩,
    ⟨cal, 2, (ask 0x0102 (some { kind := 9, scope := 0 }) cal), (asked 0x0102 (some { kind := 9, scope := 0 }) cal { base with pwr := { base.pwr with pl := 1 } }), held_startable _ _ _ _, by decide, by decide, by decide⟩,
    ⟨cal, 0, (ask 0x0102 (some { kind := 9, scope := 0 }) cal), (asked 0x0102 (some { kind := 9, scope := 0 }) cal { base with pwr := { base.pwr with pl := 1 } }), held_startable _ _ _ _, by decide, by decide, by decide⟩,
    ⟨cal, 1, (ask 0x0102 (some { kind := 9, scope := 0 }) cal), (asked 0x0102 (some { kind := 9, scope := 0 }) cal { (setPortEnt base 0x40 { enabled := true, pipeline := some 0, rate := 1500 }) with pwr := { (setPortEnt base 0x40 { enabled := true, pipeline := some 0, rate := 1500 }).pwr with pl := 0 } }), 0, held_startable _ _ _ _, by decide, by decide, by decide, by decide⟩,
    ⟨cal, (ask 0x0101 none cal), (asked 0x0101 none cal base), held_startable _ _ _ _⟩,
    ⟨cal, (ask 0x0106 none cal), (asked 0x0106 none cal base), held_startable _ _ _ _⟩,
    ⟨cal, (ask 0x0107 none cal), (asked 0x0107 none cal base), held_startable _ _ _ _⟩,
    ⟨cal, 5, (ask 0x0104 none cal), (asked 0x0104 none cal (setCup base 5 { state := .fenced })), held_startable _ _ _ _, by decide, by decide, by decide, by decide⟩,
    ⟨cal, (ask 0x0108 (some { kind := 12, scope := 0 }) cal), (asked 0x0108 (some { kind := 12, scope := 0 }) cal base), held_startable _ _ _ _, by decide⟩⟩

theorem witness_TreeAndTerminalCommandsComplete :
    (∃ (h : Caller) (p : TreeP) (e : Held) (s : State),
      startable 0x0200 none h e s ∧
      owns h kTree p.tree.val s = true ∧
      p.wf = true ∧
      (tree s p.tree.val).enabled = false ∧
      (portEnt s p.tree.val).enabled = false ∧
      minTeqd p.maxReach (givenIndex p) ≤ givenTeqd p) ∧
    (∃ (h : Caller) (t : Fin 64) (p : ProfileP) (e : Held) (s : State),
      startable 0x0203 none h e s ∧
      owns h kTree t.val s = true ∧
      p.wf = true ∧
      (tree s t.val).enabled = false) ∧
    (∃ (h : Caller) (t : Fin 64) (e : Held) (s : State) (s1 : State),
      startable 0x0201 none h e s ∧
      owns h kTree t.val s = true ∧
      protConfigured t.val s = false ∧
      (cup s t.val).state = .active ∧
      (tree s t.val).configured = true ∧
      (profileOf s t.val 0).isSome = true ∧
      enablePort t.val (treeRate (tree s t.val).mode) s = .placed s1) ∧
    (∃ (h : Caller) (t : Fin 64) (e : Held) (s : State),
      startable 0x0202 none h e s ∧
      owns h kTree t.val s = true ∧
      protConfigured t.val s = false ∧
      sendsFrames t.val s = false) ∧
    (∃ (h : Caller) (t : Fin 64) (e : Held) (s : State),
      startable 0x0202 none h e s ∧
      owns h kTree t.val s = true ∧
      protConfigured t.val s = false ∧
      sendsFrames t.val s = true) ∧
    (∃ (h : Caller) (e : Held) (s : State),
      startable 0x0204 none h e s) ∧
    (∃ (h : Caller) (t : Fin 64) (count : Nat) (e : Held) (s : State),
      startable 0x0205 none h e s ∧
      1 ≤ count ∧
      count ≤ 1024 ∧
      (tree s t.val).bursts ≠ [] ∧
      (tree s t.val).exceptions ≠ []) ∧
    (∃ (h : Caller) (p : AdmitP) (e : Held) (s : State),
      startable 0x0301 none h e s ∧
      owns h kTree p.tree.val s = true ∧
      ownsDomain h p.domain.val s = true ∧
      p.wf = true ∧
      (terminal s p.tree.val p.terminal.val).admitted = false ∧
      ((∀ x ∈ s.tr.terminals, x.2.admitted = true → x.2.serial ≠ p.serial))) ∧
    (∃ (h : Caller) (t : Fin 64) (i : Fin 512) (e : Held) (s : State),
      startable 0x0303 none h e s ∧
      owns h kTree t.val s = true ∧
      (terminal s t.val i.val).admitted = true ∧
      (terminal s t.val i.val).ranging = none) ∧
    (∃ (h : Caller) (t : Fin 64) (i : Fin 512) (e : Held) (s : State),
      startable 0x0304 none h e s ∧
      owns h kTree t.val s = true ∧
      (terminal s t.val i.val).admitted = true) ∧
    (∃ (h : Caller) (t : Fin 64) (i : Fin 512) (e : Held) (s : State),
      startable 0x0302 (some { kind := 7, scope := t.val }) h e s ∧
      owns h kTree t.val s = true ∧
      (terminal s t.val i.val).admitted = true ∧
      (tree s t.val).enabled = true ∧
      ((terminal s t.val i.val).state = 2 ∨ (terminal s t.val i.val).state = 4) ∧
      (profileOf s t.val (terminal s t.val i.val).profile).isSome = true) ∧
    (∃ (h : Caller) (t : Fin 64) (i : Fin 512) (e : Held) (s : State),
      startable 0x0305 none h e s ∧
      (terminal s t.val i.val).admitted = true) ∧
    (∃ (h : Caller) (t : Fin 64) (us : Nat) (e : Held) (s : State),
      startable 0x0306 (some { kind := 7, scope := t.val }) h e s ∧
      owns h kTree t.val s = true ∧
      125 ≤ us ∧
      us ≤ 10000 ∧
      us % 125 = 0 ∧
      (tree s t.val).enabled = true) ∧
    (∃ (h : Caller) (t : Fin 64) (e : Held) (s : State),
      startable 0x0307 none h e s ∧
      (tree s t.val).discovered ≠ []) :=
  ⟨⟨cal, { treeP with maxReach := 20000 }, (ask 0x0200 none cal), (asked 0x0200 none cal base), held_startable _ _ _ _, by decide, by decide, by decide, by decide, by decide⟩,
    ⟨cal, 0, prof, (ask 0x0203 none cal), (asked 0x0203 none cal base), held_startable _ _ _ _, by decide, by decide, by decide⟩,
    ⟨cal, 0, (ask 0x0201 none cal), (asked 0x0201 none cal (setTree base 0 { configured := true, profiles := [(0, some prof)] })), (match enablePort 0 (treeRate 0) (asked 0x201 none cal (setTree base 0 { configured := true, profiles := [(0, some prof)] })) with | .placed x => x | _ => base), held_startable _ _ _ _, by decide, by decide, by decide, by decide, by decide, rfl⟩,
    ⟨cal, 0, (ask 0x0202 none cal), (asked 0x0202 none cal treeUp), held_startable _ _ _ _, by decide, by decide, by decide⟩,
    ⟨cal, 0, (ask 0x0202 none cal), (asked 0x0202 none cal (setTree treeUp 0 { tree treeUp 0 with txen := true })), held_startable _ _ _ _, by decide, by decide, by decide⟩,
    ⟨cal, (ask 0x0204 none cal), (asked 0x0204 none cal treeUp), held_startable _ _ _ _⟩,
    ⟨cal, 63, 1024, (ask 0x0205 none cal), (asked 0x0205 none cal (setTree base 63 { bursts := [{ terminal := 1 }, {}], exceptions := [{ lateLock := true }] })), held_startable _ _ _ _, by decide, by decide, by decide, by decide⟩,
    ⟨cal, ({ tree := 0, profile := 0, terminal := 511, domain := 3, serial := 78, autoRange := false, regCheck := false, regId := 0 } : AdmitP), (ask 0x0301 none cal), (asked 0x0301 none cal treeUp), held_startable _ _ _ _, by decide, by decide, by decide, by decide, by decide⟩,
    ⟨cal, 0, 5, (ask 0x0303 none cal), (asked 0x0303 none cal treeUp), held_startable _ _ _ _, by decide, by decide, by decide⟩,
    ⟨cal, 0, 5, (ask 0x0304 none cal), (asked 0x0304 none cal treeUp), held_startable _ _ _ _, by decide, by decide⟩,
    ⟨cal, 0, 5, (ask 0x0302 (some { kind := 7, scope := (0 : Fin 64).val }) cal), (asked 0x0302 (some { kind := 7, scope := (0 : Fin 64).val }) cal treeUp), held_startable _ _ _ _, by decide, by decide, by decide, by decide, by decide⟩,
    ⟨cal, 0, 5, (ask 0x0305 none cal), (asked 0x0305 none cal treeUp), held_startable _ _ _ _, by decide⟩,
    ⟨cal, 0, 10000, (ask 0x0306 (some { kind := 7, scope := (0 : Fin 64).val }) cal), (asked 0x0306 (some { kind := 7, scope := (0 : Fin 64).val }) cal treeUp), held_startable _ _ _ _, by decide, by decide, by decide, by decide, by decide⟩,
    ⟨cal, 0, (ask 0x0307 none cal), (asked 0x0307 none cal (setTree base 0 { discovered := [(5, 9)] })), held_startable _ _ _ _, by decide⟩⟩

theorem witness_EqualisationDelayLeavesRoom :
    ∃ (h : Caller) (p : TreeP) (e : Held) (s : State),
      startable 0x0200 none h e s ∧
      owns h kTree p.tree.val s = true ∧
      p.wf = true ∧
      (tree s p.tree.val).enabled = false ∧
      (portEnt s p.tree.val).enabled = false ∧
      ((givenTeqd p : Int) - 35000) * 299792458 * 1000000 < 2 * p.maxReach * givenIndex p * 1000000000 :=
  ⟨cal, { treeP with teqdNs := 100000, maxReach := 20000 }, (ask 0x0200 none cal), (asked 0x0200 none cal base), held_startable _ _ _ _, by decide, by decide, by decide, by decide, by decide⟩

theorem witness_BurstsAreReceivedAndRecorded :
    (∃ (t : Fin 64) (w : WindowFacts) (s : State) (g : Granted),
      (tree s t.val).enabled = true ∧
      protTransmits t.val s = true ∧
      (tree s t.val).scheduled.find? (fun x => decide (x.terminal = w.terminal.val) && decide (x.ranging = w.ranging) && decide (windowOpens t.val x s ≤ s.now)) = some g) ∧
    (∃ (t : Fin 64) (s : State) (w : RxWindow) (p : ProfileP),
      (tree s t.val).window = some w ∧
      windowProfile t.val w s = some p ∧
      w.final = false ∧
      w.lock = none) ∧
    (∃ (t : Fin 64) (s : State) (w : RxWindow) (p : ProfileP),
      (tree s t.val).window = some w ∧
      windowProfile t.val w s = some p ∧
      w.final = false ∧
      w.lock.isSome = true ∧
      delimiterComes t.val s = false) ∧
    (∃ (t : Fin 64) (symbol : Nat) (s : State) (w : RxWindow) (p : ProfileP) (l : Nat),
      (tree s t.val).window = some w ∧
      windowProfile t.val w s = some p ∧
      w.final = false ∧
      w.lock = some l ∧
      l + p.minRelock + delimSymbols (tree s t.val).mode ≤ symbol + 1 ∧
      symbol ≤ w.close) ∧
    (∃ (t : Fin 64) (symbol : Nat) (s : State) (w : RxWindow) (p : ProfileP) (l : Nat),
      (tree s t.val).window = some w ∧
      windowProfile t.val w s = some p ∧
      w.lock = some l ∧
      (symbol + 1 < l + p.minRelock + delimSymbols (tree s t.val).mode ∨ w.close < symbol ∨ w.final = true)) ∧
    (∃ (t : Fin 64) (s : State) (w : RxWindow),
      (tree s t.val).window = some w ∧
      w.final = true) ∧
    (∃ (t : Fin 64) (s : State) (w : RxWindow),
      (tree s t.val).window = some w ∧
      w.final = false) ∧
    (∃ (t : Fin 64) (s : State) (w : RxWindow),
      (tree s t.val).window = some w ∧
      w.final = true ∧
      w.record.strobe ≠ 1 ∧
      w.record.strobe ≠ 2) ∧
    (∃ (t : Fin 64) (s : State) (w : RxWindow),
      (tree s t.val).window = some w ∧
      w.record.strobe = 1 ∧
      readingPending (tree s t.val) = true) ∧
    (∃ (t : Fin 64) (s : State) (r : BurstRecord),
      (tree s t.val).await.find? (fun x => decide (x.strobe = 2)) = some r) ∧
    (∃ (t : Fin 64) (s : State),
      (cup s t.val).state = .active) :=
  ⟨⟨0, ({ terminal := 5, ranging := false } : WindowFacts), { setTree treeUp 0 { tree treeUp 0 with scheduled := [({ terminal := 5, ranging := false, superframe := 100, ctxs := [40000], start := 64 } : Granted)] } with now := 1000000 }, ({ terminal := 5, ranging := false, superframe := 100, ctxs := [40000], start := 64 } : Granted), by decide, by decide, by decide⟩,
    ⟨0, (setTree treeUp 0 { tree treeUp 0 with window := some { lock := none, close := 200, final := false, record := { terminal := 5 } } }), ({ lock := none, close := 200, final := false, record := { terminal := 5 } } : RxWindow), prof, by decide, by decide, by decide, by decide⟩,
    ⟨0, (setTree treeUp 0 { tree treeUp 0 with window := some { lock := some 90, close := 200, final := false, record := { terminal := 5 } } }), ({ lock := some 90, close := 200, final := false, record := { terminal := 5 } } : RxWindow), prof, by decide, by decide, by decide, by decide, by decide⟩,
    ⟨0, 200, (setTree treeUp 0 { tree treeUp 0 with window := some { lock := some 90, close := 200, final := false, record := { terminal := 5 } } }), ({ lock := some 90, close := 200, final := false, record := { terminal := 5 } } : RxWindow), prof, 90, by decide, by decide, by decide, by decide, by decide, by decide⟩,
    ⟨0, 201, (setTree treeUp 0 { tree treeUp 0 with window := some { lock := some 90, close := 200, final := false, record := { terminal := 5 } } }), ({ lock := some 90, close := 200, final := false, record := { terminal := 5 } } : RxWindow), prof, 90, by decide, by decide, by decide, by decide⟩,
    ⟨0, (setTree treeUp 0 { tree treeUp 0 with window := some { lock := some 90, close := 200, final := true, record := { terminal := 5 } } }), ({ lock := some 90, close := 200, final := true, record := { terminal := 5 } } : RxWindow), by decide, by decide⟩,
    ⟨0, (setTree treeUp 0 { tree treeUp 0 with window := some { lock := some 90, close := 200, final := false, record := { terminal := 5 } } }), ({ lock := some 90, close := 200, final := false, record := { terminal := 5 } } : RxWindow), by decide, by decide⟩,
    ⟨0, (setTree treeUp 0 { tree treeUp 0 with window := some { lock := some 90, close := 200, final := true, record := { terminal := 5 } } }), ({ lock := some 90, close := 200, final := true, record := { terminal := 5 } } : RxWindow), by decide, by decide, by decide, by decide⟩,
    ⟨0, (let s := (setTree treeUp 0 { tree treeUp 0 with window := some { lock := some 90, close := 200, final := true, record := { terminal := 5, strobe := 1 } } }); setTree s 0 { tree s 0 with await := [{ strobe := 2 }] }), ({ lock := some 90, close := 200, final := true, record := { terminal := 5, strobe := 1 } } : RxWindow), by decide, by decide, by decide⟩,
    ⟨0, (setTree treeUp 0 { tree treeUp 0 with await := [{ terminal := 5, strobe := 2 }] }), ({ terminal := 5, strobe := 2 } : BurstRecord), by decide⟩,
    ⟨0, treeUp, by decide⟩⟩

theorem witness_TerminalsAreRangedAndSentFrames :
    (∃ (t : Fin 64) (s : State),
      (tree s t.val).enabled = true ∧
      protTransmits t.val s = true ∧
      discoveryDue (tree s t.val) s.now = true ∧
      (tree s t.val).probes = []) ∧
    (∃ (t : Fin 64) (s : State),
      discoveryDue (tree s t.val) s.now = false) ∧
    (∃ (t : Fin 64) (serial : Nat) (stamp : Nat) (s : State),
      (tree s t.val).enabled = true ∧
      strikesPinned t.val stamp s = false ∧
      ((∀ x ∈ s.tr.terminals, x.1 / 512 = t.val → x.2.admitted = true → x.2.serial ≠ serial))) ∧
    (∃ (t : Fin 64) (serial : Nat) (stamp : Nat) (s : State) (k : Nat) (m : Terminal),
      (tree s t.val).enabled = true ∧
      strikesPinned t.val stamp s = false ∧
      s.tr.terminals.find? (fun x => decide (x.1 / 512 = t.val) && x.2.admitted && decide (x.2.serial = serial)) = some (k, m) ∧
      m.state ≠ 6 ∧
      (profileOf s t.val m.profile).isSome = true ∧
      m.regCheck = false ∧
      m.autoRange = false) ∧
    (∃ (t : Fin 64) (i : Fin 512) (s : State) (r : Ranging),
      (terminal s t.val i.val).ranging = some r ∧
      2 ≤ r.left ∧
      rangingComes t.val i.val s = false) ∧
    (∃ (t : Fin 64) (i : Fin 512) (s : State) (r : Ranging),
      (terminal s t.val i.val).ranging = some r ∧
      r.left ≤ 1 ∧
      rangingComes t.val i.val s = false) ∧
    (∃ (t : Fin 64) (i : Fin 512) (grantStart : Nat) (delimStamp : Nat) (s : State),
      let rtd := roundTrip t.val i.val grantStart delimStamp s
      (terminal s t.val i.val).ranging.isSome = true ∧
      560000 ≤ rtd ∧
      rtd ≤ (tree s t.val).teqdNs * 16 ∧
      (tree s t.val).minReach * (32 * (tree s t.val).groupIndex * 1000) ≤ (rtd - 560000) * 299792458 ∧
      (rtd - 560000) * 299792458 ≤ (tree s t.val).maxReach * (32 * (tree s t.val).groupIndex * 1000)) ∧
    (∃ (t : Fin 64) (i : Fin 512) (s : State) (d : Int) (r : Nat),
      (terminal s t.val i.val).state = 4 ∧
      (terminal s t.val i.val).driftDue = some d ∧
      (terminal s t.val i.val).rtd = some r) ∧
    (∃ (t : Fin 64) (s : State) (p : Probe),
      (tree s t.val).probes.find? (fun x => decide (x.ends ≤ s.now)) = some p) ∧
    (∃ (t : Fin 64) (s : State),
      (∀ p ∈ (tree s t.val).probes, s.now < p.ends)) ∧
    (∃ (t : Fin 64) (s : State),
      sendsFrames t.val s = true ∧
      runsOn 0x0202 t.val s = false ∧
      firstAligned t.val s = true) ∧
    (∃ (t : Fin 64) (s : State),
      runsOn 0x0202 t.val s = true) ∧
    (∃ (t : Nat) (s : State),
      (tree s t).started = true) ∧
    (∃ (t : Fin 64) (s : State),
      (tree s t.val).enabled = true ∧
      (tree s t.val).duty = false ∧
      (tree s t.val).idleEnter ≠ 0 ∧
      (tree s t.val).idleEnter ≤ (tree s t.val).idleRun) ∧
    (∃ (t : Fin 64) (s : State),
      (tree s t.val).idleEnter = 0) :=
  ⟨⟨0, (setTree treeUp 0 { tree treeUp 0 with discPeriodMs := 100 }), by decide, by decide, by decide, by decide⟩,
    ⟨0, treeUp, by decide⟩,
    ⟨0, 99, 5, treeUp, by decide, by decide, by decide⟩,
    ⟨0, 77, 5, (setTerminal treeUp 0 5 { terminal treeUp 0 5 with state := 1 }), 5, ({ admitted := true, state := 1, serial := 77, domain := 3, rtd := some 600000 } : Terminal), by decide, by decide, by decide, by decide, by decide, by decide, by decide⟩,
    ⟨0, 5, (setTerminal treeUp 0 5 { terminal treeUp 0 5 with state := 3, ranging := some { left := 2, before := 4 } }), ({ left := 2, before := 4 } : Ranging), by decide, by decide, by decide⟩,
    ⟨0, 5, (setTerminal treeUp 0 5 { terminal treeUp 0 5 with state := 3, ranging := some { left := 1, before := 4 } }), ({ left := 1, before := 4 } : Ranging), by decide, by decide, by decide⟩,
    ⟨0, 5, 0, 1000000, (setTerminal treeUp 0 5 { terminal treeUp 0 5 with state := 3, ranging := some { left := 2, before := 4 } }), by decide, by decide, by decide, by decide, by decide⟩,
    ⟨0, 5, (setTerminal treeUp 0 5 { terminal treeUp 0 5 with driftDue := some (-40) }), (-40), 600000, by decide, by decide, by decide⟩,
    ⟨0, (setTree treeUp 0 { tree treeUp 0 with probes := [({ key := 5, ends := 0, energy := true, maxAmp := -900 } : Probe)] }), ({ key := 5, ends := 0, energy := true, maxAmp := -900 } : Probe), by decide⟩,
    ⟨0, treeUp, by decide⟩,
    ⟨0, (setTree treeUp 0 { tree treeUp 0 with txen := true, aligned := true }), by decide, by decide, by decide⟩,
    ⟨0, { treeUp with mbx := { treeUp.mbx with held := [{ ask 0x0202 none cal with phase := .running 0 }] } }, by decide⟩,
    ⟨0, treeUp, by decide⟩,
    ⟨0, (setTree treeUp 0 { tree treeUp 0 with idleEnter := 8, idleRun := 8 }), by decide, by decide, by decide, by decide⟩,
    ⟨0, treeUp, by decide⟩⟩

theorem witness_GrantCommandsComplete :
    (∃ (h : Caller) (p : AllocP) (pins : List Nat) (e : Held) (s : State),
      startable 0x0400 none h e s ∧
      ownsAlloc h p.tree.val p.terminal.val s = true ∧
      ((∀ x ∈ s.tr.allocs, x.2.present = true → x.2.tree = p.tree.val → x.1 ≠ p.ctx.val → x.2.allocId ≠ p.allocId)) ∧
      (terminal s p.tree.val p.terminal.val).admitted = true ∧
      foreignCtx p.ctx.val p.tree.val p.terminal.val (alloc s p.ctx.val).present (alloc s p.ctx.val).tree (alloc s p.ctx.val).terminal = false ∧
      (tree s p.tree.val).configured = true ∧
      p.wf = true ∧
      32768 ≤ p.ctx.val ∧
      1024 ≤ p.allocId ∧
      p.allocId ≤ 16383 ∧
      furtherAllocs p.tree.val none s < 4096 ∧
      furtherAllocs p.tree.val (some p.terminal.val) s < 15 ∧
      admittedSum p.tree.val (some p.ctx.val) s + p.fixed + p.assured ≤ guaranteedLimit p.tree.val s ∧
      pinsFor p s = some pins) ∧
    (∃ (h : Caller) (t : Fin 64) (ctx : Fin 65536) (e : Held) (s : State),
      startable 0x0401 none h e s ∧
      ownsAlloc h t.val (alloc s ctx.val).terminal s = true ∧
      32768 ≤ ctx.val ∧
      (alloc s ctx.val).present = true ∧
      (alloc s ctx.val).tree = t.val) ∧
    (∃ (h : Caller) (p : PortCtxP) (e : Held) (s : State),
      startable 0x0402 none h e s ∧
      owns h kTree p.tree.val s = true ∧
      (terminal s p.tree.val p.terminal.val).admitted = true ∧
      ((∀ x ∈ s.tr.ports, x.2.present = true → x.2.tree = p.tree.val → x.1 ≠ p.ctx.val → x.2.portId ≠ p.portId)) ∧
      foreignCtx p.ctx.val p.tree.val p.terminal.val (portCtx s p.ctx.val).present (portCtx s p.ctx.val).tree (portCtx s p.ctx.val).terminal = false ∧
      ((p.down = true → queueDomain p.downQueue.val s = some (terminal s p.tree.val p.terminal.val).domain)) ∧
      p.wf = true ∧
      32768 ≤ p.ctx.val ∧
      1024 ≤ p.portId ∧
      p.portId ≤ 65534 ∧
      furtherPorts p.tree.val none s < 16384 ∧
      furtherPorts p.tree.val (some p.terminal.val) s < 256) ∧
    (∃ (h : Caller) (t : Fin 64) (ctx : Fin 131072) (e : Held) (s : State),
      startable 0x0403 none h e s ∧
      owns h kTree t.val s = true ∧
      32768 ≤ ctx.val) ∧
    (∃ (h : Caller) (t : Fin 64) (n : Nat) (limit : Nat) (e : Held) (s : State),
      startable 0x0404 none h e s ∧
      owns h kTree t.val s = true ∧
      (tree s t.val).configured = true ∧
      64 ≤ n ∧
      n ≤ 1024 ∧
      0 < limit ∧
      limit < 2 ^ 32 ∧
      admittedSum t.val none s ≤ limit) ∧
    (∃ (h : Caller) (t : Fin 64) (ctx : Fin 65536) (e : Held) (s : State),
      startable 0x0405 none h e s ∧
      isVf h.id.fn = false ∧
      (alloc s ctx.val).present = true ∧
      (alloc s ctx.val).tree = t.val) ∧
    (∃ (h : Caller) (p : CoopP) (e : Held) (s : State),
      startable 0x0406 none h e s ∧
      ownsDevice h s = true ∧
      p.wf = true) ∧
    (∃ (h : Caller) (t : Fin 64) (ctx : Fin 65536) (e : Held) (s : State),
      startable 0x0401 none h e s ∧
      ownsAlloc h t.val (alloc s ctx.val).terminal s = true ∧
      ctx.val < 32768) ∧
    (∃ (h : Caller) (t : Fin 64) (ctx : Fin 131072) (e : Held) (s : State),
      startable 0x0403 none h e s ∧
      owns h kTree t.val s = true ∧
      ctx.val < 32768) ∧
    (∃ (h : Caller) (t : Fin 64) (e : Held) (s : State),
      startable 0x0404 none h e s ∧
      owns h kTree t.val s = true ∧
      (tree s t.val).configured = false) :=
  ⟨⟨cal, allocP, [], (ask 0x0400 none cal), (asked 0x0400 none cal (setTree (setAlloc treeUp 40000 {}) 0 { tree treeUp 0 with guaranteedKbps := 10000 })), held_startable _ _ _ _, by decide, by decide, by decide, by decide, by decide, by decide, by decide, by decide, by decide, by decide, by decide, by decide, by decide⟩,
    ⟨cal, 0, 40000, (ask 0x0401 none cal), (asked 0x0401 none cal treeUp), held_startable _ _ _ _, by decide, by decide, by decide, by decide⟩,
    ⟨cal, ({ tree := 0, down := false, up := true, encrypt := false, terminal := 5, ctx := 131071, portId := 65534, downQueue := 0 } : PortCtxP), (ask 0x0402 none cal), (asked 0x0402 none cal treeUp), held_startable _ _ _ _, by decide, by decide, by decide, by decide, by decide, by decide, by decide, by decide, by decide, by decide, by decide⟩,
    ⟨cal, 0, 32768, (ask 0x0403 none cal), (asked 0x0403 none cal treeUp), held_startable _ _ _ _, by decide, by decide⟩,
    ⟨cal, 0, 64, 4294967295, (ask 0x0404 none cal), (asked 0x0404 none cal treeUp), held_startable _ _ _ _, by decide, by decide, by decide, by decide, by decide, by decide, by decide⟩,
    ⟨cal, 0, 40000, (ask 0x0405 none cal), (asked 0x0405 none cal treeUp), held_startable _ _ _ _, by decide, by decide, by decide⟩,
    ⟨cal, ({ enable := true, etherType := 0x88B5, laneMask := 0 } : CoopP), (ask 0x0406 none cal), (asked 0x0406 none cal base), held_startable _ _ _ _, by decide, by decide⟩,
    ⟨cal, 0, 32767, (ask 0x0401 none cal), (asked 0x0401 none cal treeUp), held_startable _ _ _ _, by decide, by decide⟩,
    ⟨cal, 0, 32767, (ask 0x0403 none cal), (asked 0x0403 none cal treeUp), held_startable _ _ _ _, by decide, by decide⟩,
    ⟨cal, 0, (ask 0x0404 none cal), (asked 0x0404 none cal base), held_startable _ _ _ _, by decide, by decide⟩⟩

theorem witness_DemandAndMaps :
    (∃ (t : Fin 64) (ctx : Fin 65536) (s : State),
      (alloc s ctx.val).present = true ∧
      (alloc s ctx.val).tree = t.val) ∧
    (∃ (c : CoopFrame) (s : State),
      s.tr.coop.enable = true ∧
      c.etherType = s.tr.coop.etherType ∧
      (portEnt s c.port).enabled = true ∧
      portLanes c.port s ≠ [] ∧
      (∀ i ∈ portLanes c.port s, Nat.testBit s.tr.coop.laneMask i = true) ∧
      coopVersion c.payload = 1) ∧
    (∃ (c : CoopFrame),
      coopVersion c.payload ≠ 1) ∧
    (∃ (t : Fin 64) (s : State),
      (tree s t.val).enabled = true ∧
      protTransmits t.val s = true ∧
      mapAwaits t.val s = false ∧
      ((∀ x ∈ s.tr.allocs, x.2.tree = t.val → x.2.removing = false))) ∧
    (∃ (t : Fin 64) (s : State),
      (tree s t.val).enabled = true ∧
      protTransmits t.val s = true ∧
      mapAwaits t.val s = true) :=
  ⟨⟨0, 40000, treeUp, by decide, by decide⟩,
    ⟨({ etherType := 0x88B5, port := 0x80, vlan := 0, tag := 3, payload := [1, 1, 0, 0, 0, 0, 0, 0, 0x40, 0x9C, 101, 0, 0xF4, 1, 0, 0] } : CoopFrame), (let s := setPortEnt treeUp 0x80 { enabled := true, pipeline := some 0, rate := 100 }; let s := setClient s 0 { width := 1 }; { s with tr := { s.tr with coop := { enable := true, etherType := 0x88B5, laneMask := 1 } } }), by decide, by decide, by decide, by decide, by decide, by decide⟩,
    ⟨({ etherType := 0x88B5, port := 0x80, vlan := 0, tag := 3, payload := [2, 1, 0, 0, 0, 0, 0, 0, 0x40, 0x9C, 101, 0, 0xF4, 1, 0, 0] } : CoopFrame), by decide⟩,
    ⟨0, treeUp, by decide, by decide, by decide, by decide⟩,
    ⟨0, { treeUp with pending := [.coopAnnouncement ({ etherType := 0x88B5, port := 0x80, vlan := 0, tag := 3, payload := [1, 1, 0, 0, 0, 0, 0, 0, 0x40, 0x9C, 101, 0, 0xF4, 1, 0, 0] } : CoopFrame)] }, by decide, by decide, by decide⟩⟩

theorem witness_UpstreamFramesAreChecked :
    (∃ (t : Fin 64) (x : XgemFrame) (s : State),
      (tree s t.val).enabled = true ∧
      protTransmits t.val s = true ∧
      ((tree s t.val).staleBurst = false ∨ x.first = true) ∧
      goneOf t.val x s = none ∧
      (checkedPorts s).find? (fun y => y.2.present && decide (y.2.tree = t.val) && decide (y.2.portId = x.portId)) = none) ∧
    (∃ (t : Fin 64) (x : XgemFrame) (s : State) (k : Nat) (c : PortCtx),
      (tree s t.val).enabled = true ∧
      protTransmits t.val s = true ∧
      ((tree s t.val).staleBurst = false ∨ x.first = true) ∧
      goneOf t.val x s = none ∧
      (checkedPorts s).find? (fun y => y.2.present && decide (y.2.tree = t.val) && decide (y.2.portId = x.portId)) = some (k, c) ∧
      c.terminal ≠ x.grantTerminal.val) ∧
    (∃ (t : Fin 64) (x : XgemFrame) (s : State) (k : Nat) (c : PortCtx),
      (tree s t.val).enabled = true ∧
      protTransmits t.val s = true ∧
      ((tree s t.val).staleBurst = false ∨ x.first = true) ∧
      goneOf t.val x s = none ∧
      (checkedPorts s).find? (fun y => y.2.present && decide (y.2.tree = t.val) && decide (y.2.portId = x.portId)) = some (k, c) ∧
      c.terminal = x.grantTerminal.val ∧
      c.up = true ∧
      x.keyIndex = 0 ∧
      bytesOf (queue s (65536 + x.ctx.val)).onDie + x.length ≤ 1048576) :=
  ⟨⟨0, xgem, treeUp, by decide, by decide, by decide, by decide, by decide⟩,
    ⟨0, xgem, (setPortCtx treeUp 50000 ({ present := true, tree := 0, terminal := 6, portId := 2000, up := true } : PortCtx)), 50000, ({ present := true, tree := 0, terminal := 6, portId := 2000, up := true } : PortCtx), by decide, by decide, by decide, by decide, by decide, by decide⟩,
    ⟨0, xgem, (setPortCtx treeUp 50000 ({ present := true, tree := 0, terminal := 5, portId := 2000, up := true } : PortCtx)), 50000, ({ present := true, tree := 0, terminal := 5, portId := 2000, up := true } : PortCtx), by decide, by decide, by decide, by decide, by decide, by decide, by decide, by decide, by decide⟩⟩

theorem witness_LineAndFramerCommandsComplete :
    (∃ (h : Caller) (p : LineP) (e : Held) (s : State),
      startable 0x0500 none h e s ∧
      owns h kLine p.line.val s = true ∧
      lineBusy p.line.val s = false ∧
      (line s p.line.val).enabled = false ∧
      ((p.mode.val = 1 → p.modulation = 1 ∧ p.rate = 4)) ∧
      p.wf = true ∧
      rateValid p = true ∧
      fitsSlot p = true) ∧
    (∃ (h : Caller) (l : Fin 4) (power : Int) (e : Held) (s : State) (c : LineP) (s1 : State),
      startable 0x0501 (some { kind := 8, scope := l.val }) h e s ∧
      owns h kLine l.val s = true ∧
      lineBusy l.val s = false ∧
      (portEnt s (0x40 + l.val)).enabled = false ∧
      (cup s (64 + l.val)).state = .active ∧
      (line s l.val).cfg = some c ∧
      framerFits l.val c s = true ∧
      1300 ≤ power ∧
      lanternOf l.val s = true ∧
      enablePort (0x40 + l.val) (lineRate c) s = .placed s1) ∧
    (∃ (h : Caller) (l : Fin 4) (e : Held) (s : State),
      startable 0x0501 (some { kind := 8, scope := l.val }) h e s ∧
      owns h kLine l.val s = true ∧
      lineBusy l.val s = false ∧
      (portEnt s (0x40 + l.val)).enabled = true) ∧
    (∃ (h : Caller) (l : Fin 4) (e : Held) (s : State),
      startable 0x0502 none h e s ∧
      owns h kLine l.val s = true ∧
      lineBusy l.val s = false) ∧
    (∃ (h : Caller) (l : Fin 4) (e : Held) (s : State),
      startable 0x0503 none h e s ∧
      lineBusy l.val s = false) ∧
    (∃ (h : Caller) (l : Fin 4) (clear : Bool) (e : Held) (s : State),
      startable 0x0504 none h e s ∧
      lineBusy l.val s = false ∧
      (line s l.val).lockedOnce = true ∧
      ((clear = true → owns h kLine l.val s = true))) ∧
    (∃ (h : Caller) (l : Fin 4) (taps : List Int) (e : Held) (s : State),
      startable 0x0505 none h e s ∧
      owns h kLine l.val s = true ∧
      tapsOk taps = true ∧
      lineBusy l.val s = false ∧
      (line s l.val).cfg = none ∧
      (line s l.val).enabled = false) ∧
    (∃ (h : Caller) (l : Fin 4) (taps : List Int) (e : Held) (s : State) (c : LineP),
      startable 0x0505 none h e s ∧
      owns h kLine l.val s = true ∧
      tapsOk taps = true ∧
      lineBusy l.val s = false ∧
      (line s l.val).cfg = some c) ∧
    (∃ (h : Caller) (p : AdjustP) (e : Held) (s : State) (c : LineP),
      startable 0x0506 none h e s ∧
      owns h kLine p.line.val s = true ∧
      p.wf = true ∧
      lineBusy p.line.val s = false ∧
      (line s p.line.val).enabled = true ∧
      (line s p.line.val).cfg = some c) ∧
    (∃ (h : Caller) (p : FramerP) (e : Held) (s : State),
      startable 0x0600 none h e s ∧
      owns h kLine p.line.val s = true ∧
      (cup s (64 + p.line.val)).state = .active ∧
      (line s p.line.val).enabled = false ∧
      p.wf = true) ∧
    (∃ (h : Caller) (l : Fin 4) (t : Fin 32) (mask : Nat) (e : Held) (s : State),
      startable 0x0601 none h e s ∧
      owns h kLine l.val s = true ∧
      (cup s (64 + l.val)).state = .active ∧
      ((∀ u, u < 32 → u ≠ t.val → ((tributary s l.val u).slots ||| ((tributary s l.val u).change.getD 0)) &&& mask = 0)) ∧
      mask ≠ 0 ∧
      mask < 2 ^ (20 * framerRate l.val s) ∧
      tributaryExists (tributary s l.val t.val) = false) ∧
    (∃ (h : Caller) (l : Fin 4) (t : Fin 32) (e : Held) (s : State),
      startable 0x0602 none h e s ∧
      owns h kLine l.val s = true ∧
      (cup s (64 + l.val)).state = .active ∧
      tributaryExists (tributary s l.val t.val) = true) ∧
    (∃ (h : Caller) (l : Fin 4) (e : Held) (s : State),
      startable 0x0603 none h e s ∧
      (cup s (64 + l.val)).state = .active) ∧
    (∃ (h : Caller) (p : TtiP) (e : Held) (s : State),
      startable 0x0604 none h e s ∧
      owns h kLine p.line.val s = true ∧
      (cup s (64 + p.line.val)).state = .active ∧
      p.wf = true) ∧
    (∃ (h : Caller) (l : Fin 4) (e : Held) (s : State),
      startable 0x0605 none h e s ∧
      owns h kLine l.val s = true ∧
      (cup s (64 + l.val)).state = .active ∧
      framing l.val s = true ∧
      (framer s l.val).measuring = false) ∧
    (∃ (h : Caller) (l : Fin 4) (e : Held) (s : State) (x : List Byte),
      startable 0x0606 none h e s ∧
      (cup s (64 + l.val)).state = .active ∧
      (framer s l.val).sm.accepted = some x) :=
  ⟨⟨cal, lineP, (ask 0x0500 none cal), (asked 0x0500 none cal base), held_startable _ _ _ _, by decide, by decide, by decide, by decide, by decide, by decide, by decide⟩,
    ⟨cal, 0, 1300, (ask 0x0501 (some { kind := 8, scope := (0 : Fin 4).val }) cal), (asked 0x0501 (some { kind := 8, scope := (0 : Fin 4).val }) cal (let s := { base with line := { base.line with lanterns := 0xF } }; setFramer (setLine s 0 { cfg := some lineP }) 0 { cfg := some framerP })), lineP, (match enablePort 0x40 (lineRate lineP) (asked 0x501 (some { kind := 8, scope := 0 }) cal (let s := { base with line := { base.line with lanterns := 0xF } }; setFramer (setLine s 0 { cfg := some lineP }) 0 { cfg := some framerP })) with | .placed x => x | _ => base), held_startable _ _ _ _, by decide, by decide, by decide, by decide, by decide, by decide, by decide, by decide, rfl⟩,
    ⟨cal, 0, (ask 0x0501 (some { kind := 8, scope := (0 : Fin 4).val }) cal), (asked 0x0501 (some { kind := 8, scope := (0 : Fin 4).val }) cal (setPortEnt lineUp 0x40 { enabled := true, pipeline := some 0, rate := 400 })), held_startable _ _ _ _, by decide, by decide, by decide⟩,
    ⟨cal, 0, (ask 0x0502 none cal), (asked 0x0502 none cal lineUp), held_startable _ _ _ _, by decide, by decide⟩,
    ⟨cal, 3, (ask 0x0503 none cal), (asked 0x0503 none cal lineUp), held_startable _ _ _ _, by decide⟩,
    ⟨cal, 0, true, (ask 0x0504 none cal), (asked 0x0504 none cal lineUp), held_startable _ _ _ _, by decide, by decide, by decide⟩,
    ⟨cal, 0, (List.replicate 255 32767 ++ [-32768]), (ask 0x0505 none cal), (asked 0x0505 none cal base), held_startable _ _ _ _, by decide, by decide, by decide, by decide, by decide⟩,
    ⟨cal, 0, (List.replicate 255 32767 ++ [-32768]), (ask 0x0505 none cal), (asked 0x0505 none cal lineUp), lineP, held_startable _ _ _ _, by decide, by decide, by decide, by decide⟩,
    ⟨cal, ({ line := 0, txPower := -500, sdThreshold := 0, maskMute := true } : AdjustP), (ask 0x0506 none cal), (asked 0x0506 none cal lineUp), lineP, held_startable _ _ _ _, by decide, by decide, by decide, by decide, by decide⟩,
    ⟨cal, framerP, (ask 0x0600 none cal), (asked 0x0600 none cal base), held_startable _ _ _ _, by decide, by decide, by decide, by decide⟩,
    ⟨cal, 0, 31, 0xF, (ask 0x0601 none cal), (asked 0x0601 none cal (setFramer base 0 { cfg := some framerP })), held_startable _ _ _ _, by decide, by decide, by decide, by decide, by decide, by decide⟩,
    ⟨cal, 0, 3, (ask 0x0602 none cal), (asked 0x0602 none cal (setTributary lineUp 0 3 { slots := 1 })), held_startable _ _ _ _, by decide, by decide, by decide⟩,
    ⟨cal, 0, (ask 0x0603 none cal), (asked 0x0603 none cal lineUp), held_startable _ _ _ _, by decide⟩,
    ⟨cal, ({ line := 0, pm := true, expected := false, tti := List.replicate 64 1 } : TtiP), (ask 0x0604 none cal), (asked 0x0604 none cal base), held_startable _ _ _ _, by decide, by decide, by decide⟩,
    ⟨cal, 0, (ask 0x0605 none cal), (asked 0x0605 none cal lineUp), held_startable _ _ _ _, by decide, by decide, by decide, by decide⟩,
    ⟨cal, 0, (ask 0x0606 none cal), (asked 0x0606 none cal (setFramer lineUp 0 { framer lineUp 0 with sm := { accepted := some (List.replicate 64 2) } })), (List.replicate 64 2), held_startable _ _ _ _, by decide, by decide⟩⟩

theorem witness_SymbolRateLimits :
    ∃ (h : Caller) (p : LineP) (e : Held) (s : State),
      startable 0x0500 none h e s ∧
      owns h kLine p.line.val s = true ∧
      lineBusy p.line.val s = false ∧
      (line s p.line.val).enabled = false ∧
      p.mode.val = 0 ∧
      p.wf = true ∧
      (62320447 * p.rate * 20 < 60000000 * entropyX20 p ∨ 240000000 * entropyX20 p < 62320447 * p.rate * 20) :=
  ⟨cal, { lineP with entropyX20 := 112 }, (ask 0x0500 none cal), (asked 0x0500 none cal base), held_startable _ _ _ _, by decide, by decide, by decide, by decide, by decide, by decide⟩

theorem witness_LinesAcquireAndMonitor :
    (∃ (l : Fin 4) (format : Nat) (rate : Nat) (s : State) (c : LineP),
      (line s l.val).cfg = some c ∧
      (line s l.val).enabled = true ∧
      (line s l.val).step ≠ 0 ∧
      (line s l.val).step ≠ 9 ∧
      ((line s l.val).step ≠ 7 ∨ (format = formatOf c ∧ rate = c.rate))) ∧
    (∃ (l : Fin 4) (s : State) (c : LineP),
      (line s l.val).cfg = some c ∧
      (line s l.val).enabled = true ∧
      (line s l.val).step = 9) ∧
    (∃ (l : Fin 4) (format : Nat) (rate : Nat) (s : State) (c : LineP),
      (line s l.val).cfg = some c ∧
      (line s l.val).enabled = true ∧
      (line s l.val).step = 7 ∧
      c.mode.val = 0 ∧
      ¬(format = formatOf c ∧ rate = c.rate)) ∧
    (∃ (l : Fin 4) (s : State) (c : LineP),
      (line s l.val).cfg = some c ∧
      (line s l.val).enabled = true ∧
      (line s l.val).step ≠ 0 ∧
      losOf (line s l.val) = false ∧
      lapsed (line s l.val).stepStart (stepBound c (line s l.val).step) s = true) ∧
    (∃ (l : Fin 4) (s : State),
      (line s l.val).enabled = true ∧
      (line s l.val).mismatch = true ∧
      losOf (line s l.val) = false ∧
      (line s l.val).mismatchAt + 10000000 ≤ s.now) ∧
    (∃ (l : Fin 4) (s : State),
      (line s l.val).enabled = true ∧
      (line s l.val).locked = true ∧
      losOf (line s l.val) = false) ∧
    (∃ (m : Fin 5),
      m.val ≠ 3) ∧
    (∃ (l : Fin 4) (s : State) (c : LineP),
      (line s l.val).enabled = true ∧
      mutedOf l.val s = false ∧
      (line s l.val).cfg = some c) ∧
    (∃ (l : Fin 4) (s : State) (c : LineP),
      (line s l.val).enabled = true ∧
      (line s l.val).locked = true ∧
      (line s l.val).cfg = some c) :=
  ⟨⟨0, formatOf lineP, 4, (setLine lineUp 0 { cfg := some lineP, enabled := true, step := 7 }), lineP, by decide, by decide, by decide, by decide, by decide⟩,
    ⟨0, (setLine lineUp 0 { cfg := some lineP, enabled := true, step := 9 }), lineP, by decide, by decide, by decide⟩,
    ⟨0, formatOf lineP, 5, (setLine lineUp 0 { cfg := some lineP, enabled := true, step := 7 }), lineP, by decide, by decide, by decide, by decide, by decide⟩,
    ⟨0, { setLine lineUp 0 { cfg := some lineP, enabled := true, step := 8 } with now := 20000000 }, lineP, by decide, by decide, by decide, by decide, by decide⟩,
    ⟨0, { setLine lineUp 0 { cfg := some lineP, enabled := true, step := 0, mismatch := true } with now := 20000000 }, by decide, by decide, by decide, by decide⟩,
    ⟨0, lineUp, by decide, by decide, by decide⟩,
    ⟨1, by decide⟩,
    ⟨0, lineUp, lineP, by decide, by decide, by decide⟩,
    ⟨0, lineUp, lineP, by decide, by decide, by decide⟩⟩

theorem witness_FramersFollowTheSignal :
    (∃ (l : Fin 4) (f : FrameFacts) (s : State) (s1 : State) (c : FramerP),
      s1 = portBoundary (0x40 + l.val) s ∧
      (framer s1 l.val).cfg = some c ∧
      lineLocked l.val s1 = true ∧
      line400zr l.val s1 = false ∧
      earlierWins l.val c f s1 = false) ∧
    (∃ (l : Fin 4) (s : State),
      framing l.val s = true ∧
      oof (framer s l.val) = true ∧
      lapsed (framer s l.val).since 3000000 s = true) ∧
    (∃ (l : Fin 4) (s : State),
      oof (framer s l.val) = false) ∧
    (∃ (l : Fin 4) (s : State),
      oof (framer s l.val) = false ∧
      (framer s l.val).im = false) ∧
    (∃ (l : Fin 4) (s : State),
      (framer s l.val).im = true ∧
      lapsed (framer s l.val).mfSince 3000000 s = true) ∧
    (∃ (l : Fin 4) (s : State) (s1 : State) (c : FramerP),
      s1 = portBoundary (0x40 + l.val) s ∧
      (framer s1 l.val).cfg = some c ∧
      framing l.val s1 = true) ∧
    (∃ (l : Fin 4) (s : State) (sent : Nat),
      (framer s l.val).measuring = true ∧
      (framer s l.val).dmSent = some sent) :=
  ⟨⟨0, { facts with mfas := 9 }, lineUp, (portBoundary 0x40 lineUp), framerP, rfl, by decide, by decide, by decide, by decide⟩,
    ⟨0, { setFramer lineUp 0 { cfg := some framerP, state := .search } with now := 3000001 }, by decide, by decide, by decide⟩,
    ⟨0, lineUp, by decide⟩,
    ⟨0, (setFramer lineUp 0 { cfg := some framerP, state := .inFrame }), by decide, by decide⟩,
    ⟨0, { lineUp with now := 3000001 }, by decide, by decide⟩,
    ⟨0, (setTributary lineUp 0 3 { slots := 1 }), (portBoundary 0x40 (setTributary lineUp 0 3 { slots := 1 })), framerP, rfl, by decide, by decide⟩,
    ⟨0, (setFramer lineUp 0 { framer lineUp 0 with measuring := true, dmSent := some 7 }), 7, by decide, by decide⟩⟩

theorem witness_CipherCommandsAndReception :
    (∃ (h : Caller) (t : Fin 64) (i : Fin 512) (e : Held) (s : State),
      startable 0x0700 none h e s ∧
      owns h kTree t.val s = true ∧
      (terminal s t.val i.val).state = 4 ∧
      s.cph.zeroised = false) ∧
    (∃ (h : Caller) (p : SealP) (e : Held) (s : State) (c : FramerP),
      startable 0x0701 none h e s ∧
      owns h kLine p.line.val s = true ∧
      (cup s (64 + p.line.val)).state = .active ∧
      (framer s p.line.val).cfg = some c ∧
      c.sealedLayout = true ∧
      line400zr p.line.val s = false ∧
      ownsDomain h p.domain.val s = true) ∧
    (∃ (h : Caller) (p : MacsecP) (e : Held) (s : State),
      startable 0x0702 none h e s ∧
      owns h kLaneGroup (p.lane.val / 8) s = true ∧
      (portEnt s (0x80 + p.lane.val)).enabled = true ∧
      ownsDomain h p.domain.val s = true ∧
      p.wf = true) ∧
    (∃ (h : Caller) (k : Fin 3) (n : Nat) (d : Nat) (e : Held) (s : State),
      startable 0x0703 none h e s ∧
      slotExists k.val n = true ∧
      slotDomain k.val n s = some d ∧
      ownsDomain h d s = true) ∧
    (∃ (h : Caller) (e : Held) (s : State),
      startable 0x0704 none h e s ∧
      ownsDevice h s = true ∧
      s.cph.zeroised = true) ∧
    (∃ (h : Caller) (e : Held) (s : State),
      startable 0x0705 none h e s) ∧
    (∃ (l : Fin 4) (s : State),
      lineLocked l.val s = true ∧
      (framer s l.val).im = true) ∧
    (∃ (l : Nat) (s : State),
      (sealOf s l).rxNext = none) ∧
    (∃ (l : Fin 4) (s : State),
      lineLocked l.val s = true ∧
      (framer s l.val).im = true ∧
      (sealOf s l.val).rxSealing = true ∧
      (sealOf s l.val).rxKeyOk = true ∧
      (halfOf (slot s kindLine (rxSlot l.val)) (sealOf s l.val).rxHalf).state = .active ∧
      pairServes 1 l.val s = true) ∧
    (∃ (f : MacsecFrame) (s : State) (s1 : State) (b : Bool),
      (macsec s f.lane.val).enable = true ∧
      s1 = settleCommits kindMacsec (2 * f.lane.val + 1) s ∧
      pairServes 2 f.lane.val s1 = true ∧
      matching (slot s1 kindMacsec (2 * f.lane.val + 1)) f.an.val = some b ∧
      (halfOf (slot s1 kindMacsec (2 * f.lane.val + 1)) b).state = .active ∧
      f.compareOk = true) :=
  ⟨⟨cal, 0, 5, (ask 0x0700 none cal), (asked 0x0700 none cal treeUp), held_startable _ _ _ _, by decide, by decide, by decide⟩,
    ⟨cal, ({ line := 0, enable := true, early := false, domain := 3 } : SealP), (ask 0x0701 none cal), (asked 0x0701 none cal lineUp), framerP, held_startable _ _ _ _, by decide, by decide, by decide, by decide, by decide, by decide⟩,
    ⟨cal, ({ lane := 1, enable := true, confidentiality := true, replayProtect := true, includeSci := false, domain := 3, sci := 5, peerSci := 6, replayWindow := 64 } : MacsecP), (ask 0x0702 none cal), (asked 0x0702 none cal (setPortEnt base 0x81 { enabled := true, pipeline := some 0, rate := 100 })), held_startable _ _ _ _, by decide, by decide, by decide, by decide⟩,
    ⟨cal, 0, 11, 3, (ask 0x0703 none cal), (asked 0x0703 none cal treeUp), held_startable _ _ _ _, by decide, by decide, by decide⟩,
    ⟨cal, (ask 0x0704 none cal), (asked 0x0704 none cal { base with cph := { base.cph with zeroised := true } }), held_startable _ _ _ _, by decide, by decide⟩,
    ⟨cal, (ask 0x0705 none cal), (asked 0x0705 none cal lineUp), held_startable _ _ _ _⟩,
    ⟨0, lineUp, by decide, by decide⟩,
    ⟨0, base, by decide⟩,
    ⟨0, (setSlot (setSeal lineUp 0 { rxSealing := true, rxKeyOk := true }) 1 1 { half0 := { state := .active, number := 3, limit := 100 } }), by decide, by decide, by decide, by decide, by decide, by decide⟩,
    ⟨({ lane := 0, an := 2, pn := 9, aad := [], data := [], icv := [], compareOk := true } : MacsecFrame), (setSlot (setMacsec base 0 { enable := true, nextPn := 7 }) 2 1 { half0 := { state := .active, number := 2, limit := 100 } }), (settleCommits kindMacsec 1 (setSlot (setMacsec base 0 { enable := true, nextPn := 7 }) 2 1 { half0 := { state := .active, number := 2, limit := 100 } })), false, by decide, rfl, by decide, by decide, by decide, by decide⟩⟩

theorem witness_KeyCommits :
    (∃ (s : State),
      windowsDown s = false) ∧
    (∃ (f : PciFn) (s : State) (c : Commit),
      windowsDown s = false ∧
      (keyPage s (pciKey f)).busy = some c) ∧
    (∃ (f : PciFn) (s : State) (c : Commit),
      (keyPage s (pciKey f)).busy = some c ∧
      c.result = 0 ∧
      c.erase = false ∧
      s.cph.zeroised = false ∧
      zeroisesNow s = false) :=
  ⟨⟨(setKeyPage base 0 { data := 5, salt := 6, ssci := 7, limit := 8 }), by decide⟩,
    ⟨pfA, (setKeyPage base 0 { data := 5, salt := 6, ssci := 7, limit := 8, busy := some ({ erase := false, result := 0, kind := 0, slot := 10, staged := { key := 99, number := 1, limit := 50, state := .loaded } } : Commit) }), ({ erase := false, result := 0, kind := 0, slot := 10, staged := { key := 99, number := 1, limit := 50, state := .loaded } } : Commit), by decide, by decide⟩,
    ⟨pfA, (setKeyPage base 0 { data := 5, salt := 6, ssci := 7, limit := 8, busy := some ({ erase := false, result := 0, kind := 0, slot := 10, staged := { key := 99, number := 1, limit := 50, state := .loaded } } : Commit) }), ({ erase := false, result := 0, kind := 0, slot := 10, staged := { key := 99, number := 1, limit := 50, state := .loaded } } : Commit), by decide, by decide, by decide, by decide, by decide⟩⟩

theorem witness_ZeroisationEmptiesTheStore :
    (∃ (sources : BitVec 4) (s : State),
      armedSources sources s ≠ 0) ∧
    (∃ (t : Fin 64) (i : Fin 512) (s : State),
      runsOn 0x0700 (t.val * 512 + i.val) s = true ∧
      s.cph.zeroised = false) ∧
    (∃ (h : Caller) (e : Held) (s : State),
      startable 0x0704 none h e s ∧
      ownsDevice h s = true ∧
      s.cph.zeroised = false) ∧
    (∃ (h : Caller) (sources : BitVec 4) (e : Held) (s : State),
      startable 0x0704 none h e s ∧
      ownsDevice h s = true ∧
      s.cph.zeroised = true ∧
      sources ≠ 0) :=
  ⟨⟨1, (setSlot (setKeyPage base 0 { data := 5, salt := 6, ssci := 7, limit := 8 }) 0 10 { half0 := { state := .active, key := 9 } }), by decide⟩,
    ⟨0, 5, { treeUp with mbx := { treeUp.mbx with held := [{ ask 0x0700 none cal with phase := .running 5 }] } }, by decide, by decide⟩,
    ⟨cal, (ask 0x0704 none cal), (asked 0x0704 none cal base), held_startable _ _ _ _, by decide, by decide⟩,
    ⟨cal, 2, (ask 0x0704 none cal), (asked 0x0704 none cal { base with cph := { base.cph with zeroised := true } }), held_startable _ _ _ _, by decide, by decide, by decide⟩⟩

theorem witness_PacketEngineCommandsAndLoss :
    (∃ (h : Caller) (p : PortPipeP) (e : Held) (s : State),
      startable 0x0800 none h e s ∧
      portExists p.port = true ∧
      ownsPort h p.port s = true ∧
      ((∀ x, p.pipeline = some x → inService x.val s = true → (portEnt s p.port).rate ≤ roomBut p.port x.val s))) ∧
    (∃ (h : Caller) (e : Held) (s : State),
      startable 0x0801 none h e s) ∧
    (∃ (h : Caller) (e : Held) (s : State),
      startable 0x0802 none h e s ∧
      ownsDevice h s = true) ∧
    (∃ (h : Caller) (p : DomainP) (e : Held) (s : State),
      startable 0x0803 none h e s ∧
      h.blockLen = 64 + 64 * ((p.flood.length + 31) / 32) ∧
      ownsDomain h p.domain.val s = true ∧
      p.flood.length ≤ 1024 ∧
      (∀ q ∈ p.flood, queueDomain q.val s = some p.domain.val)) ∧
    (∃ (h : Caller) (p : LearnP) (e : Held) (s : State),
      startable 0x0807 none h e s ∧
      ownsDevice h s = true ∧
      p.wf = true) ∧
    (∃ (h : Caller) (p : QueueP) (e : Held) (s : State),
      startable 0x0808 none h e s ∧
      ownsDomain h p.domain.val s = true ∧
      foreignQueue h (queue s p.queue.val) s = false ∧
      p.wf = true ∧
      (queue s p.queue.val).onDie = [] ∧
      (queue s p.queue.val).dram = []) ∧
    (∃ (h : Caller) (e : Held) (s : State),
      startable 0x0809 none h e s ∧
      isVf h.id.fn = false) ∧
    (∃ (h : Caller) (p : GroupP) (e : Held) (s : State),
      startable 0x080A none h e s ∧
      ownsPort h p.port s = true ∧
      p.wf = true ∧
      portExists p.port = true ∧
      groupElsewhere p.group.val p.port s = false) ∧
    (∃ (p : Fin 8) (s : State),
      inService p.val s = true) ∧
    (∃ (p : Fin 8) (s : State),
      inService p.val s = true) ∧
    (∃ (p : Fin 8) (s : State) (reason : Nat),
      (pipe s p.val).remap = some reason) ∧
    (∃ (p : Fin 8) (s : State),
      (pipe s p.val).dtSince + 125000 ≤ s.now) :=
  ⟨⟨cal, ({ port := 0x80, pipeline := some 1, remapPriority := 2 } : PortPipeP), (ask 0x0800 none cal), (asked 0x0800 none cal (setPortEnt base 0x80 { enabled := true, pipeline := some 0, rate := 100 })), held_startable _ _ _ _, by decide, by decide, by decide⟩,
    ⟨cal, (ask 0x0801 none cal), (asked 0x0801 none cal base), held_startable _ _ _ _⟩,
    ⟨cal, (ask 0x0802 none cal), (asked 0x0802 none cal { base with pe := { base.pe with failedPipes := 0x80 } }), held_startable _ _ _ _, by decide⟩,
    ⟨(callerOf pfA 1 128), ({ domain := 3, learn := true, floodUnknown := false, floodMulticast := true, flood := [9] } : DomainP), (ask 0x0803 none (callerOf pfA 1 128)), (asked 0x0803 none (callerOf pfA 1 128) (setQueue base 9 { cfg := some queueP })), held_startable _ _ _ _, by decide, by decide, by decide, (by intro q hq; rw [List.mem_singleton] at hq; subst hq; rfl)⟩,
    ⟨cal, ({ ageScanMs := 0, ageLimit := 0, random := true, moveHoldMs := 0 } : LearnP), (ask 0x0807 none cal), (asked 0x0807 none cal base), held_startable _ _ _ _, by decide, by decide⟩,
    ⟨cal, queueP, (ask 0x0808 none cal), (asked 0x0808 none cal base), held_startable _ _ _ _, by decide, by decide, by decide, by decide, by decide⟩,
    ⟨cal, (ask 0x0809 none cal), (asked 0x0809 none cal base), held_startable _ _ _ _, by decide⟩,
    ⟨cal, ({ group := 8191, port := 0x40, weight := 1, peakKbps := 0, burstBytes := 2048 } : GroupP), (ask 0x080A none cal), (asked 0x080A none cal base), held_startable _ _ _ _, by decide, by decide, by decide, by decide⟩,
    ⟨0, (setPortEnt base 0x80 { enabled := true, pipeline := some 0, rate := 100 }), by decide⟩,
    ⟨0, (setPortEnt base 0x80 { enabled := true, pipeline := some 0, rate := 100 }), by decide⟩,
    ⟨2, (setPipe base 2 { remap := some 2 }), 2, by decide⟩,
    ⟨7, { setPipe base 7 { dtCount := 1 } with now := 125000 }, by decide⟩⟩

theorem witness_TableOperationsComplete :
    (∃ (h : Caller) (p : TableP) (e : Held) (s : State) (i : Nat) (s1 : State),
      startable 0x0804 none h e s ∧
      p.table.val < 8 ∧
      ownsDomain h (p.key.toNat / 2 ^ 48 % 4096) s = true ∧
      inService p.table.val s = true ∧
      insertLearn p.table.val (learnOf p.key.toNat p.data.toNat s) (noteTables s) = (some i, s1)) ∧
    (∃ (h : Caller) (p : TableP) (e : Held) (s : State) (i : Nat) (s1 : State),
      startable 0x0804 none h e s ∧
      p.table.val = 9 ∧
      ownsDomain h (p.key.toNat / 2 ^ 48 % 4096) s = true ∧
      insertAll (learnOf p.key.toNat p.data.toNat s) (noteTables s) (learnTargets 9 s) = (some i, s1)) ∧
    (∃ (h : Caller) (p : TableP) (e : Held) (s : State) (i : Nat) (s1 : State),
      startable 0x0804 none h e s ∧
      p.table.val = 8 ∧
      serviceKind p.key.toNat ≠ 1 ∧
      serviceKind p.key.toNat ≤ 2 ∧
      ownsAll h (serviceDomains p.key.toNat p.data.toNat ++ heldDomains p.key.toNat s) s = true ∧
      insertService p.key.toNat p.data.toNat (noteTables s) = (some i, s1)) ∧
    (∃ (h : Caller) (p : TableP) (e : Held) (s : State),
      startable 0x0804 none h e s ∧
      p.table.val = 8 ∧
      serviceKind p.key.toNat = 1 ∧
      bridgeOk h p.key.toNat p.data.toNat s = false) ∧
    (∃ (h : Caller) (p : TableP) (e : Held) (s : State) (i : Nat) (x : LearnEntry),
      startable 0x0805 none h e s ∧
      p.table.val < 8 ∧
      ownsDomain h (p.key.toNat / 2 ^ 48 % 4096) s = true ∧
      inService p.table.val s = true ∧
      findLearn p.table.val (p.key.toNat % 2 ^ 60) s = some (i, x)) ∧
    (∃ (h : Caller) (p : TableP) (e : Held) (s : State) (i : Nat),
      startable 0x0806 none h e s ∧
      p.table.val = 8 ∧
      serviceIndex p.key.toNat s = some i ∧
      ownsAll h (heldDomains p.key.toNat s) s = true) ∧
    (∃ (h : Caller) (p : TableP) (e : Held) (s : State),
      startable 0x0806 none h e s ∧
      p.table.val < 8 ∧
      ownsDomain h (p.key.toNat / 2 ^ 48 % 4096) s = true ∧
      inService p.table.val s = false) ∧
    (∃ (h : Caller) (d : Fin 4096) (e : Held) (s : State),
      startable 0x080B none h e s ∧
      ownsDomain h d.val s = true) ∧
    (∃ (f : PciFn) (t : Fin 9) (s : State),
      windowsDown s = false ∧
      isPf f = true ∧
      (tablePage s t.val).busy = none ∧
      ((t.val < 8 → inService t.val s = true ∧ (cup s (68 + t.val)).state = .active))) ∧
    (∃ (f : PciFn) (t : Fin 8) (s : State),
      windowsDown s = false ∧
      isPf f = true ∧
      (tablePage s t.val).busy = none ∧
      inService t.val s = true ∧
      (cup s (68 + t.val)).state = .active ∧
      fnOwnsDomain (pciKey f) ((tablePage s t.val).key.toNat / 2 ^ 48 % 4096) s = false) ∧
    (∃ (f : PciFn) (t : Fin 9) (s : State) (x : Nat × Nat × Nat × Nat),
      windowsDown s = false ∧
      isPf f = true ∧
      (tablePage s t.val).busy = some x ∧
      ((t.val < 8 → inService t.val s = true ∧ (cup s (68 + t.val)).state = .active))) ∧
    (∃ (t : Fin 9) (s : State) (r : Nat) (i : Nat) (k : Nat) (d : Nat),
      (tablePage s t.val).busy = some (r, i, k, d)) :=
  ⟨⟨cal, ({ table := 0, key := (BitVec.ofNat 128 (0x0A0B0C0D0E0F + 3 * 2 ^ 48)), data := (BitVec.ofNat 128 (9 * 2 ^ 32)) } : TableP), (ask 0x0804 none cal), (asked 0x0804 none cal base), ((insertLearn ({ table := 0, key := (BitVec.ofNat 128 (0x0A0B0C0D0E0F + 3 * 2 ^ 48)), data := (BitVec.ofNat 128 (9 * 2 ^ 32)) } : TableP).table.val (learnOf ({ table := 0, key := (BitVec.ofNat 128 (0x0A0B0C0D0E0F + 3 * 2 ^ 48)), data := (BitVec.ofNat 128 (9 * 2 ^ 32)) } : TableP).key.toNat ({ table := 0, key := (BitVec.ofNat 128 (0x0A0B0C0D0E0F + 3 * 2 ^ 48)), data := (BitVec.ofNat 128 (9 * 2 ^ 32)) } : TableP).data.toNat (asked 0x804 none cal base)) (noteTables (asked 0x804 none cal base))).1.getD 0), (insertLearn ({ table := 0, key := (BitVec.ofNat 128 (0x0A0B0C0D0E0F + 3 * 2 ^ 48)), data := (BitVec.ofNat 128 (9 * 2 ^ 32)) } : TableP).table.val (learnOf ({ table := 0, key := (BitVec.ofNat 128 (0x0A0B0C0D0E0F + 3 * 2 ^ 48)), data := (BitVec.ofNat 128 (9 * 2 ^ 32)) } : TableP).key.toNat ({ table := 0, key := (BitVec.ofNat 128 (0x0A0B0C0D0E0F + 3 * 2 ^ 48)), data := (BitVec.ofNat 128 (9 * 2 ^ 32)) } : TableP).data.toNat (asked 0x804 none cal base)) (noteTables (asked 0x804 none cal base))).2, held_startable _ _ _ _, by decide, by decide, by decide, found_pair _ (by decide +kernel)⟩,
    ⟨cal, ({ table := 9, key := (BitVec.ofNat 128 (0x0A0B0C0D0E0F + 3 * 2 ^ 48)), data := (BitVec.ofNat 128 (9 * 2 ^ 32)) } : TableP), (ask 0x0804 none cal), (asked 0x0804 none cal base), ((insertAll (learnOf ({ table := 9, key := (BitVec.ofNat 128 (0x0A0B0C0D0E0F + 3 * 2 ^ 48)), data := (BitVec.ofNat 128 (9 * 2 ^ 32)) } : TableP).key.toNat ({ table := 9, key := (BitVec.ofNat 128 (0x0A0B0C0D0E0F + 3 * 2 ^ 48)), data := (BitVec.ofNat 128 (9 * 2 ^ 32)) } : TableP).data.toNat (asked 0x804 none cal base)) (noteTables (asked 0x804 none cal base)) (learnTargets 9 (asked 0x804 none cal base))).1.getD 0), (insertAll (learnOf ({ table := 9, key := (BitVec.ofNat 128 (0x0A0B0C0D0E0F + 3 * 2 ^ 48)), data := (BitVec.ofNat 128 (9 * 2 ^ 32)) } : TableP).key.toNat ({ table := 9, key := (BitVec.ofNat 128 (0x0A0B0C0D0E0F + 3 * 2 ^ 48)), data := (BitVec.ofNat 128 (9 * 2 ^ 32)) } : TableP).data.toNat (asked 0x804 none cal base)) (noteTables (asked 0x804 none cal base)) (learnTargets 9 (asked 0x804 none cal base))).2, held_startable _ _ _ _, by decide, by decide, found_pair _ (by decide +kernel)⟩,
    ⟨cal, ({ table := 8, key := 0x32, data := 4 } : TableP), (ask 0x0804 none cal), (asked 0x0804 none cal base), ((insertService 0x32 4 (noteTables (asked 0x804 none cal base))).1.getD 0), (insertService 0x32 4 (noteTables (asked 0x804 none cal base))).2, held_startable _ _ _ _, by decide, by decide, by decide, by decide, rfl⟩,
    ⟨cal, ({ table := 8, key := 0x31, data := 4 } : TableP), (ask 0x0804 none cal), (asked 0x0804 none cal base), held_startable _ _ _ _, by decide, by decide, by decide⟩,
    ⟨cal, ({ table := 0, key := (BitVec.ofNat 128 (0x0A0B0C0D0E0F + 3 * 2 ^ 48)), data := 0 } : TableP), (ask 0x0805 none cal), (asked 0x0805 none cal (setLearn base 0 (learnBucket (0x0A0B0C0D0E0F + 3 * 2 ^ 48) * 4) (some ({ key := 0x0A0B0C0D0E0F + 3 * 2 ^ 48, queue := 9, isStatic := false, hit := false, age := 1, parity := false, movedMs := 0 } : LearnEntry)))), (learnBucket (0x0A0B0C0D0E0F + 3 * 2 ^ 48) * 4), ({ key := 0x0A0B0C0D0E0F + 3 * 2 ^ 48, queue := 9, isStatic := false, hit := false, age := 1, parity := false, movedMs := 0 } : LearnEntry), held_startable _ _ _ _, by decide, by decide, by decide, by decide⟩,
    ⟨cal, ({ table := 8, key := 0x31, data := 0 } : TableP), (ask 0x0806 none cal), (asked 0x0806 none cal (setService base (serviceBucket 0x31 * 8) (some { key := 0x31, data := 3, parity := false }))), (serviceBucket 0x31 * 8), held_startable _ _ _ _, by decide, by decide, by decide⟩,
    ⟨cal, ({ table := 0, key := (BitVec.ofNat 128 (0x0A0B0C0D0E0F + 3 * 2 ^ 48)), data := 0 } : TableP), (ask 0x0806 none cal), (asked 0x0806 none cal { base with pe := { base.pe with failedPipes := 1 } }), held_startable _ _ _ _, by decide, by decide, by decide⟩,
    ⟨cal, 3, (ask 0x080B none cal), (asked 0x080B none cal (setLearn base 0 (learnBucket (0x0A0B0C0D0E0F + 3 * 2 ^ 48) * 4) (some ({ key := 0x0A0B0C0D0E0F + 3 * 2 ^ 48, queue := 9, isStatic := false, hit := false, age := 1, parity := false, movedMs := 0 } : LearnEntry)))), held_startable _ _ _ _, by decide⟩,
    ⟨pfA, 0, (setTablePage base 0 { key := (BitVec.ofNat 128 (0x0A0B0C0D0E0F + 3 * 2 ^ 48)) }), by decide, by decide, by decide, by decide⟩,
    ⟨pfA, 0, (setTablePage base 0 { key := (BitVec.ofNat 128 (0x0A0B0C0D0E0F + 4 * 2 ^ 48)) }), by decide, by decide, by decide, by decide, by decide, by decide⟩,
    ⟨pfA, 8, (setTablePage base 8 { key := (BitVec.ofNat 128 (0x0A0B0C0D0E0F + 3 * 2 ^ 48)), busy := some (0, 0, 0, 0) }), (0, 0, 0, 0), by decide, by decide, by decide, by decide⟩,
    ⟨8, (setTablePage base 8 { key := (BitVec.ofNat 128 (0x0A0B0C0D0E0F + 3 * 2 ^ 48)), busy := some (0, 1, 2, 3) }), 0, 1, 2, 3, by decide⟩⟩

theorem witness_LearningAndAging :
    (∃ (p : Nat) (src : BitVec 48) (d : Nat) (s : State) (i : Nat) (x : LearnEntry),
      findLearn p (learnKey src d) s = some (i, x)) ∧
    (∃ (p : Fin 8) (s : State) (s1 : State),
      scanDue p.val s = true ∧
      s1 = setPipe s p.val { pipe s p.val with scannedAt := s.now }) ∧
    (∃ (p : Fin 8) (s : State),
      scanDue p.val s = false) ∧
    (∃ (i : Nat) (s : State),
      tableWf none s.pe.learned = true ∧
      i < 262144) :=
  ⟨⟨0, 0x0A0B0C0D0E0F, 3, (setLearn base 0 (learnBucket (0x0A0B0C0D0E0F + 3 * 2 ^ 48) * 4) (some ({ key := 0x0A0B0C0D0E0F + 3 * 2 ^ 48, queue := 9, isStatic := false, hit := false, age := 1, parity := false, movedMs := 0 } : LearnEntry))), (learnBucket (0x0A0B0C0D0E0F + 3 * 2 ^ 48) * 4), ({ key := 0x0A0B0C0D0E0F + 3 * 2 ^ 48, queue := 9, isStatic := false, hit := false, age := 1, parity := false, movedMs := 0 } : LearnEntry), by decide⟩,
    ⟨0, { base with now := 10000000000000 }, (setPipe { base with now := 10000000000000 } 0 { scannedAt := 10000000000000 }), by decide, by decide⟩,
    ⟨7, { base with pe := { base.pe with failedPipes := 0x80 } }, by decide⟩,
    ⟨(learnBucket (0x0A0B0C0D0E0F + 3 * 2 ^ 48) * 4), (setLearn base 0 (learnBucket (0x0A0B0C0D0E0F + 3 * 2 ^ 48) * 4) (some ({ key := 0x0A0B0C0D0E0F + 3 * 2 ^ 48, queue := 9, isStatic := false, hit := false, age := 1, parity := false, movedMs := 0 } : LearnEntry))), by decide, by decide⟩⟩

theorem witness_PacketsMove :
    (∃ (pk : PacketIn) (s : State) (p : Nat),
      portServes pk.port s = true ∧
      (portEnt s pk.port).pipeline = some p ∧
      0x80 ≤ pk.port ∧
      pk.port < 0xC0 ∧
      pk.length ≤ 16352 ∧
      pk.parity = [] ∧
      needsVerified pk.port s = false ∧
      isFabricPort pk.port = false ∧
      findService (classKey pk.port 0 pk.vlan) (lookupView s) = none) ∧
    (∃ (pk : PacketIn) (s : State) (p : Nat) (i : Nat) (x : ServiceEntry),
      portServes pk.port s = true ∧
      (portEnt s pk.port).pipeline = some p ∧
      0x80 ≤ pk.port ∧
      pk.port < 0xC0 ∧
      pk.length ≤ 16352 ∧
      pk.parity = [] ∧
      needsVerified pk.port s = false ∧
      isFabricPort pk.port = false ∧
      findService (classKey pk.port 0 pk.vlan) (lookupView s) = some (i, x)) ∧
    (∃ (port : Nat) (s : State) (p : Nat),
      (portEnt (portBoundary port s) port).pipeline = some p ∧
      portTransmits port (portBoundary port s) = true ∧
      isFabricPort port = false) ∧
    (∃ (port : Nat) (upset : BitVec 14) (qUpset : BitVec 14) (s : State) (q : Nat) (s1 : State) (pk : Packet) (s2 : State) (s3 : State) (held : BitVec 14) (tag : BitVec 14),
      schedule port s = some (q, s1) ∧
      takePacket q s1 = some (pk, s2) ∧
      held = (queue s q).domTag ^^^ qUpset ∧
      tag = pk.tag ^^^ upset ∧
      s3 = freeBuffer 0x10 pk.buffer 0 (setQueue s2 q { queue s2 q with domTag := held })) ∧
    (∃ (q : Fin 65536) (s : State) (c : QueueP) (x : Packet) (rest : List Packet) (ptr : Nat) (s1 : State),
      (queue s q.val).cfg = some c ∧
      (queue s q.val).dram = x :: rest ∧
      2 * bytesOf (queue s q.val).onDie < c.spillThreshold ∧
      (queue s q.val).poisoned = false ∧
      tryAlloc 0x11 0 true 4 (mappedPool 0x11 (classFor x.length) s) s = (.inl ptr, s1)) :=
  ⟨⟨{ packetIn with port := 0xBF, length := 16352 }, (setPortEnt base 0xBF { enabled := true, pipeline := some 0, rate := 100 }), 0, by decide, by decide, by decide, by decide, by decide, by decide, by decide, by decide, by decide⟩,
    ⟨packetIn, (setService (setPortEnt base 0x80 { enabled := true, pipeline := some 0, rate := 100 }) (serviceBucket (classKey 0x80 0 10) * 8) (some { key := classKey 0x80 0 10, data := 3, parity := false })), 0, (serviceBucket (classKey 0x80 0 10) * 8), ({ key := classKey 0x80 0 10, data := 3, parity := false } : ServiceEntry), by decide, by decide, by decide, by decide, by decide, by decide, by decide, by decide, by decide⟩,
    ⟨0x80, (let s := setPortEnt base 0x80 { enabled := true, pipeline := some 0, rate := 100 }; setClient s 0 { width := 1 }), 0, by decide, by decide, by decide⟩,
    ⟨0x80, 0, 0, (setQueue (setPortEnt base 0x80 { enabled := true, pipeline := some 0, rate := 100 }) 9 { cfg := some { queueP with targetKind := 2, target := 0x80 }, domTag := domainTag 3, onDie := [({ length := 300, tag := domainTag 3, dst := 1, src := 2, vlan := 10, portCtx := 0, buffer := 0, flooded := false, cut := false, stomped := false } : Packet)] }), ((schedule 0x80 (setQueue (setPortEnt base 0x80 { enabled := true, pipeline := some 0, rate := 100 }) 9 { cfg := some { queueP with targetKind := 2, target := 0x80 }, domTag := domainTag 3, onDie := [({ length := 300, tag := domainTag 3, dst := 1, src := 2, vlan := 10, portCtx := 0, buffer := 0, flooded := false, cut := false, stomped := false } : Packet)] })).getD (0, base)).1, ((schedule 0x80 (setQueue (setPortEnt base 0x80 { enabled := true, pipeline := some 0, rate := 100 }) 9 { cfg := some { queueP with targetKind := 2, target := 0x80 }, domTag := domainTag 3, onDie := [({ length := 300, tag := domainTag 3, dst := 1, src := 2, vlan := 10, portCtx := 0, buffer := 0, flooded := false, cut := false, stomped := false } : Packet)] })).getD (0, base)).2, ((takePacket ((schedule 0x80 (setQueue (setPortEnt base 0x80 { enabled := true, pipeline := some 0, rate := 100 }) 9 { cfg := some { queueP with targetKind := 2, target := 0x80 }, domTag := domainTag 3, onDie := [({ length := 300, tag := domainTag 3, dst := 1, src := 2, vlan := 10, portCtx := 0, buffer := 0, flooded := false, cut := false, stomped := false } : Packet)] })).getD (0, base)).1 ((schedule 0x80 (setQueue (setPortEnt base 0x80 { enabled := true, pipeline := some 0, rate := 100 }) 9 { cfg := some { queueP with targetKind := 2, target := 0x80 }, domTag := domainTag 3, onDie := [({ length := 300, tag := domainTag 3, dst := 1, src := 2, vlan := 10, portCtx := 0, buffer := 0, flooded := false, cut := false, stomped := false } : Packet)] })).getD (0, base)).2).getD (({ length := 300, tag := domainTag 3, dst := 1, src := 2, vlan := 10, portCtx := 0, buffer := 0, flooded := false, cut := false, stomped := false } : Packet), base)).1, ((takePacket ((schedule 0x80 (setQueue (setPortEnt base 0x80 { enabled := true, pipeline := some 0, rate := 100 }) 9 { cfg := some { queueP with targetKind := 2, target := 0x80 }, domTag := domainTag 3, onDie := [({ length := 300, tag := domainTag 3, dst := 1, src := 2, vlan := 10, portCtx := 0, buffer := 0, flooded := false, cut := false, stomped := false } : Packet)] })).getD (0, base)).1 ((schedule 0x80 (setQueue (setPortEnt base 0x80 { enabled := true, pipeline := some 0, rate := 100 }) 9 { cfg := some { queueP with targetKind := 2, target := 0x80 }, domTag := domainTag 3, onDie := [({ length := 300, tag := domainTag 3, dst := 1, src := 2, vlan := 10, portCtx := 0, buffer := 0, flooded := false, cut := false, stomped := false } : Packet)] })).getD (0, base)).2).getD (({ length := 300, tag := domainTag 3, dst := 1, src := 2, vlan := 10, portCtx := 0, buffer := 0, flooded := false, cut := false, stomped := false } : Packet), base)).2, (freeBuffer 0x10 ((takePacket ((schedule 0x80 (setQueue (setPortEnt base 0x80 { enabled := true, pipeline := some 0, rate := 100 }) 9 { cfg := some { queueP with targetKind := 2, target := 0x80 }, domTag := domainTag 3, onDie := [({ length := 300, tag := domainTag 3, dst := 1, src := 2, vlan := 10, portCtx := 0, buffer := 0, flooded := false, cut := false, stomped := false } : Packet)] })).getD (0, base)).1 ((schedule 0x80 (setQueue (setPortEnt base 0x80 { enabled := true, pipeline := some 0, rate := 100 }) 9 { cfg := some { queueP with targetKind := 2, target := 0x80 }, domTag := domainTag 3, onDie := [({ length := 300, tag := domainTag 3, dst := 1, src := 2, vlan := 10, portCtx := 0, buffer := 0, flooded := false, cut := false, stomped := false } : Packet)] })).getD (0, base)).2).getD (({ length := 300, tag := domainTag 3, dst := 1, src := 2, vlan := 10, portCtx := 0, buffer := 0, flooded := false, cut := false, stomped := false } : Packet), base)).1.buffer 0 (setQueue ((takePacket ((schedule 0x80 (setQueue (setPortEnt base 0x80 { enabled := true, pipeline := some 0, rate := 100 }) 9 { cfg := some { queueP with targetKind := 2, target := 0x80 }, domTag := domainTag 3, onDie := [({ length := 300, tag := domainTag 3, dst := 1, src := 2, vlan := 10, portCtx := 0, buffer := 0, flooded := false, cut := false, stomped := false } : Packet)] })).getD (0, base)).1 ((schedule 0x80 (setQueue (setPortEnt base 0x80 { enabled := true, pipeline := some 0, rate := 100 }) 9 { cfg := some { queueP with targetKind := 2, target := 0x80 }, domTag := domainTag 3, onDie := [({ length := 300, tag := domainTag 3, dst := 1, src := 2, vlan := 10, portCtx := 0, buffer := 0, flooded := false, cut := false, stomped := false } : Packet)] })).getD (0, base)).2).getD (({ length := 300, tag := domainTag 3, dst := 1, src := 2, vlan := 10, portCtx := 0, buffer := 0, flooded := false, cut := false, stomped := false } : Packet), base)).2 ((schedule 0x80 (setQueue (setPortEnt base 0x80 { enabled := true, pipeline := some 0, rate := 100 }) 9 { cfg := some { queueP with targetKind := 2, target := 0x80 }, domTag := domainTag 3, onDie := [({ length := 300, tag := domainTag 3, dst := 1, src := 2, vlan := 10, portCtx := 0, buffer := 0, flooded := false, cut := false, stomped := false } : Packet)] })).getD (0, base)).1 { queue ((takePacket ((schedule 0x80 (setQueue (setPortEnt base 0x80 { enabled := true, pipeline := some 0, rate := 100 }) 9 { cfg := some { queueP with targetKind := 2, target := 0x80 }, domTag := domainTag 3, onDie := [({ length := 300, tag := domainTag 3, dst := 1, src := 2, vlan := 10, portCtx := 0, buffer := 0, flooded := false, cut := false, stomped := false } : Packet)] })).getD (0, base)).1 ((schedule 0x80 (setQueue (setPortEnt base 0x80 { enabled := true, pipeline := some 0, rate := 100 }) 9 { cfg := some { queueP with targetKind := 2, target := 0x80 }, domTag := domainTag 3, onDie := [({ length := 300, tag := domainTag 3, dst := 1, src := 2, vlan := 10, portCtx := 0, buffer := 0, flooded := false, cut := false, stomped := false } : Packet)] })).getD (0, base)).2).getD (({ length := 300, tag := domainTag 3, dst := 1, src := 2, vlan := 10, portCtx := 0, buffer := 0, flooded := false, cut := false, stomped := false } : Packet), base)).2 ((schedule 0x80 (setQueue (setPortEnt base 0x80 { enabled := true, pipeline := some 0, rate := 100 }) 9 { cfg := some { queueP with targetKind := 2, target := 0x80 }, domTag := domainTag 3, onDie := [({ length := 300, tag := domainTag 3, dst := 1, src := 2, vlan := 10, portCtx := 0, buffer := 0, flooded := false, cut := false, stomped := false } : Packet)] })).getD (0, base)).1 with domTag := ((queue (setQueue (setPortEnt base 0x80 { enabled := true, pipeline := some 0, rate := 100 }) 9 { cfg := some { queueP with targetKind := 2, target := 0x80 }, domTag := domainTag 3, onDie := [({ length := 300, tag := domainTag 3, dst := 1, src := 2, vlan := 10, portCtx := 0, buffer := 0, flooded := false, cut := false, stomped := false } : Packet)] }) ((schedule 0x80 (setQueue (setPortEnt base 0x80 { enabled := true, pipeline := some 0, rate := 100 }) 9 { cfg := some { queueP with targetKind := 2, target := 0x80 }, domTag := domainTag 3, onDie := [({ length := 300, tag := domainTag 3, dst := 1, src := 2, vlan := 10, portCtx := 0, buffer := 0, flooded := false, cut := false, stomped := false } : Packet)] })).getD (0, base)).1).domTag ^^^ 0) })), ((queue (setQueue (setPortEnt base 0x80 { enabled := true, pipeline := some 0, rate := 100 }) 9 { cfg := some { queueP with targetKind := 2, target := 0x80 }, domTag := domainTag 3, onDie := [({ length := 300, tag := domainTag 3, dst := 1, src := 2, vlan := 10, portCtx := 0, buffer := 0, flooded := false, cut := false, stomped := false } : Packet)] }) ((schedule 0x80 (setQueue (setPortEnt base 0x80 { enabled := true, pipeline := some 0, rate := 100 }) 9 { cfg := some { queueP with targetKind := 2, target := 0x80 }, domTag := domainTag 3, onDie := [({ length := 300, tag := domainTag 3, dst := 1, src := 2, vlan := 10, portCtx := 0, buffer := 0, flooded := false, cut := false, stomped := false } : Packet)] })).getD (0, base)).1).domTag ^^^ 0), (((takePacket ((schedule 0x80 (setQueue (setPortEnt base 0x80 { enabled := true, pipeline := some 0, rate := 100 }) 9 { cfg := some { queueP with targetKind := 2, target := 0x80 }, domTag := domainTag 3, onDie := [({ length := 300, tag := domainTag 3, dst := 1, src := 2, vlan := 10, portCtx := 0, buffer := 0, flooded := false, cut := false, stomped := false } : Packet)] })).getD (0, base)).1 ((schedule 0x80 (setQueue (setPortEnt base 0x80 { enabled := true, pipeline := some 0, rate := 100 }) 9 { cfg := some { queueP with targetKind := 2, target := 0x80 }, domTag := domainTag 3, onDie := [({ length := 300, tag := domainTag 3, dst := 1, src := 2, vlan := 10, portCtx := 0, buffer := 0, flooded := false, cut := false, stomped := false } : Packet)] })).getD (0, base)).2).getD (({ length := 300, tag := domainTag 3, dst := 1, src := 2, vlan := 10, portCtx := 0, buffer := 0, flooded := false, cut := false, stomped := false } : Packet), base)).1.tag ^^^ 0), found_some _ _ (by decide), found_some _ _ (by decide), rfl, rfl, rfl⟩,
    ⟨9, (setQueue base 9 { cfg := some { queueP with spillThreshold := 1000 }, dram := [({ length := 300, tag := domainTag 3, dst := 1, src := 2, vlan := 10, portCtx := 0, buffer := 0, flooded := false, cut := false, stomped := false } : Packet)], spilling := true }), { queueP with spillThreshold := 1000 }, ({ length := 300, tag := domainTag 3, dst := 1, src := 2, vlan := 10, portCtx := 0, buffer := 0, flooded := false, cut := false, stomped := false } : Packet), [], (match (tryAlloc 0x11 0 true 4 (mappedPool 0x11 (classFor 300) (setQueue base 9 { cfg := some { queueP with spillThreshold := 1000 }, dram := [({ length := 300, tag := domainTag 3, dst := 1, src := 2, vlan := 10, portCtx := 0, buffer := 0, flooded := false, cut := false, stomped := false } : Packet)], spilling := true })) (setQueue base 9 { cfg := some { queueP with spillThreshold := 1000 }, dram := [({ length := 300, tag := domainTag 3, dst := 1, src := 2, vlan := 10, portCtx := 0, buffer := 0, flooded := false, cut := false, stomped := false } : Packet)], spilling := true })) with | (.inl p, _) => p | _ => 0), (tryAlloc 0x11 0 true 4 (mappedPool 0x11 (classFor 300) (setQueue base 9 { cfg := some { queueP with spillThreshold := 1000 }, dram := [({ length := 300, tag := domainTag 3, dst := 1, src := 2, vlan := 10, portCtx := 0, buffer := 0, flooded := false, cut := false, stomped := false } : Packet)], spilling := true })) (setQueue base 9 { cfg := some { queueP with spillThreshold := 1000 }, dram := [({ length := 300, tag := domainTag 3, dst := 1, src := 2, vlan := 10, portCtx := 0, buffer := 0, flooded := false, cut := false, stomped := false } : Packet)], spilling := true })).2, by decide, by decide, by decide, by decide, by decide⟩⟩

theorem witness_PoolsAndBuffers :
    (∃ (h : Caller) (p : PoolP) (e : Held) (s : State),
      startable 0x0900 none h e s ∧
      ownsDevice h s = true ∧
      p.bpHold ≤ 1024 ∧
      allocated p.pool.val s = 0 ∧
      ((p.enable = true → extentOk p s = true))) ∧
    (∃ (h : Caller) (e : Held) (s : State),
      startable 0x0901 none h e s ∧
      ownsDevice h s = true) ∧
    (∃ (h : Caller) (r : Nat) (e : Held) (s : State),
      startable 0x0902 none h e s ∧
      ownsDevice h s = true ∧
      requesterOk r = true) ∧
    (∃ (h : Caller) (e : Held) (s : State),
      startable 0x0903 none h e s ∧
      ownsDevice h s = true) ∧
    (∃ (r : Nat) (cls : Fin 4) (pr : Fin 3) (s : State),
      poolAwaits s = false ∧
      admits (pool s (mappedPool r cls.val s)).level (requestPriority r pr.val) = true ∧
      0 < freeCount (mappedPool r cls.val s) s) ∧
    (∃ (r : Nat) (cls : Fin 4) (s : State),
      poolAwaits s = false ∧
      freeCount (mappedPool r cls.val s) s = 0 ∧
      (poolCfg (mappedPool r cls.val s) s).spillUp = false) ∧
    (∃ (r : Nat) (cls : Fin 4) (s : State) (x : HeldAlloc),
      heldAlloc r cls.val s = some x ∧
      poolAwaits (dropHeldAlloc x s) = false) ∧
    (∃ (r : Nat) (cls : Fin 4) (s : State) (x : HeldAlloc),
      heldAlloc r cls.val s = some x ∧
      r < 8 ∧
      holdExpired x s = true) ∧
    (∃ (ptr : Nat) (k : Nat) (s : State) (q : Nat),
      poolAwaits s = false ∧
      pointerPool ptr s = some q ∧
      (header s ptr).refs ≠ 0 ∧
      (header s ptr).refs + k ≤ 4095) ∧
    (∃ (r : Nat) (ptr : Nat) (s : State) (q : Nat),
      poolAwaits s = false ∧
      pointerPool ptr s = some q ∧
      (header s ptr).refs ≠ 0 ∧
      (header s ptr).owner = r) ∧
    (∃ (ptr : Nat) (s : State) (q : Nat),
      poolAwaits s = false ∧
      pointerPool ptr s = some q ∧
      1 < (header s ptr).refs) ∧
    (∃ (r : Nat) (ptr : Nat) (s : State) (q : Nat),
      poolAwaits s = false ∧
      pointerPool ptr s = some q ∧
      (header s ptr).refs = 1 ∧
      (header s ptr).owner = r) ∧
    (∃ (r : Nat) (ptr : Nat) (s : State) (q : Nat),
      poolAwaits s = false ∧
      pointerPool ptr s = some q ∧
      ((header s ptr).refs = 0 ∨ ((header s ptr).refs = 1 ∧ (header s ptr).owner ≠ r))) ∧
    (∃ (s : State),
      poolAwaits s = true) ∧
    (∃ (r : Nat) (w : Nat) (ptr : Nat) (o : Nat) (s : State),
      s.pool.opsDue = [.give w ptr o 0, .free r ptr 0]) :=
  ⟨⟨cal, ({ pool := 15, enable := false, spillUp := false, bpHold := 1024, baseKib := 0, sizeKib := 0, early := 0, late := 0, critical := 0, hysteresis := 0 } : PoolP), (ask 0x0900 none cal), (asked 0x0900 none cal base), held_startable _ _ _ _, by decide, by decide, by decide, by decide⟩,
    ⟨cal, (ask 0x0901 none cal), (asked 0x0901 none cal base), held_startable _ _ _ _, by decide⟩,
    ⟨cal, 0x6B, (ask 0x0902 none cal), (asked 0x0902 none cal base), held_startable _ _ _ _, by decide, by decide⟩,
    ⟨cal, (ask 0x0903 none cal), (asked 0x0903 none cal (setPool base 15 { corrupt := true, quarantined := [3] })), held_startable _ _ _ _, by decide⟩,
    ⟨7, 3, 0, base, by decide, by decide, by decide⟩,
    ⟨7, 3, (setPool base 12 { corrupt := true }), by decide, by decide, by decide⟩,
    ⟨7, 0, { base with pool := { base.pool with held := [{ requester := 7, cls := 0, priority := 1, pool := 0 }] } }, ({ requester := 7, cls := 0, priority := 1, pool := 0 } : HeldAlloc), by decide, by decide⟩,
    ⟨7, 0, { base with now := 10000000, pool := { base.pool with held := [{ requester := 7, cls := 0, priority := 1, pool := 0 }] } }, ({ requester := 7, cls := 0, priority := 1, pool := 0 } : HeldAlloc), by decide, by decide, by decide⟩,
    ⟨((poolCfg 0 base).baseKib * 1024), 95, (setHeader base ((poolCfg 0 base).baseKib * 1024) { owner := 7, refs := 4000 }), 0, by decide, by decide, by decide, by decide⟩,
    ⟨7, ((poolCfg 0 base).baseKib * 1024), (setHeader base ((poolCfg 0 base).baseKib * 1024) { owner := 7, refs := 1 }), 0, by decide, by decide, by decide, by decide⟩,
    ⟨((poolCfg 0 base).baseKib * 1024), (setHeader base ((poolCfg 0 base).baseKib * 1024) { owner := 7, refs := 2 }), 0, by decide, by decide, by decide⟩,
    ⟨7, ((poolCfg 0 base).baseKib * 1024), (setHeader base ((poolCfg 0 base).baseKib * 1024) { owner := 7, refs := 1 }), 0, by decide, by decide, by decide, by decide⟩,
    ⟨9, ((poolCfg 0 base).baseKib * 1024), (setHeader base ((poolCfg 0 base).baseKib * 1024) { owner := 7, refs := 1 }), 0, by decide, by decide, by decide⟩,
    ⟨{ base with pool := { base.pool with opsDue := [.free 3 0 0] } }, by decide⟩,
    ⟨7, 3, 64, 5, { base with pool := { base.pool with opsDue := [.give 3 64 5 0, .free 7 64 0] } }, by decide⟩⟩

theorem witness_TimeCommandsComplete :
    (∃ (h : Caller) (p : TimeBaseP) (e : Held) (s : State),
      startable 0x0A00 none h e s ∧
      owns h kTimeBase p.tb.val s = true ∧
      p.wf = true ∧
      p.fabricTb = false ∧
      p.inputKind.val ≠ 2) ∧
    (∃ (h : Caller) (e : Held) (s : State),
      startable 0x0A01 none h e s) ∧
    (∃ (h : Caller) (p : TimeSetP) (e : Held) (s : State),
      startable 0x0A02 none h e s ∧
      owns h kTimeBase p.tb.val s = true ∧
      p.wf = true ∧
      p.atPps = none) ∧
    (∃ (h : Caller) (p : TimeSetP) (i : Fin 4) (e : Held) (s : State),
      startable 0x0A02 none h e s ∧
      owns h kTimeBase p.tb.val s = true ∧
      p.wf = true ∧
      p.atPps = some i) ∧
    (∃ (h : Caller) (p : StepAuthP) (e : Held) (s : State) (s1 : State) (c : Int),
      startable 0x0A03 none h e s ∧
      owns h kTimeBase p.tb.val s = true ∧
      s1 = replaceFirst p.tb.val s ∧
      (timeBase s1 p.tb.val).pending = some c ∧
      (timeBase s1 p.tb.val).stepSeq = p.stepSeq ∧
      (c - p.expected).natAbs ≤ p.toleranceNs * 65536) ∧
    (∃ (h : Caller) (p : StepAuthP) (e : Held) (s : State) (s1 : State) (c : Int),
      startable 0x0A03 none h e s ∧
      owns h kTimeBase p.tb.val s = true ∧
      s1 = replaceFirst p.tb.val s ∧
      (timeBase s1 p.tb.val).pending = some c ∧
      ((timeBase s1 p.tb.val).stepSeq ≠ p.stepSeq ∨ p.toleranceNs * 65536 < (c - p.expected).natAbs)) ∧
    (∃ (h : Caller) (p : StepAuthP) (e : Held) (s : State) (s1 : State),
      startable 0x0A03 none h e s ∧
      owns h kTimeBase p.tb.val s = true ∧
      s1 = replaceFirst p.tb.val s ∧
      (timeBase s1 p.tb.val).pending = none) ∧
    (∃ (h : Caller) (p : PpsP) (e : Held) (s : State),
      startable 0x0A04 none h e s ∧
      owns h kTimeBase p.tb.val s = true) ∧
    (∃ (h : Caller) (p : PulseP) (e : Held) (s : State),
      startable 0x0A05 none h e s ∧
      owns h kTimeBase p.tb.val s = true ∧
      p.wf = true ∧
      ((p.mode.val = 1 → (timeBase s p.tb.val).value + 1000 * unitNs ≤ p.startSec * unitSec + p.startNs * unitNs)) ∧
      ((p.mode.val = 2 → p.widthNs < p.periodNs))) ∧
    (∃ (h : Caller) (p : PtpClockP) (e : Held) (s : State),
      startable 0x0A06 none h e s ∧
      owns h kTimeBase p.tb.val s = true ∧
      p.wf = true ∧
      ((∀ x ∈ s.time.clocks, x.1 ≠ p.clock.val → x.2.bound = true → x.2.tb ≠ p.tb.val))) ∧
    (∃ (h : Caller) (p : PtpPortP) (e : Held) (s : State),
      startable 0x0A07 none h e s ∧
      owns h kTimeBase (ptpClock s p.clock.val).tb s = true ∧
      portExists p.port = true ∧
      p.enable = true ∧
      assignedBase p.port s = (ptpClock s p.clock.val).tb ∧
      (ptpClock s p.clock.val).ports.length < 32) ∧
    (∃ (h : Caller) (p : PtpPortP) (e : Held) (s : State),
      startable 0x0A07 none h e s ∧
      owns h kTimeBase (ptpClock s p.clock.val).tb s = true ∧
      portExists p.port = true ∧
      p.enable = true ∧
      assignedBase p.port s ≠ (ptpClock s p.clock.val).tb) ∧
    (∃ (h : Caller) (e : Held) (s : State),
      startable 0x0A08 none h e s) ∧
    (∃ (h : Caller) (p : TodP) (e : Held) (s : State),
      startable 0x0A09 none h e s ∧
      owns h kTree p.tree.val s = true ∧
      p.wf = true) ∧
    (∃ (h : Caller) (p : WitnessP) (e : Held) (s : State),
      startable 0x0A0A none h e s ∧
      owns h kLine p.line.val s = true ∧
      p.wf = true ∧
      line400zr p.line.val s = false) ∧
    (∃ (h : Caller) (e : Held) (s : State),
      startable 0x0A0B none h e s) ∧
    (∃ (h : Caller) (l : Fin 4) (k : Nat) (e : Held) (s : State),
      startable 0x0A0C none h e s ∧
      owns h kLine l.val s = true ∧
      (witness s l.val).step = true ∧
      (witness s l.val).stepSeq = k) ∧
    (∃ (h : Caller) (l : Fin 4) (k : Nat) (e : Held) (s : State) (peer : Int),
      startable 0x0A0C none h e s ∧
      owns h kLine l.val s = true ∧
      (witness s l.val).step = true ∧
      (witness s l.val).refLost = false ∧
      (witness s l.val).stepSeq = k ∧
      (witness s l.val).peerStep = some peer) ∧
    (∃ (h : Caller) (port : Nat) (e : Held) (s : State),
      startable 0x0A0D none h e s ∧
      portExists port = true ∧
      0x40 ≤ port ∧
      ownsPort h port s = true) ∧
    (∃ (h : Caller) (t : Fin 64) (i : Fin 512) (e : Held) (s : State),
      startable 0x0A0E none h e s ∧
      i.val ∈ admittedTerminals t.val s) :=
  ⟨⟨cal, ({ tb := 0, inputKind := 4, inputIndex := 0, firstStepGuard := false, fabricTb := false, checkEnable := true, stepGuardNs := 0, lockNs := 0, bandwidth := 0, holdoverPpb := 0, checkPps := none, checkPpsNs := 0, utcOffset := 37, maxSlewPpb := 0, slewLimitNs := 0 } : TimeBaseP), (ask 0x0A00 none cal), (asked 0x0A00 none cal base), held_startable _ _ _ _, by decide, by decide, by decide, by decide⟩,
    ⟨cal, (ask 0x0A01 none cal), (asked 0x0A01 none cal base), held_startable _ _ _ _⟩,
    ⟨cal, ({ tb := 0, atPps := none, seconds := 18446744073709551615, ns := 999999999, frac := 65535 } : TimeSetP), (ask 0x0A02 none cal), (asked 0x0A02 none cal base), held_startable _ _ _ _, by decide, by decide, by decide⟩,
    ⟨cal, ({ tb := 0, atPps := some 3, seconds := 18446744073709551615, ns := 999999999, frac := 65535 } : TimeSetP), 3, (ask 0x0A02 none cal), (asked 0x0A02 none cal base), held_startable _ _ _ _, by decide, by decide, by decide⟩,
    ⟨cal, ({ tb := 0, stepSeq := 255, expected := 6553000, toleranceNs := 1 } : StepAuthP), (ask 0x0A03 none cal), (asked 0x0A03 none cal (setTimeBase base 0 { pending := some 6553600, stepSeq := 255, servo := .stepHeld })), (replaceFirst 0 (asked 0x0A03 none cal (setTimeBase base 0 { pending := some 6553600, stepSeq := 255, servo := .stepHeld }))), 6553600, held_startable _ _ _ _, by decide, rfl, by decide, by decide, by decide⟩,
    ⟨cal, ({ tb := 0, stepSeq := 254, expected := 6553000, toleranceNs := 1 } : StepAuthP), (ask 0x0A03 none cal), (asked 0x0A03 none cal (setTimeBase base 0 { pending := some 6553600, stepSeq := 255, servo := .stepHeld })), (replaceFirst 0 (asked 0x0A03 none cal (setTimeBase base 0 { pending := some 6553600, stepSeq := 255, servo := .stepHeld }))), 6553600, held_startable _ _ _ _, by decide, rfl, by decide, by decide⟩,
    ⟨cal, ({ tb := 0, stepSeq := 0, expected := 6553000, toleranceNs := 1 } : StepAuthP), (ask 0x0A03 none cal), (asked 0x0A03 none cal base), (replaceFirst 0 (asked 0x0A03 none cal base)), held_startable _ _ _ _, by decide, rfl, by decide⟩,
    ⟨cal, ({ input := 3, tb := 0, enable := true, falling := true, inDelay := -5 } : PpsP), (ask 0x0A04 none cal), (asked 0x0A04 none cal base), held_startable _ _ _ _, by decide⟩,
    ⟨cal, ({ output := 7, tb := 0, mode := 2, activeLow := true, outDelay := 3, startSec := 5, startNs := 0, widthNs := 10, periodNs := 1000 } : PulseP), (ask 0x0A05 none cal), (asked 0x0A05 none cal base), held_startable _ _ _ _, by decide, by decide, by decide, by decide⟩,
    ⟨cal, ({ clock := 7, tb := 0, domainNumber := 43, enable := true, priority2 := 1, localPriority := 1, clockIdentity := 8 } : PtpClockP), (ask 0x0A06 none cal), (asked 0x0A06 none cal base), held_startable _ _ _ _, by decide, by decide, by decide⟩,
    ⟨cal, ({ clock := 0, enable := true, masterOnly := false, nonForwardable := false, port := 0x40, tributary := 0, localPriority := 1, delayAsymmetry := 9 } : PtpPortP), (ask 0x0A07 none cal), (asked 0x0A07 none cal (setPtpClock base 0 { enabled := true, bound := true, tb := 0 })), held_startable _ _ _ _, by decide, by decide, by decide, by decide, by decide⟩,
    ⟨cal, ({ clock := 0, enable := true, masterOnly := false, nonForwardable := false, port := 0x41, tributary := 0, localPriority := 1, delayAsymmetry := 9 } : PtpPortP), (ask 0x0A07 none cal), (asked 0x0A07 none cal (setPtpClock { base with time := { base.time with portTb := [(0x41, 1)] } } 0 { enabled := true, bound := true, tb := 0 })), held_startable _ _ _ _, by decide, by decide, by decide, by decide⟩,
    ⟨cal, (ask 0x0A08 none cal), (asked 0x0A08 none cal base), held_startable _ _ _ _⟩,
    ⟨cal, ({ tree := 0, enable := true, periodS := 0, asymPpb := 5, driftNs := 0 } : TodP), (ask 0x0A09 none cal), (asked 0x0A09 none cal base), held_startable _ _ _ _, by decide, by decide⟩,
    ⟨cal, ({ line := 0, enable := true, thresholdNs := 1000, holdS := 3600 } : WitnessP), (ask 0x0A0A none cal), (asked 0x0A0A none cal base), held_startable _ _ _ _, by decide, by decide, by decide⟩,
    ⟨cal, (ask 0x0A0B none cal), (asked 0x0A0B none cal base), held_startable _ _ _ _⟩,
    ⟨cal, 0, 9, (ask 0x0A0C none cal), (asked 0x0A0C none cal (setWitness base 0 { enabled := true, step := true, stepSeq := 9, peerStep := some 655360, reference := some 7 })), held_startable _ _ _ _, by decide, by decide, by decide⟩,
    ⟨cal, 0, 9, (ask 0x0A0C none cal), (asked 0x0A0C none cal (setWitness base 0 { enabled := true, step := true, stepSeq := 9, peerStep := some 655360, reference := some 7 })), 655360, held_startable _ _ _ _, by decide, by decide, by decide, by decide, by decide⟩,
    ⟨cal, 0x43, (ask 0x0A0D none cal), (asked 0x0A0D none cal (setOwn base 2 3 { session := 1 })), held_startable _ _ _ _, by decide, by decide, by decide⟩,
    ⟨cal, 0, 5, (ask 0x0A0E none cal), (asked 0x0A0E none cal treeUp), held_startable _ _ _ _, by decide⟩⟩

theorem witness_ServoStepsSlewsOrRefuses :
    (∃ (b : Fin 8) (x : Int) (s : State),
      (timeBase s b.val).measured = some x ∧
      (timeBase s b.val).servo = .acquiring ∧
      (timeBase s b.val).slewLimitNs * 65536 < x.natAbs ∧
      beyondGuard (timeBase s b.val) x = false) ∧
    (∃ (b : Fin 8) (x : Int) (s : State),
      (timeBase s b.val).measured = some x ∧
      (timeBase s b.val).servo = .acquiring ∧
      (timeBase s b.val).slewLimitNs * 65536 < x.natAbs ∧
      beyondGuard (timeBase s b.val) x = true) ∧
    (∃ (b : Fin 8) (x : Int) (s : State),
      (timeBase s b.val).measured = some x ∧
      ((timeBase s b.val).servo = .locked ∨ ((timeBase s b.val).servo = .acquiring ∧ x.natAbs ≤ (timeBase s b.val).slewLimitNs * 65536))) ∧
    (∃ (b : Fin 8) (s : State),
      (timeBase s b.val).servo = .acquiring ∧
      heldFor 64 (timeBase s b.val) s.now = true) ∧
    (∃ (b : Fin 8) (s : State),
      (timeBase s b.val).servo = .locked ∧
      heldFor 8 (timeBase s b.val) s.now = true) ∧
    (∃ (b : Fin 8) (s : State),
      (timeBase s b.val).servo = .stepHeld ∧
      heldFor 4 (timeBase s b.val) s.now = true) :=
  ⟨⟨0, 6553601, (setTimeBase base 0 { measured := some (6553601), servo := .acquiring, isUnset := false }), by decide, by decide, by decide, by decide⟩,
    ⟨0, 65536001, (setTimeBase base 0 { measured := some (65536001), servo := .acquiring, isUnset := false }), by decide, by decide, by decide, by decide⟩,
    ⟨0, -6553600, (setTimeBase base 0 { measured := some (-6553600), servo := .acquiring, isUnset := false }), by decide, by decide⟩,
    ⟨0, { setTimeBase base 0 { servo := .acquiring, isUnset := false, runSince := some 0 } with now := 64000000000 }, by decide, by decide⟩,
    ⟨0, { setTimeBase base 0 { servo := .locked, isUnset := false, runSince := some 0 } with now := 64000000000 }, by decide, by decide⟩,
    ⟨0, { setTimeBase base 0 { servo := .stepHeld, isUnset := false, runSince := some 0, pending := some 5 } with now := 64000000000 }, by decide, by decide⟩⟩

theorem witness_CampanileRegistersAndTimeEvents :
    (∃ (b : Fin 8) (s : State),
      s.boot.fwReady = true ∧
      (timeBase s b.val).latched = false) ∧
    (∃ (b : Fin 8) (s : State),
      s.boot.fwReady = true ∧
      (timeBase s b.val).latched = true) ∧
    (∃ (f : PciFn) (s : State),
      s.boot.fwReady = true ∧
      isPf f = true) ∧
    (∃ (f : PciFn) (b : Fin 8) (s : State),
      s.boot.fwReady = true ∧
      isPf f = true ∧
      steers f b.val s = true) ∧
    (∃ (f : PciFn) (b : Fin 8) (s : State),
      s.boot.fwReady = true ∧
      isPf f = true ∧
      steers f b.val s = false) ∧
    (∃ (f : PciFn) (b : Fin 8) (authorise : Bool) (s : State),
      s.boot.fwReady = true ∧
      isPf f = true ∧
      steers f b.val s = true ∧
      ((∀ t, (timeBase s b.val).lastApply = some t → t + 200 ≤ s.now)) ∧
      (beyondGuard (timeBase s b.val) (timeBase s b.val).phaseReg = false ∨ authorise = true)) ∧
    (∃ (f : PciFn) (b : Fin 8) (s : State) (t : Nat),
      s.boot.fwReady = true ∧
      isPf f = true ∧
      steers f b.val s = true ∧
      (timeBase s b.val).lastApply = some t ∧
      s.now < t + 200) ∧
    (∃ (i : Fin 4) (s : State),
      (pps s i.val).enabled = true) ∧
    (∃ (i : Fin 4) (s : State),
      (pps s i.val).present = true ∧
      lapsed (pps s i.val).edgeAt 2500000000 s = true) ∧
    (∃ (o : Nat) (s : State) (x : Nat),
      (pulse s o).next = some x ∧
      (pulse s o).mode = 1 ∧
      edgeDue (pulse s o) x s = true ∧
      (timeBase s (pulse s o).tb).checkFault = false) ∧
    (∃ (b : Fin 8) (d : Int) (s : State),
      (timeBase s b.val).checkEnable = true ∧
      secOf (timeBase s b.val).value ≠ (timeBase s b.val).checkedSec ∧
      4 * unitNs < (((timeBase s b.val).value : Int) - (addFrac (timeBase s b.val).check d : Int)).natAbs) ∧
    (∃ (b : Fin 8) (d : Int) (s : State),
      (timeBase s b.val).checkEnable = true ∧
      secOf (timeBase s b.val).value ≠ (timeBase s b.val).checkedSec ∧
      (timeBase s b.val).checkPps = none ∧
      (((timeBase s b.val).value : Int) - (addFrac (timeBase s b.val).check d : Int)).natAbs ≤ 4 * unitNs) ∧
    (∃ (f : PtpFrame) (s : State) (s1 : State) (k : Nat) (c : PtpClock) (p : PtpPort),
      s1 = portBoundary f.port s ∧
      stampsAt f.port s1 = true ∧
      s1.time.clocks.find? (fun e => e.2.enabled && e.2.bound && decide (e.2.domainNumber = f.domainNumber) && decide (portTimeBase f.port s1 = e.2.tb) && e.2.ports.any (ptpPortMatches f)) = some (k, c) ∧
      c.ports.find? (ptpPortMatches f) = some p) ∧
    (∃ (c : Fin 8) (s : State),
      (ptpClock s c.val).enabled = true ∧
      lapsed (ptpClock s c.val).syncAt 1000000000 s = true) ∧
    (∃ (c : Fin 8) (s : State) (s1 : State) (p : PtpPort),
      (ptpClock s c.val).enabled = true ∧
      (timeBase s (ptpClock s c.val).tb).checkFault = false ∧
      messageDue 0 (ptpClock s c.val) s.now = true ∧
      (ptpClock s c.val).ports = [p] ∧
      p.state = 6 ∧
      s1 = portBoundary p.port s ∧
      portTimeBase p.port s1 = (ptpClock s c.val).tb) ∧
    (∃ (t : Fin 64) (n : Nat) (s : State),
      (tod s t.val).enabled = true ∧
      treeOn t.val s = true ∧
      treeDoubleRate t.val s = false ∧
      (timeBase s (treeTimeBase t.val s)).checkFault = false ∧
      todDue t.val s = true ∧
      (tree s t.val).superframe + 80 ≤ n) ∧
    (∃ (l : Fin 4) (bytes : List Byte) (s : State),
      (witness s l.val).enabled = true ∧
      lineStamps l.val s = true ∧
      line400zr l.val s = false ∧
      leavesIm l.val s = false ∧
      parseWitness bytes = none) ∧
    (∃ (l : Fin 4) (s : State),
      (witness s l.val).enabled = true ∧
      (witness s l.val).reference.isSome = true ∧
      (witness s l.val).refLost = false ∧
      lineStamps l.val s = false ∧
      lapsed (framer s l.val).mfSince ((witness s l.val).holdS * 1000000000) s = true) ∧
    (∃ (s : State),
      s.time.stopped = true ∧
      s.pwr.keep.asleep = false) :=
  ⟨⟨0, (setTimeBase base 0 { value := 123456789012345678, latched := false, snapshot := 5, inputKind := 4, servo := .host, phaseReg := 6553600, isUnset := false }), by decide, by decide⟩,
    ⟨0, (setTimeBase base 0 { value := 123456789012345678, latched := true, snapshot := 5, inputKind := 4, servo := .host, phaseReg := 6553600, isUnset := false }), by decide, by decide⟩,
    ⟨pfA, (setTimeBase base 0 { value := 123456789012345678, latched := false, snapshot := 5, inputKind := 4, servo := .host, phaseReg := 6553600, isUnset := false }), by decide, by decide⟩,
    ⟨pfA, 0, (setTimeBase base 0 { value := 123456789012345678, latched := false, snapshot := 5, inputKind := 4, servo := .host, phaseReg := 6553600, isUnset := false }), by decide, by decide, by decide⟩,
    ⟨pfA, 1, base, by decide, by decide, by decide⟩,
    ⟨pfA, 0, false, { (setTimeBase base 0 { value := 123456789012345678, latched := false, snapshot := 5, inputKind := 4, servo := .host, phaseReg := 6553600, isUnset := false, lastApply := some 100 }) with now := 300 }, by decide, by decide, by decide, by decide, by decide⟩,
    ⟨pfA, 0, { (setTimeBase base 0 { value := 123456789012345678, latched := false, snapshot := 5, inputKind := 4, servo := .host, phaseReg := 6553600, isUnset := false, lastApply := some 100 }) with now := 299 }, 100, by decide, by decide, by decide, by decide, by decide⟩,
    ⟨3, (setPps base 3 { enabled := true }), by decide⟩,
    ⟨3, { setPps base 3 { enabled := true, present := true } with now := 3000000000 }, by decide, by decide⟩,
    ⟨7, (setPulse base 7 { mode := 1, next := some 900 }), 900, by decide, by decide, by decide, by decide⟩,
    ⟨7, 0, (setTimeBase base 7 { checkEnable := true, value := 2000000000 * unitNs, check := 0 }), by decide, by decide, by decide⟩,
    ⟨7, 0, (setTimeBase base 7 { checkEnable := true, value := 2000000000 * unitNs, check := 2000000000 * unitNs }), by decide, by decide, by decide, by decide⟩,
    ⟨({ port := 0x40, tributary := 0, domainNumber := 24, kind := 0, portState := 9, seq := 1, twoStep := false, stamp := 100, correction := 0, parent := 1, stepsRemoved := 1, clockClass := 6 } : PtpFrame), (setPtpClock lineUp 0 ({ enabled := true, bound := true, tb := 0, domainNumber := 24, ports := [({ port := 0x40, tributary := 0, masterOnly := false, nonForwardable := false, localPriority := 1, delayAsymmetry := 9, state := 9, blocked := false } : PtpPort)] } : PtpClock)), (portBoundary 0x40 (setPtpClock lineUp 0 ({ enabled := true, bound := true, tb := 0, domainNumber := 24, ports := [({ port := 0x40, tributary := 0, masterOnly := false, nonForwardable := false, localPriority := 1, delayAsymmetry := 9, state := 9, blocked := false } : PtpPort)] } : PtpClock))), 0, ({ enabled := true, bound := true, tb := 0, domainNumber := 24, ports := [({ port := 0x40, tributary := 0, masterOnly := false, nonForwardable := false, localPriority := 1, delayAsymmetry := 9, state := 9, blocked := false } : PtpPort)] } : PtpClock), ({ port := 0x40, tributary := 0, masterOnly := false, nonForwardable := false, localPriority := 1, delayAsymmetry := 9, state := 9, blocked := false } : PtpPort), rfl, by decide, by decide, by decide⟩,
    ⟨7, { setPtpClock base 7 ({ enabled := true, bound := true, tb := 0, domainNumber := 24, ports := [({ port := 0x40, tributary := 0, masterOnly := false, nonForwardable := false, localPriority := 1, delayAsymmetry := 9, state := 9, blocked := false } : PtpPort)] } : PtpClock) with now := 2000000000 }, by decide, by decide⟩,
    ⟨7, (setPtpClock base 7 ({ enabled := true, bound := true, tb := 0, domainNumber := 24, ports := [({ port := 0x40, tributary := 0, masterOnly := false, nonForwardable := false, localPriority := 1, delayAsymmetry := 9, state := 6, blocked := false } : PtpPort)] } : PtpClock)), (portBoundary 0x40 (setPtpClock base 7 ({ enabled := true, bound := true, tb := 0, domainNumber := 24, ports := [({ port := 0x40, tributary := 0, masterOnly := false, nonForwardable := false, localPriority := 1, delayAsymmetry := 9, state := 6, blocked := false } : PtpPort)] } : PtpClock))), ({ port := 0x40, tributary := 0, masterOnly := false, nonForwardable := false, localPriority := 1, delayAsymmetry := 9, state := 6, blocked := false } : PtpPort), by decide, by decide, by decide, by decide, by decide, rfl, by decide⟩,
    ⟨0, 200, { treeUp with time := { treeUp.time with tods := [(0, { enabled := true })] } }, by decide, by decide, by decide, by decide, by decide, by decide⟩,
    ⟨0, [1, 2], (setWitness lineUp 0 { enabled := true }), by decide, by decide, by decide, by decide, by decide⟩,
    ⟨3, { setWitness base 3 { enabled := true, reference := some 5, stepSeq := 65535 } with now := 3000000000000 }, by decide, by decide, by decide, by decide, by decide⟩,
    ⟨{ base with time := { base.time with stopped := true } }, by decide, by decide⟩⟩

theorem witness_ProtectionCommandsAndHandover :
    (∃ (h : Caller) (p : ProtP) (e : Held) (s : State),
      startable 0x0B00 none h e s ∧
      owns h kTree p.tree.val s = true ∧
      p.wf = true ∧
      (tree s p.tree.val).enabled = false ∧
      (member s p.tree.val).enabled = false ∧
      p.arbiter ≠ p.peer ∧
      s.fab.address ≠ some p.arbiter.val) ∧
    (∃ (h : Caller) (p : ProtP) (e : Held) (s : State),
      startable 0x0B00 none h e s ∧
      owns h kTree p.tree.val s = true ∧
      p.wf = true ∧
      ((tree s p.tree.val).enabled = true ∨ (member s p.tree.val).enabled = true)) ∧
    (∃ (h : Caller) (t : Fin 64) (c : ProtP) (e : Held) (s : State) (s1 : State),
      startable 0x0B01 (some { kind := 2, scope := t.val }) h e s ∧
      owns h kTree t.val s = true ∧
      (member s t.val).cfg = some c ∧
      (member s t.val).enabled = false ∧
      protDeps t.val s = true ∧
      (tget none c.group.val s.boot.pairingKeys).isSome = true ∧
      enablePort t.val (treeRate (tree s t.val).mode) s = .placed s1) ∧
    (∃ (h : Caller) (t : Fin 64) (c : ProtP) (e : Held) (s : State),
      startable 0x0B01 (some { kind := 2, scope := t.val }) h e s ∧
      owns h kTree t.val s = true ∧
      (member s t.val).cfg = some c ∧
      (member s t.val).enabled = false ∧
      protDeps t.val s = false) ∧
    (∃ (h : Caller) (t : Fin 64) (force : Bool) (e : Held) (s : State),
      startable 0x0B02 none h e s ∧
      owns h kTree t.val s = true ∧
      ((member s t.val).holding = false ∨ force = true)) ∧
    (∃ (h : Caller) (t : Fin 64) (e : Held) (s : State),
      startable 0x0B02 none h e s ∧
      owns h kTree t.val s = true ∧
      (member s t.val).holding = true) ∧
    (∃ (h : Caller) (t : Fin 64) (e : Held) (s : State),
      startable 0x0B03 none h e s ∧
      owns h kTree t.val s = true ∧
      (member s t.val).holding = true ∧
      (member s t.val).peerCurrent = true ∧
      (member s t.val).peerHealthy = true ∧
      (member s t.val).peerLost = false) ∧
    (∃ (h : Caller) (t : Fin 64) (e : Held) (s : State),
      startable 0x0B03 none h e s ∧
      owns h kTree t.val s = true ∧
      ((member s t.val).holding = false ∨ (member s t.val).peerCurrent = false ∨ (member s t.val).peerHealthy = false)) ∧
    (∃ (h : Caller) (t : Fin 64) (e : Held) (s : State),
      startable 0x0B04 none h e s ∧
      owns h kTree t.val s = true ∧
      protConfigured t.val s = true) ∧
    (∃ (h : Caller) (t : Fin 64) (us : Nat) (e : Held) (s : State),
      startable 0x0B05 (some { kind := 6, scope := t.val }) h e s ∧
      owns h kTree t.val s = true ∧
      125 ≤ us ∧
      us ≤ 10000 ∧
      us % 125 = 0 ∧
      (member s t.val).state = 3) ∧
    (∃ (t : Fin 64) (s : State),
      (member s t.val).state = 7 ∧
      (member s t.val).testEnds ≤ s.now) ∧
    (∃ (h : Caller) (t : Fin 64) (c : ProtP) (e : Held) (s : State) (d : Nat) (s1 : State),
      startable 0x0B06 none h e s ∧
      owns h kTree t.val s = true ∧
      (member s t.val).cfg = some c ∧
      d = (draw s).1 % (p256.n - 1) + 1 ∧
      s1 = emit (.pairing c.peer.val (ownPairingMessage d c.group.val)) (draw s).2) ∧
    (∃ (h : Caller) (p : ArbiterP) (e : Held) (s : State),
      startable 0x0B07 none h e s ∧
      ownsDevice h s = true ∧
      p.serve = true ∧
      groupsServed p.group.val s < 256) ∧
    (∃ (t : Fin 64) (s : State) (c : ProtP),
      (member s t.val).enabled = true ∧
      (member s t.val).holding = true ∧
      (member s t.val).cfg = some c ∧
      ((∀ l, (member s t.val).hbSent = some l → l + 5000 ≤ s.now)) ∧
      canSend (peerOf t.val s) s = true) ∧
    (∃ (t : Fin 64) (bytes : List Byte) (g : LeaseMsg) (s : State) (c : ProtP),
      (member s t.val).cfg = some c ∧
      g = readLease bytes ∧
      soundMessage g = true ∧
      g.group = c.group ∧
      g.kind = leaseHeartbeat ∧
      (member s t.val).enabled = true ∧
      g.sender = c.peer ∧
      g.healthy = true ∧
      (member s t.val).holding = true ∧
      (member s t.val).claiming = false) ∧
    (∃ (t : Fin 64) (s : State) (c : ProtP),
      (member s t.val).cfg = some c ∧
      (member s t.val).enabled = true ∧
      (member s t.val).peerLost = false ∧
      lapsed ((member s t.val).hbLast.getD (member s t.val).enabledAt) (usNs c.hbTimeoutUs) s = true) ∧
    (∃ (t : Fin 64) (s : State),
      (member s t.val).fence = true) ∧
    (∃ (t : Fin 64) (s : State) (c : ProtP) (w : Nat),
      (member s t.val).cfg = some c ∧
      (member s t.val).wtrSince = some w ∧
      (member s t.val).state = 8 ∧
      (member s t.val).taking = none ∧
      wtrHolds (member s t.val) = true ∧
      w + c.wtrS * 1000000000 ≤ s.now) ∧
    (∃ (t : Fin 64) (s : State) (b : Nat) (x : Bool),
      (member s t.val).taking = some (b, x) ∧
      (member s t.val).holding = false ∧
      untilFrame t.val b s ≤ 12000 ∧
      -20000 ≤ untilFrame t.val b s ∧
      (((member s t.val).reverting = true → ∀ l, (member s t.val).revertSent = some l → l + 5000 ≤ s.now))) ∧
    (∃ (t : Fin 64) (s : State) (c : ProtP) (b : Nat) (r : Nat × Nat),
      (member s t.val).dueRelease = some b ∧
      (member s t.val).holding = true ∧
      (member s t.val).cfg = some c ∧
      messageComes c.group s = false ∧
      untilFrame t.val b s ≤ 4000 ∧
      r ∈ (member s t.val).reverts ∧
      r.1 = b ∧
      s.now ≤ r.2 + 10000) ∧
    (∃ (t : Fin 64) (s : State) (c : ProtP) (b : Nat),
      (member s t.val).dueRelease = some b ∧
      (member s t.val).holding = true ∧
      (member s t.val).cfg = some c ∧
      messageComes c.group s = false ∧
      untilFrame t.val b s ≤ 4000 ∧
      ((∀ r ∈ (member s t.val).reverts, r.1 = b → r.2 + 10000 < s.now))) ∧
    (∃ (sof : List Byte) (payload : List Byte) (m : MarlPiece) (s : State) (t : Nat),
      m = readPiece sof payload ∧
      memberTree m.group s = some t ∧
      (member s t).enabled = true ∧
      flitListed sof = true ∧
      m.pieceOffset + m.bytes.length ≤ (if m.partB then 0x1C0000 else 0x40000)) ∧
    (∃ (t : Fin 64) (partB : Bool) (superframe : Nat) (s : State) (k : Nat),
      slotOf t.val superframe s = some k ∧
      (member s t.val).enabled = true ∧
      (member s t.val).holding = false ∧
      (if partB then (image s t.val k).doneB else (image s t.val k).doneA) = false) :=
  ⟨⟨cal, { protP with arbiter := 8, hbTimeoutUs := 0, wtrS := 0, staleLimit := 0 }, (ask 0x0B00 none cal), (asked 0x0B00 none cal (memberOf {})), held_startable _ _ _ _, by decide, by decide, by decide, by decide, by decide, by decide⟩,
    ⟨cal, protP, (ask 0x0B00 none cal), (asked 0x0B00 none cal (memberOf { enabled := true })), held_startable _ _ _ _, by decide, by decide, by decide⟩,
    ⟨cal, 0, protP, (ask 0x0B01 (some { kind := 2, scope := (0 : Fin 64).val }) cal), (asked 0x0B01 (some { kind := 2, scope := (0 : Fin 64).val }) cal (let s := memberOf {}; { s with boot := { s.boot with pairingKeys := [(77, some 5)] } })), (match enablePort 0 (treeRate 0) (asked 0xB01 (some { kind := 2, scope := 0 }) cal (let s := memberOf {}; { s with boot := { s.boot with pairingKeys := [(77, some 5)] } })) with | .placed x => x | _ => base), held_startable _ _ _ _, by decide, by decide, by decide, by decide, by decide, rfl⟩,
    ⟨cal, 0, protP, (ask 0x0B01 (some { kind := 2, scope := (0 : Fin 64).val }) cal), (asked 0x0B01 (some { kind := 2, scope := (0 : Fin 64).val }) cal (setTree (memberOf {}) 0 {})), held_startable _ _ _ _, by decide, by decide, by decide, by decide⟩,
    ⟨cal, 0, true, (ask 0x0B02 none cal), (asked 0x0B02 none cal (memberOf { enabled := true, holding := true })), held_startable _ _ _ _, by decide, by decide⟩,
    ⟨cal, 0, (ask 0x0B02 none cal), (asked 0x0B02 none cal (memberOf { enabled := true, holding := true })), held_startable _ _ _ _, by decide, by decide⟩,
    ⟨cal, 0, (ask 0x0B03 none cal), (asked 0x0B03 none cal (memberOf { enabled := true, holding := true, peerCurrent := true, peerHealthy := true })), held_startable _ _ _ _, by decide, by decide, by decide, by decide, by decide⟩,
    ⟨cal, 0, (ask 0x0B03 none cal), (asked 0x0B03 none cal (memberOf {})), held_startable _ _ _ _, by decide, by decide⟩,
    ⟨cal, 0, (ask 0x0B04 none cal), (asked 0x0B04 none cal (memberOf {})), held_startable _ _ _ _, by decide, by decide⟩,
    ⟨cal, 0, 125, (ask 0x0B05 (some { kind := 6, scope := (0 : Fin 64).val }) cal), (asked 0x0B05 (some { kind := 6, scope := (0 : Fin 64).val }) cal (memberOf { enabled := true, state := 3 })), held_startable _ _ _ _, by decide, by decide, by decide, by decide, by decide⟩,
    ⟨0, (memberOf { enabled := true, state := 7 }), by decide, by decide⟩,
    ⟨cal, 0, protP, (ask 0x0B06 none cal), (asked 0x0B06 none cal (memberOf {})), ((draw (asked 0xB06 none cal (memberOf {}))).1 % (p256.n - 1) + 1), (emit (.pairing 9 (ownPairingMessage ((draw (asked 0xB06 none cal (memberOf {}))).1 % (p256.n - 1) + 1) 77)) (draw (asked 0xB06 none cal (memberOf {}))).2), held_startable _ _ _ _, by decide, by decide, rfl, rfl⟩,
    ⟨cal, ({ group := 4095, serve := true, hostMode := true, armedPrimary := true, armedSecondary := false, primary := 3, secondary := 9 } : ArbiterP), (ask 0x0B07 none cal), (asked 0x0B07 none cal base), held_startable _ _ _ _, by decide, by decide, by decide⟩,
    ⟨0, (memberOf { enabled := true, holding := true, live := true, state := 2 }), protP, by decide, by decide, by decide, (by intro l hl; cases hl), by decide⟩,
    ⟨0, (lease leaseHeartbeat 5 0), (readLease (lease leaseHeartbeat 5 0)), (memberOf { enabled := true, holding := true, live := true, state := 2 }), protP, by decide, rfl, by decide, by decide, by decide, by decide, by decide, by decide, by decide, by decide⟩,
    ⟨0, { memberOf { enabled := true, state := 3, current := true } with now := 12001 }, protP, by decide, by decide, by decide, by decide⟩,
    ⟨0, (memberOf { enabled := true, fence := true }), by decide⟩,
    ⟨0, { memberOf { enabled := true, state := 8, wtrSince := some 0, hbHealthy := true, hbLast := some 0, current := true } with now := 300000000000 }, protP, 0, by decide, by decide, by decide, by decide, by decide, by decide⟩,
    ⟨0, (memberOf { enabled := true, state := 3, taking := some (0, true) }), 0, true, by decide, by decide, by decide, by decide, by decide⟩,
    ⟨0, (memberOf { enabled := true, holding := true, dueRelease := some 0, reverts := [(0, 0)] }), protP, 0, (0, 0), by decide, by decide, by decide, by decide, by decide, by decide, by decide, by decide⟩,
    ⟨0, { (memberOf { enabled := true, holding := true, dueRelease := some 0, reverts := [(0, 0)] }) with now := 10001 }, protP, 0, by decide, by decide, by decide, by decide, by decide, by decide⟩,
    ⟨(flitBytes 1 [(1, 4), (1, 9), (1, 3), (1, 2), (1, 0), (2, 0), (4, 0), (2, 1), (1, 0), (1, 0), (2, 77), (1, 0), (1, 3), (4, 0x3FFFF), (4, 9)]), [5], (readPiece (flitBytes 1 [(1, 4), (1, 9), (1, 3), (1, 2), (1, 0), (2, 0), (4, 0), (2, 1), (1, 0), (1, 0), (2, 77), (1, 0), (1, 3), (4, 0x3FFFF), (4, 9)]) [5]), (memberOf { enabled := true }), 0, rfl, by decide, by decide, by decide, by decide⟩,
    ⟨0, false, 9, (setImage (memberOf { enabled := true }) 0 3 { superframe := 9, piecesA := [(0, 64)] }), 3, by decide, by decide, by decide, by decide⟩⟩

theorem witness_LeaseMember :
    (∃ (t : Fin 64) (s : State) (c : ProtP),
      fenceDue t.val s = true ∧
      (member s t.val).cfg = some c) ∧
    (∃ (t : Fin 64) (served : Bool) (s : State) (c : ProtP),
      (member s t.val).cfg = some c ∧
      fenceDue t.val s = false ∧
      (member s t.val).enabled = true ∧
      grantComes t.val s = false ∧
      ((∀ l, (member s t.val).lastSent = some l → l + 5000 ≤ s.now)) ∧
      (((member s t.val).holding = true ∧ healthy t.val served s = true) ∨ ((member s t.val).holding = false ∧ (member s t.val).claiming = true))) ∧
    (∃ (t : Fin 64) (s : State),
      fenceDue t.val s = false ∧
      grantComes t.val s = true) ∧
    (∃ (t : Fin 64) (served : Bool) (s : State),
      (member s t.val).holding = true ∧
      fenceDue t.val s = false ∧
      grantComes t.val s = false ∧
      healthy t.val served s = false) ∧
    (∃ (t : Fin 64) (bytes : List Byte) (g : LeaseMsg) (s : State) (c : ProtP) (x : Nat × Nat),
      (member s t.val).cfg = some c ∧
      g = readLease bytes ∧
      fenceDue t.val s = false ∧
      soundMessage g = true ∧
      g.group = c.group ∧
      g.kind = leaseGrant ∧
      (member s t.val).enabled = true ∧
      s.fab.address = some g.target.val ∧
      (member s t.val).epoch ≤ g.epoch ∧
      (member s t.val).holding = true ∧
      (member s t.val).requestDue = none ∧
      (member s t.val).sent.find? (fun e => decide (e.1 = g.seq) && decide (s.now ≤ e.2 + 18000)) = some x) ∧
    (∃ (t : Fin 64) (bytes : List Byte) (g : LeaseMsg) (s : State) (c : ProtP) (x : Nat × Nat),
      (member s t.val).cfg = some c ∧
      g = readLease bytes ∧
      soundMessage g = true ∧
      g.group = c.group ∧
      g.kind = leaseGrant ∧
      (member s t.val).enabled = true ∧
      s.fab.address = some g.target.val ∧
      (member s t.val).epoch ≤ g.epoch ∧
      (member s t.val).holding = false ∧
      (member s t.val).requestDue = none ∧
      (member s t.val).sent.find? (fun e => decide (e.1 = g.seq) && decide (s.now ≤ e.2 + 18000)) = some x) ∧
    (∃ (t : Fin 64) (bytes : List Byte) (g : LeaseMsg) (s : State) (c : ProtP),
      (member s t.val).cfg = some c ∧
      g = readLease bytes ∧
      fenceDue t.val s = false ∧
      soundMessage g = true ∧
      g.group = c.group ∧
      (member s t.val).requestDue = none ∧
      ((g.epoch < (member s t.val).epoch ∨ s.fab.address ≠ some g.target.val ∨ ∀ x ∈ (member s t.val).sent, x.1 = g.seq → x.2 + 18000 < s.now))) :=
  ⟨⟨0, { (memberOf { enabled := true, holding := true, live := true, state := 2, fenceAt := 18000 }) with now := 18000 }, protP, by decide, by decide⟩,
    ⟨0, true, { (memberOf { enabled := true, holding := true, live := true, state := 2, fenceAt := 18000, lastSent := some 0 }) with now := 5000 }, protP, by decide, by decide, by decide, by decide, by decide, by decide⟩,
    ⟨0, { (memberOf { enabled := true, holding := true, live := true, state := 2, fenceAt := 18000 }) with now := 5000, pending := [.leaseGrant 0 []] }, by decide, by decide⟩,
    ⟨0, false, { (memberOf { enabled := true, holding := true, live := true, state := 2, fenceAt := 18000, lastSent := some 0 }) with now := 5000 }, by decide, by decide, by decide, by decide⟩,
    ⟨0, (lease leaseGrant 5 0), (readLease (lease leaseGrant 5 0)), { (memberOf { enabled := true, holding := true, live := true, state := 2, fenceAt := 18001, sent := [(5, 0)] }) with now := 18000 }, protP, (5, 0), by decide, rfl, by decide, by decide, by decide, by decide, by decide, by decide, by decide, by decide, by decide, by decide⟩,
    ⟨0, (lease leaseGrant 5 3), (readLease (lease leaseGrant 5 3)), { memberOf { enabled := true, claiming := true, fence := true, sent := [(5, 0)] } with now := 18000 }, protP, (5, 0), by decide, rfl, by decide, by decide, by decide, by decide, by decide, by decide, by decide, by decide, by decide⟩,
    ⟨0, (lease leaseGrant 5 3), (readLease (lease leaseGrant 5 3)), { memberOf { enabled := true, sent := [(5, 0)] } with now := 18001 }, protP, by decide, rfl, by decide, by decide, by decide, by decide, by decide⟩⟩

theorem witness_ArbiterKeepsOneHolder :
    (∃ (bytes : List Byte) (g : LeaseMsg) (s : State) (m : Nat),
      g = readLease bytes ∧
      (arbiter s g.group.val).serve = true ∧
      (arbiter s g.group.val).holder = some m ∧
      (arbiter s g.group.val).presented = [] ∧
      s.now < (arbiter s g.group.val).expiry ∧
      ((g.kind = leaseRelease → g.sender.val ≠ m))) ∧
    (∃ (bytes : List Byte) (g : LeaseMsg) (s : State),
      g = readLease bytes ∧
      (arbiter s g.group.val).serve = true ∧
      (arbiter s g.group.val).holder = some g.sender.val ∧
      (arbiter s g.group.val).presented = [] ∧
      messageComes g.group s = false ∧
      s.now < (arbiter s g.group.val).expiry ∧
      soundMessage g = true ∧
      g.kind = leaseRenew) ∧
    (∃ (bytes : List Byte) (g : LeaseMsg) (s : State) (m : Nat),
      g = readLease bytes ∧
      (arbiter s g.group.val).serve = true ∧
      (arbiter s g.group.val).holder = some m ∧
      (arbiter s g.group.val).presented = [] ∧
      messageComes g.group s = false ∧
      s.now < (arbiter s g.group.val).expiry ∧
      soundMessage g = true ∧
      g.kind = leaseClaim ∧
      g.sender.val ≠ m) ∧
    (∃ (g : Fin 4096) (s : State) (q : Queued),
      (arbiter s g.val).serve = true ∧
      (arbiter s g.val).expiry ≤ s.now ∧
      messageComes g s = false ∧
      (arbiter s g.val).queue = [q] ∧
      s.now ≤ q.received + 10000 ∧
      armed (arbiter s g.val) q.sender s.now = true) ∧
    (∃ (g : Fin 4096) (s : State),
      (arbiter s g.val).serve = true ∧
      s.now < (arbiter s g.val).expiry ∧
      (arbiter s g.val).holder.isSome = true) :=
  ⟨⟨(lease leaseRelease 5 0), (readLease (lease leaseRelease 5 0)), (setArbiter fabUp 77 { serve := true, primary := 9, secondary := 3, holder := some 3, expiry := 1 }), 3, rfl, by decide, by decide, by decide, by decide, by decide⟩,
    ⟨(lease leaseRenew 5 0), (readLease (lease leaseRenew 5 0)), (setArbiter fabUp 77 { serve := true, primary := 9, secondary := 3, holder := some 9, expiry := 1 }), rfl, by decide, by decide, by decide, by decide, by decide, by decide, by decide⟩,
    ⟨(lease leaseClaim 5 0), (readLease (lease leaseClaim 5 0)), (setArbiter fabUp 77 { serve := true, primary := 9, secondary := 3, holder := some 3, expiry := 1 }), 3, rfl, by decide, by decide, by decide, by decide, by decide, by decide, by decide, by decide⟩,
    ⟨77, { (setArbiter fabUp 77 { serve := true, primary := 9, secondary := 3, holder := some 3, expiry := 10000, epoch := 4294967295, queue := [({ sender := 9, kind := 1, seq := 5, received := 0 } : Queued)] }) with now := 10000 }, ({ sender := 9, kind := 1, seq := 5, received := 0 } : Queued), by decide, by decide, by decide, by decide, by decide, by decide⟩,
    ⟨77, (setArbiter fabUp 77 { serve := true, primary := 9, secondary := 3, holder := some 3, expiry := 1 }), by decide, by decide, by decide⟩⟩

theorem witness_LaneAndFabricCommandsComplete :
    (∃ (h : Caller) (p : LaneGroupP) (e : Held) (s : State),
      startable 0x0C00 none h e s ∧
      owns h kLaneGroup p.group.val s = true ∧
      p.wf = true ∧
      (p.mode.val = (laneGroup s p.group.val).mode ∨ groupInUse p.group.val s = false)) ∧
    (∃ (h : Caller) (p : LaneGroupP) (e : Held) (s : State),
      startable 0x0C00 none h e s ∧
      owns h kLaneGroup p.group.val s = true ∧
      p.wf = true ∧
      p.mode.val ≠ (laneGroup s p.group.val).mode ∧
      groupInUse p.group.val s = true) ∧
    (∃ (h : Caller) (p : ClientP) (e : Held) (s : State) (s1 : State),
      startable 0x0C01 none h e s ∧
      owns h kLaneGroup (groupOfLane p.lane.val) s = true ∧
      p.wf = true ∧
      (cup s (92 + groupOfLane p.lane.val)).state = .active ∧
      p.enable = true ∧
      p.trained = true ∧
      p.lane.val % p.width = 0 ∧
      (laneGroup s (groupOfLane p.lane.val)).mode = 0 ∧
      laneTaken p.lane.val p.width s = false ∧
      (portEnt s (0x80 + p.lane.val)).enabled = false ∧
      enablePort (0x80 + p.lane.val) (200 * p.width) s = .placed s1) ∧
    (∃ (h : Caller) (p : ClientP) (e : Held) (s : State),
      startable 0x0C01 none h e s ∧
      owns h kLaneGroup (groupOfLane p.lane.val) s = true ∧
      p.wf = true ∧
      (cup s (92 + groupOfLane p.lane.val)).state = .active ∧
      p.enable = false) ∧
    (∃ (h : Caller) (p : LinkP) (e : Held) (s : State) (s1 : State),
      startable 0x0C02 none h e s ∧
      owns h kLaneGroup (groupOfLane (portLink p.port / 2)) s = true ∧
      p.wf = true ∧
      (cup s (92 + groupOfLane (portLink p.port / 2))).state = .active ∧
      p.enable = true ∧
      linkExists (portLink p.port) s = true ∧
      enablePort p.port 200 s = .placed s1) ∧
    (∃ (h : Caller) (p : LinkP) (e : Held) (s : State),
      startable 0x0C02 none h e s ∧
      owns h kLaneGroup (groupOfLane (portLink p.port / 2)) s = true ∧
      p.wf = true ∧
      (cup s (92 + groupOfLane (portLink p.port / 2))).state = .active ∧
      p.enable = false) ∧
    (∃ (h : Caller) (e : Held) (s : State),
      startable 0x0C03 none h e s) ∧
    (∃ (h : Caller) (x : Fin 48) (l : Fin 2) (e : Held) (s : State),
      startable 0x0C04 (some { kind := 3, scope := x.val }) h e s ∧
      owns h kLaneGroup (groupOfLane x.val) s = true ∧
      (cup s (92 + groupOfLane x.val)).state = .active ∧
      (link s (linkKey x.val l.val)).enabled = true) ∧
    (∃ (h : Caller) (x : Fin 48) (dwell : Nat) (e : Held) (s : State),
      startable 0x0C05 (some { kind := 4, scope := x.val }) h e s ∧
      owns h kLaneGroup (groupOfLane x.val) s = true ∧
      (cup s (92 + groupOfLane x.val)).state = .active ∧
      20 ≤ dwell ∧
      dwell ≤ 34) ∧
    (∃ (x : Fin 48) (l : Fin 2) (s : State) (full : Bool) (dwell : Nat) (since : Nat),
      (link s (linkKey x.val l.val)).scan = some (full, dwell, since) ∧
      since + scanNs full dwell ≤ s.now) ∧
    (∃ (h : Caller) (x : Fin 48) (e : Held) (s : State),
      startable 0x0C06 (some { kind := 5, scope := x.val }) h e s ∧
      owns h kLaneGroup (groupOfLane x.val) s = true ∧
      (cup s (92 + groupOfLane x.val)).state = .active) ∧
    (∃ (h : Caller) (prio : Nat) (e : Held) (s : State),
      startable 0x0C07 none h e s ∧
      ownsDevice h s = true ∧
      prio < 256) ∧
    (∃ (h : Caller) (e : Held) (s : State),
      startable 0x0C08 none h e s) ∧
    (∃ (h : Caller) (d : Fin 64) (r : Route) (e : Held) (s : State),
      startable 0x0C09 none h e s ∧
      routeTo d.val s = some r ∧
      reachable d.val s = true) ∧
    (∃ (h : Caller) (d : Fin 64) (e : Held) (s : State),
      startable 0x0C09 none h e s ∧
      reachable d.val s = false) ∧
    (∃ (h : Caller) (p : BindP) (c : QueueP) (e : Held) (s : State),
      startable 0x0C0A none h e s ∧
      ownsDomain h p.domain.val s = true ∧
      p.unbind = false ∧
      (queue s p.queue.val).cfg = some c ∧
      c.targetKind.val = 3 ∧
      c.domain = p.domain ∧
      ((∀ b ∈ s.fab.binds, b.dest = p.dest.val → b.domain ≠ p.domain.val))) ∧
    (∃ (h : Caller) (p : ForwardP) (e : Held) (s : State) (n : Nat),
      startable 0x0C0B none h e s ∧
      h.blockLen = 128 + (innerHeader p).caller.blockLen ∧
      (innerHeader p).caller.blockLen ≤ 8192 ∧
      p.remoteQueue = none ∧
      s.fab.address.isSome = true ∧
      s.fab.address ≠ some p.address.val ∧
      reachable p.address.val s = true ∧
      n = (s.fab.forwards + 1) % 2 ^ 31) ∧
    (∃ (h : Caller) (p : ForwardP) (e : Held) (s : State),
      startable 0x0C0B none h e s ∧
      h.blockLen = 128 + (innerHeader p).caller.blockLen ∧
      (innerHeader p).caller.blockLen ≤ 8192 ∧
      p.remoteQueue = none ∧
      reachable p.address.val s = false) :=
  ⟨⟨cal, ({ group := 0, mode := 2, reach := 1, fomFloor := 255, fomRetrain := 255, retryCount := 0, cost := 65535 } : LaneGroupP), (ask 0x0C00 none cal), (asked 0x0C00 none cal base), held_startable _ _ _ _, by decide, by decide, by decide⟩,
    ⟨cal, ({ group := 0, mode := 1, reach := 1, fomFloor := 255, fomRetrain := 255, retryCount := 0, cost := 65535 } : LaneGroupP), (ask 0x0C00 none cal), (asked 0x0C00 none cal (setPortEnt (setClient base 0 { width := 1 }) 0x80 { enabled := true, rate := 200, pipeline := some 0 })), held_startable _ _ _ _, by decide, by decide, by decide, by decide⟩,
    ⟨cal, ({ lane := 0, width := 8, phy := 2, enable := true, trained := true } : ClientP), (ask 0x0C01 none cal), (asked 0x0C01 none cal base), (match enablePort 0x80 1600 (asked 0xC01 none cal base) with | .placed x => x | _ => base), held_startable _ _ _ _, by decide, by decide, by decide, by decide, by decide, by decide, by decide, by decide, by decide, rfl⟩,
    ⟨cal, ({ lane := 0, width := 8, phy := 2, enable := false, trained := true } : ClientP), (ask 0x0C01 none cal), (asked 0x0C01 none cal base), held_startable _ _ _ _, by decide, by decide, by decide, by decide⟩,
    ⟨cal, ({ port := 0xC9, enable := true, delayAsym := -5 } : LinkP), (ask 0x0C02 none cal), (asked 0x0C02 none cal (setPortEnt fabUp 0xC9 {})), (match enablePort 0xC9 200 (asked 0xC02 none cal (setPortEnt fabUp 0xC9 {})) with | .placed x => x | _ => base), held_startable _ _ _ _, by decide, by decide, by decide, by decide, by decide, rfl⟩,
    ⟨cal, ({ port := 0xC8, enable := false, delayAsym := -5 } : LinkP), (ask 0x0C02 none cal), (asked 0x0C02 none cal fabUp), held_startable _ _ _ _, by decide, by decide, by decide, by decide⟩,
    ⟨cal, (ask 0x0C03 none cal), (asked 0x0C03 none cal base), held_startable _ _ _ _⟩,
    ⟨cal, 8, 0, (ask 0x0C04 (some { kind := 3, scope := (8 : Fin 48).val }) cal), (asked 0x0C04 (some { kind := 3, scope := (8 : Fin 48).val }) cal fabUp), held_startable _ _ _ _, by decide, by decide, by decide⟩,
    ⟨cal, 8, 34, (ask 0x0C05 (some { kind := 4, scope := (8 : Fin 48).val }) cal), (asked 0x0C05 (some { kind := 4, scope := (8 : Fin 48).val }) cal fabUp), held_startable _ _ _ _, by decide, by decide, by decide, by decide⟩,
    ⟨8, 0, { setLink fabUp 16 { link fabUp 16 with scan := some (true, 0, 0) } with now := 100000, mbx := { fabUp.mbx with held := [{ ask 0x0C05 (some { kind := 4, scope := 8 }) cal with phase := .running 16 }] } }, true, 0, 0, by decide, by decide⟩,
    ⟨cal, 8, (ask 0x0C06 (some { kind := 5, scope := (8 : Fin 48).val }) cal), (asked 0x0C06 (some { kind := 5, scope := (8 : Fin 48).val }) cal fabUp), held_startable _ _ _ _, by decide, by decide⟩,
    ⟨cal, 255, (ask 0x0C07 none cal), (asked 0x0C07 none cal base), held_startable _ _ _ _, by decide, by decide⟩,
    ⟨cal, (ask 0x0C08 none cal), (asked 0x0C08 none cal base), held_startable _ _ _ _⟩,
    ⟨cal, 9, ({ dest := 9, hops := 1, cost := 1, nextHops := [0xC8], backup := none } : Route), (ask 0x0C09 none cal), (asked 0x0C09 none cal fabUp), held_startable _ _ _ _, by decide, by decide⟩,
    ⟨cal, 10, (ask 0x0C09 none cal), (asked 0x0C09 none cal fabUp), held_startable _ _ _ _, by decide⟩,
    ⟨cal, ({ queue := 9, domain := 3, dest := 63, unbind := false } : BindP), { queueP with targetKind := 3 }, (ask 0x0C0A none cal), (asked 0x0C0A none cal (setQueue base 9 { cfg := some { queueP with targetKind := 3 } })), held_startable _ _ _ _, by decide, by decide, by decide, by decide, by decide, by decide⟩,
    ⟨(callerOf pfA 1 128), ({ address := 9, inner := (le 2 0x1 ++ [0, 0] ++ le 4 7 ++ List.replicate 56 0), remoteQueue := none } : ForwardP), (ask 0x0C0B none (callerOf pfA 1 128)), (asked 0x0C0B none (callerOf pfA 1 128) fabUp), 1, held_startable _ _ _ _, by decide, by decide, by decide, by decide, by decide, by decide, by decide⟩,
    ⟨(callerOf pfA 1 128), ({ address := 10, inner := (le 2 0x1 ++ [0, 0] ++ le 4 7 ++ List.replicate 56 0), remoteQueue := none } : ForwardP), (ask 0x0C0B none (callerOf pfA 1 128)), (asked 0x0C0B none (callerOf pfA 1 128) fabUp), held_startable _ _ _ _, by decide, by decide, by decide, by decide⟩⟩

theorem witness_LinksTrainAndFabricMessagesAct :
    (∃ (x : Fin 48) (l : Fin 2) (control : BitVec 64) (status : BitVec 64) (f : TrainingFacts) (s : State) (w : Link) (s1 : State),
      isTraining (link s (linkKey x.val l.val)) = true ∧
      (link s (linkKey x.val l.val)).state ≠ 1 ∧
      w = takeStatus status f s.now (takeControl control (link s (linkKey x.val l.val))) ∧
      s1 = emit (trainingFrame (linkKey x.val l.val) w) (setLink s (linkKey x.val l.val) w)) ∧
    (∃ (status : BitVec 64) (v : Link),
      v.reqOpen = true ∧
      (trainingWordOk status = false ∨ wordBits status 8 8 ≠ v.reqSeq)) ∧
    (∃ (x : Fin 48) (l : Fin 2) (s : State),
      isTraining (link s (linkKey x.val l.val)) = true ∧
      (link s (linkKey x.val l.val)).reqOpen = true ∧
      (link s (linkKey x.val l.val)).reqRepeats < 16 ∧
      lapsed (link s (linkKey x.val l.val)).reqAt 10000 s = true) ∧
    (∃ (x : Fin 48) (l : Fin 2) (s : State),
      isTraining (link s (linkKey x.val l.val)) = true) ∧
    (∃ (k : Nat) (s : State),
      (link s k).fomGood = none) ∧
    (∃ (k : Nat) (s : State),
      (link s k).fomGood.isSome = true) ∧
    (∃ (x : Fin 48) (s : State),
      (link s (linkKey x.val 0)).enabled = true ∧
      (link s (linkKey x.val 0)).state = 1 ∧
      (link s (linkKey x.val 0)).onGood = false ∧
      (linkGroup s (linkKey x.val 0)).mode = 2) ∧
    (∃ (x : Fin 48) (l : Fin 2) (s : State),
      linkUp (linkKey x.val l.val) s = true ∧
      s.pwr.running = [] ∧
      s.pwr.waiting = [] ∧
      arbiterAwaits s = false ∧
      ((∀ m, m < 2 → (link s (linkKey x.val m)).retrainDue = false))) ∧
    (∃ (x : Fin 48) (l : Fin 2) (s : State),
      linkUp (linkKey x.val l.val) s = true) ∧
    (∃ (x : Fin 48) (l : Fin 2) (fom : Nat) (s : State),
      (link s (linkKey x.val l.val)).onGood = true ∧
      (link s (linkKey x.val l.val)).state ≠ 3 ∧
      (link s (linkKey x.val l.val)).goodAt + 10000000 ≤ s.now ∧
      (linkGroup s (linkKey x.val l.val)).fomFloor ≤ fom) ∧
    (∃ (x : Fin 48) (l : Fin 2) (s : State),
      (link s (linkKey x.val l.val)).state = 5 ∧
      s.pwr.running = [] ∧
      s.pwr.waiting = [] ∧
      (link s (linkKey x.val l.val)).parkedAt + 10000000000 ≤ s.now ∧
      retrainComes x.val s = false ∧
      arbiterAwaits s = false ∧
      ((∀ m, m < 2 → m ≠ l.val → (link s (linkKey x.val m)).retrainDue = false))) ∧
    (∃ (x : Fin 48) (l : Fin 2) (c : Fin 6) (s : State),
      linkUp (linkKey x.val l.val) s = true ∧
      c.val < 3) ∧
    (∃ (x : Fin 48) (l : Fin 2) (flit : List Byte) (classes : BitVec 2) (s : State),
      linkUp (linkKey x.val l.val) s = true ∧
      flitListed flit = true ∧
      fieldAt flit 0 1 = 4 ∧
      classes = BitVec.ofNat 2 (fieldAt flit 1 1)) ∧
    (∃ (x : Fin 48) (l : Fin 2) (s : State),
      linkUp (linkKey x.val l.val) s = true ∧
      (link s (linkKey x.val l.val)).paused = 0 ∧
      ((∀ t, (link s (linkKey x.val l.val)).helloAt = some t → t + 100000 ≤ s.now))) ∧
    (∃ (x : Fin 48) (l : Fin 2) (payload : List Byte) (m : HelloMsg) (s : State),
      linkUp (linkKey x.val l.val) s = true ∧
      m = readHello payload ∧
      m.version = 1) ∧
    (∃ (x : Fin 48) (l : Fin 2) (s : State) (t : Nat),
      (link s (linkKey x.val l.val)).lastHello = some t ∧
      lapsed t 350000 s = true) ∧
    (∃ (x : Fin 48) (l : Fin 2) (payload : List Byte) (r : LsRecord) (s : State),
      linkUp (linkKey x.val l.val) s = true ∧
      fieldAt payload 0 1 = 1 ∧
      r = readLinkState payload) ∧
    (∃ (r : LsRecord) (s : State),
      ((∀ y ∈ s.fab.records, y.record.serial = r.serial → y.record.seq < r.seq))) ∧
    (∃ (r : LsRecord) (y : Stored) (s : State),
      s.fab.records.find? (fun z => decide (z.record.serial = r.serial)) = some y ∧
      r.seq ≤ y.record.seq) ∧
    (∃ (s : State),
      (recordMoved s = true ∨ s.fab.floodedAt + 1000000000 ≤ s.now)) ∧
    (∃ (n : Nat) (y : Stored) (s : State),
      s.fab.records.find? (fun z => decide (z.record.serial = n)) = some y ∧
      lapsed y.refreshed 3000000000 s = true) ∧
    (∃ (s : State),
      lapsed s.fab.changed 10000000 s = true) ∧
    (∃ (x : Fin 48) (l : Fin 2) (flit : List Byte) (f : TimeFlit) (e : Nat × Nat) (s : State),
      linkUp (linkKey x.val l.val) s = true ∧
      flitListed flit = true ∧
      fieldAt flit 0 1 = 3 ∧
      f = readTimeFlit flit ∧
      completed (link s (linkKey x.val l.val)) f = some e) ∧
    (∃ (x : Fin 48) (l : Fin 2) (flit : List Byte) (s : State),
      linkUp (linkKey x.val l.val) s = true ∧
      flitListed flit = false) ∧
    (∃ (x : Fin 48) (l : Fin 2) (s : State),
      linkAdjacent (linkKey x.val l.val) s = true ∧
      ((∀ t, (link s (linkKey x.val l.val)).timeSentAt = some t → t + 125000 ≤ s.now))) ∧
    (∃ (s : State) (a : Nat),
      s.fab.source = some a ∧
      s.fab.address ≠ some a ∧
      s.fab.sourceLost = false ∧
      sourceHeard a s = false) ∧
    (∃ (x : Fin 48) (l : Fin 2) (sof : List Byte) (hd : FabricHeader) (s : State) (s1 : State) (p : Nat),
      s1 = portBoundary (linkPort (linkKey x.val l.val)) s ∧
      linkUp (linkKey x.val l.val) s1 = true ∧
      flitListed sof = true ∧
      hd = readSof sof ∧
      s1.fab.address.isSome = true ∧
      s1.fab.address ≠ some hd.dst.val ∧
      tagParityOk hd.tag = true ∧
      2 ≤ hd.hops.val ∧
      frameRank hd ≠ 0 ∧
      chooseLink hd.dst.val hd.flowHash s1 = some p) ∧
    (∃ (x : Fin 48) (l : Fin 2) (sof : List Byte) (hd : FabricHeader) (s : State) (s1 : State),
      s1 = portBoundary (linkPort (linkKey x.val l.val)) s ∧
      linkUp (linkKey x.val l.val) s1 = true ∧
      flitListed sof = true ∧
      hd = readSof sof ∧
      s1.fab.address.isSome = true ∧
      s1.fab.address ≠ some hd.dst.val ∧
      (tagParityOk hd.tag = false ∨ hd.hops.val ≤ 1)) ∧
    (∃ (a : Fin 64) (header : List Byte) (facts : BlockFacts) (d : FetchHeader) (s : State),
      d = readHeader (.fabric a) 0 header facts ∧
      s.boot.fwReady = true ∧
      heldOf (.fabric a) s < 256 ∧
      d.activity = none ∧
      portRefusal d s = none ∧
      headerCheck d s = none) ∧
    (∃ (a : Nat) (hash : Nat) (s : State) (p : Nat),
      chooseLink a hash s = some p) :=
  ⟨⟨8, 0, (BitVec.ofNat 64 (controlWord none 0 true)), (BitVec.ofNat 64 (statusWord 0 0 200)), ({ ownReady := true, want := none, fom := 200 } : TrainingFacts), (setLink fabUp 16 { enabled := true, state := 2, ownRun := 15, peerRun := 15 }), (takeStatus (BitVec.ofNat 64 (statusWord 0 0 200)) ({ ownReady := true, want := none, fom := 200 } : TrainingFacts) 0 (takeControl (BitVec.ofNat 64 (controlWord none 0 true)) { enabled := true, state := 2, ownRun := 15, peerRun := 15 })), (emit (trainingFrame 16 (takeStatus (BitVec.ofNat 64 (statusWord 0 0 200)) ({ ownReady := true, want := none, fom := 200 } : TrainingFacts) 0 (takeControl (BitVec.ofNat 64 (controlWord none 0 true)) { enabled := true, state := 2, ownRun := 15, peerRun := 15 }))) (setLink (setLink fabUp 16 { enabled := true, state := 2, ownRun := 15, peerRun := 15 }) 16 (takeStatus (BitVec.ofNat 64 (statusWord 0 0 200)) ({ ownReady := true, want := none, fom := 200 } : TrainingFacts) 0 (takeControl (BitVec.ofNat 64 (controlWord none 0 true)) { enabled := true, state := 2, ownRun := 15, peerRun := 15 })))), by decide, by decide, rfl, rfl⟩,
    ⟨0xFFFF, ({ reqOpen := true, reqSeq := 1 } : Link), by decide, by decide⟩,
    ⟨8, 0, { (setLink fabUp 16 { enabled := true, state := 2, reqOpen := true, reqRepeats := 15 }) with now := 10001 }, by decide, by decide, by decide, by decide⟩,
    ⟨8, 0, (setLink fabUp 16 { enabled := true, state := 2, reqOpen := true, reqRepeats := 16 }), by decide⟩,
    ⟨16, (setLink fabUp 16 { enabled := true, state := 2 }), by decide⟩,
    ⟨16, (setLink fabUp 16 { enabled := true, state := 2, fomGood := some 200, goodTaps := [1] }), by decide⟩,
    ⟨8, (setLaneGroup (setLink fabUp 16 { enabled := true, state := 1 }) 1 { mode := 2 }), by decide, by decide, by decide, by decide⟩,
    ⟨8, 0, fabUp, by decide, by decide, by decide, by decide, by decide⟩,
    ⟨8, 0, fabUp, by decide⟩,
    ⟨8, 0, 136, { (setLink fabUp 16 { enabled := true, state := 2, onGood := true, fomGood := some 200 }) with now := 10000000 }, by decide, by decide, by decide, by decide⟩,
    ⟨8, 0, { (setLink fabUp 16 { enabled := true, state := 5 }) with now := 10000000000 }, by decide, by decide, by decide, by decide, by decide, by decide, by decide⟩,
    ⟨8, 0, 2, fabUp, by decide, by decide⟩,
    ⟨8, 0, (flitBytes 4 [(1, 3), (1, 1)]), 3, fabUp, by decide, by decide, by decide, by decide⟩,
    ⟨8, 0, fabUp, by decide, by decide, by decide⟩,
    ⟨8, 0, (helloBytes ({ version := 1, addressValid := true, twoWay := true, bidirectional := false, strap := 9, address := 9, port := 0xC5, neighbourPort := 0xC8, serial := 4242, neighbourSerial := 7, lsrSeq := 1 } : HelloMsg)), (readHello (helloBytes ({ version := 1, addressValid := true, twoWay := true, bidirectional := false, strap := 9, address := 9, port := 0xC5, neighbourPort := 0xC8, serial := 4242, neighbourSerial := 7, lsrSeq := 1 } : HelloMsg))), fabUp, by decide, rfl, by decide⟩,
    ⟨8, 0, { fabUp with now := 350001 }, 0, by decide, by decide⟩,
    ⟨8, 0, [1], (readLinkState [1]), fabUp, by decide, by decide, rfl⟩,
    ⟨({ serial := 4242, seq := 2, addressValid := true, timeCandidate := false, strap := 9, address := 9, timeState := 0, timePriority := 0, entries := [] } : LsRecord), fabUp, by decide⟩,
    ⟨({ serial := 4242, seq := 1, addressValid := true, timeCandidate := false, strap := 9, address := 9, timeState := 0, timePriority := 0, entries := [] } : LsRecord), ({ record := ({ serial := 4242, seq := 1, addressValid := true, timeCandidate := false, strap := 9, address := 9, timeState := 0, timePriority := 0, entries := [] } : LsRecord), refreshed := 0 } : Stored), fabUp, by decide, by decide⟩,
    ⟨{ fabUp with now := 1000000000 }, Or.inr (by decide)⟩,
    ⟨4242, ({ record := ({ serial := 4242, seq := 1, addressValid := true, timeCandidate := false, strap := 9, address := 9, timeState := 0, timePriority := 0, entries := [] } : LsRecord), refreshed := 0 } : Stored), { fabUp with now := 3000000001 }, by decide, by decide⟩,
    ⟨{ fabUp with now := 10000001 }, by decide⟩,
    ⟨8, 0, (timeFlitBytes ({ seq := 1, rxSeq := 0, source := 9, sourceValid := true, steps := 1, flags := 1, txStamp := 100, rxStamp := 900 } : TimeFlit)), (readTimeFlit (timeFlitBytes ({ seq := 1, rxSeq := 0, source := 9, sourceValid := true, steps := 1, flags := 1, txStamp := 100, rxStamp := 900 } : TimeFlit))), (1001, 50), (setLink fabUp 16 { link fabUp 16 with timeRx := some (0, 1001), timeSent := [(0, 50)] }), by decide, by decide, by decide, rfl, by decide⟩,
    ⟨8, 0, [1, 2, 3], fabUp, by decide, by decide⟩,
    ⟨8, 0, fabUp, by decide, by decide⟩,
    ⟨{ fabUp with fab := { fabUp.fab with source := some 9 } }, 9, by decide, by decide, by decide, by decide⟩,
    ⟨8, 0, (sofBytes ({ control := false, kind := 0, src := 5, dst := 9, hops := 2, flooded := false, tag := domainTag 3, flowHash := 7, length := 300 } : FabricHeader)), (readSof (sofBytes ({ control := false, kind := 0, src := 5, dst := 9, hops := 2, flooded := false, tag := domainTag 3, flowHash := 7, length := 300 } : FabricHeader))), fabUp, (portBoundary (linkPort 16) fabUp), 0xC8, rfl, by decide, by decide, rfl, by decide, by decide, by decide, by decide, by decide, by decide⟩,
    ⟨8, 0, (sofBytes ({ control := false, kind := 0, src := 5, dst := 9, hops := 1, flooded := false, tag := domainTag 3, flowHash := 7, length := 300 } : FabricHeader)), (readSof (sofBytes ({ control := false, kind := 0, src := 5, dst := 9, hops := 1, flooded := false, tag := domainTag 3, flowHash := 7, length := 300 } : FabricHeader))), fabUp, (portBoundary (linkPort 16) fabUp), rfl, by decide, by decide, rfl, by decide, by decide, by decide⟩,
    ⟨9, (le 2 0x1 ++ [0, 0] ++ le 4 7 ++ List.replicate 56 0), ({ activity := none, lastMaint := true } : BlockFacts), (readHeader (.fabric 9) 0 (le 2 0x1 ++ [0, 0] ++ le 4 7 ++ List.replicate 56 0) ({ activity := none, lastMaint := true } : BlockFacts)), fabUp, rfl, by decide, by decide, by decide, by decide, by decide⟩,
    ⟨9, 65535, fabUp, 0xC8, by decide⟩⟩

theorem witness_FabricAddressesAreDistinct :
    ∃ (l : List LsRecord),
      l.Pairwise (fun a b => a.serial ≠ b.serial) :=
  ⟨[({ serial := 4242, seq := 1, addressValid := true, timeCandidate := false, strap := 9, address := 9, timeState := 0, timePriority := 0, entries := [] } : LsRecord), ({ serial := 9, seq := 1, addressValid := true, timeCandidate := false, strap := 9, address := 9, timeState := 0, timePriority := 0, entries := [] } : LsRecord)], by decide⟩

theorem witness_MemoryCommandsComplete :
    (∃ (h : Caller) (e : Held) (s : State),
      startable 0x0D00 none h e s) ∧
    (∃ (h : Caller) (g : Nat) (e : Held) (s : State),
      startable 0x0D01 none h e s ∧
      ownsDevice h s = true ∧
      32 ≤ g ∧
      g ≤ 112) ∧
    (∃ (h : Caller) (c : Fin 16) (full : Bool) (e : Held) (s : State),
      startable 0x0D02 (if full then some { kind := 1, scope := c.val } else none) h e s ∧
      ownsDevice h s = true ∧
      (cup s (76 + c.val)).state = .active) ∧
    (∃ (c : Fin 16) (full : Bool) (s : State),
      (channel s c.val).training = true ∧
      (channel s c.val).trainFull = full) ∧
    (∃ (c : Fin 16) (s : State),
      (channel s c.val).training = true ∧
      (channel s c.val).trainFull = false) ∧
    (∃ (h : Caller) (p : MemCfgP) (e : Held) (s : State),
      startable 0x0D03 none h e s ∧
      ownsDevice h s = true ∧
      p.wf = true) ∧
    (∃ (h : Caller) (root : Nat) (e : Held) (s : State),
      startable 0x0D04 none h e s ∧
      fnKey h.id.fn < 128 ∧
      root % 65536 = 0 ∧
      root < 2 ^ 48) ∧
    (∃ (f : PciFn) (s : State),
      (mmuPage s (pciKey f)).busy ≠ 0) ∧
    (∃ (h : Caller) (p : DmaP) (e : Held) (s : State),
      startable 0x0D05 none h e s ∧
      owns h kDma p.channel.val s = true ∧
      p.wf = true) ∧
    (∃ (h : Caller) (d : Fin 64) (tail : Nat) (e : Held) (s : State),
      startable 0x0D06 none h e s ∧
      owns h kDma d.val s = true ∧
      tail < ringSize (dmaChannel s d.val) ∧
      (dmaChannel s d.val).state ≤ 1) ∧
    (∃ (h : Caller) (d : Fin 64) (e : Held) (s : State),
      startable 0x0D07 none h e s ∧
      owns h kDma d.val s = true ∧
      (dmaChannel s d.val).state = 2) ∧
    (∃ (h : Caller) (d : Fin 64) (e : Held) (s : State),
      startable 0x0D07 none h e s ∧
      owns h kDma d.val s = true ∧
      (dmaChannel s d.val).state ≠ 2) ∧
    (∃ (h : Caller) (d : Fin 64) (e : Held) (s : State),
      startable 0x0D08 none h e s ∧
      owns h kDma d.val s = true) ∧
    (∃ (h : Caller) (p : WindowP) (e : Held) (s : State),
      startable 0x0D0A none h e s ∧
      ownsDevice h s = true ∧
      p.wf = true ∧
      p.size ≠ 0 ∧
      inGeneral s.mem.spillGib p.base p.size = true ∧
      ((∀ w ∈ s.mem.windows, w.1 / 4 ≠ pciKey p.fn → w.2.1 + w.2.2 ≤ p.base ∨ p.base + p.size ≤ w.2.1))) ∧
    (∃ (h : Caller) (p : WindowP) (e : Held) (s : State),
      startable 0x0D0A none h e s ∧
      ownsDevice h s = true ∧
      p.wf = true ∧
      p.size ≠ 0 ∧
      inGeneral s.mem.spillGib p.base p.size = false) :=
  ⟨⟨cal, (ask 0x0D00 none cal), (asked 0x0D00 none cal base), held_startable _ _ _ _⟩,
    ⟨cal, 112, (ask 0x0D01 none cal), (asked 0x0D01 none cal base), held_startable _ _ _ _, by decide, by decide, by decide⟩,
    ⟨cal, 0, true, (ask 0x0D02 (if (true : Bool) then some { kind := 1, scope := (0 : Fin 16).val } else none) cal), (asked 0x0D02 (if (true : Bool) then some { kind := 1, scope := (0 : Fin 16).val } else none) cal base), held_startable _ _ _ _, by decide, by decide⟩,
    ⟨0, true, { (setChannel base 0 { training := true, trainFull := true, marked := some 3 }) with mbx := { base.mbx with held := [{ ask 0x0D02 none cal with phase := .running 1 }] } }, by decide, by decide⟩,
    ⟨0, { (setChannel base 0 { training := true, marked := some 3 }) with mbx := { base.mbx with held := [{ ask 0x0D02 none cal with phase := .running 1 }] } }, by decide, by decide⟩,
    ⟨cal, ({ hotC := 0, rhSample := 64, rhLimit := 255, scrubHours := 168 } : MemCfgP), (ask 0x0D03 none cal), (asked 0x0D03 none cal base), held_startable _ _ _ _, by decide, by decide⟩,
    ⟨cal, 0xFFFFFFFF0000, (ask 0x0D04 none cal), (asked 0x0D04 none cal base), held_startable _ _ _ _, by decide, by decide, by decide⟩,
    ⟨pfA, (setMmuPage base 0 { busy := 1 }), by decide⟩,
    ⟨cal, ({ channel := 0, log2 := 10, priority := 7, evq := 255, ringBase := 0x1000 } : DmaP), (ask 0x0D05 none cal), (asked 0x0D05 none cal base), held_startable _ _ _ _, by decide, by decide⟩,
    ⟨cal, 0, 63, (ask 0x0D06 none cal), (asked 0x0D06 none cal base), held_startable _ _ _ _, by decide, by decide, by decide⟩,
    ⟨cal, 0, (ask 0x0D07 none cal), (asked 0x0D07 none cal (setDmaChannel base 0 { state := 2, head := 63, offset := 9, tail := 5 })), held_startable _ _ _ _, by decide, by decide⟩,
    ⟨cal, 0, (ask 0x0D07 none cal), (asked 0x0D07 none cal (setDmaChannel base 0 { state := 3 })), held_startable _ _ _ _, by decide, by decide⟩,
    ⟨cal, 0, (ask 0x0D08 none cal), (asked 0x0D08 none cal (setDmaChannel base 0 { state := 2, head := 63, offset := 9, tail := 5 })), held_startable _ _ _ _, by decide⟩,
    ⟨cal, ({ fn := vfA, window := 3, base := generalBase, size := 0x200000 } : WindowP), (ask 0x0D0A none cal), (asked 0x0D0A none cal base), held_startable _ _ _ _, by decide, by decide, by decide, by decide, by decide⟩,
    ⟨cal, ({ fn := vfA, window := 3, base := 0, size := 0x200000 } : WindowP), (ask 0x0D0A none cal), (asked 0x0D0A none cal base), held_startable _ _ _ _, by decide, by decide, by decide, by decide⟩⟩

theorem witness_MemoryControllerAndDmaAct :
    (∃ (c : Fin 16) (sub : Fin 2) (b : Fin 16) (s : State),
      (bankOf s c.val sub.val b.val).debt ≤ 8) ∧
    (∃ (c : Fin 16) (temp : Nat) (s : State),
      (channel s c.val).tempAt ≤ s.now ∧
      (channel s c.val).hot = false ∧
      (memNow s).hotC < temp) ∧
    (∃ (c : Fin 16) (temp : Nat) (s : State),
      (channel s c.val).tempAt ≤ s.now ∧
      (channel s c.val).hot = true ∧
      temp + 3 ≤ (memNow s).hotC) ∧
    (∃ (c : Fin 16) (temp : Nat) (s : State),
      (channel s c.val).tempAt ≤ s.now ∧
      (channel s c.val).hot = true ∧
      (memNow s).hotC < temp + 3) ∧
    (∃ (c : Fin 16) (sub : Fin 2) (b : Fin 16) (row : Nat) (requester : Nat) (s : State),
      (sub.val, b.val, row, requester) ∈ (channel s c.val).disturbed) ∧
    (∃ (c : Fin 16) (sub : Fin 2) (b : Fin 16) (row : Nat) (requester : Nat) (s : State),
      (sub.val, b.val, row, requester) ∉ (channel s c.val).disturbed) ∧
    (∃ (marked : Option Nat) (word : List Byte) (data : List Byte) (bad : List Nat),
      rsDecode marked word = some (data, bad)) ∧
    (∃ (marked : Option Nat) (word : List Byte) (errs : List (Nat × Nat)),
      rsErrors marked word = some errs) ∧
    (∃ (c : Nat) (word : List Byte) (s : State),
      rsDecode (channel s c).marked word = none) ∧
    (∃ (c : Nat) (word : List Byte) (s : State) (data : List Byte) (b : Nat) (rest : List Nat),
      rsDecode (channel s c).marked word = some (data, b :: rest)) ∧
    (∃ (c : Nat) (word : List Byte) (s : State) (data : List Byte),
      rsDecode (channel s c).marked word = some (data, [])) ∧
    (∃ (s : State),
      scrubAt s ≤ s.now) ∧
    (∃ (c : Fin 16) (drift : Nat) (s : State),
      (channel s c.val).dqsAt ≤ s.now ∧
      (channel s c.val).training = false ∧
      fullDeferred c.val s = false ∧
      drift ≤ 20) ∧
    (∃ (c : Fin 16) (drift : Nat) (s : State),
      (channel s c.val).dqsAt ≤ s.now ∧
      (channel s c.val).training = false ∧
      20 < drift ∧
      arbiterAwaits s = false) ∧
    (∃ (f : PciFn) (s : State) (p : MmuPage),
      s.boot.fwReady = true ∧
      p = mmuPage s (pciKey f)) ∧
    (∃ (c : Fin 64) (s : State) (fn : Nat),
      dmaFn c.val s = some fn ∧
      (dmaChannel s c.val).state = 1 ∧
      (dmaChannel s c.val).head ≠ (dmaChannel s c.val).tail ∧
      dmaTurn c.val s = true) ∧
    (∃ (c : Nat) (fn : Nat) (d : Descriptor) (s : State) (a : Nat) (k : Nat) (w : Bool),
      stepFault fn d (dmaChannel s c).offset s = some (a, k, w)) ∧
    (∃ (c : Nat) (fn : Nat) (d : Descriptor) (data : List Byte) (flips : List (Nat × DqFlips)) (s : State) (pa : Nat) (u : State),
      d.fill = true ∧
      d.dstHost = false ∧
      translate fn (d.dst + (dmaChannel s c).offset) true s = .at pa ∧
      fencedAt pa s = false ∧
      u = takeStep c fn d data flips s) ∧
    (∃ (c : Nat) (line : Nat) (s : State) (m : DmaMove) (d : Descriptor) (fn : Nat),
      (dmaChannel s c).move = some m ∧
      (dmaChannel s c).current = some d ∧
      dmaFn c s = some fn ∧
      (accessesOf ((List.range m.bytes).map (fun i => m.source + i))).all (fun l => (m.got ++ [(line, none)]).any (fun g => decide (g.1 = l))) = true ∧
      moveData { m with got := m.got ++ [(line, none)] } = none) ∧
    (∃ (linkB : Bool) (va : Nat) (words : Nat) (s : State),
      words ≠ 0 ∧
      firstFault (if linkB then 64 else 0) va (4 * words) false s = none) ∧
    (∃ (r : BusRead),
      (busAccesses r.words).all (fun l => r.got.any (fun g => decide (g.1 = l))) = true) ∧
    (∃ (linkB : Bool) (va : Nat) (s : State) (k : Nat),
      translate (if linkB then 64 else 0) va false s = .fault k) ∧
    (∃ (linkB : Bool) (va : Nat) (s : State) (pa : Nat),
      translate (if linkB then 64 else 0) va true s = .at pa ∧
      fencedAt pa s = false) :=
  ⟨⟨15, 1, 15, base, by decide⟩,
    ⟨15, 86, base, by decide, by decide, by decide⟩,
    ⟨15, 82, (setChannel base 15 { hot := true }), by decide, by decide, by decide⟩,
    ⟨15, 83, (setChannel base 15 { hot := true }), by decide, by decide, by decide⟩,
    ⟨15, 1, 0, 9, 3, (setChannel base 15 { disturbed := [(1, 0, 9, 3)] }), by decide⟩,
    ⟨15, 1, 0, 9, 3, base, by decide⟩,
    ⟨none, (List.replicate 72 0), (List.replicate 64 0), [], by decide⟩,
    ⟨none, (List.replicate 72 0), [], by decide⟩,
    ⟨15, (List.replicate 66 0 ++ [1, 2, 4, 8, 16, 32]), base, by decide⟩,
    ⟨15, (List.replicate 71 0 ++ [1]), base, (List.replicate 64 0), 71, [], by decide⟩,
    ⟨15, (List.replicate 72 0), base, (List.replicate 64 0), by decide⟩,
    ⟨base, by decide⟩,
    ⟨15, 20, base, by decide, by decide, by decide, by decide⟩,
    ⟨0, 21, base, by decide, by decide, by decide, by decide⟩,
    ⟨pfA, base, (mmuPage base 0), by decide, rfl⟩,
    ⟨0, (setOwn (setDmaChannel base 0 { state := 1, tail := 1 }) 15 0 { session := 1 }), 0, by decide, by decide, by decide, by decide⟩,
    ⟨0, 0, ({ fill := true, srcHost := false, dstHost := false, notify := false, fence := false, length := 8, src := 0x1122334455667788, dst := 0x1000, tag := 5 } : Descriptor), (setDmaChannel base 0 { state := 1, tail := 1 }), 0x1000, (match stepFault 0 ({ fill := true, srcHost := false, dstHost := false, notify := false, fence := false, length := 8, src := 0x1122334455667788, dst := 0x1000, tag := 5 } : Descriptor) 0 (setDmaChannel base 0 { state := 1, tail := 1 }) with | some x => x.2.1 | none => 9), true, by decide⟩,
    ⟨0, 0, ({ fill := true, srcHost := false, dstHost := false, notify := false, fence := false, length := 8, src := 0x1122334455667788, dst := 0x1000, tag := 5 } : Descriptor), [], [], (mapped (setDmaChannel base 0 { state := 1, tail := 1 })), (match translate 0 0x1000 true (mapped (setDmaChannel base 0 { state := 1, tail := 1 })) with | .at p => p | _ => 0), (takeStep 0 0 ({ fill := true, srcHost := false, dstHost := false, notify := false, fence := false, length := 8, src := 0x1122334455667788, dst := 0x1000, tag := 5 } : Descriptor) [] [] (mapped (setDmaChannel base 0 { state := 1, tail := 1 }))), by decide, by decide, by decide, by decide, rfl⟩,
    ⟨0, 0, (setDmaChannel (setOwn (setDmaChannel base 0 { state := 1, tail := 1 }) 15 0 { session := 1 }) 0 { state := 1, tail := 1, move := some ({ bytes := 8, source := 0, dest := some 0x1000, got := [] } : DmaMove), current := some ({ fill := true, srcHost := false, dstHost := false, notify := false, fence := false, length := 8, src := 0x1122334455667788, dst := 0x1000, tag := 5 } : Descriptor) }), ({ bytes := 8, source := 0, dest := some 0x1000, got := [] } : DmaMove), ({ fill := true, srcHost := false, dstHost := false, notify := false, fence := false, length := 8, src := 0x1122334455667788, dst := 0x1000, tag := 5 } : Descriptor), 0, by decide, by decide, by decide, by decide, by decide⟩,
    ⟨false, 0, 2, (mapped base), by decide, by decide⟩,
    ⟨({ num := 0, linkB := false, va := 0, words := [some 4], got := [(0, none)] } : BusRead), by decide⟩,
    ⟨false, 0, base, (match translate 0 0 false base with | .fault k => k | _ => 9), by decide⟩,
    ⟨false, 0x1000, (mapped (setDmaChannel base 0 { state := 1, tail := 1 })), (match translate 0 0x1000 true (mapped (setDmaChannel base 0 { state := 1, tail := 1 })) with | .at p => p | _ => 0), by decide, by decide⟩⟩

theorem witness_FunctionsReachOnlyTheirWindows :
    ∃ (fn : Nat) (va : Nat) (write : Bool) (s : State) (pa : Nat),
      translate fn va write s = .at pa :=
  ⟨0, 0x1000, true, (mapped (setDmaChannel base 0 { state := 1, tail := 1 })), (match translate 0 0x1000 true (mapped (setDmaChannel base 0 { state := 1, tail := 1 })) with | .at p => p | _ => 0), by decide⟩

theorem witness_EventsReachTheirQueues :
    (∃ (h : Caller) (p : RouteP) (e : Held) (s : State),
      startable 0x0E00 none h e s ∧
      6 < p.source.val ∧
      ownsSource h p.source.val s = true ∧
      ((p.masked = true → guardedSource p.source.val = false)) ∧
      (p.remote = true ∨ ownsQueueOf h p.queue.val s = true)) ∧
    (∃ (h : Caller) (p : RouteP) (e : Held) (s : State),
      startable 0x0E00 none h e s ∧
      p.source.val ≤ 6) ∧
    (∃ (h : Caller) (p : RouteP) (e : Held) (s : State),
      startable 0x0E00 none h e s ∧
      6 < p.source.val ∧
      ownsSource h p.source.val s = true ∧
      p.masked = true ∧
      guardedSource p.source.val = true) ∧
    (∃ (h : Caller) (p : EvqP) (e : Held) (s : State),
      startable 0x0E01 none h e s ∧
      ownsQueueOf h p.queue.val s = true ∧
      (evq s p.queue.val).enabled = false ∧
      p.wf (isVf h.id.fn) = true ∧
      s.pwr.keep.wakeEventOwed = false) ∧
    (∃ (h : Caller) (q : Fin 256) (e : Held) (s : State),
      startable 0x0E02 none h e s ∧
      ownsQueueOf h q.val s = true ∧
      (evq s q.val).enabled = true ∧
      namedByRing (fnKey h.id.fn) q.val s = false) ∧
    (∃ (h : Caller) (q : Fin 256) (e : Held) (s : State),
      startable 0x0E03 none h e s ∧
      (evq s q.val).owner / 64 = fnKey h.id.fn / 64 ∧
      (evq s q.val).enabled = false) ∧
    (∃ (h : Caller) (q : Fin 256) (n : Nat) (us : Nat) (e : Held) (s : State),
      startable 0x0E04 none h e s ∧
      ownsQueueOf h q.val s = true ∧
      1 ≤ n ∧
      n ≤ 64 ∧
      1 ≤ us ∧
      us ≤ 1000) ∧
    (∃ (h : Caller) (e : Held) (s : State),
      startable 0x0E05 none h e s ∧
      isVf h.id.fn = false) ∧
    (∃ (f : PciFn) (q : Fin 256) (s : State),
      s.boot.fwReady = true ∧
      (evq s q.val).owner = pciKey f ∧
      (evq s q.val).enabled = true) ∧
    (∃ (f : PciFn) (q : Fin 256) (s : State),
      s.boot.fwReady = true ∧
      (evq s q.val).owner ≠ pciKey f) ∧
    (∃ (q : Fin 256) (s : State),
      (evq s q.val).enabled = true ∧
      (evq s q.val).faulted = false ∧
      0 < (evq s q.val).inWrite) ∧
    (∃ (q : Fin 256) (s : State),
      (evq s q.val).enabled = true ∧
      (evq s q.val).faulted = false ∧
      0 < (evq s q.val).inWrite ∧
      adminQueue s (evq s q.val).owner = some q.val) ∧
    (∃ (q : Fin 256) (s : State),
      stageDue q.val s = true ∧
      s.pending = []) ∧
    (∃ (q : Fin 256) (s : State),
      stageDue q.val s = true ∧
      s.pending ≠ []) ∧
    (∃ (q : Fin 256) (s : State),
      stageDue q.val s = false) ∧
    (∃ (q : Fin 256) (s : State),
      (evq s q.val).faulted = false) ∧
    (∃ (q : Fin 256) (s : State),
      s.boot.fwReady = true ∧
      (evq s q.val).enabled = true) ∧
    (∃ (q : Fin 256) (s : State),
      (evq s q.val).enabled = false) ∧
    (∃ (tag : Nat),
      Nat.testBit tag 31 = false) ∧
    (∃ (q : Nat) (s : State),
      (evq s q).faulted = false ∧
      evqRoom (evq s q) = true) ∧
    (∃ (q : Nat) (s : State),
      (evq s q).faulted = false ∧
      evqRoom (evq s q) = false ∧
      (evq s q).warned = true) ∧
    (∃ (q : Nat) (a : Nat) (s : State),
      (evq s q).faulted = false ∧
      evqRoom (evq s q) = false ∧
      (evq s q).warned = false ∧
      a ≠ q ∧
      adminQueue s (evq s q).owner = some a ∧
      (evq s a).enabled = true ∧
      (evq s a).faulted = false ∧
      evqRoom (evq s a) = true) ∧
    (∃ (s : State),
      s.boot.fwReady = false) ∧
    (∃ (src : Nat) (cls : EvClass) (s : State),
      s.boot.fwReady = true ∧
      (route s src).masked = true ∧
      guarded cls = false) ∧
    (∃ (src : Nat) (s : State),
      s.boot.fwReady = true ∧
      (route s src).masked = false ∧
      (route s src).valid = false ∧
      adminQueue s (defaultFn s) = none) :=
  ⟨⟨cal, ({ source := 7, queue := 5, valid := true, masked := true, coalesce := true, remote := false, address := 0, remoteQueue := 0 } : RouteP), (ask 0x0E00 none cal), (asked 0x0E00 none cal base), held_startable _ _ _ _, by decide, by decide, by decide, by decide⟩,
    ⟨cal, ({ source := 6, queue := 5, valid := true, masked := false, coalesce := true, remote := false, address := 0, remoteQueue := 0 } : RouteP), (ask 0x0E00 none cal), (asked 0x0E00 none cal base), held_startable _ _ _ _, by decide⟩,
    ⟨cal, ({ source := 0x180, queue := 5, valid := true, masked := true, coalesce := true, remote := false, address := 0, remoteQueue := 0 } : RouteP), (ask 0x0E00 none cal), (asked 0x0E00 none cal base), held_startable _ _ _ _, by decide, by decide, by decide, by decide⟩,
    ⟨cal, ({ queue := 255, log2 := 10, vector := 9, armed := true, base := 0x1000 } : EvqP), (ask 0x0E01 none cal), (asked 0x0E01 none cal base), held_startable _ _ _ _, by decide, by decide, by decide, by decide⟩,
    ⟨cal, 5, (ask 0x0E02 none cal), (asked 0x0E02 none cal (setEvq base 5 { enabled := true })), held_startable _ _ _ _, by decide, by decide, by decide⟩,
    ⟨cal, 5, (ask 0x0E03 none cal), (asked 0x0E03 none cal base), held_startable _ _ _ _, by decide, by decide⟩,
    ⟨cal, 255, 64, 1000, (ask 0x0E04 none cal), (asked 0x0E04 none cal base), held_startable _ _ _ _, by decide, by decide, by decide, by decide, by decide⟩,
    ⟨cal, (ask 0x0E05 none cal), (asked 0x0E05 none cal base), held_startable _ _ _ _, by decide⟩,
    ⟨pfA, 5, (setEvq base 5 { enabled := true, tail := 3, armed := true }), by decide, by decide, by decide⟩,
    ⟨pfA, 5, (setEvq base 5 { enabled := true, owner := 1 }), by decide, by decide⟩,
    ⟨5, (setEvq base 5 { enabled := true, inWrite := 1 }), by decide, by decide, by decide⟩,
    ⟨5, (setRing (setEvq base 5 { enabled := true, inWrite := 3 }) 0 0 { enabled := true, evq := 5 }), by decide, by decide, by decide, by decide⟩,
    ⟨5, { setEvq base 5 { enabled := true, stage := [({ source := 9, cls := 0, payload := 0, tb := 0, stamp := 0 } : Record)], coalesceUs := 1 } with now := 1000 }, by decide, by decide⟩,
    ⟨5, { setEvq base 5 { enabled := true, stage := [({ source := 9, cls := 0, payload := 0, tb := 0, stamp := 0 } : Record)], coalesceUs := 1 } with now := 1000, pending := [.lofClear 0] }, by decide, by decide⟩,
    ⟨5, base, by decide⟩,
    ⟨5, (setEvq base 5 { enabled := true, stage := [{ source := 9, cls := 0, payload := 0, tb := 0, stamp := 0 }] }), by decide⟩,
    ⟨5, (setEvq base 5 { enabled := true }), by decide, by decide⟩,
    ⟨5, base, by decide⟩,
    ⟨5, by decide⟩,
    ⟨5, (setEvq base 5 { enabled := true, tail := 63, head := 1, phase := true, lostFlag := true }), by decide, by decide⟩,
    ⟨5, (setEvq base 5 { enabled := true, tail := 63, warned := true }), by decide, by decide, by decide⟩,
    ⟨5, 6, (setRing (setEvq (setEvq base 5 { enabled := true, tail := 63 }) 6 { enabled := true }) 0 0 { enabled := true, evq := 6 }), by decide, by decide, by decide, by decide, by decide, by decide, by decide, by decide⟩,
    ⟨State.reset, by decide⟩,
    ⟨9, .error, (setRoute base 9 { valid := true, masked := true }), by decide, by decide, by decide⟩,
    ⟨9, base, by decide, by decide, by decide, by decide⟩⟩

theorem witness_CounterCommandsComplete :
    (∃ (h : Caller) (p : CounterP) (e : Held) (s : State),
      startable 0x0E06 none h e s ∧
      owns h kCounter (p.counter.val / 64) s = true ∧
      ((p.domain ≠ 0xFFFF → ownsDomain h p.domain s = true ∧ packetEvent p.event = true)) ∧
      eventDefined p.event = true ∧
      ((p.chain = true → p.counter.val % 2 = 1)) ∧
      ((p.domain = 0xFFFF → isVf h.id.fn = false)) ∧
      p.wf = true) ∧
    (∃ (h : Caller) (p : CounterP) (e : Held) (s : State),
      startable 0x0E06 none h e s ∧
      owns h kCounter (p.counter.val / 64) s = true ∧
      p.domain = 0xFFFF) ∧
    (∃ (h : Caller) (i : Fin 2048) (e : Held) (s : State),
      startable 0x0E07 none h e s ∧
      owns h kCounter (i.val / 64) s = true) ∧
    (∃ (h : Caller) (i : Fin 2048) (e : Held) (s : State),
      startable 0x0E07 none h e s ∧
      isVf h.id.fn = false ∧
      i.val < 256) ∧
    (∃ (h : Caller) (p : MeterP) (e : Held) (s : State),
      startable 0x0E08 none h e s ∧
      ownsPort h p.port s = true ∧
      p.wf = true ∧
      portExists p.port = true) ∧
    (∃ (f : PciFn) (c : Fin 2048) (s : State),
      s.boot.fwReady = true ∧
      seesBlock f (c.val / 64) s = true) ∧
    (∃ (f : PciFn) (c : Fin 2048) (s : State),
      s.boot.fwReady = true ∧
      seesBlock f (c.val / 64) s = false) ∧
    (∃ (f : PciFn) (s : State),
      s.boot.fwReady = true ∧
      isPf f = true) ∧
    (∃ (m : Fin 256) (s : State),
      (meter s m.val).enabled = true ∧
      (meter s m.val).since + (meter s m.val).windowUs * 1000 ≤ s.now) ∧
    (∃ (c : Fin 2048) (n : Nat) (s : State),
      (counter s c.val).value < 2 ^ 48 ∧
      2 ^ 48 ≤ (counter s c.val).value + n ∧
      chainedAbove c.val s = false) :=
  ⟨⟨cal, ({ counter := 63, event := 0x34, inst := 0, domain := 3, chain := true, clear := true } : CounterP), (ask 0x0E06 none cal), (asked 0x0E06 none cal base), held_startable _ _ _ _, by decide, by decide, by decide, by decide, by decide, by decide⟩,
    ⟨cal, ({ counter := 62, event := 3, inst := 0, domain := 0xFFFF, chain := false, clear := true } : CounterP), (ask 0x0E06 none cal), (asked 0x0E06 none cal base), held_startable _ _ _ _, by decide, by decide⟩,
    ⟨cal, 63, (ask 0x0E07 none cal), (asked 0x0E07 none cal (setCounter base 63 { value := 99 })), held_startable _ _ _ _, by decide⟩,
    ⟨cal, 255, (ask 0x0E07 none cal), (asked 0x0E07 none cal base), held_startable _ _ _ _, by decide, by decide⟩,
    ⟨cal, ({ meter := 255, egress := true, port := 0x43, windowUs := 10000000, enable := true } : MeterP), (ask 0x0E08 none cal), (asked 0x0E08 none cal (setOwn base 2 3 { session := 1 })), held_startable _ _ _ _, by decide, by decide, by decide⟩,
    ⟨pfA, 63, (setCounter base 63 { value := 99 }), by decide, by decide⟩,
    ⟨pfA, 64, base, by decide, by decide⟩,
    ⟨pfA, base, by decide, by decide⟩,
    ⟨255, { setMeter base 255 { enabled := true, bytes := 5, packets := 1, peak := 9, windowUs := 1 } with now := 1000 }, by decide, by decide⟩,
    ⟨63, 1, (setCounter base 63 { value := 2 ^ 48 - 1 }), by decide, by decide, by decide⟩⟩

theorem witness_ChainedCountersHold96Bits :
    (∃ (c : Fin 2048) (n : Nat) (s : State),
      n ≤ 65535 ∧
      chainedAbove c.val s = true ∧
      (counter s c.val).value < 2 ^ 48 ∧
      (counter s (c.val + 1)).value < 2 ^ 48) ∧
    (∃ (c : Fin 2048) (n : Nat) (v : Counter) (w : Counter) (s : State),
      n ≤ 65535 ∧
      c.val % 2 = 0 ∧
      s.ev.counters = [(c.val, v), (c.val + 1, w)] ∧
      w.chain = true ∧
      v.value < 2 ^ 48 ∧
      w.value < 2 ^ 48 ∧
      v.inc = 0 ∧
      w.inc = 0 ∧
      v.clearNow = false ∧
      w.clearNow = false ∧
      v.next = none ∧
      w.next = none) :=
  ⟨⟨62, 65535, (setCounter (setCounter base 62 { value := 2 ^ 48 - 1 }) 63 { value := 2 ^ 48 - 1, chain := true }), by decide, by decide, by decide, by decide⟩,
    ⟨2046, 65535, ({ value := 281474976710655, event := 0x013 } : Counter), ({ value := 281474976710655, event := 0x013, chain := true } : Counter), { base with ev := { base.ev with counters := [(2046, ({ value := 281474976710655, event := 0x013 } : Counter)), (2047, ({ value := 281474976710655, event := 0x013, chain := true } : Counter))] } }, by decide, by decide, by decide, by decide, by decide, by decide, by decide, by decide, by decide, by decide, by decide, by decide⟩⟩

theorem witness_DoorbellsRegistersAndMailboxSteps :
    (∃ (f : PciFn) (k : Fin 64) (s : State),
      s.boot.fwReady = true ∧
      (ring s (pciKey f) k.val).enabled = true) ∧
    (∃ (f : PciFn) (k : Fin 64) (s : State),
      s.boot.fwReady = true ∧
      (ring s (pciKey f) k.val).enabled = true ∧
      (ring s (pciKey f) k.val).waiting = []) ∧
    (∃ (f : PciFn) (k : Fin 64) (s : State),
      (s.boot.fwReady = false ∨ (ring s (pciKey f) k.val).enabled = false)) ∧
    (∃ (f : PciFn) (a : Nat) (b : Nat) (s : State),
      s.boot.fwReady = true ∧
      (ring s (pciKey f) 0).enabled = false ∧
      a < 16 ∧
      b < 16) ∧
    (∃ (f : PciFn) (s : State),
      s.boot.fwReady = true ∧
      (ring s (pciKey f) 0).enabled = true) ∧
    (∃ (f : PciFn) (s : State),
      s.boot.fwReady = true ∧
      (ring s (pciKey f) 0).enabled = true) ∧
    (∃ (a : BarAccess) (s : State),
      a.bar4 = false ∧
      a.offset % 4 = 0 ∧
      a.offset < 0x1000000 ∧
      0x100000 ≤ a.offset ∧
      s.boot.fwReady = false) ∧
    (∃ (a : BarAccess) (s : State),
      a.bar4 = false ∧
      a.offset % 4 = 0 ∧
      a.offset < 0x1000000 ∧
      s.boot.fwReady = true ∧
      sees a.fn a.offset true s = false) ∧
    (∃ (f : PciFn) (k : Fin 64) (hdr : List Byte) (facts : BlockFacts) (s : State),
      nextServed s = some (pciKey f * 64 + k.val) ∧
      visible f k (readHeader (.pci f) k hdr facts).caller.inlineSlots s = true ∧
      headerCheck (readHeader (.pci f) k hdr facts) s = none) ∧
    (∃ (f : PciFn) (k : Fin 64) (hdr : List Byte) (facts : BlockFacts) (s : State) (n : Nat),
      nextServed s = some (pciKey f * 64 + k.val) ∧
      visible f k (readHeader (.pci f) k hdr facts).caller.inlineSlots s = true ∧
      headerCheck (readHeader (.pci f) k hdr facts) s = some n ∧
      s.mbx.held = []) ∧
    (∃ (f : PciFn) (k : Fin 64) (s : State),
      nextServed s ≠ some (pciKey f * 64 + k.val) ∧
      fetchPaused f k s = false) ∧
    (∃ (i : CmdId) (e : Held) (s : State),
      s.mbx.held.find? (fun x => decide (x.id = i) && timedOut x s) = some e) ∧
    (∃ (i : CmdId) (s : State),
      ((∀ e ∈ s.mbx.held, e.id = i → e.untimed = true ∨ s.now ≤ e.fetchedAt + e.timeoutUs * 1000))) ∧
    (∃ (s : State) (w : MaintEntry) (num : Nat),
      s.pwr.waiting = [w] ∧
      w.owner = some num ∧
      compatible w.activity s = true) ∧
    (∃ (s : State) (w : MaintEntry),
      s.pwr.waiting = [w] ∧
      compatible w.activity s = false) ∧
    (∃ (k : Fin 112) (s : State),
      fenceAwaits k.val s = false ∧
      (cup s k.val).state ≠ .fenced ∧
      (cup s k.val).state ≠ .active ∧
      (cup s k.val).waking.isSome = true ∧
      isLineCupola k.val = false) ∧
    (∃ (k : Fin 112) (s : State),
      fenceAwaits k.val s = false ∧
      (cup s k.val).state = .fenced) ∧
    (∃ (k : Fin 112) (s : State),
      fenceAwaits k.val s = true) ∧
    (∃ (f : PciFn) (k : Fin 64) (s : State),
      (ring s (pciKey f) k.val).enabled = true ∧
      (ring s (pciKey f) k.val).faulted = false) ∧
    (∃ (h : Nat) (s : State),
      (session s h).isOpen = true ∧
      (session s h).keepaliveMs ≠ 0 ∧
      (session s h).lastFetch + (session s h).keepaliveMs * 1000000 < s.now) ∧
    (∃ (h : Nat) (s : State),
      ((session s h).keepaliveMs = 0 ∨ s.now ≤ (session s h).lastFetch + (session s h).keepaliveMs * 1000000)) ∧
    (∃ (op : Nat) (act : Option Activity) (cupola : State → Option Nat) (h : Caller) (e : Held) (k : Nat) (s : State),
      startable op act h e s ∧
      cupola s = some k ∧
      (cup s k).state = .fenced) ∧
    (∃ (op : Nat) (act : Option Activity) (cupola : State → Option Nat) (h : Caller) (e : Held) (k : Nat) (s : State),
      startable op act h e s ∧
      cupola s = some k ∧
      longAsleep k s = true ∧
      mayWake e.opcode = true ∧
      e.phase ≠ .ready) :=
  ⟨⟨pfA, 0, (setRing base 0 0 { enabled := true, phase := true }), by decide, by decide⟩,
    ⟨pfA, 1, (setRing base 0 1 { enabled := true, phase := true }), by decide, by decide, by decide⟩,
    ⟨pfA, 1, base, by decide⟩,
    ⟨vfA, 10, 0, base, by decide, by decide, by decide, by decide⟩,
    ⟨pfA, (setRing base 0 0 { enabled := true, phase := true, sqTail := 5 }), by decide, by decide⟩,
    ⟨pfA, (setRing base 0 0 { enabled := true, phase := true, sqTail := 5 }), by decide, by decide⟩,
    ⟨({ fn := vfA, offset := 0x300000, value := 5 } : BarAccess), State.reset, by decide, by decide, by decide, by decide, by decide⟩,
    ⟨({ fn := vfA, offset := 0x200000, value := 5 } : BarAccess), base, by decide, by decide, by decide, by decide, by decide⟩,
    ⟨pfA, 0, (le 2 0x0 ++ [0, 0] ++ le 4 7 ++ List.replicate 56 0), ({ activity := none, lastMaint := true } : BlockFacts), (setRing base 0 0 { enabled := true, phase := true, sqTail := 5 }), by decide, by decide, by decide⟩,
    ⟨pfA, 0, (le 2 0x20 ++ [0, 0] ++ le 4 7 ++ List.replicate 56 0), ({ activity := none, lastMaint := true } : BlockFacts), (setRing base 0 0 { enabled := true, phase := true, sqTail := 5 }), 1, by decide, by decide, by decide, by decide⟩,
    ⟨pfA, 1, (setRing base 0 0 { enabled := true, phase := true, sqTail := 5 }), by decide, by decide⟩,
    ⟨cal.id, (ask 0 none cal), { base with now := 5, mbx := { base.mbx with held := [ask 0 none cal] } }, by decide⟩,
    ⟨cal.id, { base with mbx := { base.mbx with held := [ask 0 none cal] } }, by decide⟩,
    ⟨{ base with pwr := { base.pwr with waiting := [({ activity := { kind := 12, scope := 0 }, owner := some 0 } : MaintEntry)] } }, ({ activity := { kind := 12, scope := 0 }, owner := some 0 } : MaintEntry), 0, by decide, by decide, by decide⟩,
    ⟨{ base with pwr := { base.pwr with waiting := [({ activity := { kind := 12, scope := 0 }, owner := some 0 } : MaintEntry)], running := [{ activity := { kind := 10, scope := 0 }, owner := none }] } }, ({ activity := { kind := 12, scope := 0 }, owner := some 0 } : MaintEntry), by decide, by decide⟩,
    ⟨5, (setCup base 5 { state := .off, waking := some 0 }), by decide, by decide, by decide, by decide, by decide⟩,
    ⟨5, (setCup base 5 { state := .fenced }), by decide, by decide⟩,
    ⟨98, { base with pending := [.mapClose 0] }, by decide⟩,
    ⟨pfA, 0, (setRing base 0 0 { enabled := true, phase := true, sqTail := 5 }), by decide, by decide⟩,
    ⟨1, { base with now := 1000001, ses := { base.ses with table := [(1, { isOpen := true, fn := 0, keepaliveMs := 1 })] } }, by decide, by decide, by decide⟩,
    ⟨1, { base with now := 999999, ses := { base.ses with table := [(1, { isOpen := true, fn := 0, keepaliveMs := 1 })] } }, by decide⟩,
    ⟨1, none, (fun _ => some 5), cal, (ask 1 (none : Option Activity) cal), 5, (asked 1 (none : Option Activity) cal (setCup base 5 { state := .fenced })), held_startable _ _ _ _, by decide, by decide⟩,
    ⟨0x501, none, (fun _ => some 65), cal, (ask 0x501 (none : Option Activity) cal), 65, (asked 0x501 (none : Option Activity) cal (setCup base 65 { state := .off })), held_startable _ _ _ _, by decide, by decide, by decide, by decide⟩⟩

theorem witness_FirmwareCommandsAndKeepPort :
    (∃ (h : Caller) (n : Nat) (e : Held) (s : State),
      startable 0x0F00 (some actUpdate) h e s ∧
      ownsDevice h s = true ∧
      1 ≤ n ∧
      n ≤ 33554432 ∧
      s.boot.update = none) ∧
    (∃ (h : Caller) (n : Nat) (u : UpdateOpen) (e : Held) (s : State),
      startable 0x0F00 (some actUpdate) h e s ∧
      ownsDevice h s = true ∧
      1 ≤ n ∧
      n ≤ 33554432 ∧
      s.boot.update = some u) ∧
    (∃ (h : Caller) (o : Nat) (data : List Byte) (u : UpdateOpen) (e : Held) (s : State),
      startable 0x0F01 (some actUpdate) h e s ∧
      h.blockLen = 64 + data.length ∧
      data.length ≤ 1048512 ∧
      ownsDevice h s = true ∧
      s.boot.update = some u ∧
      o + data.length ≤ u.length) ∧
    (∃ (h : Caller) (u : UpdateOpen) (e : Held) (s : State),
      startable 0x0F02 (some actUpdate) h e s ∧
      ownsDevice h s = true ∧
      s.boot.update = some u) ∧
    (∃ (h : Caller) (force : Bool) (e : Held) (s : State),
      startable 0x0F03 (some actUpdate) h e s ∧
      activateRefusal h 1 force s = none) ∧
    (∃ (h : Caller) (force : Bool) (e : Held) (s : State) (b : Bool),
      startable 0x0F03 (some actUpdate) h e s ∧
      activateRefusal h 2 force s = none ∧
      s.boot.source = some b) ∧
    (∃ (h : Caller) (cls : Nat) (force : Bool) (d : Nat) (e : Held) (s : State),
      startable 0x0F03 (some actUpdate) h e s ∧
      activateRefusal h cls force s = some d) ∧
    (∃ (h : Caller) (e : Held) (s : State),
      startable 0x0F04 (some actUpdate) h e s ∧
      ownsDevice h s = true ∧
      runningState s ≠ .good) ∧
    (∃ (h : Caller) (e : Held) (s : State),
      startable 0x0F04 (some actUpdate) h e s ∧
      ownsDevice h s = true ∧
      runningState s = .good) ∧
    (∃ (h : Caller) (e : Held) (s : State),
      startable 0x0F05 (some actUpdate) h e s ∧
      ownsDevice h s = true ∧
      runningState s = .good ∧
      s.boot.fuses.minimum < runningSecurity s) ∧
    (∃ (h : Caller) (e : Held) (s : State),
      startable 0x0F05 (some actUpdate) h e s ∧
      ownsDevice h s = true ∧
      runningState s ≠ .good) ∧
    (∃ (h : Caller) (a : Nat) (n : Nat) (e : Held) (s : State),
      startable 0x0F06 none h e s ∧
      1 ≤ n ∧
      n ≤ logLimit h.id.fn ∧
      a < s.boot.log.length) ∧
    (∃ (h : Caller) (e : Held) (s : State),
      startable 0x0F07 none h e s ∧
      quotesNow s < 100) ∧
    (∃ (h : Caller) (e : Held) (s : State),
      startable 0x0F07 none h e s ∧
      100 ≤ quotesNow s) ∧
    (∃ (h : Caller) (e : Held) (s : State),
      startable 0x0F08 none h e s) ∧
    (∃ (d : BitVec 8) (hdr : List Byte) (facts : BlockFacts) (s : State) (t : State),
      (exec (.keepPortWake false) s = .next t ∨ exec (.keepPortReset false d) s = .next t ∨ exec (.keepPortBootSource false d) s = .next t ∨ exec (.keepPortCmd false hdr facts) s = .next t)) ∧
    (∃ (s : State),
      s.pwr.keep.asleep = true ∧
      s.pwr.keep.entering = false) ∧
    (∃ (d : BitVec 8) (s : State),
      2 ≤ d.toNat % 4 ∧
      d.toNat / 4 % 32 = 0 ∧
      (holdsLease s = false ∨ d.getLsbD 7 = true)) ∧
    (∃ (d : BitVec 8) (s : State),
      2 ≤ d.toNat % 4 ∧
      d.toNat / 4 % 32 = 0 ∧
      holdsLease s = true ∧
      d.getLsbD 7 = false) ∧
    (∃ (d : BitVec 8),
      d.toNat ≤ 3) ∧
    (∃ (hdr : List Byte) (facts : BlockFacts) (s : State),
      s.boot.port.cmdPending = false ∧
      s.boot.fwReady = true ∧
      keepAllows (leNat (hdr.take 2)) = true ∧
      headerCheck (readHeader .keep 0 hdr { facts with activity := none }) s = none) ∧
    (∃ (s : State),
      s.boot.port.cmdPending = false ∧
      s.boot.fwReady = false) :=
  ⟨⟨cal, 33554432, (ask 0x0F00 (some actUpdate) cal), (asked 0x0F00 (some actUpdate) cal base), held_startable _ _ _ _, by decide, by decide, by decide, by decide⟩,
    ⟨cal, 1, ({ length := 1000, pieces := [(0, [1, 2, 3])] } : UpdateOpen), (ask 0x0F00 (some actUpdate) cal), (asked 0x0F00 (some actUpdate) cal { base with boot := { base.boot with update := some ({ length := 1000, pieces := [(0, [1, 2, 3])] } : UpdateOpen) } }), held_startable _ _ _ _, by decide, by decide, by decide, by decide⟩,
    ⟨(callerOf pfA 1 128), 936, (List.replicate 64 9), ({ length := 1000, pieces := [(0, [1, 2, 3])] } : UpdateOpen), (ask 0x0F01 (some actUpdate) (callerOf pfA 1 128)), (asked 0x0F01 (some actUpdate) (callerOf pfA 1 128) { base with boot := { base.boot with update := some ({ length := 1000, pieces := [(0, [1, 2, 3])] } : UpdateOpen) } }), held_startable _ _ _ _, by decide, by decide, by decide, by decide, by decide⟩,
    ⟨cal, ({ length := 4, pieces := [(0, [1, 2, 3])] } : UpdateOpen), (ask 0x0F02 (some actUpdate) cal), (asked 0x0F02 (some actUpdate) cal { base with boot := { base.boot with update := some ({ length := 4, pieces := [(0, [1, 2, 3])] } : UpdateOpen) } }), held_startable _ _ _ _, by decide, by decide⟩,
    ⟨cal, false, (ask 0x0F03 (some actUpdate) cal), (asked 0x0F03 (some actUpdate) cal { base with boot := { base.boot with running := some img, runningState := .trying, staged := some img, stagedState := .pending } }), held_startable _ _ _ _, by decide⟩,
    ⟨cal, false, (ask 0x0F03 (some actUpdate) cal), (asked 0x0F03 (some actUpdate) cal { base with boot := { base.boot with running := some img, source := some false, staged := some img, flash := true, bankB := { state := .pending, image := some img } } }), false, held_startable _ _ _ _, by decide, by decide⟩,
    ⟨cal, 1, false, (match activateRefusal cal 1 false { base with boot := { base.boot with running := some img, runningState := .trying } } with | some d => d | none => 0), (ask 0x0F03 (some actUpdate) cal), (asked 0x0F03 (some actUpdate) cal { base with boot := { base.boot with running := some img, runningState := .trying } }), held_startable _ _ _ _, by decide⟩,
    ⟨cal, (ask 0x0F04 (some actUpdate) cal), (asked 0x0F04 (some actUpdate) cal { base with boot := { base.boot with running := some img, runningState := .trying } }), held_startable _ _ _ _, by decide, by decide⟩,
    ⟨cal, (ask 0x0F04 (some actUpdate) cal), (asked 0x0F04 (some actUpdate) cal { base with boot := { base.boot with running := some img, runningState := .good } }), held_startable _ _ _ _, by decide, by decide⟩,
    ⟨cal, (ask 0x0F05 (some actUpdate) cal), (asked 0x0F05 (some actUpdate) cal { base with boot := { base.boot with running := some img, runningState := .good } }), held_startable _ _ _ _, by decide, by decide, by decide⟩,
    ⟨cal, (ask 0x0F05 (some actUpdate) cal), (asked 0x0F05 (some actUpdate) cal { base with boot := { base.boot with running := some img, runningState := .trying } }), held_startable _ _ _ _, by decide, by decide⟩,
    ⟨cal, 0, 1, (ask 0x0F06 none cal), (asked 0x0F06 none cal { base with boot := { base.boot with log := [{ kind := 1, index := 0, curve := 0, securityVersion := 3, fwVersion := 240, digest := 5 }] } }), held_startable _ _ _ _, by decide, by decide, by decide⟩,
    ⟨cal, (ask 0x0F07 none cal), (asked 0x0F07 none cal base), held_startable _ _ _ _, by decide⟩,
    ⟨cal, (ask 0x0F07 none cal), (asked 0x0F07 none cal { base with boot := { base.boot with quotes := 100 } }), held_startable _ _ _ _, by decide⟩,
    ⟨cal, (ask 0x0F08 none cal), (asked 0x0F08 none cal base), held_startable _ _ _ _⟩,
    ⟨0, [], ({ activity := none, lastMaint := true } : BlockFacts), base, (match exec (.keepPortWake false) base with | .next t => t | _ => base), by exact Or.inl rfl⟩,
    ⟨{ base with pwr := { base.pwr with keep := { base.pwr.keep with asleep := true, wakeMask := 0x3F } } }, by decide, by decide⟩,
    ⟨0x02, base, by decide, by decide, by decide⟩,
    ⟨0x03, (memberOf { enabled := true, holding := true }), by decide, by decide, by decide, by decide⟩,
    ⟨3, by decide⟩,
    ⟨(le 2 0x1 ++ [0, 0] ++ le 4 7 ++ List.replicate 56 0), ({ activity := none, lastMaint := true } : BlockFacts), base, by decide, by decide, by decide, by decide⟩,
    ⟨State.reset, by decide, by decide⟩⟩

theorem witness_OnlyVerifiedImagesBoot :
    (∃ (f : PciFn) (s : State),
      pciKey f = 0 ∧
      s.boot.stage = 0xD ∧
      s.boot.bootResult ≠ 1) ∧
    (∃ (f : PciFn) (s : State),
      (pciKey f ≠ 0 ∨ s.boot.stage ≠ 0xD)) ∧
    (∃ (s : State),
      s.boot.stage = 0xD ∧
      s.boot.bootResult = 1) ∧
    (∃ (s : State),
      s.boot.stage = 0xD ∧
      s.boot.bootResult = 1) ∧
    (∃ (s : State) (i : ImageFacts),
      s.boot.fwReady = false ∧
      s.boot.running = some i ∧
      s.boot.stage ≠ 0xD ∧
      s.boot.stage ≠ 0xE ∧
      s.pwr.keep.asleep = false ∧
      s.pwr.mainLost = 0) ∧
    (∃ (s : State),
      (s.boot.running = none ∨ s.boot.stage = 0xD ∨ s.boot.stage = 0xE)) :=
  ⟨⟨pfA, { State.reset with boot := { State.reset.boot with stage := 0xD } }, by decide, by decide, by decide⟩,
    ⟨vfA, { State.reset with boot := { State.reset.boot with stage := 0xD } }, by decide⟩,
    ⟨{ State.reset with boot := { State.reset.boot with stage := 0xD, bootResult := 1 } }, by decide, by decide⟩,
    ⟨{ State.reset with boot := { State.reset.boot with stage := 0xD, bootResult := 1, fuses := { keyHashes := [77] } } }, by decide, by decide⟩,
    ⟨{ State.reset with boot := { State.reset.boot with stage := 2, running := some img } }, img, by decide, by decide, by decide, by decide, by decide, by decide⟩,
    ⟨{ State.reset with boot := { State.reset.boot with stage := 0xD } }, by decide⟩⟩

theorem witness_ResetsAct :
    (∃ (h : Caller) (p : ResetP) (e : Held) (s : State),
      startable 0x0003 none h e s ∧
      p.cls = 0) ∧
    (∃ (h : Caller) (p : ResetP) (e : Held) (s : State),
      startable 0x0003 none h e s ∧
      p.wf = true ∧
      1 ≤ p.cls ∧
      isVf h.id.fn = false ∧
      ownsDevice h s = true ∧
      (holdsLease s = false ∨ p.force = true)) ∧
    (∃ (s : State),
      s.ses.pendingReset = none) ∧
    (∃ (h : Caller) (k : Fin 64) (tag : Nat) (e : Held) (x : Held) (s : State),
      startable 0x0006 none h e s ∧
      s.mbx.held.find? (fun y => decide (y.id = { fn := h.id.fn, ring := k, tag := tag }) && (y.deferredOnce || y.wakingOnce) && !startsNow y s) = some x) ∧
    (∃ (s : State),
      s.ses.pendingReset = none) ∧
    (∃ (s : State) (p : PendingReset),
      s.ses.pendingReset = some p ∧
      s.now < p.instant) ∧
    (∃ (s : State) (p : PendingReset),
      s.ses.pendingReset = some p ∧
      p.cls = 1 ∧
      p.instant ≤ s.now ∧
      s.mbx.held = []) ∧
    (∃ (s : State) (p : PendingReset),
      s.ses.pendingReset = some p ∧
      (p.cls = 2 ∨ p.cls = 3) ∧
      p.instant ≤ s.now) ∧
    (∃ (s : State) (i : ImageFacts),
      s.boot.running = some i ∧
      s.boot.fwFault = false ∧
      s.pwr.keep.asleep = false ∧
      s.boot.resetAt ≠ some s.now ∧
      resetAwaits s = false ∧
      s.ses.pendingReset = none ∧
      2 ≤ (s.boot.watchdogAt.filter (fun t => decide (s.now < t + 60000000000))).length) ∧
    (∃ (s : State) (i : ImageFacts),
      s.boot.running = some i ∧
      s.boot.fwFault = false ∧
      s.pwr.keep.asleep = false ∧
      s.boot.resetAt ≠ some s.now ∧
      resetAwaits s = false ∧
      s.ses.pendingReset = none ∧
      (s.boot.watchdogAt.filter (fun t => decide (s.now < t + 60000000000))).length < 2) ∧
    (∃ (s : State) (i : ImageFacts),
      s.boot.running = some i ∧
      s.boot.fwFault = false ∧
      s.pwr.keep.asleep = false ∧
      s.boot.resetAt ≠ some s.now) ∧
    (∃ (s : State),
      (s.boot.running = none ∨ s.boot.resetAt = some s.now)) ∧
    (∃ (s : State) (i : ImageFacts),
      s.boot.running = some i ∧
      s.boot.fwFault = false ∧
      s.pwr.keep.asleep = false) :=
  ⟨⟨cal, ({ cls := 0, force := false, delayUs := 0 } : ResetP), (ask 0x0003 none cal), (asked 0x0003 none cal base), held_startable _ _ _ _, by decide⟩,
    ⟨cal, ({ cls := 3, force := false, delayUs := 1000 } : ResetP), (ask 0x0003 none cal), (asked 0x0003 none cal base), held_startable _ _ _ _, by decide, by decide, by decide, by decide, by decide⟩,
    ⟨base, by decide⟩,
    ⟨{ cal with id := { cal.id with tag := 9 } }, 0, 7, (ask 0x0006 none { cal with id := { cal.id with tag := 9 } }), { ask 0x0100 none cal with phase := .deferred, deferredOnce := true }, (asked 0x0006 none { cal with id := { cal.id with tag := 9 } } { base with mbx := { base.mbx with held := [{ ask 0x0100 none cal with phase := .deferred, deferredOnce := true }] } }), held_startable _ _ _ _, by decide⟩,
    ⟨base, by decide⟩,
    ⟨{ base with ses := { base.ses with pendingReset := some ({ cls := 2, instant := 5, accepted := 0 } : PendingReset) } }, ({ cls := 2, instant := 5, accepted := 0 } : PendingReset), by decide, by decide⟩,
    ⟨{ base with ses := { base.ses with pendingReset := some ({ cls := 1, instant := 0, accepted := 0 } : PendingReset) } }, ({ cls := 1, instant := 0, accepted := 0 } : PendingReset), by decide, by decide, by decide, by decide⟩,
    ⟨{ base with ses := { base.ses with pendingReset := some ({ cls := 2, instant := 0, accepted := 0 } : PendingReset) } }, ({ cls := 2, instant := 0, accepted := 0 } : PendingReset), by decide, by decide, by decide⟩,
    ⟨{ base with now := 5, boot := { base.boot with running := some img, watchdogAt := [4, 3] } }, img, by decide, by decide, by decide, by decide, by decide, by decide, by decide⟩,
    ⟨{ base with now := 5, boot := { base.boot with running := some img, watchdogAt := [4] } }, img, by decide, by decide, by decide, by decide, by decide, by decide, by decide⟩,
    ⟨{ base with now := 5, boot := { base.boot with running := some img, watchdogAt := [4] } }, img, by decide, by decide, by decide, by decide⟩,
    ⟨base, by decide⟩,
    ⟨{ base with now := 5, boot := { base.boot with running := some img, watchdogAt := [4] } }, img, by decide, by decide, by decide⟩⟩

theorem witness_SuppliesAndPowerStepsAct :
    (∃ (rails : BitVec 10) (s : State),
      rails ≠ 0 ∧
      s.pwr.keep.asleep = false) ∧
    (∃ (s : State),
      s.pwr.mainLost ≠ 0 ∧
      s.pwr.keep.asleep = false ∧
      s.boot.stage ≠ 6) ∧
    (∃ (s : State),
      s.pwr.mainLost = 0) ∧
    (∃ (s : State),
      s.pwr.keep.feedA = true ∧
      s.pwr.keep.feedB = true) ∧
    (∃ (s : State),
      s.pwr.keep.feedA = true ∧
      s.pwr.keep.feedB = false ∧
      swapAwaits true false s = false) ∧
    (∃ (s : State),
      s.pwr.keep.feedA = true ∧
      s.pwr.keep.feedB = false ∧
      swapAwaits true false s = true) ∧
    (∃ (s : State),
      s.pwr.keep.feedA = true ∧
      s.pwr.keep.feedB = false ∧
      swapAwaits false true s = false) ∧
    (∃ (s : State),
      s.pwr.refclkLost = false) ∧
    (∃ (s : State),
      s.pwr.refclkLost = true) ∧
    (∃ (s : State),
      s.pwr.clk32kLost = false) ∧
    (∃ (s : State),
      s.pwr.clk32kLost = true) ∧
    (∃ (s : State),
      s.pwr.warned = false) ∧
    (∃ (s : State),
      s.pwr.warned = true) ∧
    (∃ (s : State),
      s.pwr.tripped = false) ∧
    (∃ (k : Fin 112) (s : State),
      (cup s k.val).state ≠ .fenced ∧
      (cup s k.val).waking = none ∧
      fixedCupola k.val = false ∧
      cupCode (cup s k.val).state < target k.val s ∧
      target k.val s ≤ 3 ∧
      hysteresisPassed (cup s k.val) s.now = true) ∧
    (∃ (k : Fin 112) (s : State),
      (target k.val s ≤ cupCode (cup s k.val).state ∨ hysteresisPassed (cup s k.val) s.now = false)) ∧
    (∃ (s : State) (l : Nat),
      s.pwr.plTarget = some l ∧
      s.now < s.pwr.rampEnd) ∧
    (∃ (s : State) (l : Nat),
      s.pwr.plTarget = some l ∧
      s.pwr.rampEnd ≤ s.now) ∧
    (∃ (k : Nat) (s : State),
      runsOn 0x0104 k s = true) ∧
    (∃ (k : Nat) (s : State),
      runsOn 0x0802 k s = true) ∧
    (∃ (t : Nat) (s : State),
      runningTests s = some t) ∧
    (∃ (h : Caller) (mask : BitVec 8) (ticks : Nat) (e : Held) (s : State),
      startable 0x0105 (some actKeepOnly) h e s ∧
      ownsDevice h s = true ∧
      mask.toNat < 64 ∧
      ticks < 2 ^ 64 ∧
      deviceInUse s = false ∧
      s.pwr.keep.entering = false) ∧
    (∃ (h : Caller) (mask : BitVec 8) (ticks : Nat) (e : Held) (s : State),
      startable 0x0105 (some actKeepOnly) h e s ∧
      ownsDevice h s = true ∧
      mask.toNat < 64 ∧
      ticks < 2 ^ 64 ∧
      deviceInUse s = true) ∧
    (∃ (s : State),
      s.pwr.keep.entering = true ∧
      s.now < s.pwr.keep.enterAt) ∧
    (∃ (s : State),
      s.pwr.keep.entering = true ∧
      s.pwr.keep.enterAt ≤ s.now ∧
      s.pwr.keep.wakeOwed = false) ∧
    (∃ (l : Fin 4) (s : State),
      s.pwr.keep.asleep = true ∧
      s.pwr.keep.wakeMask.getLsbD l.val = true) ∧
    (∃ (s : State),
      s.pwr.keep.asleep = true ∧
      s.pwr.keep.wakeMask.getLsbD 5 = true ∧
      s.pwr.keep.alarmTicks ≤ ledgerMost s) ∧
    (∃ (l : Fin 4) (s : State),
      (s.pwr.keep.asleep = false ∨ s.pwr.keep.wakeMask.getLsbD l.val = false)) :=
  ⟨⟨1, base, by decide, by decide⟩,
    ⟨{ base with pwr := { base.pwr with mainLost := 1 } }, by decide, by decide, by decide⟩,
    ⟨base, by decide⟩,
    ⟨base, by decide, by decide⟩,
    ⟨{ base with pwr := { base.pwr with keep := { base.pwr.keep with feedB := false } } }, by decide, by decide, by decide⟩,
    ⟨{ base with pending := [.keepFeedRestore true], pwr := { base.pwr with keep := { base.pwr.keep with feedB := false } } }, by decide, by decide, by decide⟩,
    ⟨{ base with pwr := { base.pwr with keep := { base.pwr.keep with feedB := false } } }, by decide, by decide, by decide⟩,
    ⟨base, by decide⟩,
    ⟨{ base with pwr := { base.pwr with refclkLost := true } }, by decide⟩,
    ⟨base, by decide⟩,
    ⟨{ base with pwr := { base.pwr with clk32kLost := true } }, by decide⟩,
    ⟨base, by decide⟩,
    ⟨{ base with pwr := { base.pwr with warned := true } }, by decide⟩,
    ⟨base, by decide⟩,
    ⟨5, { setCup base 5 { state := .active, quiet := some 0 } with now := 1000000000000 }, by decide, by decide, by decide, by decide, by decide, by decide⟩,
    ⟨5, (setCup base 5 { state := .active, hwVote := true }), by decide⟩,
    ⟨{ base with pwr := { base.pwr with plTarget := some 2, rampEnd := 5 } }, 2, by decide, by decide⟩,
    ⟨{ base with pwr := { base.pwr with plTarget := some 2 } }, 2, by decide, by decide⟩,
    ⟨5, { base with mbx := { base.mbx with held := [{ ask 0x0104 none cal with phase := .running 5 }] } }, by decide⟩,
    ⟨5, { base with mbx := { base.mbx with held := [{ ask 0x0802 none cal with phase := .running 5 }] } }, by decide⟩,
    ⟨5, { base with mbx := { base.mbx with held := [{ ask 0x0108 none cal with phase := .running 5 }] } }, by decide⟩,
    ⟨cal, 0x3F, 18446744073709551615, (ask 0x0105 (some actKeepOnly) cal), (asked 0x0105 (some actKeepOnly) cal idleBase), held_startable _ _ _ _, by decide, by decide, by decide, by decide, by decide⟩,
    ⟨cal, 0, 0, (ask 0x0105 (some actKeepOnly) cal), (asked 0x0105 (some actKeepOnly) cal treeUp), held_startable _ _ _ _, by decide, by decide, by decide, by decide⟩,
    ⟨{ base with pwr := { base.pwr with keep := { base.pwr.keep with entering := true, enterAt := 5 } } }, by decide, by decide⟩,
    ⟨{ base with pwr := { base.pwr with keep := { base.pwr.keep with entering := true } } }, by decide, by decide, by decide⟩,
    ⟨3, { base with pwr := { base.pwr with keep := { base.pwr.keep with asleep := true, wakeMask := 0x3F } } }, by decide, by decide⟩,
    ⟨{ base with pwr := { base.pwr with keep := { base.pwr.keep with asleep := true, wakeMask := 0x3F } } }, by decide, by decide, by decide⟩,
    ⟨3, base, by decide⟩⟩

theorem witness_CommandsOfRanges00And01Complete :
    (∃ (h : Caller) (e : Held) (s : State),
      startable 0x0000 none h e s) ∧
    (∃ (h : Caller) (e : Held) (s : State),
      startable 0x0001 none h e s) ∧
    (∃ (h : Caller) (e : Held) (s : State),
      startable 0x0002 none h e s) ∧
    (∃ (h : Caller) (p : RangeP) (e : Held) (s : State),
      startable 0x000A none h e s ∧
      1 ≤ p.count ∧
      p.count ≤ 4096 ∧
      p.first + p.count ≤ kindSize p.kind.val) ∧
    (∃ (h : Caller) (keepaliveMs : Nat) (e : Held) (s : State),
      startable 0x0004 none h e s ∧
      h.session = 0 ∧
      keepaliveMs ≤ 60000 ∧
      sessionsOf (fnKey h.id.fn) s < 16 ∧
      sessionCount s < 1024) ∧
    (∃ (h : Caller) (handle : Nat) (e : Held) (s : State),
      startable 0x0005 none h e s ∧
      handle ≠ 0 ∧
      (session s handle).isOpen = true ∧
      (session s handle).fn = fnKey h.id.fn) ∧
    (∃ (h : Caller) (p : RangeP) (e : Held) (s : State),
      startable 0x0007 none h e s ∧
      h.session ≠ 0 ∧
      1 ≤ p.count ∧
      p.first + p.count ≤ kindSize p.kind.val ∧
      (∀ i ∈ rangeOf p, claimable h.id.fn p.kind.val i s = true) ∧
      (∀ i ∈ rangeOf p, conflicts h p.kind.val i s = false)) ∧
    (∃ (h : Caller) (p : RangeP) (e : Held) (s : State),
      startable 0x0008 none h e s ∧
      h.session ≠ 0 ∧
      1 ≤ p.count) ∧
    (∃ (h : Caller) (p : RangeP) (f : PciFn) (vf : Fin 64) (e : Held) (s : State),
      startable 0x0009 none h e s ∧
      h.session ≠ 0 ∧
      h.id.fn = .pci f ∧
      assignable p.kind.val = true ∧
      1 ≤ p.count ∧
      p.first + p.count ≤ kindSize p.kind.val ∧
      vf.val ≠ 0 ∧
      (∀ i ∈ rangeOf p, pfOwns (pciKey f) p.kind.val i s = true)) ∧
    (∃ (h : Caller) (p : RingP) (e : Held) (s : State),
      startable 0x0010 none h e s ∧
      p.ring.val ≠ 0 ∧
      (ring s (fnKey h.id.fn) p.ring.val).enabled = false ∧
      (evq s p.evq.val).owner = fnKey h.id.fn ∧
      p.wf = true) ∧
    (∃ (h : Caller) (k : Fin 64) (e : Held) (s : State),
      startable 0x0011 none h e s ∧
      k.val ≠ 0 ∧
      k ≠ h.id.ring ∧
      (ring s (fnKey h.id.fn) k.val).enabled = true) ∧
    (∃ (h : Caller) (k : Fin 112) (level : Fin 4) (e : Held) (s : State),
      startable 0x0100 (if level.val = 0 then none else some { kind := 13, scope := k.val }) h e s ∧
      fixedCupola k.val = false ∧
      voteWake k.val level.val s = none) ∧
    (∃ (h : Caller) (p : FloorP) (e : Held) (s : State),
      startable 0x0103 none h e s ∧
      ownsDevice h s = true ∧
      p.wf = true ∧
      fixedCupola p.cupola.val = false ∧
      ((isDramCupola p.cupola.val = true → p.floor ≠ 3))) ∧
    (∃ (h : Caller) (level : Fin 4) (e : Held) (s : State),
      startable 0x0102 (some { kind := 9, scope := 0 }) h e s ∧
      ownsDevice h s = true ∧
      level.val < s.pwr.pl ∧
      (∀ p ∈ servingPipes s, pipeLoad p s ≤ pipeCapacity level.val)) ∧
    (∃ (h : Caller) (e : Held) (s : State),
      startable 0x0101 none h e s) ∧
    (∃ (h : Caller) (e : Held) (s : State),
      startable 0x0106 none h e s) ∧
    (∃ (h : Caller) (e : Held) (s : State),
      startable 0x0107 none h e s) ∧
    (∃ (h : Caller) (k : Fin 112) (e : Held) (s : State),
      startable 0x0104 none h e s ∧
      ownsDevice h s = true ∧
      isPipelineCupola k.val = false ∧
      isDramCupola k.val = false ∧
      (cup s k.val).state = .fenced) ∧
    (∃ (h : Caller) (e : Held) (s : State),
      startable 0x0108 (some { kind := 12, scope := 0 }) h e s ∧
      ownsDevice h s = true) :=
  ⟨⟨cal, (ask 0x0000 none cal), (asked 0x0000 none cal base), held_startable _ _ _ _⟩,
    ⟨cal, (ask 0x0001 none cal), (asked 0x0001 none cal base), held_startable _ _ _ _⟩,
    ⟨cal, (ask 0x0002 none cal), (asked 0x0002 none cal base), held_startable _ _ _ _⟩,
    ⟨cal, ({ kind := 1, first := 60, count := 4 } : RangeP), (ask 0x000A none cal), (asked 0x000A none cal base), held_startable _ _ _ _, by decide, by decide, by decide⟩,
    ⟨calF, 60000, (ask 0x0004 none calF), (asked 0x0004 none calF base), held_startable _ _ _ _, by decide, by decide, by decide, by decide⟩,
    ⟨calF, 1, (ask 0x0005 none calF), (asked 0x0005 none calF base), held_startable _ _ _ _, by decide, by decide, by decide⟩,
    ⟨cal, ({ kind := 1, first := 60, count := 4 } : RangeP), (ask 0x0007 none cal), (asked 0x0007 none cal base), held_startable _ _ _ _, by decide, by decide, by decide, by decide, by decide⟩,
    ⟨cal, ({ kind := 1, first := 0, count := 2 } : RangeP), (ask 0x0008 none cal), (asked 0x0008 none cal base), held_startable _ _ _ _, by decide, by decide⟩,
    ⟨cal, ({ kind := 4, first := 3, count := 1 } : RangeP), pfA, 1, (ask 0x0009 none cal), (asked 0x0009 none cal base), held_startable _ _ _ _, by decide, by decide, by decide, by decide, by decide, by decide, by decide⟩,
    ⟨cal, ({ ring := 1, evq := 0, sqLog2 := 0, cqLog2 := 1, sqBase := 0x1000, cqBase := 0x2000 } : RingP), (ask 0x0010 none cal), (asked 0x0010 none cal base), held_startable _ _ _ _, by decide, by decide, by decide, by decide⟩,
    ⟨cal, 1, (ask 0x0011 none cal), (asked 0x0011 none cal (setRing base 0 1 { enabled := true })), held_startable _ _ _ _, by decide, by decide, by decide⟩,
    ⟨cal, 70, 0, (ask 0x0100 (if (0 : Fin 4).val = 0 then none else some { kind := 13, scope := (70 : Fin 112).val }) cal), (asked 0x0100 (if (0 : Fin 4).val = 0 then none else some { kind := 13, scope := (70 : Fin 112).val }) cal base), held_startable _ _ _ _, by decide, by decide⟩,
    ⟨cal, ({ cupola := 64, floor := 3, report := true, hystGated := 0, hystRetained := 5, hystOff := 0 } : FloorP), (ask 0x0103 none cal), (asked 0x0103 none cal base), held_startable _ _ _ _, by decide, by decide, by decide, by decide⟩,
    ⟨cal, 0, (ask 0x0102 (some { kind := 9, scope := 0 }) cal), (asked 0x0102 (some { kind := 9, scope := 0 }) cal { base with pwr := { base.pwr with pl := 1 } }), held_startable _ _ _ _, by decide, by decide, by decide⟩,
    ⟨cal, (ask 0x0101 none cal), (asked 0x0101 none cal base), held_startable _ _ _ _⟩,
    ⟨cal, (ask 0x0106 none cal), (asked 0x0106 none cal base), held_startable _ _ _ _⟩,
    ⟨cal, (ask 0x0107 none cal), (asked 0x0107 none cal base), held_startable _ _ _ _⟩,
    ⟨cal, 5, (ask 0x0104 none cal), (asked 0x0104 none cal (setCup base 5 { state := .fenced })), held_startable _ _ _ _, by decide, by decide, by decide, by decide⟩,
    ⟨cal, (ask 0x0108 (some { kind := 12, scope := 0 }) cal), (asked 0x0108 (some { kind := 12, scope := 0 }) cal base), held_startable _ _ _ _, by decide⟩⟩

theorem witness_CommandsOfRanges02To04Complete :
    (∃ (h : Caller) (p : TreeP) (e : Held) (s : State),
      startable 0x0200 none h e s ∧
      owns h kTree p.tree.val s = true ∧
      p.wf = true ∧
      (tree s p.tree.val).enabled = false ∧
      (portEnt s p.tree.val).enabled = false ∧
      minTeqd p.maxReach (givenIndex p) ≤ givenTeqd p) ∧
    (∃ (h : Caller) (t : Fin 64) (p : ProfileP) (e : Held) (s : State),
      startable 0x0203 none h e s ∧
      owns h kTree t.val s = true ∧
      p.wf = true ∧
      (tree s t.val).enabled = false) ∧
    (∃ (h : Caller) (t : Fin 64) (e : Held) (s : State) (s1 : State),
      startable 0x0201 none h e s ∧
      owns h kTree t.val s = true ∧
      protConfigured t.val s = false ∧
      (cup s t.val).state = .active ∧
      (tree s t.val).configured = true ∧
      (profileOf s t.val 0).isSome = true ∧
      enablePort t.val (treeRate (tree s t.val).mode) s = .placed s1) ∧
    (∃ (h : Caller) (t : Fin 64) (e : Held) (s : State),
      startable 0x0202 none h e s ∧
      owns h kTree t.val s = true ∧
      protConfigured t.val s = false ∧
      sendsFrames t.val s = false) ∧
    (∃ (h : Caller) (e : Held) (s : State),
      startable 0x0204 none h e s) ∧
    (∃ (h : Caller) (t : Fin 64) (count : Nat) (e : Held) (s : State),
      startable 0x0205 none h e s ∧
      1 ≤ count ∧
      count ≤ 1024 ∧
      (tree s t.val).bursts ≠ [] ∧
      (tree s t.val).exceptions ≠ []) ∧
    (∃ (h : Caller) (p : AdmitP) (e : Held) (s : State),
      startable 0x0301 none h e s ∧
      owns h kTree p.tree.val s = true ∧
      ownsDomain h p.domain.val s = true ∧
      p.wf = true ∧
      (terminal s p.tree.val p.terminal.val).admitted = false ∧
      ((∀ x ∈ s.tr.terminals, x.2.admitted = true → x.2.serial ≠ p.serial))) ∧
    (∃ (h : Caller) (t : Fin 64) (i : Fin 512) (e : Held) (s : State),
      startable 0x0303 none h e s ∧
      owns h kTree t.val s = true ∧
      (terminal s t.val i.val).admitted = true ∧
      (terminal s t.val i.val).ranging = none) ∧
    (∃ (h : Caller) (t : Fin 64) (i : Fin 512) (e : Held) (s : State),
      startable 0x0304 none h e s ∧
      owns h kTree t.val s = true ∧
      (terminal s t.val i.val).admitted = true) ∧
    (∃ (h : Caller) (t : Fin 64) (i : Fin 512) (e : Held) (s : State),
      startable 0x0302 (some { kind := 7, scope := t.val }) h e s ∧
      owns h kTree t.val s = true ∧
      (terminal s t.val i.val).admitted = true ∧
      (tree s t.val).enabled = true ∧
      ((terminal s t.val i.val).state = 2 ∨ (terminal s t.val i.val).state = 4) ∧
      (profileOf s t.val (terminal s t.val i.val).profile).isSome = true) ∧
    (∃ (h : Caller) (t : Fin 64) (i : Fin 512) (e : Held) (s : State),
      startable 0x0305 none h e s ∧
      (terminal s t.val i.val).admitted = true) ∧
    (∃ (h : Caller) (t : Fin 64) (us : Nat) (e : Held) (s : State),
      startable 0x0306 (some { kind := 7, scope := t.val }) h e s ∧
      owns h kTree t.val s = true ∧
      125 ≤ us ∧
      us ≤ 10000 ∧
      us % 125 = 0 ∧
      (tree s t.val).enabled = true) ∧
    (∃ (h : Caller) (t : Fin 64) (e : Held) (s : State),
      startable 0x0307 none h e s ∧
      (tree s t.val).discovered ≠ []) ∧
    (∃ (h : Caller) (p : AllocP) (pins : List Nat) (e : Held) (s : State),
      startable 0x0400 none h e s ∧
      ownsAlloc h p.tree.val p.terminal.val s = true ∧
      ((∀ x ∈ s.tr.allocs, x.2.present = true → x.2.tree = p.tree.val → x.1 ≠ p.ctx.val → x.2.allocId ≠ p.allocId)) ∧
      (terminal s p.tree.val p.terminal.val).admitted = true ∧
      foreignCtx p.ctx.val p.tree.val p.terminal.val (alloc s p.ctx.val).present (alloc s p.ctx.val).tree (alloc s p.ctx.val).terminal = false ∧
      (tree s p.tree.val).configured = true ∧
      p.wf = true ∧
      32768 ≤ p.ctx.val ∧
      1024 ≤ p.allocId ∧
      p.allocId ≤ 16383 ∧
      furtherAllocs p.tree.val none s < 4096 ∧
      furtherAllocs p.tree.val (some p.terminal.val) s < 15 ∧
      admittedSum p.tree.val (some p.ctx.val) s + p.fixed + p.assured ≤ guaranteedLimit p.tree.val s ∧
      pinsFor p s = some pins) ∧
    (∃ (h : Caller) (t : Fin 64) (ctx : Fin 65536) (e : Held) (s : State),
      startable 0x0401 none h e s ∧
      ownsAlloc h t.val (alloc s ctx.val).terminal s = true ∧
      32768 ≤ ctx.val ∧
      (alloc s ctx.val).present = true ∧
      (alloc s ctx.val).tree = t.val) ∧
    (∃ (h : Caller) (p : PortCtxP) (e : Held) (s : State),
      startable 0x0402 none h e s ∧
      owns h kTree p.tree.val s = true ∧
      (terminal s p.tree.val p.terminal.val).admitted = true ∧
      ((∀ x ∈ s.tr.ports, x.2.present = true → x.2.tree = p.tree.val → x.1 ≠ p.ctx.val → x.2.portId ≠ p.portId)) ∧
      foreignCtx p.ctx.val p.tree.val p.terminal.val (portCtx s p.ctx.val).present (portCtx s p.ctx.val).tree (portCtx s p.ctx.val).terminal = false ∧
      ((p.down = true → queueDomain p.downQueue.val s = some (terminal s p.tree.val p.terminal.val).domain)) ∧
      p.wf = true ∧
      32768 ≤ p.ctx.val ∧
      1024 ≤ p.portId ∧
      p.portId ≤ 65534 ∧
      furtherPorts p.tree.val none s < 16384 ∧
      furtherPorts p.tree.val (some p.terminal.val) s < 256) ∧
    (∃ (h : Caller) (t : Fin 64) (ctx : Fin 131072) (e : Held) (s : State),
      startable 0x0403 none h e s ∧
      owns h kTree t.val s = true ∧
      32768 ≤ ctx.val) ∧
    (∃ (h : Caller) (t : Fin 64) (n : Nat) (limit : Nat) (e : Held) (s : State),
      startable 0x0404 none h e s ∧
      owns h kTree t.val s = true ∧
      (tree s t.val).configured = true ∧
      64 ≤ n ∧
      n ≤ 1024 ∧
      0 < limit ∧
      limit < 2 ^ 32 ∧
      admittedSum t.val none s ≤ limit) ∧
    (∃ (h : Caller) (t : Fin 64) (ctx : Fin 65536) (e : Held) (s : State),
      startable 0x0405 none h e s ∧
      isVf h.id.fn = false ∧
      (alloc s ctx.val).present = true ∧
      (alloc s ctx.val).tree = t.val) ∧
    (∃ (h : Caller) (p : CoopP) (e : Held) (s : State),
      startable 0x0406 none h e s ∧
      ownsDevice h s = true ∧
      p.wf = true) :=
  ⟨⟨cal, { treeP with maxReach := 20000 }, (ask 0x0200 none cal), (asked 0x0200 none cal base), held_startable _ _ _ _, by decide, by decide, by decide, by decide, by decide⟩,
    ⟨cal, 0, prof, (ask 0x0203 none cal), (asked 0x0203 none cal base), held_startable _ _ _ _, by decide, by decide, by decide⟩,
    ⟨cal, 0, (ask 0x0201 none cal), (asked 0x0201 none cal (setTree base 0 { configured := true, profiles := [(0, some prof)] })), (match enablePort 0 (treeRate 0) (asked 0x201 none cal (setTree base 0 { configured := true, profiles := [(0, some prof)] })) with | .placed x => x | _ => base), held_startable _ _ _ _, by decide, by decide, by decide, by decide, by decide, rfl⟩,
    ⟨cal, 0, (ask 0x0202 none cal), (asked 0x0202 none cal treeUp), held_startable _ _ _ _, by decide, by decide, by decide⟩,
    ⟨cal, (ask 0x0204 none cal), (asked 0x0204 none cal treeUp), held_startable _ _ _ _⟩,
    ⟨cal, 63, 1024, (ask 0x0205 none cal), (asked 0x0205 none cal (setTree base 63 { bursts := [{ terminal := 1 }, {}], exceptions := [{ lateLock := true }] })), held_startable _ _ _ _, by decide, by decide, by decide, by decide⟩,
    ⟨cal, ({ tree := 0, profile := 0, terminal := 511, domain := 3, serial := 78, autoRange := false, regCheck := false, regId := 0 } : AdmitP), (ask 0x0301 none cal), (asked 0x0301 none cal treeUp), held_startable _ _ _ _, by decide, by decide, by decide, by decide, by decide⟩,
    ⟨cal, 0, 5, (ask 0x0303 none cal), (asked 0x0303 none cal treeUp), held_startable _ _ _ _, by decide, by decide, by decide⟩,
    ⟨cal, 0, 5, (ask 0x0304 none cal), (asked 0x0304 none cal treeUp), held_startable _ _ _ _, by decide, by decide⟩,
    ⟨cal, 0, 5, (ask 0x0302 (some { kind := 7, scope := (0 : Fin 64).val }) cal), (asked 0x0302 (some { kind := 7, scope := (0 : Fin 64).val }) cal treeUp), held_startable _ _ _ _, by decide, by decide, by decide, by decide, by decide⟩,
    ⟨cal, 0, 5, (ask 0x0305 none cal), (asked 0x0305 none cal treeUp), held_startable _ _ _ _, by decide⟩,
    ⟨cal, 0, 10000, (ask 0x0306 (some { kind := 7, scope := (0 : Fin 64).val }) cal), (asked 0x0306 (some { kind := 7, scope := (0 : Fin 64).val }) cal treeUp), held_startable _ _ _ _, by decide, by decide, by decide, by decide, by decide⟩,
    ⟨cal, 0, (ask 0x0307 none cal), (asked 0x0307 none cal (setTree base 0 { discovered := [(5, 9)] })), held_startable _ _ _ _, by decide⟩,
    ⟨cal, allocP, [], (ask 0x0400 none cal), (asked 0x0400 none cal (setTree (setAlloc treeUp 40000 {}) 0 { tree treeUp 0 with guaranteedKbps := 10000 })), held_startable _ _ _ _, by decide, by decide, by decide, by decide, by decide, by decide, by decide, by decide, by decide, by decide, by decide, by decide, by decide⟩,
    ⟨cal, 0, 40000, (ask 0x0401 none cal), (asked 0x0401 none cal treeUp), held_startable _ _ _ _, by decide, by decide, by decide, by decide⟩,
    ⟨cal, ({ tree := 0, down := false, up := true, encrypt := false, terminal := 5, ctx := 131071, portId := 65534, downQueue := 0 } : PortCtxP), (ask 0x0402 none cal), (asked 0x0402 none cal treeUp), held_startable _ _ _ _, by decide, by decide, by decide, by decide, by decide, by decide, by decide, by decide, by decide, by decide, by decide⟩,
    ⟨cal, 0, 32768, (ask 0x0403 none cal), (asked 0x0403 none cal treeUp), held_startable _ _ _ _, by decide, by decide⟩,
    ⟨cal, 0, 64, 4294967295, (ask 0x0404 none cal), (asked 0x0404 none cal treeUp), held_startable _ _ _ _, by decide, by decide, by decide, by decide, by decide, by decide, by decide⟩,
    ⟨cal, 0, 40000, (ask 0x0405 none cal), (asked 0x0405 none cal treeUp), held_startable _ _ _ _, by decide, by decide, by decide⟩,
    ⟨cal, ({ enable := true, etherType := 0x88B5, laneMask := 0 } : CoopP), (ask 0x0406 none cal), (asked 0x0406 none cal base), held_startable _ _ _ _, by decide, by decide⟩⟩

theorem witness_TreeOccurrencesComplete :
    (∃ (t : Fin 64) (w : WindowFacts) (s : State) (g : Granted),
      (tree s t.val).enabled = true ∧
      protTransmits t.val s = true ∧
      (tree s t.val).scheduled.find? (fun x => decide (x.terminal = w.terminal.val) && decide (x.ranging = w.ranging) && decide
      (windowOpens t.val x s ≤ s.now)) = some g) ∧
    (∃ (t : Fin 64) (s : State) (w : RxWindow) (p : ProfileP),
      (tree s t.val).window = some w ∧
      windowProfile t.val w s = some p ∧
      w.final = false ∧
      w.lock = none) ∧
    (∃ (t : Fin 64) (s : State) (w : RxWindow) (p : ProfileP),
      (tree s t.val).window = some w ∧
      windowProfile t.val w s = some p ∧
      w.final = false ∧
      w.lock.isSome = true ∧
      delimiterComes t.val s = false) ∧
    (∃ (t : Fin 64) (symbol : Nat) (s : State) (w : RxWindow) (p : ProfileP) (l : Nat),
      (tree s t.val).window = some w ∧
      windowProfile t.val w s = some p ∧
      w.final = false ∧
      w.lock = some l ∧
      l + p.minRelock + delimSymbols (tree s t.val).mode ≤ symbol + 1 ∧
      symbol ≤ w.close) ∧
    (∃ (t : Fin 64) (s : State) (w : RxWindow),
      (tree s t.val).window = some w ∧
      w.final = false) ∧
    (∃ (t : Fin 64) (s : State) (w : RxWindow),
      (tree s t.val).window = some w ∧
      w.record.strobe = 1 ∧
      readingPending (tree s t.val) = true) ∧
    (∃ (t : Fin 64) (s : State) (r : BurstRecord),
      (tree s t.val).await.find? (fun x => decide (x.strobe = 2)) = some r) ∧
    (∃ (t : Fin 64) (s : State),
      (cup s t.val).state = .active) ∧
    (∃ (t : Fin 64) (s : State),
      (tree s t.val).enabled = true ∧
      protTransmits t.val s = true ∧
      discoveryDue (tree s t.val) s.now = true ∧
      (tree s t.val).probes = []) ∧
    (∃ (t : Fin 64) (serial : Nat) (stamp : Nat) (s : State),
      (tree s t.val).enabled = true ∧
      strikesPinned t.val stamp s = false ∧
      ((∀ x ∈ s.tr.terminals, x.1 / 512 = t.val → x.2.admitted = true → x.2.serial ≠ serial))) ∧
    (∃ (t : Fin 64) (i : Fin 512) (s : State) (r : Ranging),
      (terminal s t.val i.val).ranging = some r ∧
      2 ≤ r.left ∧
      rangingComes t.val i.val s = false) ∧
    (∃ (t : Fin 64) (i : Fin 512) (grantStart : Nat) (delimStamp : Nat) (s : State),
      let rtd := roundTrip t.val i.val grantStart delimStamp s
      (terminal s t.val i.val).ranging.isSome = true ∧
      560000 ≤ rtd ∧
      rtd ≤ (tree s t.val).teqdNs * 16 ∧
      (tree s t.val).minReach * (32 * (tree s t.val).groupIndex * 1000) ≤ (rtd - 560000) * 299792458 ∧
      (rtd - 560000) * 299792458 ≤ (tree s t.val).maxReach * (32 * (tree s t.val).groupIndex * 1000)) ∧
    (∃ (t : Fin 64) (i : Fin 512) (s : State) (d : Int) (r : Nat),
      (terminal s t.val i.val).state = 4 ∧
      (terminal s t.val i.val).driftDue = some d ∧
      (terminal s t.val i.val).rtd = some r) ∧
    (∃ (t : Fin 64) (s : State) (p : Probe),
      (tree s t.val).probes.find? (fun x => decide (x.ends ≤ s.now)) = some p) ∧
    (∃ (t : Fin 64) (s : State),
      sendsFrames t.val s = true ∧
      runsOn 0x0202 t.val s = false ∧
      firstAligned t.val s = true) ∧
    (∃ (t : Fin 64) (s : State),
      (tree s t.val).enabled = true ∧
      (tree s t.val).duty = false ∧
      (tree s t.val).idleEnter ≠ 0 ∧
      (tree s t.val).idleEnter ≤ (tree s t.val).idleRun) ∧
    (∃ (t : Fin 64) (ctx : Fin 65536) (s : State),
      (alloc s ctx.val).present = true ∧
      (alloc s ctx.val).tree = t.val) ∧
    (∃ (c : CoopFrame) (s : State),
      s.tr.coop.enable = true ∧
      c.etherType = s.tr.coop.etherType ∧
      (portEnt s c.port).enabled = true ∧
      portLanes c.port s ≠ [] ∧
      (∀ i ∈ portLanes c.port s, Nat.testBit s.tr.coop.laneMask i = true) ∧
      coopVersion c.payload = 1) ∧
    (∃ (t : Fin 64) (s : State),
      (tree s t.val).enabled = true ∧
      protTransmits t.val s = true ∧
      mapAwaits t.val s = false ∧
      ((∀ x ∈ s.tr.allocs, x.2.tree = t.val → x.2.removing = false))) ∧
    (∃ (t : Fin 64) (x : XgemFrame) (s : State) (k : Nat) (c : PortCtx),
      (tree s t.val).enabled = true ∧
      protTransmits t.val s = true ∧
      ((tree s t.val).staleBurst = false ∨ x.first = true) ∧
      goneOf t.val x s = none ∧
      (checkedPorts s).find? (fun y => y.2.present && decide (y.2.tree = t.val) && decide (y.2.portId = x.portId)) = some (k, c) ∧
      c.terminal = x.grantTerminal.val ∧
      c.up = true ∧
      x.keyIndex = 0 ∧
      bytesOf (queue s (65536 + x.ctx.val)).onDie + x.length ≤ 1048576) :=
  ⟨⟨0, ({ terminal := 5, ranging := false } : WindowFacts), { setTree treeUp 0 { tree treeUp 0 with scheduled := [({ terminal := 5, ranging := false, superframe := 100, ctxs := [40000], start := 64 } : Granted)] } with now := 1000000 }, ({ terminal := 5, ranging := false, superframe := 100, ctxs := [40000], start := 64 } : Granted), by decide, by decide, by decide⟩,
    ⟨0, (setTree treeUp 0 { tree treeUp 0 with window := some { lock := none, close := 200, final := false, record := { terminal := 5 } } }), ({ lock := none, close := 200, final := false, record := { terminal := 5 } } : RxWindow), prof, by decide, by decide, by decide, by decide⟩,
    ⟨0, (setTree treeUp 0 { tree treeUp 0 with window := some { lock := some 90, close := 200, final := false, record := { terminal := 5 } } }), ({ lock := some 90, close := 200, final := false, record := { terminal := 5 } } : RxWindow), prof, by decide, by decide, by decide, by decide, by decide⟩,
    ⟨0, 200, (setTree treeUp 0 { tree treeUp 0 with window := some { lock := some 90, close := 200, final := false, record := { terminal := 5 } } }), ({ lock := some 90, close := 200, final := false, record := { terminal := 5 } } : RxWindow), prof, 90, by decide, by decide, by decide, by decide, by decide, by decide⟩,
    ⟨0, (setTree treeUp 0 { tree treeUp 0 with window := some { lock := some 90, close := 200, final := false, record := { terminal := 5 } } }), ({ lock := some 90, close := 200, final := false, record := { terminal := 5 } } : RxWindow), by decide, by decide⟩,
    ⟨0, (let s := (setTree treeUp 0 { tree treeUp 0 with window := some { lock := some 90, close := 200, final := true, record := { terminal := 5, strobe := 1 } } }); setTree s 0 { tree s 0 with await := [{ strobe := 2 }] }), ({ lock := some 90, close := 200, final := true, record := { terminal := 5, strobe := 1 } } : RxWindow), by decide, by decide, by decide⟩,
    ⟨0, (setTree treeUp 0 { tree treeUp 0 with await := [{ terminal := 5, strobe := 2 }] }), ({ terminal := 5, strobe := 2 } : BurstRecord), by decide⟩,
    ⟨0, treeUp, by decide⟩,
    ⟨0, (setTree treeUp 0 { tree treeUp 0 with discPeriodMs := 100 }), by decide, by decide, by decide, by decide⟩,
    ⟨0, 99, 5, treeUp, by decide, by decide, by decide⟩,
    ⟨0, 5, (setTerminal treeUp 0 5 { terminal treeUp 0 5 with state := 3, ranging := some { left := 2, before := 4 } }), ({ left := 2, before := 4 } : Ranging), by decide, by decide, by decide⟩,
    ⟨0, 5, 0, 1000000, (setTerminal treeUp 0 5 { terminal treeUp 0 5 with state := 3, ranging := some { left := 2, before := 4 } }), by decide, by decide, by decide, by decide, by decide⟩,
    ⟨0, 5, (setTerminal treeUp 0 5 { terminal treeUp 0 5 with driftDue := some (-40) }), (-40), 600000, by decide, by decide, by decide⟩,
    ⟨0, (setTree treeUp 0 { tree treeUp 0 with probes := [({ key := 5, ends := 0, energy := true, maxAmp := -900 } : Probe)] }), ({ key := 5, ends := 0, energy := true, maxAmp := -900 } : Probe), by decide⟩,
    ⟨0, (setTree treeUp 0 { tree treeUp 0 with txen := true, aligned := true }), by decide, by decide, by decide⟩,
    ⟨0, (setTree treeUp 0 { tree treeUp 0 with idleEnter := 8, idleRun := 8 }), by decide, by decide, by decide, by decide⟩,
    ⟨0, 40000, treeUp, by decide, by decide⟩,
    ⟨({ etherType := 0x88B5, port := 0x80, vlan := 0, tag := 3, payload := [1, 1, 0, 0, 0, 0, 0, 0, 0x40, 0x9C, 101, 0, 0xF4, 1, 0, 0] } : CoopFrame), (let s := setPortEnt treeUp 0x80 { enabled := true, pipeline := some 0, rate := 100 }; let s := setClient s 0 { width := 1 }; { s with tr := { s.tr with coop := { enable := true, etherType := 0x88B5, laneMask := 1 } } }), by decide, by decide, by decide, by decide, by decide, by decide⟩,
    ⟨0, treeUp, by decide, by decide, by decide, by decide⟩,
    ⟨0, xgem, (setPortCtx treeUp 50000 ({ present := true, tree := 0, terminal := 5, portId := 2000, up := true } : PortCtx)), 50000, ({ present := true, tree := 0, terminal := 5, portId := 2000, up := true } : PortCtx), by decide, by decide, by decide, by decide, by decide, by decide, by decide, by decide, by decide⟩⟩

theorem witness_CommandsOfRanges05And06Complete :
    (∃ (h : Caller) (l : Fin 4) (power : Int) (e : Held) (s : State) (c : LineP) (s1 : State),
      startable 0x0501 (some { kind := 8, scope := l.val }) h e s ∧
      owns h kLine l.val s = true ∧
      lineBusy l.val s = false ∧
      (portEnt s (0x40 + l.val)).enabled = false ∧
      (cup s (64 + l.val)).state = .active ∧
      (line s l.val).cfg = some c ∧
      framerFits l.val c s = true ∧
      1300 ≤ power ∧
      lanternOf l.val s = true ∧
      enablePort (0x40 + l.val) (lineRate c) s = .placed s1) ∧
    (∃ (h : Caller) (l : Fin 4) (e : Held) (s : State),
      startable 0x0502 none h e s ∧
      owns h kLine l.val s = true ∧
      lineBusy l.val s = false) ∧
    (∃ (h : Caller) (l : Fin 4) (e : Held) (s : State),
      startable 0x0503 none h e s ∧
      lineBusy l.val s = false) ∧
    (∃ (h : Caller) (l : Fin 4) (clear : Bool) (e : Held) (s : State),
      startable 0x0504 none h e s ∧
      lineBusy l.val s = false ∧
      (line s l.val).lockedOnce = true ∧
      ((clear = true → owns h kLine l.val s = true))) ∧
    (∃ (h : Caller) (l : Fin 4) (taps : List Int) (e : Held) (s : State),
      startable 0x0505 none h e s ∧
      owns h kLine l.val s = true ∧
      tapsOk taps = true ∧
      lineBusy l.val s = false ∧
      (line s l.val).cfg = none ∧
      (line s l.val).enabled = false) ∧
    (∃ (h : Caller) (p : AdjustP) (e : Held) (s : State) (c : LineP),
      startable 0x0506 none h e s ∧
      owns h kLine p.line.val s = true ∧
      p.wf = true ∧
      lineBusy p.line.val s = false ∧
      (line s p.line.val).enabled = true ∧
      (line s p.line.val).cfg = some c) ∧
    (∃ (h : Caller) (p : FramerP) (e : Held) (s : State),
      startable 0x0600 none h e s ∧
      owns h kLine p.line.val s = true ∧
      (cup s (64 + p.line.val)).state = .active ∧
      (line s p.line.val).enabled = false ∧
      p.wf = true) ∧
    (∃ (h : Caller) (l : Fin 4) (t : Fin 32) (mask : Nat) (e : Held) (s : State),
      startable 0x0601 none h e s ∧
      owns h kLine l.val s = true ∧
      (cup s (64 + l.val)).state = .active ∧
      ((∀ u, u < 32 → u ≠ t.val → ((tributary s l.val u).slots ||| ((tributary s l.val u).change.getD 0)) &&& mask = 0)) ∧
      mask ≠ 0 ∧
      mask < 2 ^ (20 * framerRate l.val s) ∧
      tributaryExists (tributary s l.val t.val) = false) ∧
    (∃ (h : Caller) (l : Fin 4) (t : Fin 32) (e : Held) (s : State),
      startable 0x0602 none h e s ∧
      owns h kLine l.val s = true ∧
      (cup s (64 + l.val)).state = .active ∧
      tributaryExists (tributary s l.val t.val) = true) ∧
    (∃ (h : Caller) (l : Fin 4) (e : Held) (s : State),
      startable 0x0603 none h e s ∧
      (cup s (64 + l.val)).state = .active) ∧
    (∃ (h : Caller) (p : TtiP) (e : Held) (s : State),
      startable 0x0604 none h e s ∧
      owns h kLine p.line.val s = true ∧
      (cup s (64 + p.line.val)).state = .active ∧
      p.wf = true) ∧
    (∃ (h : Caller) (l : Fin 4) (e : Held) (s : State),
      startable 0x0605 none h e s ∧
      owns h kLine l.val s = true ∧
      (cup s (64 + l.val)).state = .active ∧
      framing l.val s = true ∧
      (framer s l.val).measuring = false) ∧
    (∃ (h : Caller) (l : Fin 4) (e : Held) (s : State) (x : List Byte),
      startable 0x0606 none h e s ∧
      (cup s (64 + l.val)).state = .active ∧
      (framer s l.val).sm.accepted = some x) :=
  ⟨⟨cal, 0, 1300, (ask 0x0501 (some { kind := 8, scope := (0 : Fin 4).val }) cal), (asked 0x0501 (some { kind := 8, scope := (0 : Fin 4).val }) cal (let s := { base with line := { base.line with lanterns := 0xF } }; setFramer (setLine s 0 { cfg := some lineP }) 0 { cfg := some framerP })), lineP, (match enablePort 0x40 (lineRate lineP) (asked 0x501 (some { kind := 8, scope := 0 }) cal (let s := { base with line := { base.line with lanterns := 0xF } }; setFramer (setLine s 0 { cfg := some lineP }) 0 { cfg := some framerP })) with | .placed x => x | _ => base), held_startable _ _ _ _, by decide, by decide, by decide, by decide, by decide, by decide, by decide, by decide, rfl⟩,
    ⟨cal, 0, (ask 0x0502 none cal), (asked 0x0502 none cal lineUp), held_startable _ _ _ _, by decide, by decide⟩,
    ⟨cal, 3, (ask 0x0503 none cal), (asked 0x0503 none cal lineUp), held_startable _ _ _ _, by decide⟩,
    ⟨cal, 0, true, (ask 0x0504 none cal), (asked 0x0504 none cal lineUp), held_startable _ _ _ _, by decide, by decide, by decide⟩,
    ⟨cal, 0, (List.replicate 255 32767 ++ [-32768]), (ask 0x0505 none cal), (asked 0x0505 none cal base), held_startable _ _ _ _, by decide, by decide, by decide, by decide, by decide⟩,
    ⟨cal, ({ line := 0, txPower := -500, sdThreshold := 0, maskMute := true } : AdjustP), (ask 0x0506 none cal), (asked 0x0506 none cal lineUp), lineP, held_startable _ _ _ _, by decide, by decide, by decide, by decide, by decide⟩,
    ⟨cal, framerP, (ask 0x0600 none cal), (asked 0x0600 none cal base), held_startable _ _ _ _, by decide, by decide, by decide, by decide⟩,
    ⟨cal, 0, 31, 0xF, (ask 0x0601 none cal), (asked 0x0601 none cal (setFramer base 0 { cfg := some framerP })), held_startable _ _ _ _, by decide, by decide, by decide, by decide, by decide, by decide⟩,
    ⟨cal, 0, 3, (ask 0x0602 none cal), (asked 0x0602 none cal (setTributary lineUp 0 3 { slots := 1 })), held_startable _ _ _ _, by decide, by decide, by decide⟩,
    ⟨cal, 0, (ask 0x0603 none cal), (asked 0x0603 none cal lineUp), held_startable _ _ _ _, by decide⟩,
    ⟨cal, ({ line := 0, pm := true, expected := false, tti := List.replicate 64 1 } : TtiP), (ask 0x0604 none cal), (asked 0x0604 none cal base), held_startable _ _ _ _, by decide, by decide, by decide⟩,
    ⟨cal, 0, (ask 0x0605 none cal), (asked 0x0605 none cal lineUp), held_startable _ _ _ _, by decide, by decide, by decide, by decide⟩,
    ⟨cal, 0, (ask 0x0606 none cal), (asked 0x0606 none cal (setFramer lineUp 0 { framer lineUp 0 with sm := { accepted := some (List.replicate 64 2) } })), (List.replicate 64 2), held_startable _ _ _ _, by decide, by decide⟩⟩

end Sys2Proof.Tests
end

section
/-!
PROOFS of the scope chapter. The state after reset, read through the accessors of its tables; and that every command answers a
next state.
-/
namespace Sys2Proof.Machine

/-! ## The state after reset: no table lists an entry, so each read gives the default of its kind -/

@[simp] theorem ring_reset (fn k : Nat) : ring State.reset fn k = {} := tget_nil _ _
@[simp] theorem fnRegs_reset (fn : Nat) : fnRegs State.reset fn = {} := tget_nil _ _
@[simp] theorem evq_reset (q : Nat) : evq State.reset q = {} := tget_nil _ _
@[simp] theorem session_reset (h : Nat) : session State.reset h = {} := tget_nil _ _
@[simp] theorem own_reset (kind idx : Nat) : own State.reset kind idx = {} := tget_nil _ _
@[simp] theorem tree_reset (t : Nat) : tree State.reset t = {} := tget_nil _ _
@[simp] theorem line_reset (l : Nat) : line State.reset l = {} := tget_nil _ _
@[simp] theorem timeBase_reset (b : Nat) : timeBase State.reset b = {} := tget_nil _ _

/-- Clusters A and the Keep come up Active; the table of cupolas lists none of them (R515). -/
theorem cup_state_reset (k : Nat) : (cup State.reset k).state = if alwaysUp k then .active else .off := by
  have hnone : tget {} k State.reset.pwr.cupolas = ({} : Cupola) := tget_nil _ _
  cases hk : alwaysUp k <;> simp [cup, hnone, hk]

/-- No time base has failed its check, no fence of a domain or a tree stands, and the key store is not zeroised. -/
theorem safeState_reset : safeState State.reset = false := by decide

/-- Settles O3: field by field, each table through its accessor, which reads an empty table. -/
theorem resetState : Obligations.ResetState := by
  unfold Obligations.ResetState
  refine ⟨rfl, rfl, rfl, rfl, safeState_reset, ?ring, ?evq, ?session, ?own, ?tree, ?line, ?timeBase, ?fnRegs,
    cup_state_reset, rfl, rfl⟩
  case ring | evq | session | own | tree | line | timeBase | fnRegs => simp

/-! ## How an outcome that goes on is built -/

theorem goesOn_next (t : State) : goesOn (.next t) := ⟨t, rfl⟩

/-- A guard goes on when both its branches do. -/
theorem goesOn_ite {p : Prop} [Decidable p] {a b : Host.Outcome State Fault Refusal} (ha : goesOn a) (hb : goesOn b) :
    goesOn (if p then a else b) := by
  split
  · exact ha
  · exact hb

/-- A mailbox command goes on whatever its own work replies: not taken up, waiting for its cupola, or run. -/
theorem goesOn_perform (op : Nat) (act : Option Activity) (cupola : State → Option Nat) (h : Caller)
    (body : State → Reply) (s : State) : goesOn (perform op act cupola h body s) := by
  fun_cases perform op act cupola h body s <;> exact goesOn_next _

theorem goesOn_settled {o : Host.Outcome State Fault Refusal} (ho : goesOn o) : goesOn (settled o) := by
  obtain ⟨t, rfl⟩ := ho
  exact goesOn_next _

/-! ## Every command -/

/-- Every command answers a next state: the rows of the mailbox are `perform` of their own work, and every branch of the
others, under guards alone or under matches, ends in a next state. -/
theorem exec_goesOn (c : Instr) (s : State) : goesOn (exec c s) := by
  cases c <;> dsimp only [exec]
  case sessionClose | ringDestroy => exact goesOn_settled (goesOn_perform ..)
  -- The rows that match on a table's entry, a held command or a received message.
  case deviceReset | fwActivate | registerWrite | bar2Read | bar2Write | commandTimeout | resetDelayExpiry |
      bootImageFetched | burstWindowStart | provisionalLock | delimiterAccept | grantedWindowEnd | rssiTrig |
      rssiReading | upstreamXgemFrame | driftCorrection | serialNumberResponse | rangingResponse | rangingWindowClose |
      acquisitionStepEnd | frameAlignment | multiframeBoundary | dmpReturn | sealControlMessage | macsecRxFrame |
      witnessMessage | packetEgress | spillReadback | pipelineRemapComplete | allocRetry | bpHoldExpiry | ptpMessage |
      servoCorrection | leaseGrant | arbiterLeaseMessage | heartbeat | heartbeatTimeout | marlFrame | marlPartComplete |
      wtrExpiry | handoverRelease | fabricFrame | adjacencyTimeout | linkStateExpiry | fabricTimeSourceLost |
      dqsDriftCheck | dmaStep | registerRead | tableOperationComplete | selfTestEnd | rogueProbeEnd | eyeScanEnd |
      perfLevelSettled | revertSend =>
    simp only [execDeviceReset, execFwActivate, execRegisterWrite, execBar2Read, execBar2Write, execCommandTimeout,
      execResetDelayExpiry, execBootImageFetched, execBurstWindowStart, execProvisionalLock, execDelimiterAccept,
      execGrantedWindowEnd, execRssiTrig, execRssiReading, execUpstreamXgemFrame, execDriftCorrection,
      execSerialNumberResponse, execRangingResponse, execRangingWindowClose, execAcquisitionStepEnd,
      execFrameAlignment, execMultiframeBoundary, execDmpReturn, execSealControlMessage, execMacsecRxFrame,
      execWitnessMessage, execPacketEgress, execSpillReadback, execPipelineRemapComplete, execAllocRetry,
      execBpHoldExpiry, execPtpMessage, execServoCorrection, execLeaseGrant, execArbiterLeaseMessage, execHeartbeat,
      execHeartbeatTimeout, execMarlFrame, execMarlPartComplete, execWtrExpiry, execHandoverRelease, execFabricFrame,
      execAdjacencyTimeout, execLinkStateExpiry, execFabricTimeSourceLost, execDqsDriftCheck, execDmaStep,
      execRegisterRead, execTableOperationComplete, execSelfTestEnd, execRogueProbeEnd, execEyeScanEnd,
      execPerfLevelSettled, execRevertSend]
    repeat' split
    all_goals exact goesOn_next _
  all_goals apply_rules [goesOn_perform, goesOn_next, goesOn_ite]

/-- Settles O4: `exec` goes on for every constructor of `Instr`. -/
theorem everyCommandGoesOn : Obligations.EveryCommandGoesOn := by
  unfold Obligations.EveryCommandGoesOn
  exact exec_goesOn

end Sys2Proof.Machine
end

section
/-!
PROOFS of the host and mailbox chapter. Doorbells of a ring that is not enabled, and a ring enabled afresh; a fetch under a running
number that is held already; and that a function reaches no byte of board memory outside its windows.
-/
namespace Sys2Proof.Machine

/-! ## The arms of `exec` that these proofs run -/

theorem exec_mbxSqTail (f : PciFn) (k : Fin 64) (tail : Nat) (s : State) :
    exec (.mbxSqTail f k tail) s = execMbxSqTail f k tail s := rfl
theorem exec_mbxCqHead (f : PciFn) (k : Fin 64) (head : Nat) (s : State) :
    exec (.mbxCqHead f k head) s = execMbxCqHead f k head s := rfl
theorem exec_adminRingEnable (f : PciFn) (a b : Nat) (q : Fin 256) (s : State) :
    exec (.adminRingEnable f a b q) s = execAdminRingEnable f a b q s := rfl
theorem exec_ringCreate (h : Caller) (p : RingP) (s : State) : exec (.ringCreate h p) s = execRingCreate h p s := rfl
theorem exec_bar2Write (linkB : Bool) (va : Nat) (data : List Byte) (s : State) :
    exec (.bar2Write linkB va data) s = execBar2Write linkB va data s := rfl
theorem exec_dmaStep (c : Fin 64) (d data : List Byte) (flips : List (Nat × DqFlips)) (s : State) :
    exec (.dmaStep c d data flips) s = execDmaStep c d data flips s := rfl

/-! ## Doorbells of a ring that is not enabled; a ring enabled (R61, R80, R612) -/

theorem exec_mbxSqTail_of_disabled {f : PciFn} {k : Fin 64} {s : State} (tail : Nat)
    (hd : (ring s (pciKey f) k.val).enabled = false) : exec (.mbxSqTail f k tail) s = .next s := by
  simp [exec_mbxSqTail, execMbxSqTail, hd]

theorem exec_mbxCqHead_of_disabled {f : PciFn} {k : Fin 64} {s : State} (head : Nat)
    (hd : (ring s (pciKey f) k.val).enabled = false) : exec (.mbxCqHead f k head) s = .next s := by
  simp [exec_mbxCqHead, execMbxCqHead, hd]

/-- Commands that each leave the state as it is leave it so together. -/
theorem execAll_of_each_keeps {s : State} {cs : List Instr} (h : ∀ c ∈ cs, exec c s = .next s) : execAll cs s = .next s := by
  induction cs with
  | nil => rfl
  | cons c cs ih =>
    have hc : exec c s = .next s := h c List.mem_cons_self
    simp only [execAll, hc]
    exact ih (fun d hd => h d (List.mem_cons_of_mem c hd))

/-- Ring 0, disabled, is enabled afresh with the sizes, the queue and the bases of the function's registers (R61). -/
theorem exec_adminRingEnable_of_disabled {f : PciFn} {s : State} (a b : Nat) (q : Fin 256) (hr : s.boot.fwReady = true)
    (hd : (ring s (pciKey f) 0).enabled = false) :
    ∃ sqBase cqBase, exec (.adminRingEnable f a b q) s =
      .next (setRing (storeCtrl f (a % 16) (b % 16) q s) (pciKey f) 0 (freshRing (a % 16) (b % 16) q.val sqBase cqBase)) := by
  simp only [exec_adminRingEnable, execAdminRingEnable, windowsDown, hr, hd]
  exact ⟨_, _, rfl⟩

/-- RING_CREATE enables a ring of its issuer that is not enabled afresh (R80). -/
theorem exec_ringCreate_of_disabled {h : Caller} {p : RingP} {e : Held} {s : State} (hs : startable 0x0010 none h e s)
    (h0 : p.ring.val ≠ 0) (hd : (ring s (fnKey h.id.fn) p.ring.val).enabled = false)
    (hq : (evq s p.evq.val).owner = fnKey h.id.fn) (hw : p.wf = true) :
    exec (.ringCreate h p) s = .next (finish e stOk 0 0 [] (setRing s (fnKey h.id.fn) p.ring.val
      (freshRing p.sqLog2 p.cqLog2 p.evq.val p.sqBase p.cqBase))) := by
  have hreserved : e.reserved = false := hs.2.2
  rw [exec_ringCreate, execRingCreate, perform_noCupola _ hs, runBody_done _ stOk 0 0 [] _ hreserved]
  simp [h0, hd, hq, hw, okay]

/-- Settles O48: each doorbell write keeps the state, so any number of them does; both ways of enabling write a fresh ring. -/
theorem doorbellsOfADisabledRingAreDiscarded : Obligations.DoorbellsOfADisabledRingAreDiscarded := by
  unfold Obligations.DoorbellsOfADisabledRingAreDiscarded
  refine ⟨?doorbells, ?adminEnable, ?create⟩
  case doorbells =>
    intro f k writes s hd hw
    refine execAll_of_each_keeps fun c hc => ?_
    obtain ⟨v, rfl | rfl⟩ := hw c hc
    · exact exec_mbxSqTail_of_disabled v hd
    · exact exec_mbxCqHead_of_disabled v hd
  case adminEnable =>
    intro f a b q s hr hd
    obtain ⟨sqBase, cqBase, he⟩ := exec_adminRingEnable_of_disabled a b q hr hd
    exact ⟨_, he, by simp [freshRing]⟩
  case create =>
    intro h p e s hs h0 hd hq hw
    exact ⟨_, exec_ringCreate_of_disabled hs h0 hd hq hw, rfl, rfl, rfl, rfl, rfl, rfl⟩

/-! ## Two commands of one running number -/

/-- The PF of link A. -/
def pfOfLinkA : PciFn := { linkB := false, num := 0 }

/-- SAFETY_SELF_TEST with TAG 1 in ring 0 of the PF of link A, running number 0, waiting for the presentation of its batch. -/
def batchedSelfTest : Held :=
  { id := { fn := .pci pfOfLinkA, ring := 0, tag := 1 }, num := 0, opcode := 0x0108, session := 0, fence := false, notify := false,
    respLen := 0, respAddr := 0, timeoutUs := 0, fetchedAt := 0, activity := some { kind := 12, scope := 0 }, reserved := false,
    deferredOnce := false, wakingOnce := false, discard := false, untimed := false, order := 0, phase := .batched }

/-- The self-test is held under the number that the next fetch gives out, an update that excludes it runs, and ring 0 has one
command to be fetched. -/
def nextNumberHeld : State :=
  { boot := { fwReady := true }
    mbx := { rings := [(0, { enabled := true, phase := true, sqTail := 1 })], held := [batchedSelfTest] }
    pwr := { running := [{ activity := { kind := 10, scope := 0 }, owner := none }] } }

/-- The header of NOP with TAG 0: 64 bytes of zero. -/
def nopHeader : List Byte := List.replicate 64 0

/-- The last of its batch, NOP brings the batch before the arbiter, which defers the self-test: `interim` puts the self-test in
the place of every held command of its running number, NOP's too. -/
theorem exec_commandFetch_nextNumberHeld :
    ∃ t, exec (.commandFetch pfOfLinkA 0 nopHeader { activity := none, lastMaint := true }) nextNumberHeld = .next t ∧
      t.mbx.held.map (fun x => x.id.tag) = [1, 1] :=
  ⟨_, rfl, by decide⟩

/-- Refutes O47, by its clause of COMMAND_FETCH. In `nextNumberHeld` the fetch takes NOP in under running number 0, which the
self-test already bears; after the presentation both held commands are the self-test, so none carries the TAG of NOP. The clause
does not ask that no held command bear the number `s.mbx.fetched`. -/
theorem not_doorbellsRegistersAndMailboxSteps : ¬ Obligations.DoorbellsRegistersAndMailboxSteps := by
  unfold Obligations.DoorbellsRegistersAndMailboxSteps
  rintro ⟨-, -, -, -, -, -, -, -, -, -, hfetch, -⟩
  obtain ⟨t, x, ht, hx, -, hid, -⟩ := hfetch pfOfLinkA 0 nopHeader { activity := none, lastMaint := true } nextNumberHeld
    (by decide) (by decide) (by decide)
  obtain ⟨u, hu, htags⟩ := exec_commandFetch_nextNumberHeld
  rw [hu] at ht
  obtain rfl : u = t := by injection ht
  have htag : x.id.tag ∈ [1, 1] := htags ▸ List.mem_map_of_mem hx
  rw [hid] at htag
  exact absurd htag (by decide)

/-! ## What leaves the memory as it is -/

/-- A fold keeps a reading of the state that each of its steps keeps. -/
theorem foldl_keeps {α β : Type} (p : State → β) (f : State → α → State) (h : ∀ s a, p (f s a) = p s) (l : List α) (s : State) :
    p (l.foldl f s) = p s := by
  induction l generalizing s with
  | nil => rfl
  | cons a l ih => rw [List.foldl_cons, ih, h]

theorem sameButEvents_mem {s t : State} (h : sameButEvents s t) : t.mem = s.mem := by
  obtain ⟨ev, out, msix, rfl⟩ := h
  rfl

@[simp] theorem post_mem (src : Nat) (cls : EvClass) (payload : Nat) (s : State) : (post src cls payload s).mem = s.mem :=
  sameButEvents_mem (post_frame src cls payload s)
@[simp] theorem postFn_mem (q : Option Nat) (src : Nat) (cls : EvClass) (payload : Nat) (s : State) :
    (postFn q src cls payload s).mem = s.mem := sameButEvents_mem (postFn_frame q src cls payload s)
@[simp] theorem postDma_mem (d kind index : Nat) (s : State) : (postDma d kind index s).mem = s.mem := post_mem ..

@[simp] theorem count_mem (ev inst n : Nat) (domain : Option Nat) (s : State) : (count ev inst n domain s).mem = s.mem := by
  unfold count
  split
  · rfl
  · exact foldl_keeps (·.mem) _ (fun _ _ => by rfl) _ _

/-! ### Resources taken out of service (R107) -/

@[simp] theorem quiesceTree_mem (t : Nat) (s : State) : (quiesceTree t s).mem = s.mem := by
  simp only [quiesceTree]
  split <;> rfl

@[simp] theorem putLine_mem (l : Nat) (v : LineEngine) (s : State) : (putLine l v s).mem = s.mem := by
  have hdefects (d : Nat) (u : State) : (postDefects l d u).mem = u.mem := by
    refine foldl_keeps (·.mem) _ (fun st n => ?_) _ _
    split
    · rfl
    · exact post_mem ..
  have hsearch (u : State) : (framerSearch l u).mem = u.mem := by
    unfold framerSearch
    split <;> rfl
  simp only [putLine, hdefects]
  split
  · rfl
  · split
    · exact hsearch _
    · rfl

@[simp] theorem stopLine_mem (l : Nat) (s : State) : (stopLine l s).mem = s.mem := by
  simp only [stopLine]
  split
  · rfl
  · simp [postLine, disablePort]

@[simp] theorem quiesceLane_mem (x : Nat) (s : State) : (quiesceLane x s).mem = s.mem := by
  unfold quiesceLane
  extract_lets s1 stop
  have hstop (k : Nat) (u : State) : (stop k u).mem = u.mem := by
    simp only [stop]
    split <;> rfl
  rw [hstop, hstop]
  rfl

@[simp] theorem quiesceOwned_mem (h : Nat) (s : State) : (quiesceOwned h s).mem = s.mem := by
  unfold quiesceOwned
  rw [foldl_keeps (·.mem) _ fun _ _ => foldl_keeps (·.mem) _ (fun _ _ => quiesceLane_mem _ _) _ _,
    foldl_keeps (·.mem) _ fun _ _ => stopLine_mem _ _, foldl_keeps (·.mem) _ fun _ _ => quiesceTree_mem _ _]

/-! ### Completions, and what waits for them (R69, R80, R106) -/

@[simp] theorem putCompletion_mem (fn k : Nat) (w : Waiting) (s : State) : (putCompletion fn k w s).mem = s.mem := by
  simp only [putCompletion]
  split <;> split <;> simp

@[simp] theorem drainWaiting_mem (fn k n : Nat) (s : State) : (drainWaiting fn k n s).mem = s.mem := by
  induction n generalizing s with
  | zero => rfl
  | succ n ih =>
    simp only [drainWaiting]
    split
    · rfl
    · split
      · simp [ih]
      · rfl

@[simp] theorem deliver_mem (e : Held) (status : Nat) (final : Bool) (detail result : Nat) (resp : List Byte) (s : State) :
    (deliver e status final detail result resp s).mem = s.mem := by
  simp only [deliver]
  split
  · rfl
  · split
    · split <;> simp
    · simp
    · split <;> rfl

@[simp] theorem disposeSession_mem (h : Nat) (quiesce : Bool) (s : State) : (disposeSession h quiesce s).mem = s.mem := by
  cases quiesce
  · rfl
  · exact quiesceOwned_mem h s

theorem settleOne_mem {s t : State} (h : settleOne s = some t) : t.mem = s.mem := by
  unfold settleOne at h
  split at h
  · dsimp only at h
    split at h <;> obtain rfl := Option.some.inj h <;> simp [dropHeld]
  · split at h
    · split at h
      · obtain rfl := Option.some.inj h
        simp [dropHeld]
      · cases h
    · cases h

@[simp] theorem settle_mem (s : State) : (settle s).mem = s.mem := by
  have hsettleN (n : Nat) (u : State) : (settleN n u).mem = u.mem := by
    induction n generalizing u with
    | zero => rfl
    | succ n ih =>
      unfold settleN
      split
      · rename_i v hv
        rw [ih, settleOne_mem hv]
      · rfl
  exact hsettleN _ s

/-! ### Presentations and session restarts (R76, R98, R99) -/

@[simp] theorem interim_mem (e : Held) (status : Nat) (phase : Phase) (s : State) : (interim e status phase s).mem = s.mem := by
  unfold interim
  extract_lets once e1 s1
  split
  · rfl
  · exact deliver_mem ..

@[simp] theorem present_mem (e : Held) (s : State) : (present e s).mem = s.mem := by
  unfold present
  split
  · rfl
  · split
    · rfl
    · exact interim_mem ..

@[simp] theorem presentAll_mem (p : Nat → Bool) (s : State) : (presentAll p s).mem = s.mem :=
  foldl_keeps (·.mem) _ (fun _ _ => present_mem _ _) _ _

@[simp] theorem restartWhere_mem (p : Nat → Bool) (s : State) : (restartWhere p s).mem = s.mem := by
  have hmarked (u : State) : (markRestarted p u).mem = u.mem := foldl_keeps (·.mem) _ (fun _ _ => by rfl) _ _
  simp only [restartWhere, settle_mem, presentAll_mem, hmarked]
  rfl

@[simp] theorem mayRestart_mem (fn : Nat) (s : State) : (mayRestart fn s).mem = s.mem := by
  simp only [mayRestart]
  split
  · rfl
  · exact restartWhere_mem _ _

/-! ## Windows: what the translation of a function can reach (R504, R505) -/

theorem inWindows_congr {s t : State} (h : t.mem.windows = s.mem.windows) (fn a n : Nat) :
    inWindows fn a n t = inWindows fn a n s := by
  simp only [inWindows, h]

/-- What lies within bytes of one window lies in that window. -/
theorem inWindows_within {fn a n b m : Nat} {s : State} (h : inWindows fn a n s = true) (hab : a ≤ b) (hbm : b + m ≤ a + n) :
    inWindows fn b m s = true := by
  simp only [inWindows, List.any_eq_true, Bool.and_eq_true, decide_eq_true_eq] at h ⊢
  obtain ⟨w, hw, ⟨hsize, hfirst⟩, hlast⟩ := h
  exact ⟨w, hw, ⟨hsize, by omega⟩, by omega⟩

/-- A function whose four windows are empty has no byte in a window. -/
theorem inWindows_of_noWindow {fn : Nat} {s : State} (h : ∀ w, w < 4 → (tget (0, 0) (fn * 4 + w) s.mem.windows).2 = 0)
    (a n : Nat) : inWindows fn a n s = false := by
  simp only [inWindows, List.any_eq_false, List.mem_range]
  intro w hw
  simp [h w hw]

/-- A page that lies in one window of the function, of 4 KiB at least. -/
def pageInWindow (fn : Nat) (e : TlbEntry) (s : State) : Prop := 12 ≤ e.size ∧ inWindows fn e.base (2 ^ e.size) s = true

/-- The walk of tables whose entries cover 4 KiB at least ends in such a page. -/
theorem walk_pageInWindow {fn va : Nat} {s : State} {levels : List Nat} {e : TlbEntry} (hl : ∀ sh ∈ levels, 12 ≤ sh)
    {table : Nat} (h : walk fn va s levels table = .page e) : pageInWindow fn e s := by
  induction levels generalizing table with
  | nil => cases h
  | cons sh rest ih =>
    unfold walk at h
    extract_lets ea w addr leaf page at h
    split at h
    · cases h
    · split at h
      · cases h
      · split at h
        · split at h
          · cases h
          next hw =>
            obtain rfl := Walk.page.inj h
            exact ⟨hl sh List.mem_cons_self, by simpa using hw⟩
        · exact ih (fun x hx => hl x (List.mem_cons_of_mem sh hx)) h

theorem pageOf_pageInWindow {fn va : Nat} {s : State} {e : TlbEntry} (h : pageOf fn va s = .page e) : pageInWindow fn e s := by
  unfold pageOf at h
  split at h
  next k hk =>
    obtain rfl := Walk.page.inj h
    unfold keptPage at hk
    split at hk
    next x hx =>
      split at hk
      · obtain rfl := Option.some.inj hk
        have hfound := List.find?_some hx
        simp only [Bool.and_eq_true, decide_eq_true_eq] at hfound
        obtain ⟨⟨hsize, -⟩, hwindow⟩ := hfound
        exact ⟨hsize, hwindow⟩
      · cases hk
    · cases hk
  · exact walk_pageInWindow (by decide) h

/-- Where a virtual address translates, the bytes up to its next 4 KiB boundary lie with it in one window of the function. -/
theorem inWindows_of_translate {fn va pa : Nat} {write : Bool} {s : State} (h : translate fn va write s = .at pa) :
    inWindows fn pa (toBoundary va) s = true := by
  unfold translate at h
  split at h
  · cases h
  next e he =>
    by_cases hallowed : (if write then e.write else e.read) = true
    · rw [if_pos hallowed] at h
      obtain rfl := Translation.at.inj h
      obtain ⟨hsize, hwindow⟩ := pageOf_pageInWindow he
      obtain ⟨m, hm⟩ : 4096 ∣ 2 ^ e.size := Nat.pow_dvd_pow 2 hsize
      have hlt : va % 2 ^ e.size < 2 ^ e.size := Nat.mod_lt _ (Nat.two_pow_pos _)
      have hoffset : va % 2 ^ e.size % 4096 = va % 4096 := Nat.mod_mod_of_dvd va ⟨m, hm⟩
      refine inWindows_within hwindow (by omega) ?_
      simp only [toBoundary]
      omega
    · rw [if_neg hallowed] at h
      cases h

/-- What translates lies in a window of the function. -/
theorem inWindows_of_translate_byte {fn va pa : Nat} {write : Bool} {s : State} (h : translate fn va write s = .at pa) :
    inWindows fn pa 1 s = true :=
  inWindows_within (inWindows_of_translate h) le_rfl (by simp only [toBoundary]; omega)

/-! ## What leaves the contents of memory, and the windows, as they are -/

/-- The contents of memory and the windows of `t` are those of `s`. -/
def sameContents (s t : State) : Prop := t.mem.cells = s.mem.cells ∧ t.mem.windows = s.mem.windows

theorem sameContents_of_mem {s t : State} (h : t.mem = s.mem) : sameContents s t := by simp [sameContents, h]

theorem sameContents_trans {s t u : State} (h : sameContents s t) (k : sameContents t u) : sameContents s u :=
  ⟨k.1.trans h.1, k.2.trans h.2⟩

theorem readByte_of_sameContents {s t : State} (h : sameContents s t) (a : Nat) : readByte a t = readByte a s := by
  simp only [readByte, h.1]

theorem sameContents_foldl {α : Type} {f : State → α → State} (h : ∀ s a, sameContents s (f s a)) (l : List α) (s : State) :
    sameContents s (l.foldl f s) :=
  ⟨foldl_keeps (·.mem.cells) f (fun s a => (h s a).1) l s, foldl_keeps (·.mem.windows) f (fun s a => (h s a).2) l s⟩

theorem sameContents_setMmuPage (s : State) (fn : Nat) (v : MmuPage) : sameContents s (setMmuPage s fn v) := ⟨rfl, rfl⟩
theorem sameContents_setDmaChannel (s : State) (c : Nat) (v : DmaChannel) : sameContents s (setDmaChannel s c v) := ⟨rfl, rfl⟩

theorem sameContents_enterAll (requester : Nat) (client : MemClient) (flips : List (Nat × DqFlips)) (lines : List Nat)
    (s : State) : sameContents s (enterAll requester client flips lines s) := by
  refine sameContents_foldl (fun st l => ?_) lines s
  simp only [enterRequest]
  split <;> exact ⟨rfl, rfl⟩

theorem sameContents_keepPages (fn : Nat) (vas : List Nat) (s : State) : sameContents s (keepPages fn vas s) := by
  refine sameContents_foldl (fun st va => ?_) vas s
  dsimp only
  split
  · split
    · exact sameContents_of_mem rfl
    · exact sameContents_setMmuPage ..
  · exact sameContents_of_mem rfl

theorem sameContents_mmuFault (fn va kind : Nat) (write bar2 : Bool) (ch : Nat) (s : State) :
    sameContents s (mmuFault fn va kind write bar2 ch s) :=
  sameContents_trans (sameContents_setMmuPage s fn _) (sameContents_of_mem (post_mem ..))

/-! ## Writes through BAR2 (R56) -/

/-- The bytes outside the windows of the function stay. -/
theorem readByte_bar2Bytes_outside {fn a : Nat} {s : State} (h : inWindows fn a 1 s = false) (va : Nat) (data : List Byte) :
    readByte a (bar2Bytes fn va data s) = readByte a s := by
  induction data generalizing va s with
  | nil => rfl
  | cons b rest ih =>
    rw [bar2Bytes]
    split
    next pa hpa =>
      split
      · exact ih h (va + 1)
      · have hne : a ≠ pa := by
          rintro rfl
          simp [inWindows_of_translate_byte hpa] at h
        have hw : inWindows fn a 1 (writeByte pa b s) = false := (inWindows_congr rfl fn a 1).trans h
        rw [ih hw, readByte_writeByte_other _ _ _ _ hne]
    · exact ih h (va + 1)

theorem exec_bar2Write_outside (linkB : Bool) (va : Nat) (data : List Byte) (s : State) :
    ∃ t, exec (.bar2Write linkB va data) s = .next t ∧
      ∀ a, inWindows (if linkB then 64 else 0) a 1 s = false → readByte a t = readByte a s := by
  rw [exec_bar2Write]
  unfold execBar2Write
  extract_lets fn vas pas s1
  have hs1 : sameContents (bar2Bytes fn va data s) s1 :=
    sameContents_trans (sameContents_keepPages ..) (sameContents_enterAll ..)
  split
  · refine ⟨_, rfl, fun a ha => ?_⟩
    rw [readByte_of_sameContents (sameContents_trans hs1 (sameContents_mmuFault ..)), readByte_bar2Bytes_outside ha]
  · refine ⟨_, rfl, fun a ha => ?_⟩
    rw [readByte_of_sameContents hs1, readByte_bar2Bytes_outside ha]

/-! ## Steps of the DMA engine (R509, R510) -/

theorem sameContents_stepDone (c : Nat) (d : Descriptor) (n : Nat) (s : State) : sameContents s (stepDone c d n s) := by
  unfold stepDone
  extract_lets v s1
  split
  · exact sameContents_setDmaChannel ..
  · split
    · exact sameContents_trans (sameContents_setDmaChannel s c _) (sameContents_of_mem (postDma_mem ..))
    · exact sameContents_setDmaChannel ..

theorem sameContents_stepFaults (c fn : Nat) (d : Descriptor) (f : Nat × Nat × Bool) (s : State) :
    sameContents s (stepFaults c fn d f s) := by
  unfold stepFaults
  extract_lets v
  split
  · exact sameContents_trans (sameContents_setDmaChannel s c _) (sameContents_mmuFault ..)
  · exact sameContents_trans (sameContents_trans (sameContents_setDmaChannel s c _) (sameContents_mmuFault ..))
      (sameContents_of_mem (postDma_mem ..))

/-- A host error of a descriptor writes no byte. -/
theorem dmaHostError_cells (c fn : Nat) (s : State) : (dmaHostError c fn s).mem.cells = s.mem.cells := by
  simp only [dmaHostError, mayRestart_mem]
  split
  · rw [postDma_mem]
    rfl
  · rw [scrambleAll_cells]
    rfl

/-- The end of a step writes no byte but those of its destination. -/
theorem readByte_endStep_outside {c fn offset : Nat} {d : Descriptor} {dest : Option Nat} {data : List Byte} {s : State} {a : Nat}
    (hdest : ∀ pa, dest = some pa → a < pa ∨ pa + data.length ≤ a) :
    readByte a (endStep c fn d offset dest data s) = readByte a s := by
  have hwrite : readByte a (stepWrite c fn d offset dest data s) = readByte a s := by
    unfold stepWrite
    split
    · rfl
    next pa =>
      rw [readByte_of_sameContents (sameContents_enterAll ..)]
      split
      · rfl
      · exact readByte_writeBytes_outside _ _ _ _ (hdest pa rfl)
  unfold endStep
  rw [readByte_of_sameContents (sameContents_stepDone ..), readByte_of_sameContents (sameContents_of_mem (count_mem ..)), hwrite]

/-- A step's bytes reach no further than the next 4 KiB boundary of its destination. -/
theorem stepBytes_le_toBoundary (d : Descriptor) (offset : Nat) : stepBytes d offset ≤ toBoundary (d.dst + offset) := by
  simp only [stepBytes]
  split <;> omega

/-- A byte outside the windows lies outside what a step of at most `stepBytes` bytes writes at its destination. -/
theorem outside_destination {fn a pa n offset : Nat} {d : Descriptor} {s : State} (ha : inWindows fn a 1 s = false)
    (hpa : translate fn (d.dst + offset) true s = .at pa) (hn : n ≤ stepBytes d offset) : a < pa ∨ pa + n ≤ a := by
  by_contra hin
  have hle := stepBytes_le_toBoundary d offset
  simp [inWindows_within (inWindows_of_translate hpa) (b := a) (m := 1) (by omega) (by omega)] at ha

theorem readByte_takeStep_outside {c fn a : Nat} {d : Descriptor} {hostData : List Byte} {flips : List (Nat × DqFlips)}
    {s : State} (ha : inWindows fn a 1 s = false) :
    readByte a (takeStep c fn d hostData flips s) = readByte a s := by
  unfold takeStep
  extract_lets v mem n dest vas s1 v1
  split
  · exact readByte_of_sameContents (sameContents_trans (t := { s with mem := { s.mem with lastDma := c } }) ⟨rfl, rfl⟩
      (sameContents_stepFaults ..)) a
  · have hs1 : sameContents s s1 :=
      sameContents_trans (t := { s with mem := { s.mem with lastDma := c } }) ⟨rfl, rfl⟩ (sameContents_keepPages ..)
    have hdest (m : Nat) (hm : m ≤ n) (pa : Nat) (hpa : dest = some pa) : a < pa ∨ pa + m ≤ a := by
      simp only [dest] at hpa
      split at hpa
      · cases hpa
      · unfold physical at hpa
        split at hpa
        next p hp =>
          obtain rfl := Option.some.inj hpa
          exact outside_destination ha hp hm
        · cases hpa
    split
    · rw [readByte_endStep_outside (hdest _ (by simp)), readByte_of_sameContents hs1]
    · split
      · split
        · exact readByte_of_sameContents (sameContents_setDmaChannel ..) a
        · rw [readByte_endStep_outside (hdest _ (by simp)), readByte_of_sameContents hs1]
      · split
        · rfl
        · exact readByte_of_sameContents (sameContents_trans (sameContents_trans hs1 (sameContents_setDmaChannel ..))
            (sameContents_enterAll ..)) a

theorem exec_dmaStep_outside (c : Fin 64) (descriptor hostData : List Byte) (flips : List (Nat × DqFlips)) (s : State) :
    ∃ t, exec (.dmaStep c descriptor hostData flips) s = .next t ∧
      ∀ a, (∀ fn, dmaFn c.val s = some fn → inWindows fn a 1 s = false) → readByte a t = readByte a s := by
  rw [exec_dmaStep]
  unfold execDmaStep
  extract_lets v
  split
  · exact ⟨s, rfl, fun _ _ => rfl⟩
  next fn hfn =>
    split
    · exact ⟨s, rfl, fun _ _ => rfl⟩
    · split
      · exact ⟨_, rfl, fun a ha => readByte_takeStep_outside (ha fn hfn)⟩
      · split
        · exact ⟨_, rfl, fun a _ => readByte_of_sameContents (sameContents_setDmaChannel ..) a⟩
        · split
          · exact ⟨_, rfl, fun a _ => by simp only [readByte, dmaHostError_cells]⟩
          · refine ⟨_, rfl, fun a ha => ?_⟩
            have hc := sameContents_setDmaChannel s c.val
              { v with current := some (readDescriptor descriptor), tag := (readDescriptor descriptor).tag }
            rw [readByte_takeStep_outside ((inWindows_congr hc.2 fn a 1).trans (ha fn hfn)), readByte_of_sameContents hc]

/-- Settles O43: every page lies in one window and holds whole 4 KiB blocks, so neither a byte through BAR2 nor a step, which
ends at the next 4 KiB boundary, leaves the window that its address translates into. -/
theorem functionsReachOnlyTheirWindows : Obligations.FunctionsReachOnlyTheirWindows := by
  unfold Obligations.FunctionsReachOnlyTheirWindows
  refine ⟨?translates, exec_bar2Write_outside, exec_dmaStep_outside, ?noWindow⟩
  case translates => exact fun fn va write s pa h => inWindows_of_translate_byte h
  case noWindow =>
    intro fn s hnone va write pa h
    simpa [inWindows_of_noWindow hnone] using inWindows_of_translate_byte h

end Sys2Proof.Machine
end

section
/-!
PROOFS of the command catalogue chapter. Identity, queries and sessions; and that the commands of ranges 0x00 and 0x01 complete.
-/
namespace Sys2Proof.Machine

/-! ## A command that needs no cupola, by what its own work replies -/

section

variable {op : Nat} {act : Option Activity} {h : Caller} {e : Held} {s : State} {body : State → Reply}

theorem perform_done {st d r : Nat} {resp : List Byte} {t : State} (hs : startable op act h e s)
    (hb : body s = .done st d r resp t) : perform op act noCupola h body s = .next (finish e st d r resp t) := by
  have hreserved : e.reserved = false := hs.2.2
  rw [perform_noCupola body hs, runBody_done body st d r resp t hreserved hb]

theorem perform_later {key : Nat} {t : State} (hs : startable op act h e s) (hb : body s = .later key t) :
    perform op act noCupola h body s = .next (setPhase e (.running key) t) := by
  have hreserved : e.reserved = false := hs.2.2
  rw [perform_noCupola body hs, runBody_later body key t hreserved hb]

end

section

variable {h : Caller} {e : Held} {s : State}

/-! ## Identity and queries (R93, R95, R96, R117) -/

theorem exec_nop_of_startable (hs : startable 0x0000 none h e s) : exec (.nop h) s = .next (finish e stOk 0 0 [] s) :=
  perform_done hs rfl

theorem exec_deviceIdentify_of_startable (hs : startable 0x0001 none h e s) :
    exec (.deviceIdentify h) s = .next (finish e stOk 0 Config.serial (identity (fnKey h.id.fn) s) s) :=
  perform_done hs rfl

theorem exec_capabilityQuery_zero (hs : startable 0x0002 none h e s) :
    exec (.capabilityQuery h 0) s = .next (finish e stOk 0 0 (capabilities s) s) :=
  perform_done hs rfl

theorem exec_capabilityQuery_of_ne_zero {page : Nat} (hs : startable 0x0002 none h e s) (hpage : page ≠ 0) :
    exec (.capabilityQuery h page) s = .next (finish e stEmpty 0 0 [] s) :=
  perform_done hs (if_neg hpage)

theorem exec_resourceQuery_of_inRange {p : RangeP} (hs : startable 0x000A none h e s) (h1 : 1 ≤ p.count)
    (h4096 : p.count ≤ 4096) (hsize : p.first + p.count ≤ kindSize p.kind.val) :
    exec (.resourceQuery h p) s =
      .next (finish e stOk 0 0 ((rangeOf p).flatMap (fun i => le 4 (ownerEntry p.kind.val i s))) s) :=
  perform_done hs (if_neg (by omega))

/-! ## SESSION_OPEN (R103, R104) -/

theorem nextHandle_pos (s : State) (n last : Nat) : 1 ≤ nextHandle s n last := by
  induction n generalizing last with
  | zero => simp [nextHandle]
  | succ n ih =>
    simp only [nextHandle]
    split
    · omega
    · exact ih _

theorem nextHandle_le (s : State) (n last : Nat) : nextHandle s n last ≤ 65535 := by
  induction n generalizing last with
  | zero =>
    simp only [nextHandle]
    omega
  | succ n ih =>
    simp only [nextHandle]
    split
    · omega
    · exact ih _

/-- The handle that SESSION_OPEN gives out at a state. -/
def freeHandle (s : State) : Nat := nextHandle s s.ses.table.length s.ses.lastHandle

/-- The session that SESSION_OPEN opens. -/
def newSession (h : Caller) (keepaliveMs label : Nat) (s : State) : Session :=
  { isOpen := true, fn := fnKey h.id.fn, keepaliveMs := keepaliveMs, label := label, lastFetch := s.now }

/-- With that session open, and its handle the last given out. -/
def withNewSession (h : Caller) (keepaliveMs label : Nat) (s : State) : State :=
  setSession { s with ses := { s.ses with lastHandle := freeHandle s } } (freeHandle s) (newSession h keepaliveMs label s)

theorem exec_sessionOpen_of_room {keepaliveMs label : Nat} (hs : startable 0x0004 none h e s) (h0 : h.session = 0)
    (hkeepalive : keepaliveMs ≤ 60000) (hfn : sessionsOf (fnKey h.id.fn) s < 16) (hall : sessionCount s < 1024) :
    exec (.sessionOpen h keepaliveMs label) s =
      .next (finish e stOk 0 (freeHandle s) [] (withNewSession h keepaliveMs label s)) :=
  perform_done hs ((if_neg (by omega)).trans (if_neg (by omega)))

theorem exec_sessionOpen_of_full {keepaliveMs label : Nat} (hs : startable 0x0004 none h e s) (h0 : h.session = 0)
    (hkeepalive : keepaliveMs ≤ 60000) (hfull : 16 ≤ sessionsOf (fnKey h.id.fn) s ∨ 1024 ≤ sessionCount s) :
    exec (.sessionOpen h keepaliveMs label) s = .next (finish e stLimit 0 0 [] s) :=
  perform_done hs ((if_neg (by omega)).trans (if_pos hfull))

/-! ## SESSION_CLOSE (R106) -/

theorem session_closeSession_same (k : Nat) (quiesce : Bool) (s : State) :
    session (closeSession k quiesce s) k = { session s k with isOpen := false, closing := some quiesce } :=
  session_setSession_same ..

theorem exec_sessionClose_of_open {k : Nat} {quiesce : Bool} (hs : startable 0x0005 none h e s) (hk : k ≠ 0)
    (hopen : (session s k).isOpen = true) (hfn : (session s k).fn = fnKey h.id.fn) :
    exec (.sessionClose h k quiesce) s = .next (settle (setPhase e (.running k) (closeSession k quiesce s))) :=
  congrArg settled (perform_later hs (by simp [hk, hopen, hfn]))

theorem exec_sessionClose_of_closed {k : Nat} {quiesce : Bool} (hs : startable 0x0005 none h e s) (hk : k ≠ 0)
    (hclosed : (session s k).isOpen = false) :
    exec (.sessionClose h k quiesce) s = .next (settle (finish e stEmpty 0 0 [] s)) :=
  congrArg settled (perform_done hs (by simp [hk, hclosed, emptyReply]))

end

/-- Settles O5: each command's own work replies at once, but for a close, which runs on until `settle` disposes of its session. -/
theorem sessionsAndQueriesComplete : Obligations.SessionsAndQueriesComplete := by
  unfold Obligations.SessionsAndQueriesComplete
  refine ⟨fun _ _ _ => exec_nop_of_startable, fun _ _ _ => exec_deviceIdentify_of_startable,
    fun _ _ _ => exec_capabilityQuery_zero, fun _ _ _ _ => exec_capabilityQuery_of_ne_zero,
    fun _ _ _ _ => exec_resourceQuery_of_inRange, ?opens, fun _ _ _ _ _ => exec_sessionOpen_of_full, ?closes,
    fun _ _ _ _ _ => exec_sessionClose_of_closed⟩
  case opens =>
    intro h keepaliveMs label e s hs h0 hkeepalive hfn hall
    refine ⟨freeHandle s, withNewSession h keepaliveMs label s, exec_sessionOpen_of_room hs h0 hkeepalive hfn hall,
      nextHandle_pos .., nextHandle_le .., ?_⟩
    simp only [withNewSession, session_setSession_same]
    exact ⟨rfl, rfl, rfl, rfl, rfl, fun j hj => session_setSession_other _ _ _ _ hj⟩
  case closes =>
    intro h k quiesce e s hs hk hopen hfn
    simp [exec_sessionClose_of_open hs hk hopen hfn, session_closeSession_same]

section

variable {h : Caller} {e : Held} {s : State}

/-! ## Resources and rings (R80, R111, R114, R115) -/

theorem exec_resourceClaim_of_free {p : RangeP} (hs : startable 0x0007 none h e s) (h0 : h.session ≠ 0) (hcount : 1 ≤ p.count)
    (hsize : p.first + p.count ≤ kindSize p.kind.val) (hclaim : ∀ i ∈ rangeOf p, claimable h.id.fn p.kind.val i s = true)
    (hfree : ∀ i ∈ rangeOf p, conflicts h p.kind.val i s = false) :
    exec (.resourceClaim h p) s = .next (finish e stOk 0 0 [] (takeAll h p s)) := by
  refine perform_done hs ?_
  have hany : (rangeOf p).any (fun i => !claimable h.id.fn p.kind.val i s) = false := by simpa using hclaim
  have hfind : (rangeOf p).find? (fun i => conflicts h p.kind.val i s) = none := by simpa using hfree
  rw [if_neg h0, if_neg (by omega), if_neg (by omega), hany, hfind]
  rfl

theorem exec_resourceRelease_of_named {p : RangeP} {quiesce : Bool} (hs : startable 0x0008 none h e s) (h0 : h.session ≠ 0)
    (hcount : 1 ≤ p.count) :
    exec (.resourceRelease h p quiesce) s =
      .next (finish e stOk 0 0 [] ((heldRange h p s).foldl (fun st i => releaseIndex p.kind.val quiesce i st) s)) :=
  perform_done hs ((if_neg h0).trans (if_neg (by omega)))

theorem exec_resourceAssign_of_owned {p : RangeP} {f : PciFn} {vf : Fin 64} (hs : startable 0x0009 none h e s)
    (h0 : h.session ≠ 0) (hf : h.id.fn = .pci f) (hkind : assignable p.kind.val = true) (hcount : 1 ≤ p.count)
    (hsize : p.first + p.count ≤ kindSize p.kind.val) (hvf : vf.val ≠ 0)
    (howns : ∀ i ∈ rangeOf p, pfOwns (pciKey f) p.kind.val i s = true) :
    exec (.resourceAssign h p vf) s = .next (finish e stOk 0 0 [] ((rangeOf p).foldl (fun st i =>
      setOwn st p.kind.val i { session := 0, assigned := some { linkB := f.linkB, num := vf } }) s)) := by
  refine perform_done hs ?_
  have hany : (rangeOf p).any (fun i => !pfOwns (pciKey f) p.kind.val i s) = false := by simpa using howns
  have hguard : (!assignable p.kind.val || decide (p.count = 0) || decide (kindSize p.kind.val < p.first + p.count)) = false := by
    simp only [hkind, Bool.not_true, Bool.false_or, Bool.or_eq_false_iff, decide_eq_false_iff_not]
    omega
  simp only [if_neg h0, hguard, hf, if_neg hvf, hany]
  rfl

theorem exec_ringDestroy_of_enabled {k : Fin 64} (hs : startable 0x0011 none h e s) (h0 : k.val ≠ 0) (hown : k ≠ h.id.ring)
    (hen : (ring s (fnKey h.id.fn) k.val).enabled = true) :
    exec (.ringDestroy h k) s = .next (settle (setPhase e (.running k.val) (presentBatch h.id.fn k (setRing s (fnKey h.id.fn)
      k.val { ring s (fnKey h.id.fn) k.val with closing := true })))) :=
  congrArg settled (perform_later hs (by simp [h0, hown, hen]))

/-! ## Cupolas, performance level, safety (R516, R519, R523, R527, R538) -/

theorem exec_cupolaVote_of_awake {k : Fin 112} {level : Fin 4}
    (hs : startable 0x0100 (if level.val = 0 then none else some { kind := 13, scope := k.val }) h e s)
    (hfixed : fixedCupola k.val = false) (hwake : voteWake k.val level.val s = none) :
    exec (.cupolaVote h k level) s = .next (finish e stOk 0 0 []
      (riseCup k.val 0 (placeVote k.val (voteHolder (fnKey h.id.fn) h.session) level.val s))) := by
  have hreserved : e.reserved = false := hs.2.2
  refine (perform_startable _ _ hs hwake).trans (congrArg _ (runBody_done _ _ _ _ _ _ hreserved ?_))
  simp [hfixed, okay]

theorem exec_cupolaFloorSet_of_owner {p : FloorP} (hs : startable 0x0103 none h e s) (hown : ownsDevice h s = true)
    (hwf : p.wf = true) (hfixed : fixedCupola p.cupola.val = false) (hdram : isDramCupola p.cupola.val = true → p.floor ≠ 3) :
    ∃ c, exec (.cupolaFloorSet h p) s = .next (finish e stOk 0 0 [] (setCup s p.cupola.val c)) := by
  have hfloor : ¬ (fixedCupola p.cupola.val || (isDramCupola p.cupola.val && decide (p.floor = 3))) = true := by
    simpa [hfixed] using hdram
  exact ⟨_, perform_done hs ((if_neg (by simp [hown])).trans ((if_neg (by simp [hwf])).trans ((if_neg hfloor).trans rfl)))⟩

theorem exec_perfLevelSet_of_raise {level : Fin 4} (hs : startable 0x0102 (some { kind := 9, scope := 0 }) h e s)
    (hown : ownsDevice h s = true) (hl : level.val < s.pwr.pl)
    (hload : ∀ p ∈ servingPipes s, pipeLoad p s ≤ pipeCapacity level.val) :
    exec (.perfLevelSet h level) s = .next (setPhase e (.running s.pwr.pl)
      { s with pwr := { s.pwr with plTarget := some level.val, rampEnd := s.now + rampNs s.pwr.pl level.val } }) := by
  refine perform_later hs ?_
  have hany : (servingPipes s).any (fun p => decide (pipeCapacity level.val < pipeLoad p s)) = false := by simpa using hload
  have hup : ¬ s.pwr.pl < level.val := by omega
  simp only [hown, if_neg (Nat.ne_of_lt hl), hany, if_neg hup]
  rfl

theorem exec_cupolaRestore_of_fenced {k : Fin 112} (hs : startable 0x0104 none h e s) (hown : ownsDevice h s = true)
    (hpipe : isPipelineCupola k.val = false) (hdram : isDramCupola k.val = false) (hfenced : (cup s k.val).state = .fenced) :
    exec (.cupolaRestore h k) s = .next (setPhase e (.running k.val) s) :=
  perform_later hs (by simp [hown, hpipe, hdram, hfenced])

theorem exec_safetySelfTest_of_owner {tests : BitVec 4} (hs : startable 0x0108 (some { kind := 12, scope := 0 }) h e s)
    (hown : ownsDevice h s = true) : exec (.safetySelfTest h tests) s = .next (setPhase e (.running tests.toNat) s) :=
  perform_later hs (by simp [hown])

end

/-- Settles O57: each command by its lemma; the reads of state reply whatever the state is. -/
theorem commandsOfRanges00And01Complete : Obligations.CommandsOfRanges00And01Complete := by
  unfold Obligations.CommandsOfRanges00And01Complete
  refine ⟨fun _ _ _ hs => ⟨_, _, _, _, exec_nop_of_startable hs⟩,
    fun _ _ _ hs => ⟨_, _, _, _, exec_deviceIdentify_of_startable hs⟩,
    fun _ _ _ hs => ⟨_, _, _, _, exec_capabilityQuery_zero hs⟩,
    fun _ _ _ _ hs h1 h4096 hsize => ⟨_, _, _, _, exec_resourceQuery_of_inRange hs h1 h4096 hsize⟩,
    fun _ _ _ _ _ hs h0 hk hfn hall => ⟨_, _, _, _, exec_sessionOpen_of_room hs h0 hk hfn hall⟩,
    ?close,
    fun _ _ _ _ hs h0 hcount hsize hclaim hfree => ⟨_, _, _, _, exec_resourceClaim_of_free hs h0 hcount hsize hclaim hfree⟩,
    fun _ _ _ _ hs h0 hcount => ⟨_, _, _, _, exec_resourceRelease_of_named hs h0 hcount⟩,
    fun _ _ _ _ _ _ hs h0 hf hkind hcount hsize hvf howns =>
      ⟨_, _, _, _, exec_resourceAssign_of_owned hs h0 hf hkind hcount hsize hvf howns⟩,
    fun _ _ _ _ hs h0 hd hq hwf => ⟨_, _, _, _, exec_ringCreate_of_disabled hs h0 hd hq hwf⟩,
    fun _ _ _ _ => exec_ringDestroy_of_enabled,
    fun _ _ _ _ _ hs hfixed hwake => ⟨_, _, _, _, exec_cupolaVote_of_awake hs hfixed hwake⟩,
    ?floor,
    fun _ _ _ _ => exec_perfLevelSet_of_raise,
    fun _ _ _ _ hs => ⟨_, _, _, _, perform_done hs rfl⟩,
    fun _ _ _ hs => ⟨_, _, _, _, perform_done hs rfl⟩,
    fun _ _ _ hs => ⟨_, _, _, _, perform_done hs rfl⟩,
    fun _ _ _ _ => exec_cupolaRestore_of_fenced,
    fun _ _ _ _ => exec_safetySelfTest_of_owner⟩
  case close =>
    intro h k quiesce e s hs hk hopen hfn
    simp [exec_sessionClose_of_open hs hk hopen hfn, session_closeSession_same]
  case floor =>
    intro h p e s hs hown hwf hfixed hdram
    obtain ⟨c, hc⟩ := exec_cupolaFloorSet_of_owner hs hown hwf hfixed hdram
    exact ⟨_, _, _, _, hc⟩

end Sys2Proof.Machine
end

section
/-!
PROOFS of the command catalogue chapter, resets and aborts. What the end of waits, presentations and session restarts leave as it
was; what a boot or a reload changes; and the reset classes, the watchdog and COMMAND_ABORT.
-/
namespace Sys2Proof.Machine

/-! ## The arms of `exec` that these proofs run -/

theorem exec_deviceReset (h : Caller) (p : ResetP) (s : State) : exec (.deviceReset h p) s = execDeviceReset h p s := rfl
theorem exec_functionLevelReset (f : PciFn) (s : State) : exec (.functionLevelReset f) s =
    .next (clearMsix (fun g => decide (g = pciKey f)) (restartFunction (pciKey f) s)) := rfl
theorem exec_resetDelayExpiry (s : State) : exec .resetDelayExpiry s = execResetDelayExpiry s := rfl
theorem exec_firmwareWatchdog (s : State) : exec .firmwareWatchdog s = execFirmwareWatchdog s := rfl
theorem exec_coreFault (c : Fin 12) (s : State) : exec (.coreFault c) s = execCoreFault c s := rfl

/-! ## What completions, presentations and restarts leave as it was -/

/-- Boot without the Keep port, whose RESULT takes completions. -/
def bootCore (s : State) : Boot := { s.boot with port := {} }

/-- What no completion, presentation or disposal of a session changes: the queue and the instant, boot but for the Keep port, time,
board memory, the pending reset. -/
def lasting (s : State) : State :=
  { pending := s.pending, now := s.now, boot := bootCore s, time := s.time, mem := s.mem,
    ses := { pendingReset := s.ses.pendingReset } }

section

variable {s t : State} (h : lasting t = lasting s)

include h

theorem bootCore_of_lasting : bootCore t = bootCore s := (congrArg (fun u : State => u.boot) h :)
theorem time_of_lasting : t.time = s.time := (congrArg (fun u : State => u.time) h :)
theorem mem_of_lasting : t.mem = s.mem := (congrArg (fun u : State => u.mem) h :)
theorem pendingReset_of_lasting : t.ses.pendingReset = s.ses.pendingReset := (congrArg (fun u : State => u.ses.pendingReset) h :)

end

section

variable {s t : State} (h : bootCore t = bootCore s)

include h

theorem fwReady_of_bootCore : t.boot.fwReady = s.boot.fwReady := (congrArg Boot.fwReady h :)
theorem fuses_of_bootCore : t.boot.fuses = s.boot.fuses := (congrArg Boot.fuses h :)
theorem watchdogAt_of_bootCore : t.boot.watchdogAt = s.boot.watchdogAt := (congrArg Boot.watchdogAt h :)

end

theorem lasting_of_sameButEvents {s t : State} (h : sameButEvents s t) : lasting t = lasting s := by
  obtain ⟨ev, out, msix, rfl⟩ := h
  rfl

@[simp] theorem post_lasting (src : Nat) (cls : EvClass) (payload : Nat) (s : State) :
    lasting (post src cls payload s) = lasting s := lasting_of_sameButEvents (post_frame ..)
@[simp] theorem postFn_lasting (q : Option Nat) (src : Nat) (cls : EvClass) (payload : Nat) (s : State) :
    lasting (postFn q src cls payload s) = lasting s := lasting_of_sameButEvents (postFn_frame ..)
@[simp] theorem emit_lasting (o : Output) (s : State) : lasting (emit o s) = lasting s := rfl
@[simp] theorem setRing_lasting (s : State) (fn k : Nat) (r : Ring) : lasting (setRing s fn k r) = lasting s := rfl
@[simp] theorem setHeld_lasting (s : State) (l : List Held) : lasting (setHeld s l) = lasting s := rfl
@[simp] theorem setMember_lasting (s : State) (t : Nat) (v : Member) : lasting (setMember s t v) = lasting s := rfl
theorem setPwr_lasting (s : State) (p : Power) : lasting { s with pwr := p } = lasting s := rfl

/-! ### Resources taken out of service (R107) -/

@[simp] theorem quiesceTree_lasting (t : Nat) (s : State) : lasting (quiesceTree t s) = lasting s := by
  have hstop : lasting (stopTree t s) = lasting s := rfl
  simp only [quiesceTree]
  split
  · rw [setPwr_lasting, setMember_lasting, hstop]
  · exact hstop

@[simp] theorem putLine_lasting (l : Nat) (v : LineEngine) (s : State) : lasting (putLine l v s) = lasting s := by
  have hdefects (d : Nat) (u : State) : lasting (postDefects l d u) = lasting u := by
    refine foldl_keeps lasting _ (fun st n => ?_) _ _
    split
    · rfl
    · exact post_lasting ..
  simp only [putLine, hdefects]
  split
  · rfl
  · split
    · unfold framerSearch
      split <;> rfl
    · rfl

@[simp] theorem stopLine_lasting (l : Nat) (s : State) : lasting (stopLine l s) = lasting s := by
  simp only [stopLine]
  split
  · rfl
  · exact (post_lasting ..).trans (putLine_lasting ..)

@[simp] theorem quiesceLane_lasting (x : Nat) (s : State) : lasting (quiesceLane x s) = lasting s := by
  unfold quiesceLane
  extract_lets s1 stop
  have hstop (k : Nat) (u : State) : lasting (stop k u) = lasting u := by
    simp only [stop]
    split <;> rfl
  rw [hstop, hstop]
  rfl

@[simp] theorem quiesceOwned_lasting (h : Nat) (s : State) : lasting (quiesceOwned h s) = lasting s := by
  unfold quiesceOwned
  rw [foldl_keeps lasting _ fun _ _ => foldl_keeps lasting _ (fun _ _ => quiesceLane_lasting _ _) _ _,
    foldl_keeps lasting _ fun _ _ => stopLine_lasting _ _, foldl_keeps lasting _ fun _ _ => quiesceTree_lasting _ _]

/-! ### Completions, and what waits for them (R69, R80, R106) -/

@[simp] theorem putCompletion_lasting (fn k : Nat) (w : Waiting) (s : State) : lasting (putCompletion fn k w s) = lasting s := by
  simp only [putCompletion]
  split <;> split <;> simp

@[simp] theorem drainWaiting_lasting (fn k n : Nat) (s : State) : lasting (drainWaiting fn k n s) = lasting s := by
  induction n generalizing s with
  | zero => rfl
  | succ n ih =>
    simp only [drainWaiting]
    split
    · rfl
    · split
      · simp [ih]
      · rfl

@[simp] theorem deliver_lasting (e : Held) (status : Nat) (final : Bool) (detail result : Nat) (resp : List Byte) (s : State) :
    lasting (deliver e status final detail result resp s) = lasting s := by
  simp only [deliver]
  split
  · rfl
  · split
    · split <;> simp
    · rfl
    · split <;> rfl

@[simp] theorem disposeSession_lasting (h : Nat) (quiesce : Bool) (s : State) :
    lasting (disposeSession h quiesce s) = lasting s := by
  cases quiesce
  · rfl
  · exact quiesceOwned_lasting h s

theorem settleOne_lasting {s t : State} (h : settleOne s = some t) : lasting t = lasting s := by
  unfold settleOne at h
  split at h
  · dsimp only at h
    split at h <;> obtain rfl := Option.some.inj h <;> simp [dropHeld]
  · split at h
    · split at h
      · obtain rfl := Option.some.inj h
        simp [dropHeld]
      · cases h
    · cases h

@[simp] theorem settle_lasting (s : State) : lasting (settle s) = lasting s := by
  have hsettleN (n : Nat) (u : State) : lasting (settleN n u) = lasting u := by
    induction n generalizing u with
    | zero => rfl
    | succ n ih =>
      unfold settleN
      split
      next v hv => rw [ih, settleOne_lasting hv]
      · rfl
  exact hsettleN _ s

@[simp] theorem finish_lasting (e : Held) (status detail result : Nat) (resp : List Byte) (s : State) :
    lasting (finish e status detail result resp s) = lasting s := by
  simp only [finish, settle_lasting, deliver_lasting]
  rfl

@[simp] theorem completeRunning_lasting (op key status detail result : Nat) (resp : List Byte) (s : State) :
    lasting (completeRunning op key status detail result resp s) = lasting s :=
  foldl_keeps lasting _ (fun _ _ => finish_lasting ..) _ _

/-! ### Presentations and session restarts (R76, R82, R98, R99) -/

@[simp] theorem present_lasting (e : Held) (s : State) : lasting (present e s) = lasting s := by
  unfold present
  split
  · rfl
  · split
    · rfl
    · unfold interim
      extract_lets once e1 s1
      split
      · rfl
      · exact deliver_lasting ..

@[simp] theorem presentAll_lasting (p : Nat → Bool) (s : State) : lasting (presentAll p s) = lasting s :=
  foldl_keeps lasting _ (fun _ _ => present_lasting ..) _ _

/-- Marking functions restarted changes their doorbell pages alone. -/
theorem markRestarted_frame (p : Nat → Bool) (s : State) :
    markRestarted p s = { s with mbx := { s.mbx with fns := (markRestarted p s).mbx.fns } } := by
  have hfold (l : List Nat) (u : State) : ∃ fns, l.foldl
      (fun st f => setFnRegs st f { sessionReset := true, scratch := (fnRegs st f).scratch }) u =
        { u with mbx := { u.mbx with fns := fns } } := by
    induction l generalizing u with
    | nil => exact ⟨_, rfl⟩
    | cons f l ih => exact ih (setFnRegs u f _)
  obtain ⟨fns, h⟩ := hfold _ s
  rw [markRestarted, h]

/-- A doorbell page after a restart of its function (R54, R60, R99). -/
def restartedRegs (r : FnRegs) : FnRegs := { sessionReset := true, scratch := r.scratch }

theorem fnRegs_markRestarted {p : Nat → Bool} {f : Nat} (hf : f < 128) (hp : p f = true) (s : State) :
    fnRegs (markRestarted p s) f = restartedRegs (fnRegs s f) := by
  have hfold (l : List Nat) (u : State) : fnRegs (l.foldl
      (fun st g => setFnRegs st g { sessionReset := true, scratch := (fnRegs st g).scratch }) u) f =
        if f ∈ l then restartedRegs (fnRegs u f) else fnRegs u f := by
    induction l generalizing u with
    | nil => rfl
    | cons g l ih =>
      rw [List.foldl_cons, ih]
      by_cases hg : f = g
      · subst hg
        simp [restartedRegs]
      · simp [fnRegs_setFnRegs_other _ _ _ _ hg, hg]
  rw [markRestarted, hfold, if_pos (by simp [hf, hp])]

@[simp] theorem restartWhere_lasting (p : Nat → Bool) (s : State) : lasting (restartWhere p s) = lasting s := by
  simp only [restartWhere, settle_lasting, presentAll_lasting]
  rw [markRestarted_frame]
  rfl

/-! ## What a restart takes down (R82, R98, R99) -/

/-- What the default and every changed entry have, an entry read after the change has. -/
theorem tget_tmap_of {α : Type} [DecidableEq α] {P : α → Prop} {d : α} {f : Nat → α → α} (hd : P d)
    (hf : ∀ k v, P (f k v)) (k : Nat) (t : Table α) : P (tget d k (tmap d f t)) := by
  have hmem (u : Table α) (hu : ∀ x ∈ u, P x.2) : P (tget d k u) := by
    induction u with
    | nil => exact hd
    | cons x u ih =>
      obtain ⟨hx, hrest⟩ := List.forall_mem_cons.1 hu
      simp only [tget]
      split
      · exact hx
      · exact ih hrest
  refine hmem _ fun x hx => ?_
  obtain ⟨y, -, rfl⟩ := List.mem_map.1 (List.mem_filter.1 hx).1
  exact hf ..

/-- An entry that a table does not keep reads as the default. -/
theorem tget_filter_of_neg {α : Type} {p : Nat → Bool} {d : α} {k : Nat} (hk : p k = false) (t : Table α) :
    tget d k (t.filter (fun e => p e.1)) = d := by
  induction t with
  | nil => rfl
  | cons x t ih =>
    by_cases hx : p x.1 = true
    · have hne : k ≠ x.1 := by
        rintro rfl
        simp [hk] at hx
      simpa [List.filter_cons_of_pos, hx, tget, hne] using ih
    · simpa [List.filter_cons_of_neg, hx] using ih

/-- A restart settles a state in which the functions' rings, sessions and event queues are gone and their commands run on unseen. -/
theorem restartWhere_takesDown (p : Nat → Bool) (s : State) : ∃ t, restartWhere p s = settle (presentAll p t) ∧
    (∀ fn k, k < 64 → p fn = true → ring t fn k = {}) ∧
    (∀ fn, fn < 128 → p fn = true → fnRegs t fn = restartedRegs (fnRegs s fn)) ∧
    (∀ k, (session t k).isOpen = true → p (session t k).fn = false) ∧
    (∀ q, (evq t q).enabled = true → p (evq t q).owner = false) ∧
    (∀ e ∈ t.mbx.held, p (fnKey e.id.fn) = true → e.discard = true) := by
  refine ⟨_, rfl, ?rings, ?pages, ?sessions, ?queues, ?held⟩
  case pages => exact fun fn hfn hp => fnRegs_markRestarted hfn hp _
  all_goals rw [markRestarted_frame]
  case rings =>
    intro fn k hk hp
    refine tget_filter_of_neg (p := fun i => !p (i / 64)) ?_ s.mbx.rings
    rw [show (fn * 64 + k) / 64 = fn by omega, hp]
    rfl
  case sessions =>
    intro k
    refine tget_tmap_of (P := fun v : Session => v.isOpen = true → p v.fn = false) (d := {})
      (f := fun _ v => if v.isOpen && p v.fn then { v with isOpen := false, closing := some false } else v)
      (by simp) (fun _ v => ?_) k s.ses.table
    split
    next => simp
    next hv => simpa using hv
  case queues =>
    intro q
    refine tget_tmap_of (P := fun v : Evq => v.enabled = true → p v.owner = false) (d := {})
      (f := fun _ v => if p v.owner then { owner := v.owner } else v) (by simp) (fun _ v => ?_) q s.ev.queues
    split
    next => simp
    next hv => exact fun _ => by simpa using hv
  case held =>
    intro e he hp
    obtain ⟨x, -, hx⟩ := List.mem_map.1 he
    split at hx
    next => rw [← hx]
    next hnot =>
      subst hx
      exact absurd hp hnot

theorem msixEntry_clearMsix {p : Nat → Bool} {fn v : Nat} (hp : p fn = true) (hv : v < 256) (s : State) :
    msixEntry (clearMsix p s) fn v = {} := by
  refine tget_filter_of_neg (p := fun i => !p (i / 256)) ?_ s.mbx.msix
  rw [show (fn * 256 + v) / 256 = fn by omega, hp]
  rfl

theorem pciKey_lt (f : PciFn) : pciKey f < 128 := by
  have hnum := f.num.isLt
  simp only [pciKey]
  split <;> omega

theorem reownQueues_mbx (p : Nat → Bool) (s : State) : (reownQueues p s).mbx = s.mbx := by
  refine foldl_keeps (·.mbx) _ (fun st q => ?_) _ _
  split <;> rfl

theorem sampleSplit_resetA (split : Bool) (s : State) : (sampleSplit split s).mbx.resetA = s.mbx.resetA := by
  unfold sampleSplit
  split <;> rfl

theorem sampleSplit_resetB (split : Bool) (s : State) : (sampleSplit split s).mbx.resetB = s.mbx.resetB := by
  unfold sampleSplit
  split <;> rfl

/-! ## What a boot or a reload leaves as it was (R564, R570, R577) -/

/-- What no boot or reload changes: all but boot, the lanterns and the rate of DRAM of the image that runs; and of boot FW_READY,
the fuses and the watchdog's record. -/
def acrossBoot (s : State) : State :=
  { s with
    boot := { fwReady := s.boot.fwReady, fuses := s.boot.fuses, watchdogAt := s.boot.watchdogAt }
    line := {}
    mem := { s.mem with rateMts := 0 } }

@[simp] theorem owe_acrossBoot (src payload : Nat) (s : State) : acrossBoot (owe src payload s) = acrossBoot s := rfl
@[simp] theorem takeOther_acrossBoot (i : ImageFacts) (s : State) : acrossBoot (takeOther i s) = acrossBoot s := rfl
@[simp] theorem stopFirmware_acrossBoot (s : State) : acrossBoot (stopFirmware s) = acrossBoot s := rfl
@[simp] theorem waitForHost_acrossBoot (s : State) : acrossBoot (waitForHost s) = acrossBoot s := rfl

@[simp] theorem markBank_acrossBoot (b : Bool) (st : BankState) (s : State) : acrossBoot (markBank b st s) = acrossBoot s := by
  cases b <;> rfl

@[simp] theorem setRunningState_acrossBoot (st : BankState) (s : State) : acrossBoot (setRunningState st s) = acrossBoot s := by
  unfold setRunningState
  split
  · exact markBank_acrossBoot ..
  · rfl

@[simp] theorem setStagedState_acrossBoot (st : BankState) (s : State) : acrossBoot (setStagedState st s) = acrossBoot s := by
  unfold setStagedState
  split
  · exact markBank_acrossBoot ..
  · rfl

@[simp] theorem logAppend_acrossBoot (kind : Nat) (i : ImageFacts) (s : State) :
    acrossBoot (logAppend kind i s) = acrossBoot s := by
  have hnote : acrossBoot (noteLog s) = acrossBoot s := by
    unfold noteLog
    split <;> rfl
  rw [← hnote]
  simp only [logAppend]
  split <;> rfl

@[simp] theorem runImage_acrossBoot (source : Option Bool) (i : ImageFacts) (s : State) :
    acrossBoot (runImage source i s) = acrossBoot s :=
  foldl_keeps acrossBoot _ (fun _ _ => logAppend_acrossBoot ..) _ _

@[simp] theorem dropTrying_acrossBoot (b : Bool) (s : State) : acrossBoot (dropTrying b s) = acrossBoot s := by
  unfold dropTrying
  split
  · simp
  · rfl

@[simp] theorem tryBanks_acrossBoot (copy : Option ImageFacts) (l : List Bool) (s : State) :
    acrossBoot (tryBanks copy l s) = acrossBoot s := by
  induction l generalizing s with
  | nil =>
    unfold tryBanks
    split
    · split <;> simp
    · simp
  | cons b l ih =>
    unfold tryBanks
    extract_lets v
    split
    · simp [ih]
    · split
      · split <;> simp
      · simp [ih]

theorem romBoot_acrossBoot (last : Option Bool) (copy : Option ImageFacts) (s : State) :
    acrossBoot (romBoot last copy s) = acrossBoot s := by
  simp only [romBoot]
  split
  · rw [waitForHost_acrossBoot]
    rfl
  · split
    · rw [tryBanks_acrossBoot]
      rfl
    · split <;> rw [tryBanks_acrossBoot, dropTrying_acrossBoot, dropTrying_acrossBoot] <;> rfl

theorem fallBack_acrossBoot (s : State) : acrossBoot (fallBack s) = acrossBoot s := by
  unfold fallBack
  split
  · rfl
  · split
    · rw [logAppend_acrossBoot]
      rfl
    · simp

theorem runAgain_acrossBoot (s : State) : acrossBoot (runAgain s) = acrossBoot s := by
  simp only [runAgain]
  split
  · rfl
  · split
    · simp [fallBack_acrossBoot]
    · split
      · rw [logAppend_acrossBoot]
        rfl
      · simp [fallBack_acrossBoot]

theorem runStaged_acrossBoot (i : ImageFacts) (s : State) : acrossBoot (runStaged i s) = acrossBoot s := by
  simp only [runStaged, logAppend_acrossBoot]
  rfl

@[simp] theorem reload_acrossBoot (s : State) : acrossBoot (reload s) = acrossBoot s := by
  unfold reload
  split
  · split
    · split
      · exact runStaged_acrossBoot ..
      · rw [runAgain_acrossBoot, owe_acrossBoot, setStagedState_acrossBoot]
        rfl
    · exact runAgain_acrossBoot s
  · exact runAgain_acrossBoot s

@[simp] theorem confirmFirst_acrossBoot (s : State) : acrossBoot (confirmFirst s) = acrossBoot s := by
  simp only [confirmFirst]
  split
  · exact setRunningState_acrossBoot ..
  · rfl

section

variable {s t : State} (h : acrossBoot t = acrossBoot s)

include h

theorem fwReady_of_acrossBoot : t.boot.fwReady = s.boot.fwReady := (congrArg (fun u : State => u.boot.fwReady) h :)
theorem fuses_of_acrossBoot : t.boot.fuses = s.boot.fuses := (congrArg (fun u : State => u.boot.fuses) h :)
theorem watchdogAt_of_acrossBoot : t.boot.watchdogAt = s.boot.watchdogAt := (congrArg (fun u : State => u.boot.watchdogAt) h :)
theorem cells_of_acrossBoot : t.mem.cells = s.mem.cells := (congrArg (fun u : State => u.mem.cells) h :)

/-- A reading that does not look at what a boot changes. -/
theorem read_of_acrossBoot {β : Type} (f : State → β) (hf : ∀ u, f (acrossBoot u) = f u) : f t = f s := by
  rw [← hf t, h, hf]

/-- Outside boot, the lines and board memory nothing changes. -/
theorem eq_of_acrossBoot : t = { s with boot := t.boot, line := t.line, mem := t.mem } := by
  cases s
  cases t
  simp_all [acrossBoot]

end

/-! ## What undoing the held commands leaves of boot (R73) -/

@[simp] theorem post_boot (src : Nat) (cls : EvClass) (payload : Nat) (s : State) : (post src cls payload s).boot = s.boot := by
  obtain ⟨ev, out, msix, h⟩ := post_frame src cls payload s
  rw [h]

theorem rejudgeInputs_boot (s : State) : (rejudgeInputs s).boot = s.boot := by
  have henter (b : Nat) (dst : Servo) (reason : Nat) (u : State) : (enterServo b dst reason u).boot = u.boot := by
    unfold enterServo
    extract_lets
    split
    · rfl
    · exact post_boot ..
  have harrives (b : Nat) (u : State) : (inputArrives b u).boot = u.boot := by
    unfold inputArrives
    extract_lets
    split
    · rfl
    · split
      case h_4 => rfl
      all_goals exact henter ..
  have hlost (b reason : Nat) (u : State) : (inputLost b reason u).boot = u.boot := by
    unfold inputLost
    split
    case h_3 => rfl
    all_goals exact henter ..
  refine foldl_keeps (·.boot) _ (fun st b => ?_) _ _
  split
  · rfl
  · split
    · exact harrives ..
    · exact hlost ..

theorem dropAdjacency_boot (k : Nat) (s : State) : (dropAdjacency k s).boot = s.boot := by
  have hreach (u : State) : (postReach false s u).boot = u.boot := foldl_keeps (·.boot) _ (fun _ _ => post_boot ..) _ _
  have hsend (j : Nat) (bytes : List Byte) (u : State) : (sendControl j 5 bytes u).boot = u.boot := by
    unfold sendControl
    extract_lets
    split <;> rfl
  have hflood (u : State) : (floodOwn u).boot = u.boot := foldl_keeps (·.boot) _ (fun _ _ => hsend ..) _ _
  have helect (u : State) : (reelect u).boot = u.boot := by
    unfold reelect
    extract_lets
    split
    · rw [rejudgeInputs_boot]
      split <;> rfl
    · rw [rejudgeInputs_boot, postTimeSource, post_boot]
  unfold dropAdjacency
  extract_lets v s1
  split
  · exact (helect _).trans ((hflood _).trans (hreach s1))
  · rfl

theorem disableLink_bootCore (k : Nat) (s : State) : bootCore (disableLink k s) = bootCore s := by
  have hdown : bootCore (setLink (disablePort (linkPort k) (dropAdjacency k s)) k {}) = bootCore (dropAdjacency k s) := rfl
  rw [disableLink, bootCore_of_lasting (completeRunning_lasting ..), hdown, bootCore, dropAdjacency_boot]
  rfl

theorem undo_bootCore (op key : Nat) (s : State) : bootCore (undo op key s) = bootCore s := by
  unfold undo
  split
  case h_1 =>
    unfold undoRanging
    extract_lets
    split <;> rfl
  case h_8 => exact bootCore_of_lasting (quiesceTree_lasting ..)
  case h_10 => split <;> rfl
  case h_12 =>
    split
    · exact disableLink_bootCore ..
    · rfl
  all_goals rfl

theorem undoHeld_bootCore (e : Held) (s : State) : bootCore (undoHeld e s) = bootCore s := by
  unfold undoHeld
  split
  · split
    · rfl
    · exact undo_bootCore ..
  · rfl

/-! ## Class 1 (R98, R564) -/

/-- Firmware is down, and with it its update and what the Keep port awaits. -/
def halted (s : State) : State :=
  { s with boot := { s.boot with
      fwReady := false, update := none, resetAt := some s.now, port := { s.boot.port with cmdPending := false } } }

/-- And the held commands are undone. -/
def haltedUndone (s : State) : State := (halted s).mbx.held.foldl (fun st e => undoHeld e st) (halted s)

theorem dropEnables_lasting (s : State) : lasting (dropEnables s) = lasting s := foldl_keeps lasting _ (fun _ _ => by rfl) _ _

/-- Once the held commands are undone, class 1 changes nothing more that is lasting. -/
theorem haltFirmware_lasting (s : State) : lasting (haltFirmware s) = lasting (haltedUndone (confirmFirst s)) := by
  simp only [haltFirmware, setPwr_lasting, restartWhere_lasting, setHeld_lasting, dropEnables_lasting, haltedUndone, halted]

theorem haltedUndone_bootCore (s : State) : bootCore (haltedUndone s) = bootCore (halted s) :=
  foldl_keeps bootCore _ (fun _ e => undoHeld_bootCore e _) _ _

theorem haltFirmware_bootCore (s : State) : bootCore (haltFirmware s) = bootCore (halted (confirmFirst s)) :=
  (bootCore_of_lasting (haltFirmware_lasting s)).trans (haltedUndone_bootCore _)

/-- With no command held there is nothing to undo. -/
theorem haltedUndone_of_noneHeld {s : State} (hheld : s.mbx.held = []) : haltedUndone s = halted s := by
  simp [haltedUndone, show (halted s).mbx.held = [] from hheld]

theorem haltFirmware_fwReady (s : State) : (haltFirmware s).boot.fwReady = false :=
  fwReady_of_bootCore (haltFirmware_bootCore s)

theorem haltFirmware_fuses (s : State) : (haltFirmware s).boot.fuses = s.boot.fuses := by
  have hhalted : (halted (confirmFirst s)).boot.fuses = (confirmFirst s).boot.fuses := rfl
  rw [fuses_of_bootCore (haltFirmware_bootCore s), hhalted, fuses_of_acrossBoot (confirmFirst_acrossBoot s)]

theorem haltFirmware_watchdogAt (s : State) : (haltFirmware s).boot.watchdogAt = s.boot.watchdogAt := by
  have hhalted : (halted (confirmFirst s)).boot.watchdogAt = (confirmFirst s).boot.watchdogAt := rfl
  rw [watchdogAt_of_bootCore (haltFirmware_bootCore s), hhalted, watchdogAt_of_acrossBoot (confirmFirst_acrossBoot s)]

theorem resetFirmware_fwReady (s : State) : (resetFirmware s).boot.fwReady = false :=
  (fwReady_of_acrossBoot (reload_acrossBoot _)).trans (haltFirmware_fwReady s)

theorem resetFirmware_fuses (s : State) : (resetFirmware s).boot.fuses = s.boot.fuses :=
  (fuses_of_acrossBoot (reload_acrossBoot _)).trans (haltFirmware_fuses s)

/-- With no command held to undo, the halt changes nothing lasting but firmware's part of boot. -/
theorem haltFirmware_lasting_of_noneHeld {s : State} (hheld : s.mbx.held = []) :
    lasting (haltFirmware s) = lasting (halted (confirmFirst s)) := by
  have hnone : (confirmFirst s).mbx.held = [] := by
    rw [read_of_acrossBoot (confirmFirst_acrossBoot s) (·.mbx) (fun _ => rfl), hheld]
  rw [haltFirmware_lasting, haltedUndone_of_noneHeld hnone]

section

variable {s : State} (hheld : s.mbx.held = [])

include hheld

theorem resetFirmware_time : (resetFirmware s).time = s.time := by
  have hhalted : (halted (confirmFirst s)).time = (confirmFirst s).time := rfl
  rw [resetFirmware, read_of_acrossBoot (reload_acrossBoot _) (·.time) (fun _ => rfl),
    time_of_lasting (haltFirmware_lasting_of_noneHeld hheld), hhalted,
    read_of_acrossBoot (confirmFirst_acrossBoot s) (·.time) (fun _ => rfl)]

theorem resetFirmware_cells : (resetFirmware s).mem.cells = s.mem.cells := by
  have hhalted : (halted (confirmFirst s)).mem = (confirmFirst s).mem := rfl
  rw [resetFirmware, cells_of_acrossBoot (reload_acrossBoot _), mem_of_lasting (haltFirmware_lasting_of_noneHeld hheld), hhalted,
    cells_of_acrossBoot (confirmFirst_acrossBoot s)]

theorem resetFirmware_pendingReset : (resetFirmware s).ses.pendingReset = s.ses.pendingReset := by
  have hhalted : (halted (confirmFirst s)).ses = (confirmFirst s).ses := rfl
  rw [resetFirmware, read_of_acrossBoot (reload_acrossBoot _) (·.ses) (fun _ => rfl),
    pendingReset_of_lasting (haltFirmware_lasting_of_noneHeld hheld), hhalted,
    read_of_acrossBoot (confirmFirst_acrossBoot s) (·.ses) (fun _ => rfl)]

end

/-! ## Classes 2 and 3 (R564, R565) -/

theorem performReset_acrossBoot {cls : Nat} (hcls : cls = 2 ∨ cls = 3) (s : State) :
    acrossBoot (performReset cls s) = acrossBoot (afterReset cls (confirmFirst s)) := by
  rcases hcls with rfl | rfl <;> exact romBoot_acrossBoot ..

/-- What the rebuilt blocks hold: outside the Keep their After reset values (R46, R565). -/
theorem performReset_rebuilds {cls : Nat} (hcls : cls = 2 ∨ cls = 3) (s : State) :
    (performReset cls s).boot.fwReady = false ∧ (performReset cls s).ses = {} ∧ (performReset cls s).mbx.held = [] ∧
    (performReset cls s).time = {} ∧ (performReset cls s).tr = {} ∧ (performReset cls s).pe = {} ∧
    (performReset cls s).pool = {} ∧ (performReset cls s).frm = {} ∧
    (performReset cls s).prot = { members := tmap {} (fun _ m => keptMember m) s.prot.members, arbiters := s.prot.arbiters,
                                  badMessages := s.prot.badMessages, blobIvs := s.prot.blobIvs } ∧
    (performReset cls s).cph = { slots := s.cph.slots, zeroised := s.cph.zeroised } ∧
    (performReset cls s).mem.cells = (if cls = 2 then s.mem.cells else []) ∧
    (performReset cls s).boot.fuses = s.boot.fuses ∧ (performReset cls s).pwr.keep.ticks = s.pwr.keep.ticks ∧
    (performReset cls s).pending = s.pending := by
  have hreset := performReset_acrossBoot hcls s
  have hconfirm := confirmFirst_acrossBoot s
  have hcells := cells_of_acrossBoot hconfirm
  have hfuses := fuses_of_acrossBoot hconfirm
  have hprot := read_of_acrossBoot hconfirm (·.prot) (fun _ => rfl)
  have hcph := read_of_acrossBoot hconfirm (·.cph) (fun _ => rfl)
  have hpwr := read_of_acrossBoot hconfirm (·.pwr) (fun _ => rfl)
  have hpending := read_of_acrossBoot hconfirm (·.pending) (fun _ => rfl)
  rw [fwReady_of_acrossBoot hreset, fuses_of_acrossBoot hreset, cells_of_acrossBoot hreset, eq_of_acrossBoot hreset,
    ← hcells, ← hfuses, ← hprot, ← hcph, ← hpwr, ← hpending]
  exact ⟨rfl, rfl, rfl, rfl, rfl, rfl, rfl, rfl, rfl, rfl, rfl, rfl, rfl, rfl⟩

/-! ## The watchdog (R566) -/

/-- The watchdog's resets of the last 60 s, this one the first. -/
def watchdogLog (s : State) : List Nat := s.now :: s.boot.watchdogAt.filter (fun t => decide (s.now < t + 60000000000))

/-- Class 1 from the watchdog, up to the count of its resets. -/
def watchdogHalt (s : State) : State := haltFirmware { s with boot := { s.boot with watchdogAt := watchdogLog s } }

theorem watchdogHalt_fwReady (s : State) : (watchdogHalt s).boot.fwReady = false := haltFirmware_fwReady _

theorem watchdogHalt_watchdogAt (s : State) : (watchdogHalt s).boot.watchdogAt = watchdogLog s := haltFirmware_watchdogAt _

/-- A stop of firmware sets FW_FAULT at stage 0xE. -/
theorem stopFirmware_boot (s : State) : (stopFirmware s).boot.fwFault = true ∧ (stopFirmware s).boot.stage = 0xE ∧
    (stopFirmware s).boot.fwReady = s.boot.fwReady := ⟨rfl, rfl, rfl⟩

theorem watchdogClassOne_third {s : State} (h : 3 ≤ (watchdogLog s).length) :
    watchdogClassOne s = stopFirmware (watchdogHalt s) := if_pos h

theorem watchdogClassOne_acrossBoot (s : State) : acrossBoot (watchdogClassOne s) = acrossBoot (watchdogHalt s) := by
  simp only [watchdogClassOne]
  split
  · exact stopFirmware_acrossBoot _
  · split
    · exact (owe_acrossBoot ..).trans (reload_acrossBoot _)
    · exact reload_acrossBoot _

section

variable {s : State} {i : ImageFacts}

/-- While firmware runs, a watchdog that no other row of the cycle can join resets at once. -/
theorem exec_firmwareWatchdog_of_running (hrun : s.boot.running = some i) (hfault : s.boot.fwFault = false)
    (hasleep : s.pwr.keep.asleep = false) (hat : s.boot.resetAt ≠ some s.now) (hawaits : resetAwaits s = false) :
    exec .firmwareWatchdog s = .next (watchdogReset s) := by
  simp [exec_firmwareWatchdog, execFirmwareWatchdog, hrun, hfault, hasleep, hat, hawaits]

/-- With no reset pending it is of class 1. -/
theorem watchdogReset_of_nonePending (hnone : s.ses.pendingReset = none) : watchdogReset s = watchdogClassOne s := by
  simp [watchdogReset, mergedClass, clearMerged, hnone]

end

/-! ## Requests (R98, R100, R124) -/

section

variable {h : Caller} {e : Held} {s : State}

/-- DEVICE_RESET of class 1 to 3 that nothing stands against is accepted, and announced (R98, R100). -/
theorem exec_deviceReset_of_accepted {p : ResetP} (hs : startable 0x0003 none h e s) (hwf : p.wf = true) (hcls : 1 ≤ p.cls)
    (hpf : isVf h.id.fn = false) (hown : ownsDevice h s = true) (hlease : holdsLease s = false ∨ p.force = true) :
    exec (.deviceReset h p) s = .next (postResetPending (finish e stOk 0 0 [] (acceptReset p.cls p.delayUs s))) := by
  have haccepted : resetRefusal h p.force s = none := by
    rcases hlease with hlease | hlease <;> simp [resetRefusal, hpf, hown, hlease]
  have hne : p.cls ≠ 0 := by omega
  simp [exec_deviceReset, execDeviceReset, takeIn_startable hs, hne, haccepted, hwf]

/-- One of class 0 restarts the sessions of its issuer (R98). -/
theorem exec_deviceReset_zero {p : ResetP} (hs : startable 0x0003 none h e s) (hcls : p.cls = 0) :
    exec (.deviceReset h p) s = .next (restartFunction (fnKey h.id.fn) (finish e stOk 0 0 [] s)) := by
  simp [exec_deviceReset, execDeviceReset, takeIn_startable hs, hcls]

/-- COMMAND_ABORT completes the command that it names, and then itself (R124). -/
theorem exec_commandAbort_of_found {k : Fin 64} {tag : Nat} {x : Held} (hs : startable 0x0006 none h e s)
    (hx : s.mbx.held.find? (fun y => decide (y.id = { fn := h.id.fn, ring := k, tag := tag }) &&
      (y.deferredOnce || y.wakingOnce) && !startsNow y s) = some x) :
    exec (.commandAbort h k tag) s = .next (finish e stOk 0 0 [] (finish x stRefused 0x0100 0 [] s)) :=
  perform_done hs (by simp only [hx]; rfl)

end

/-! ## Steps of resets (R46, R47, R82, R100) -/

theorem exec_conventionalReset_asserts (linkB split : Bool) (s : State) :
    ∃ t, exec (.conventionalReset linkB split) s = .next t ∧ if linkB then t.mbx.resetB = true else t.mbx.resetA = true := by
  refine ⟨_, rfl, ?_⟩
  simp only [reownQueues_mbx, sampleSplit_resetA, sampleSplit_resetB]
  cases linkB <;> simp

theorem exec_resetDelayExpiry_of_none {s : State} (h : s.ses.pendingReset = none) : exec .resetDelayExpiry s = .next s := by
  simp [exec_resetDelayExpiry, execResetDelayExpiry, h]

/-- The pending reset taken up, to begin. -/
def resetTaken (s : State) : State := { s with ses := { s.ses with pendingReset := none } }

section

variable {s : State} {p : PendingReset} (hp : s.ses.pendingReset = some p)

include hp

theorem exec_resetDelayExpiry_of_early (hnow : s.now < p.instant) : exec .resetDelayExpiry s = .next s := by
  simp [exec_resetDelayExpiry, execResetDelayExpiry, hp, hnow]

theorem exec_resetDelayExpiry_of_due (hnow : p.instant ≤ s.now) :
    exec .resetDelayExpiry s = .next (performReset p.cls (resetTaken s)) := by
  simp [resetTaken, exec_resetDelayExpiry, execResetDelayExpiry, hp, Nat.not_lt.2 hnow]

end

/-- Settles O51. What a restart takes down is read off the state that it settles; class 1 is a halt, which leaves what is lasting,
and a reload, and classes 2 and 3 are a boot from the After reset values, which both leave what is across a boot. -/
theorem resetsAct : Obligations.ResetsAct := by
  unfold Obligations.ResetsAct
  refine ⟨fun _ _ _ _ => exec_deviceReset_zero, fun _ _ _ _ => exec_deviceReset_of_accepted, ?accept,
    fun _ _ _ _ _ _ => exec_commandAbort_of_found, ?flr, exec_conventionalReset_asserts, fun _ _ => rfl,
    fun _ => exec_resetDelayExpiry_of_none, fun _ _ => exec_resetDelayExpiry_of_early, ?classOne, ?classTwoThree, ?third, ?restarts,
    ?merged, ?noFirmware, ?coreFault⟩
  case accept =>
    intro cls delayUs s hnone
    simp [acceptReset, hnone, usNs]
  case flr =>
    intro f s
    obtain ⟨t, ht, hrings, hregs, hsessions, hqueues, hheld⟩ := restartWhere_takesDown (fun g => decide (g = pciKey f)) s
    refine ⟨t, by rw [exec_functionLevelReset, restartFunction, ht], ?_⟩
    have hregs := hregs (pciKey f) (pciKey_lt f) (by simp)
    simp only [decide_eq_true_eq, decide_eq_false_iff_not] at hrings hsessions hqueues hheld
    exact ⟨fun k hk => hrings _ k hk rfl, fun u v hv => msixEntry_clearMsix (by simp) hv u, by rw [hregs, restartedRegs],
      by rw [hregs, restartedRegs], hsessions, hqueues, hheld⟩
  case classOne =>
    intro s p hp hcls hnow hheld
    have hnone : (resetTaken s).mbx.held = [] := hheld
    refine ⟨_, exec_resetDelayExpiry_of_due hp hnow, ?_⟩
    rw [hcls, performReset, resetFirmware_time hnone, resetFirmware_cells hnone, resetFirmware_pendingReset hnone,
      resetFirmware_fwReady, resetFirmware_fuses]
    exact ⟨rfl, rfl, rfl, rfl, rfl⟩
  case classTwoThree =>
    intro s p hp hcls hnow
    exact ⟨_, exec_resetDelayExpiry_of_due hp hnow, performReset_rebuilds hcls (resetTaken s)⟩
  case third =>
    intro s i hrun hfault hasleep hat hawaits hnone hcount
    have hthird : 3 ≤ (watchdogLog s).length := Nat.succ_le_succ hcount
    obtain ⟨hstopped, hstage, hready⟩ := stopFirmware_boot (watchdogHalt s)
    refine ⟨stopFirmware (watchdogHalt s), ?_, hstopped, hstage, hready.trans (watchdogHalt_fwReady s)⟩
    rw [exec_firmwareWatchdog_of_running hrun hfault hasleep hat hawaits, watchdogReset_of_nonePending hnone,
      watchdogClassOne_third hthird]
  case restarts =>
    intro s i hrun hfault hasleep hat hawaits hnone _
    have hhalt := watchdogClassOne_acrossBoot s
    refine ⟨watchdogClassOne s, ?_, (fwReady_of_acrossBoot hhalt).trans (watchdogHalt_fwReady s),
      (watchdogAt_of_acrossBoot hhalt).trans (watchdogHalt_watchdogAt s)⟩
    rw [exec_firmwareWatchdog_of_running hrun hfault hasleep hat hawaits, watchdogReset_of_nonePending hnone]
  case merged =>
    intro s i hrun hfault hasleep hat
    refine ⟨fun hawaits => ?_, fun hawaits hmerged => ?_⟩
    · simp [exec_firmwareWatchdog, execFirmwareWatchdog, hrun, hfault, hasleep, hat, hawaits]
    · rw [exec_firmwareWatchdog_of_running hrun hfault hasleep hat hawaits, watchdogReset, if_neg hmerged]
  case noFirmware =>
    intro s h
    rcases h with h | h <;> simp [exec_firmwareWatchdog, execFirmwareWatchdog, h]
  case coreFault =>
    intro c s i hrun hfault hasleep
    exact ⟨by simp [exec_coreFault, execCoreFault, hrun, hfault, hasleep], resetFirmware_fwReady s⟩

end Sys2Proof.Machine
end

section
/-!
PROOFS of the trees' chapter. The commands of trees, terminals and their contexts, each by what its own work replies; and that an
equalisation delay short of the reach is refused.
-/
namespace Sys2Proof.Machine

/-! ## What leaves the tables of trees and terminals as they were -/

theorem terminal_of_terminals {s u : State} (h : u.tr.terminals = s.tr.terminals) (t i : Nat) :
    terminal u t i = terminal s t i := by
  rw [terminal, terminal, h]

@[simp] theorem terminal_setAlloc (s : State) (a : Nat) (v : Alloc) (t i : Nat) :
    terminal (setAlloc s a v) t i = terminal s t i := rfl
@[simp] theorem terminal_setPortCtx (s : State) (c : Nat) (v : PortCtx) (t i : Nat) :
    terminal (setPortCtx s c v) t i = terminal s t i := rfl
@[simp] theorem terminal_emit (o : Output) (s : State) (t i : Nat) : terminal (emit o s) t i = terminal s t i := rfl
@[simp] theorem terminal_eraseSlot (kind n : Nat) (s : State) (t i : Nat) :
    terminal (eraseSlot kind n s) t i = terminal s t i := rfl

@[simp] theorem tree_disablePort (port : Nat) (s : State) (t : Nat) : tree (disablePort port s) t = tree s t := rfl

@[simp] theorem post_tr (src : Nat) (cls : EvClass) (payload : Nat) (s : State) : (post src cls payload s).tr = s.tr := by
  obtain ⟨ev, out, msix, h⟩ := post_frame src cls payload s
  rw [h]

@[simp] theorem terminal_postTerminal (u j state reason : Nat) (s : State) (t i : Nat) :
    terminal (postTerminal u j state reason s) t i = terminal s t i :=
  terminal_of_terminals (congrArg (·.terminals) (post_tr ..)) t i

@[simp] theorem terminal_openRanging (u j : Nat) (s : State) (t i : Nat) : terminal (openRanging u j s) t i = terminal s t i := by
  unfold openRanging
  extract_lets v
  split <;> rfl

/-! ## Responses (R6) -/

@[simp] theorem length_le (n v : Nat) : (le n v).length = n := by
  induction n generalizing v with
  | zero => rfl
  | succ n ih => simp [le, ih]

/-- A response that its fields fit into has the size of its layout. -/
theorem length_fields {size : Nat} {fs : List (Nat × Nat)} (hfit : (fs.map (·.1)).sum ≤ size) :
    (fields size fs).length = size := by
  have hbytes : (fs.flatMap (fun f => le f.1 f.2)).length = (fs.map (·.1)).sum := by simp [List.length_flatMap]
  simp only [fields, List.length_append, List.length_replicate, hbytes]
  omega

theorem length_treeStatus (t : Nat) (s : State) : (treeStatus t s).length = 64 :=
  length_fields (by simp)

/-- The first byte of TREE_STATUS is STATE (R144). -/
theorem head?_treeStatus (t : Nat) (s : State) : (treeStatus t s).head? = some (BitVec.ofNat 8 (treeStateCode t s)) := rfl

theorem length_terminalStatus (t i : Nat) (s : State) : (terminalStatus t i s).length = 64 :=
  length_fields (by simp)

/-! ## What the commands leave -/

theorem tree_startTree_same (t : Nat) (drive : Bool) (s : State) :
    (tree (startTree t drive s) t).enabled = true ∧ (tree (startTree t drive s) t).countBursts = 0 := by
  simp [startTree]

theorem tree_stopTree_same (t : Nat) (s : State) :
    (tree (stopTree t s) t).enabled = false ∧ (tree (stopTree t s) t).txen = false := by
  simp [stopTree]

theorem terminal_admitTerminal_same (t : Nat) (p : AdmitP) (s : State) :
    (terminal (admitTerminal t p s) t p.terminal.val).admitted = true ∧
    (terminal (admitTerminal t p s) t p.terminal.val).state = 0 ∧
    (terminal (admitTerminal t p s) t p.terminal.val).serial = p.serial := by
  simp [admitTerminal]

theorem terminal_removeTerminal_same (t i : Nat) (s : State) : terminal (removeTerminal t i s) t i = {} := by
  unfold removeTerminal
  extract_lets waits u s1 contexts s2
  have hcontexts : terminal s2 t i = terminal s1 t i := rfl
  rw [terminal_eraseSlot, terminal_eraseSlot, hcontexts]
  exact terminal_setTerminal_same ..

theorem terminal_startRanging_same (t i : Nat) (s : State) : (terminal (startRanging t i s) t i).state = 3 := by
  simp [startRanging]

theorem cutRanging_of_none {t i : Nat} {s : State} (hnone : (terminal s t i).ranging = none) : cutRanging t i s = s := by
  simp [cutRanging, hnone]

/-! ## The equalisation delay and the reach (R141) -/

/-- A delay short of 35,000 ns and twice the reach's time of flight, in exact terms, lies below the least whole ns that holds it. -/
theorem lt_minTeqd {teqd maxReach groupIndex : Nat}
    (hshort : ((teqd : Int) - 35000) * 299792458 * 1000000 < 2 * maxReach * groupIndex * 1000000000) :
    teqd < minTeqd maxReach groupIndex := by
  have hcast : (2 * maxReach * groupIndex : Int) = ((2 * maxReach * groupIndex : Nat) : Int) := by push_cast; rfl
  rw [hcast] at hshort
  unfold minTeqd
  generalize 2 * maxReach * groupIndex = flight at hshort ⊢
  omega

section

variable {h : Caller} {e : Held} {s : State}

/-! ## Range 0x02: trees (R140, R142, R143, R144) -/

section

variable {p : TreeP} (hs : startable 0x0200 none h e s) (howns : owns h kTree p.tree.val s = true) (hwf : p.wf = true)
  (hoff : (tree s p.tree.val).enabled = false) (hport : (portEnt s p.tree.val).enabled = false)

include hs howns hwf hoff hport

theorem exec_treeConfigure_of_room (hroom : minTeqd p.maxReach (givenIndex p) ≤ givenTeqd p) :
    exec (.treeConfigure h p) s = .next (finish e stOk 0 0 [] (setTree s p.tree.val (withTree (tree s p.tree.val) p))) :=
  perform_done hs (by simp [howns, hwf, hoff, hport, Nat.not_lt.2 hroom, okay])

theorem exec_treeConfigure_of_short (hshort : givenTeqd p < minTeqd p.maxReach (givenIndex p)) :
    exec (.treeConfigure h p) s = .next (finish e stRefused 0x0204 0 [] s) :=
  perform_done hs (by simp [howns, hwf, hoff, hport, hshort, refuse])

end

/-- A burst profile set on a tree that is not enabled. -/
theorem exec_burstProfileSet_of_disabled {t : Fin 64} {k : Fin 4} {p : ProfileP} (hs : startable 0x0203 none h e s)
    (howns : owns h kTree t.val s = true) (hwf : p.wf = true) (hoff : (tree s t.val).enabled = false) :
    exec (.burstProfileSet h t k p) s = .next (finish e stOk 0 0 [] (setTree s t.val { tree s t.val with
      profiles := tset none k.val (some (profileDefaults p)) (tree s t.val).profiles })) :=
  perform_done hs (by simp [howns, hwf, hoff, okay])

/-- TREE_ENABLE of an owned tree whose cupola is Active needs no wake. -/
theorem exec_treeEnable_of_placed {t : Fin 64} {s1 : State} (hs : startable 0x0201 none h e s)
    (howns : owns h kTree t.val s = true) (hprot : protConfigured t.val s = false) (hcup : (cup s t.val).state = .active)
    (hconf : (tree s t.val).configured = true) (hprofile : (profileOf s t.val 0).isSome = true)
    (hplaced : enablePort t.val (treeRate (tree s t.val).mode) s = .placed s1) :
    exec (.treeEnable h t) s = .next (finish e stOk 0 0 [] (startTree t.val true s1)) := by
  have hreserved : e.reserved = false := hs.2.2
  refine (perform_awake _ _ t.val hs (if_pos howns) hcup).trans (congrArg _ (runBody_done _ _ _ _ _ _ hreserved ?_))
  have hsome : (profileOf s t.val 0).isNone = false := by simpa using hprofile
  simp [howns, hprot, hconf, hsome, hplaced, okay]

section

variable {t : Fin 64} (hs : startable 0x0202 none h e s) (howns : owns h kTree t.val s = true)
  (hprot : protConfigured t.val s = false)

include hs howns hprot

theorem exec_treeDisable_of_silent (hsilent : sendsFrames t.val s = false) :
    exec (.treeDisable h t) s = .next (finish e stOk 0 0 [] (stopTree t.val s)) :=
  perform_done hs (by simp [howns, hprot, hsilent, okay])

theorem exec_treeDisable_of_sends (hsends : sendsFrames t.val s = true) :
    exec (.treeDisable h t) s = .next (setPhase e (.running t.val) s) :=
  perform_later hs (by simp [howns, hprot, hsends])

end

theorem exec_treeStatus_of_startable {t : Fin 64} (hs : startable 0x0204 none h e s) :
    exec (.treeStatus h t) s = .next (finish e stOk 0 0 (treeStatus t.val s) s) :=
  perform_done hs rfl

theorem exec_burstRecordRead_of_records {t : Fin 64} {exceptions : Bool} {count : Nat} (hs : startable 0x0205 none h e s)
    (h1 : 1 ≤ count) (h1024 : count ≤ 1024) (hbursts : (tree s t.val).bursts ≠ [])
    (hexceptions : (tree s t.val).exceptions ≠ []) :
    exec (.burstRecordRead h t exceptions count) s = .next (finish e stOk 0 0
      (((if exceptions then (tree s t.val).exceptions else (tree s t.val).bursts).take count).flatMap (recordBytes t.val)) s) := by
  have hrecords : (if exceptions then (tree s t.val).exceptions else (tree s t.val).bursts) ≠ [] := by
    cases exceptions
    · exact hbursts
    · exact hexceptions
  exact perform_done hs ((if_neg (by omega)).trans (if_neg hrecords))

/-! ## Range 0x03: terminals (R160, R166, R168, R169) -/

theorem exec_terminalAdmit_of_free {p : AdmitP} (hs : startable 0x0301 none h e s) (howns : owns h kTree p.tree.val s = true)
    (hdomain : ownsDomain h p.domain.val s = true) (hwf : p.wf = true)
    (hindex : (terminal s p.tree.val p.terminal.val).admitted = false)
    (hserial : ∀ x ∈ s.tr.terminals, x.2.admitted = true → x.2.serial ≠ p.serial) :
    exec (.terminalAdmit h p) s = .next (finish e stOk 0 0 [] (admitTerminal p.tree.val p s)) := by
  have hany : s.tr.terminals.any (fun x => x.2.admitted && decide (x.2.serial = p.serial)) = false :=
    List.any_eq_false.2 fun x hx => by simpa using hserial x hx
  exact perform_done hs (by simp only [howns, hdomain, hwf, hindex, hany]; rfl)

section

variable {t : Fin 64} {i : Fin 512} (howns : owns h kTree t.val s = true) (hadmitted : (terminal s t.val i.val).admitted = true)

include howns hadmitted

/-- TERMINAL_DISABLE and its opposite, of a terminal that no ranging runs on for; the message sent and the event posted leave the
terminal as it is. -/
theorem exec_terminalDisable_of_idle (reenable : Bool) (hs : startable 0x0303 none h e s)
    (hidle : (terminal s t.val i.val).ranging = none) :
    ∃ s', exec (.terminalDisable h t i reenable) s = .next (finish e stOk 0 0 [] s') ∧
      (terminal s' t.val i.val).state = if reenable then 1 else 6 := by
  have hcut := cutRanging_of_none hidle
  cases reenable <;> exact ⟨_, perform_done hs (by simp only [howns, hadmitted]; rfl), by simp [hcut]⟩

theorem exec_terminalRemove_of_admitted (hs : startable 0x0304 none h e s) :
    ∃ s', exec (.terminalRemove h t i) s = .next (finish e stOk 0 0 [] s') ∧ terminal s' t.val i.val = {} :=
  ⟨_, perform_done hs (by simp only [howns, hadmitted]; rfl), by simp [terminal_removeTerminal_same]⟩

theorem exec_terminalRange_of_ready (hs : startable 0x0302 (some { kind := 7, scope := t.val }) h e s)
    (hon : (tree s t.val).enabled = true) (hstate : (terminal s t.val i.val).state = 2 ∨ (terminal s t.val i.val).state = 4)
    (hprofile : (profileOf s t.val (terminal s t.val i.val).profile).isSome = true) :
    exec (.terminalRange h t i) s = .next (setPhase e (.running (t.val * 512 + i.val)) (startRanging t.val i.val s)) := by
  have hready : ¬ ((terminal s t.val i.val).state ≠ 2 ∧ (terminal s t.val i.val).state ≠ 4) := by omega
  have hsome : (profileOf s t.val (terminal s t.val i.val).profile).isNone = false := by simpa using hprofile
  exact perform_later hs (by simp only [howns, hadmitted, hon, if_neg hready, hsome]; rfl)

end

theorem exec_terminalStatus_of_admitted {t : Fin 64} {i : Fin 512} (hs : startable 0x0305 none h e s)
    (hadmitted : (terminal s t.val i.val).admitted = true) :
    exec (.terminalStatus h t i) s = .next (finish e stOk 0 0 (terminalStatus t.val i.val s) s) :=
  perform_done hs (by simp [hadmitted, okResp])

theorem exec_rogueProbe_of_enabled {t : Fin 64} {us : Nat} (hs : startable 0x0306 (some { kind := 7, scope := t.val }) h e s)
    (howns : owns h kTree t.val s = true) (h125 : 125 ≤ us) (h10000 : us ≤ 10000) (hframes : us % 125 = 0)
    (hon : (tree s t.val).enabled = true) :
    exec (.rogueProbe h t us) s = .next (setPhase e (.running (t.val + 64 * (tree s t.val).probeSeq))
      (setTree s t.val { tree s t.val with
        probes := (tree s t.val).probes ++ [{ key := t.val + 64 * (tree s t.val).probeSeq, ends := s.now + us * 1000 }],
        probeSeq := (tree s t.val).probeSeq + 1 })) := by
  have hduration : ¬ (us < 125 ∨ 10000 < us ∨ us % 125 ≠ 0) := by omega
  exact perform_later hs (by simp only [howns, hon, if_neg hduration]; rfl)

theorem exec_discoveredRead_of_listed {t : Fin 64} (hs : startable 0x0307 none h e s) (hlisted : (tree s t.val).discovered ≠ []) :
    exec (.discoveredRead h t) s = .next (finish e stOk 0 0
      ((tree s t.val).discovered.flatMap (fun x => le 8 x.1 ++ le 8 x.2)) s) :=
  perform_done hs (if_neg hlisted)

end

/-- Settles O8: each command by its lemma, and what it leaves by the lemma of the state that it leaves. -/
theorem treeAndTerminalCommandsComplete : Obligations.TreeAndTerminalCommandsComplete := by
  unfold Obligations.TreeAndTerminalCommandsComplete
  refine ⟨fun _ _ _ _ => exec_treeConfigure_of_room, fun _ _ _ _ _ _ => exec_burstProfileSet_of_disabled, ?enable, ?disable,
    fun _ _ _ _ => exec_treeDisable_of_sends, ?status, fun _ _ _ _ _ _ => exec_burstRecordRead_of_records, ?admission, ?reenable,
    fun _ _ _ _ _ hs howns hadmitted => exec_terminalRemove_of_admitted howns hadmitted hs, ?range, ?terminalStatus,
    fun _ _ _ _ _ => exec_rogueProbe_of_enabled, fun _ _ _ _ => exec_discoveredRead_of_listed⟩
  case enable =>
    intro h t e s s1 hs howns hprot hcup hconf hprofile hplaced
    exact ⟨exec_treeEnable_of_placed hs howns hprot hcup hconf hprofile hplaced, tree_startTree_same ..⟩
  case disable =>
    intro h t e s hs howns hprot hsilent
    exact ⟨exec_treeDisable_of_silent hs howns hprot hsilent, tree_stopTree_same ..⟩
  case status => exact fun h t e s hs => ⟨_, exec_treeStatus_of_startable hs, length_treeStatus .., head?_treeStatus ..⟩
  case admission =>
    intro h p e s hs howns hdomain hwf hindex hserial
    exact ⟨exec_terminalAdmit_of_free hs howns hdomain hwf hindex hserial, terminal_admitTerminal_same ..⟩
  case reenable =>
    intro h t i e s hs howns hadmitted hidle
    exact ⟨exec_terminalDisable_of_idle howns hadmitted false hs hidle,
      exec_terminalDisable_of_idle howns hadmitted true hs hidle⟩
  case range =>
    intro h t i e s hs howns hadmitted hon hstate hprofile
    exact ⟨exec_terminalRange_of_ready howns hadmitted hs hon hstate hprofile, terminal_startRanging_same ..⟩
  case terminalStatus =>
    exact fun h t i e s hs hadmitted => ⟨_, exec_terminalStatus_of_admitted hs hadmitted, length_terminalStatus ..⟩

/-- Settles O9: the delay is short of the least whole ns that R141 allows. -/
theorem equalisationDelayLeavesRoom : Obligations.EqualisationDelayLeavesRoom := by
  unfold Obligations.EqualisationDelayLeavesRoom
  intro h p e s hs howns hwf hoff hport hshort
  exact exec_treeConfigure_of_short hs howns hwf hoff hport (lt_minTeqd hshort)

section

variable {h : Caller} {e : Held} {s : State}

/-! ## Range 0x04: allocation and port contexts (R171, R177, R179, R181, R182, R183, R195) -/

/-- A further context has any identifier of its range (R171). -/
theorem idInRange_of_further {ctx i id lo hi : Nat} (hctx : 32768 ≤ ctx) (hlo : lo ≤ id) (hhi : id ≤ hi) :
    idInRange ctx i id lo hi = true := by
  simp [idInRange, Nat.not_lt.2 hctx, hlo, hhi]

/-- An allocation configured beyond the defaults: its identifier free, its rates within the tree's guarantee, its pins placed. -/
theorem exec_allocConfigure_of_room {p : AllocP} {pins : List Nat} (hs : startable 0x0400 none h e s)
    (howns : ownsAlloc h p.tree.val p.terminal.val s = true)
    (hid : ∀ x ∈ s.tr.allocs, x.2.present = true → x.2.tree = p.tree.val → x.1 ≠ p.ctx.val → x.2.allocId ≠ p.allocId)
    (hadmitted : (terminal s p.tree.val p.terminal.val).admitted = true)
    (hforeign : foreignCtx p.ctx.val p.tree.val p.terminal.val (alloc s p.ctx.val).present (alloc s p.ctx.val).tree
      (alloc s p.ctx.val).terminal = false)
    (hconf : (tree s p.tree.val).configured = true) (hwf : p.wf = true) (hctx : 32768 ≤ p.ctx.val) (hlo : 1024 ≤ p.allocId)
    (hhi : p.allocId ≤ 16383) (htree : furtherAllocs p.tree.val none s < 4096)
    (hterminal : furtherAllocs p.tree.val (some p.terminal.val) s < 15)
    (hrate : admittedSum p.tree.val (some p.ctx.val) s + p.fixed + p.assured ≤ guaranteedLimit p.tree.val s)
    (hpins : pinsFor p s = some pins) :
    exec (.allocConfigure h p) s = .next (finish e stOk 0 (pins.headD 0) []
      (setAlloc (beforeChange s) p.ctx.val (withParams (alloc s p.ctx.val) p pins))) := by
  have htaken : s.tr.allocs.any (fun x => x.2.present && decide (x.2.tree = p.tree.val) && decide (x.1 ≠ p.ctx.val) &&
      decide (x.2.allocId = p.allocId)) = false :=
    List.any_eq_false.2 fun x hx => by simpa using hid x hx
  have hrange := idInRange_of_further (i := p.terminal.val) hctx hlo hhi
  refine perform_done hs ?_
  simp only [howns, htaken, hadmitted, hforeign, hconf, hwf, hrange, hpins, Nat.not_lt.2 hctx, Nat.not_le.2 htree,
    Nat.not_le.2 hterminal, Nat.not_lt.2 hrate]
  simp [okResult]

/-- A further allocation removed at once from a tree that sends no maps, and after its next map from one that does (R182). -/
theorem exec_allocRemove_of_present {t : Fin 64} {ctx : Fin 65536} (hs : startable 0x0401 none h e s)
    (howns : ownsAlloc h t.val (alloc s ctx.val).terminal s = true) (hctx : 32768 ≤ ctx.val)
    (hpresent : (alloc s ctx.val).present = true) (htree : (alloc s ctx.val).tree = t.val) :
    exec (.allocRemove h t ctx) s = .next (if (tree s t.val).enabled then
        setPhase e (.running ctx.val) (setAlloc s ctx.val { alloc s ctx.val with removing := true })
      else finish e stOk 0 0 [] (setAlloc (beforeChange s) ctx.val {})) := by
  by_cases hon : (tree s t.val).enabled = true
  · rw [if_pos hon]
    exact perform_later hs (by simp [howns, Nat.not_lt.2 hctx, hpresent, htree, hon])
  · rw [if_neg hon]
    exact perform_done hs (by simp [howns, Nat.not_lt.2 hctx, hpresent, htree, hon, okay])

theorem exec_portConfigure_of_room {p : PortCtxP} (hs : startable 0x0402 none h e s) (howns : owns h kTree p.tree.val s = true)
    (hadmitted : (terminal s p.tree.val p.terminal.val).admitted = true)
    (hid : ∀ x ∈ s.tr.ports, x.2.present = true → x.2.tree = p.tree.val → x.1 ≠ p.ctx.val → x.2.portId ≠ p.portId)
    (hforeign : foreignCtx p.ctx.val p.tree.val p.terminal.val (portCtx s p.ctx.val).present (portCtx s p.ctx.val).tree
      (portCtx s p.ctx.val).terminal = false)
    (hqueue : p.down = true → queueDomain p.downQueue.val s = some (terminal s p.tree.val p.terminal.val).domain)
    (hwf : p.wf = true) (hctx : 32768 ≤ p.ctx.val) (hlo : 1024 ≤ p.portId) (hhi : p.portId ≤ 65534)
    (htree : furtherPorts p.tree.val none s < 16384) (hterminal : furtherPorts p.tree.val (some p.terminal.val) s < 256) :
    exec (.portConfigure h p) s =
      .next (finish e stOk 0 0 [] (setPortCtx (beforeChange s) p.ctx.val (portOf p.tree.val p))) := by
  have htaken : s.tr.ports.any (fun x => x.2.present && decide (x.2.tree = p.tree.val) && decide (x.1 ≠ p.ctx.val) &&
      decide (x.2.portId = p.portId)) = false :=
    List.any_eq_false.2 fun x hx => by simpa using hid x hx
  have hdomain : (p.down && decide (queueDomain p.downQueue.val s ≠
      some (terminal s p.tree.val p.terminal.val).domain)) = false := by
    simpa using hqueue
  have hrange := idInRange_of_further (i := p.terminal.val) hctx hlo hhi
  refine perform_done hs ?_
  simp only [howns, hadmitted, htaken, hforeign, hdomain, hwf, hrange, Nat.not_le.2 htree, Nat.not_le.2 hterminal]
  simp [okay]

theorem exec_portRemove_of_further {t : Fin 64} {ctx : Fin 131072} (hs : startable 0x0403 none h e s)
    (howns : owns h kTree t.val s = true) (hctx : 32768 ≤ ctx.val) :
    exec (.portRemove h t ctx) s = .next (finish e stOk 0 0 []
      (if (portCtx s ctx.val).tree = t.val then setPortCtx (beforeChange s) ctx.val {} else s)) := by
  refine perform_done hs ?_
  simp only [howns, if_neg (Nat.not_lt.2 hctx), ← apply_ite okay]
  rfl

/-- A policy whose limit, set and not 0, is the guarantee that the tree's allocations are to fit into (R179). -/
theorem exec_grantPolicySet_of_room {t : Fin 64} {n limit : Nat} (hs : startable 0x0404 none h e s)
    (howns : owns h kTree t.val s = true) (hconf : (tree s t.val).configured = true) (h64 : 64 ≤ n) (h1024 : n ≤ 1024)
    (hpos : 0 < limit) (hlimit : limit < 2 ^ 32) (hsum : admittedSum t.val none s ≤ limit) :
    exec (.grantPolicySet h t n limit) s = .next (finish e stOk 0 0 []
      (setTree s t.val { tree s t.val with maxStructures := n, guaranteedKbps := limit })) := by
  have hwf : ¬ ((n ≠ 0 ∧ (n < 64 ∨ 1024 < n)) ∨ 2 ^ 32 ≤ limit) := by omega
  have hn : n ≠ 0 := by omega
  refine perform_done hs ?_
  simp only [howns, hconf, if_neg hwf, if_neg hn]
  simp [guaranteedLimit, Nat.pos_iff_ne_zero.1 hpos, Nat.not_lt.2 hsum, okay]

theorem exec_allocStatus_of_present {t : Fin 64} {ctx : Fin 65536} (hs : startable 0x0405 none h e s) (hpf : isVf h.id.fn = false)
    (hpresent : (alloc s ctx.val).present = true) (htree : (alloc s ctx.val).tree = t.val) :
    exec (.allocStatus h t ctx) s = .next (finish e stOk 0 0 (allocStatus (alloc s ctx.val)) s) :=
  perform_done hs (by simp [hpf, hpresent, htree, okResp])

theorem exec_coopInputConfigure_of_owner {p : CoopP} (hs : startable 0x0406 none h e s) (hown : ownsDevice h s = true)
    (hwf : p.wf = true) :
    exec (.coopInputConfigure h p) s = .next (finish e stOk 0 0 [] { s with tr := { s.tr with
      coop := { enable := p.enable, etherType := p.etherType, laneMask := p.laneMask } } }) :=
  perform_done hs (by simp [hown, hwf, okay])

end

/-- Settles O58: each command by its lemma. -/
theorem commandsOfRanges02To04Complete : Obligations.CommandsOfRanges02To04Complete := by
  unfold Obligations.CommandsOfRanges02To04Complete
  refine ⟨fun _ _ _ _ hs howns hwf hoff hport hroom => ⟨_, _, _, _, exec_treeConfigure_of_room hs howns hwf hoff hport hroom⟩,
    fun _ _ _ _ _ _ hs howns hwf hoff => ⟨_, _, _, _, exec_burstProfileSet_of_disabled hs howns hwf hoff⟩,
    ?enable,
    fun _ _ _ _ hs howns hprot hsilent => ⟨_, _, _, _, exec_treeDisable_of_silent hs howns hprot hsilent⟩,
    fun _ _ _ _ hs => ⟨_, _, _, _, exec_treeStatus_of_startable hs⟩,
    ?records, ?admission, ?disable, ?remove, ?range,
    fun _ _ _ _ _ hs hadmitted => ⟨_, _, _, _, exec_terminalStatus_of_admitted hs hadmitted⟩,
    fun _ _ _ _ _ => exec_rogueProbe_of_enabled,
    fun _ _ _ _ hs hlisted => ⟨_, _, _, _, exec_discoveredRead_of_listed hs hlisted⟩,
    ?allocation,
    fun _ _ _ _ _ => exec_allocRemove_of_present,
    ?port,
    fun _ _ _ _ _ hs howns hctx => ⟨_, _, _, _, exec_portRemove_of_further hs howns hctx⟩,
    ?policy,
    fun _ _ _ _ _ hs hpf hpresent htree => ⟨_, _, _, _, exec_allocStatus_of_present hs hpf hpresent htree⟩,
    fun _ _ _ _ hs hown hwf => ⟨_, _, _, _, exec_coopInputConfigure_of_owner hs hown hwf⟩⟩
  case enable =>
    intro h t e s s1 hs howns hprot hcup hconf hprofile hplaced
    exact ⟨_, _, _, _, exec_treeEnable_of_placed hs howns hprot hcup hconf hprofile hplaced⟩
  case records =>
    intro h t exceptions count e s hs h1 h1024 hbursts hexceptions
    exact ⟨_, _, _, _, exec_burstRecordRead_of_records hs h1 h1024 hbursts hexceptions⟩
  case admission =>
    intro h p e s hs howns hdomain hwf hindex hserial
    exact ⟨_, _, _, _, exec_terminalAdmit_of_free hs howns hdomain hwf hindex hserial⟩
  case disable =>
    intro h t i e s hs howns hadmitted hidle
    obtain ⟨s', hdisable, -⟩ := exec_terminalDisable_of_idle howns hadmitted false hs hidle
    obtain ⟨s'', hreenable, -⟩ := exec_terminalDisable_of_idle howns hadmitted true hs hidle
    exact ⟨⟨_, _, _, _, hdisable⟩, ⟨_, _, _, _, hreenable⟩⟩
  case remove =>
    intro h t i e s hs howns hadmitted
    obtain ⟨s', hremove, -⟩ := exec_terminalRemove_of_admitted howns hadmitted hs
    exact ⟨_, _, _, _, hremove⟩
  case range =>
    intro h t i e s hs howns hadmitted hon hstate hprofile
    exact ⟨exec_terminalRange_of_ready howns hadmitted hs hon hstate hprofile, terminal_startRanging_same ..⟩
  case allocation =>
    intro h p pins e s hs howns hid hadmitted hforeign hconf hwf hctx hlo hhi htree hterminal hrate hpins
    exact ⟨_, _, _, _, exec_allocConfigure_of_room hs howns hid hadmitted hforeign hconf hwf hctx hlo hhi htree
      hterminal hrate hpins⟩
  case port =>
    intro h p e s hs howns hadmitted hid hforeign hqueue hwf hctx hlo hhi htree hterminal
    exact ⟨_, _, _, _, exec_portConfigure_of_room hs howns hadmitted hid hforeign hqueue hwf hctx hlo hhi htree hterminal⟩
  case policy =>
    intro h t n limit e s hs howns hconf h64 h1024 hpos hlimit hsum
    exact ⟨_, _, _, _, exec_grantPolicySet_of_room hs howns hconf h64 h1024 hpos hlimit hsum⟩

end Sys2Proof.Machine
end

section
/-!
PROOFS of the chapter on grants and isolation. The commands of range 0x04; what a report, an announcement and the close of a map do;
that no pass of a map takes an allocation past its maximum; the checks of an upstream frame; the parity bits of a domain tag.
-/
namespace Sys2Proof.Machine

/-! ## What leaves the tables of trees and of the packet engine as they were -/

/-- The tables of trees and of the packet engine, which no event, count or pool operation changes. -/
def treesAndQueues (s : State) : Trees × PacketEngine := (s.tr, s.pe)

section

variable {s u : State} (h : treesAndQueues u = treesAndQueues s)

include h

theorem tr_of_treesAndQueues : u.tr = s.tr := congrArg Prod.fst h
theorem pe_of_treesAndQueues : u.pe = s.pe := congrArg Prod.snd h
theorem alloc_of_treesAndQueues (a : Nat) : alloc u a = alloc s a := by rw [alloc, alloc, tr_of_treesAndQueues h]
theorem queue_of_treesAndQueues (q : Nat) : queue u q = queue s q := by rw [queue, queue, pe_of_treesAndQueues h]

end

@[simp] theorem post_treesAndQueues (src : Nat) (cls : EvClass) (payload : Nat) (s : State) :
    treesAndQueues (post src cls payload s) = treesAndQueues s := by
  obtain ⟨ev, out, msix, h⟩ := post_frame src cls payload s
  rw [h]
  rfl

@[simp] theorem count_treesAndQueues (ev inst n : Nat) (domain : Option Nat) (s : State) :
    treesAndQueues (count ev inst n domain s) = treesAndQueues s := by
  unfold count
  split
  · rfl
  · exact foldl_keeps treesAndQueues _ (fun _ _ => by rfl) _ _

@[simp] theorem markPost_treesAndQueues (key : Nat) (s : State) : treesAndQueues (markPost key s) = treesAndQueues s := rfl
@[simp] theorem addUnreported_treesAndQueues (key n : Nat) (s : State) :
    treesAndQueues (addUnreported key n s) = treesAndQueues s := rfl
@[simp] theorem emit_treesAndQueues (o : Output) (s : State) : treesAndQueues (emit o s) = treesAndQueues s := rfl
@[simp] theorem setPool_treesAndQueues (s : State) (q : Nat) (v : Pool) : treesAndQueues (setPool s q v) = treesAndQueues s := rfl
@[simp] theorem setHeader_treesAndQueues (s : State) (ptr : Nat) (v : Header) :
    treesAndQueues (setHeader s ptr v) = treesAndQueues s := rfl

@[simp] theorem grantWarning_treesAndQueues (t kind ctx : Nat) (s : State) :
    treesAndQueues (grantWarning t kind ctx s) = treesAndQueues s := by
  simp only [grantWarning]
  split <;> simp

@[simp] theorem judgePool_treesAndQueues (q : Nat) (s : State) : treesAndQueues (judgePool q s) = treesAndQueues s := by
  unfold judgePool
  split <;> rfl

@[simp] theorem reject_treesAndQueues (q kind r ptr : Nat) (s : State) :
    treesAndQueues (reject q kind r ptr s) = treesAndQueues s := by
  simp only [reject]
  split <;> simp

@[simp] theorem quarantine_treesAndQueues (q ptr : Nat) (s : State) : treesAndQueues (quarantine q ptr s) = treesAndQueues s := by
  simp [quarantine]

/-- The checks of a buffer operation leave these tables where the operation itself does. -/
theorem onBuffer_treesAndQueues {f : Nat → State → State} (hf : ∀ q u, treesAndQueues (f q u) = treesAndQueues u)
    (r ptr ecc : Nat) (s : State) : treesAndQueues (onBuffer r ptr ecc f s) = treesAndQueues s := by
  unfold onBuffer
  split
  · exact reject_treesAndQueues ..
  · split
    · exact quarantine_treesAndQueues ..
    · extract_lets v s1
      have hs1 : treesAndQueues s1 = treesAndQueues s := by
        simp only [s1]
        split <;> rfl
      split
      · rw [reject_treesAndQueues, hs1]
      · rw [hf, hs1]

@[simp] theorem freeBuffer_treesAndQueues (r ptr ecc : Nat) (s : State) :
    treesAndQueues (freeBuffer r ptr ecc s) = treesAndQueues s := by
  refine onBuffer_treesAndQueues (fun q u => ?_) r ptr ecc s
  dsimp only
  split
  · rfl
  · split <;> simp

@[simp] theorem dropBuffer_treesAndQueues (port ptr : Nat) (s : State) :
    treesAndQueues (dropBuffer port ptr s) = treesAndQueues s := by
  unfold dropBuffer
  split
  · exact freeBuffer_treesAndQueues ..
  · rfl

/-! ## The commands of range 0x04 that are REFUSED (R177, R179, R182) -/

section

variable {h : Caller} {e : Held} {s : State}

theorem exec_allocRemove_of_default {t : Fin 64} {ctx : Fin 65536} (hs : startable 0x0401 none h e s)
    (howns : ownsAlloc h t.val (alloc s ctx.val).terminal s = true) (hctx : ctx.val < 32768) :
    exec (.allocRemove h t ctx) s = .next (finish e stRefused 0x0402 0 [] s) :=
  perform_done hs (by simp [howns, hctx, refuse])

theorem exec_portRemove_of_default {t : Fin 64} {ctx : Fin 131072} (hs : startable 0x0403 none h e s)
    (howns : owns h kTree t.val s = true) (hctx : ctx.val < 32768) :
    exec (.portRemove h t ctx) s = .next (finish e stRefused 0x0407 0 [] s) :=
  perform_done hs (by simp [howns, hctx, refuse])

theorem exec_grantPolicySet_of_unconfigured {t : Fin 64} {n limit : Nat} (hs : startable 0x0404 none h e s)
    (howns : owns h kTree t.val s = true) (hconf : (tree s t.val).configured = false) :
    exec (.grantPolicySet h t n limit) s = .next (finish e stRefused 0x0409 0 [] s) :=
  perform_done hs (by simp [howns, hconf, refuse])

end

theorem length_allocStatus (a : Alloc) : (allocStatus a).length = 64 := length_fields (by simp)

/-- Settles O12: each command by its lemma. -/
theorem grantCommandsComplete : Obligations.GrantCommandsComplete := by
  unfold Obligations.GrantCommandsComplete
  refine ⟨?allocation, fun _ _ _ _ _ => exec_allocRemove_of_present, ?port, fun _ _ _ _ _ => exec_portRemove_of_further,
    ?policy, ?status, fun _ _ _ _ => exec_coopInputConfigure_of_owner, fun _ _ _ _ _ => exec_allocRemove_of_default,
    fun _ _ _ _ _ => exec_portRemove_of_default, fun _ _ _ _ _ _ => exec_grantPolicySet_of_unconfigured⟩
  case allocation =>
    intro h p pins e s hs howns hid hadmitted hforeign hconf hwf hctx hlo hhi htree hterminal hrate hpins
    exact exec_allocConfigure_of_room hs howns hid hadmitted hforeign hconf hwf hctx hlo hhi htree hterminal hrate hpins
  case port =>
    intro h p e s hs howns hadmitted hid hforeign hqueue hwf hctx hlo hhi htree hterminal
    exact exec_portConfigure_of_room hs howns hadmitted hid hforeign hqueue hwf hctx hlo hhi htree hterminal
  case policy =>
    intro h t n limit e s hs howns hconf h64 h1024 hpos hlimit hsum
    exact exec_grantPolicySet_of_room hs howns hconf h64 h1024 hpos hlimit hsum
  case status =>
    intro h t ctx e s hs hpf hpresent htree
    exact ⟨_, exec_allocStatus_of_present hs hpf hpresent htree, length_allocStatus _⟩

/-! ## Reports and announcements (R185, R186, R195, R196) -/

theorem exec_queueReport (t : Fin 64) (ctx : Fin 65536) (bytes : Nat) (fecOk : Bool) (s : State) :
    exec (.queueReport t ctx bytes fecOk) s = execQueueReport t ctx bytes fecOk s := rfl
theorem exec_coopAnnouncement (c : CoopFrame) (s : State) : exec (.coopAnnouncement c) s = execCoopAnnouncement c s := rfl

theorem exec_queueReport_of_decoded {t : Fin 64} {ctx : Fin 65536} {s : State} (bytes : Nat)
    (hpresent : (alloc s ctx.val).present = true) (htree : (alloc s ctx.val).tree = t.val) :
    exec (.queueReport t ctx bytes true) s = .next (setAlloc s ctx.val { alloc s ctx.val with
      reported := bytes, reportMap := (terminal s t.val (alloc s ctx.val).terminal).windowMap,
      grants := (alloc s ctx.val).grants.filter
        (fun g => decide ((terminal s t.val (alloc s ctx.val).terminal).windowMap < g.1)) }) := by
  simp [exec_queueReport, execQueueReport, hpresent, htree]

theorem exec_queueReport_of_failed (t : Fin 64) (ctx : Fin 65536) (bytes : Nat) (s : State) :
    exec (.queueReport t ctx bytes false) s = .next s := by
  simp [exec_queueReport, execQueueReport]

theorem exec_coopAnnouncement_of_admitted {c : CoopFrame} {s : State} (henable : s.tr.coop.enable = true)
    (htype : c.etherType = s.tr.coop.etherType) (hport : (portEnt s c.port).enabled = true) (hlanes : portLanes c.port s ≠ [])
    (hmask : ∀ i ∈ portLanes c.port s, Nat.testBit s.tr.coop.laneMask i = true) (hversion : coopVersion c.payload = 1) :
    exec (.coopAnnouncement c) s =
      .next ((coopEntries c.payload).foldl (fun st x => coopEntry (coopDomain c s) x st) s) := by
  have hall : (portLanes c.port s).all (fun i => Nat.testBit s.tr.coop.laneMask i) = true := List.all_eq_true.2 hmask
  simp [exec_coopAnnouncement, execCoopAnnouncement, henable, htype, hport, hlanes, hall, hversion]

theorem exec_coopAnnouncement_of_otherVersion {c : CoopFrame} (s : State) (hversion : coopVersion c.payload ≠ 1) :
    exec (.coopAnnouncement c) s = .next s := by
  simp [exec_coopAnnouncement, execCoopAnnouncement, hversion]

/-! ## The close of a map (R182, R184, R190) -/

/-- No context of the tree is being removed. -/
def noneRemoved (t : Nat) (s : State) : Prop := ∀ x ∈ s.tr.allocs, x.2.tree = t → x.2.removing = false

theorem mem_tins {α : Type} {k : Nat} {v : α} {x : Nat × α} {l : Table α} (h : x ∈ tins k v l) : x = (k, v) ∨ x ∈ l := by
  induction l with
  | nil => simpa [tins] using h
  | cons y l ih =>
    unfold tins at h
    split at h
    · simpa using h
    · split at h
      · rcases List.mem_cons.1 h with hx | hx
        · exact .inl hx
        · exact .inr (List.mem_cons_of_mem _ hx)
      · rcases List.mem_cons.1 h with rfl | hx
        · exact .inr List.mem_cons_self
        · exact (ih hx).imp_right (List.mem_cons_of_mem _)

theorem mem_tset {α : Type} [DecidableEq α] {d : α} {k : Nat} {v : α} {x : Nat × α} {l : Table α} (h : x ∈ tset d k v l) :
    x = (k, v) ∨ x ∈ l := by
  unfold tset at h
  split at h
  · exact .inr (List.mem_of_mem_filter h)
  · exact mem_tins h

theorem noneRemoved_setAlloc {t : Nat} {s : State} {v : Alloc} (k : Nat) (hs : noneRemoved t s) (hv : v.removing = false) :
    noneRemoved t (setAlloc s k v) := by
  intro x hx htree
  rcases mem_tset hx with rfl | hx
  · exact hv
  · exact hs x hx htree

/-- A finished claim writes its own context back, of which it changes nothing that says whether it is removed (R183). -/
theorem finishClaim_tr (k mode : Nat) (p : Plan) (c : Claim) (s : State) :
    ∃ v : Alloc, v.removing = c.a.removing ∧ (finishClaim k mode p c s).tr = (setAlloc s c.ctx v).tr := by
  unfold finishClaim
  extract_lets c' g1 moved
  split
  · refine ⟨_, ?_, tr_of_treesAndQueues (count_treesAndQueues ..)⟩
    rfl
  · refine ⟨_, ?_, tr_of_treesAndQueues (count_treesAndQueues ..)⟩
    rfl

theorem finishClaims_trees (k mode : Nat) (p : Plan) (cs : List Claim) (s : State) :
    (cs.foldl (fun st c => finishClaim k mode p c st) s).tr.trees = s.tr.trees := by
  refine foldl_keeps (fun u => u.tr.trees) _ (fun u c => ?_) cs s
  obtain ⟨v, -, htr⟩ := finishClaim_tr k mode p c u
  simp only [htr]
  rfl

theorem noneRemoved_finishClaims {t : Nat} (k mode : Nat) (p : Plan) {cs : List Claim} (hcs : ∀ c ∈ cs, c.a.removing = false)
    {s : State} (hs : noneRemoved t s) : noneRemoved t (cs.foldl (fun st c => finishClaim k mode p c st) s) := by
  refine List.foldlRecOn cs _ hs fun u hu c hc => ?_
  obtain ⟨v, hv, htr⟩ := finishClaim_tr k mode p c u
  have hset := noneRemoved_setAlloc c.ctx hu (hv.trans (hcs c hc))
  rwa [noneRemoved, ← htr] at hset

theorem removing_of_mem_claims {t k : Nat} {s : State} {c : Claim} (h : c ∈ claims t k s) : c.a.removing = false := by
  simp only [claims, List.mem_map, List.mem_filter, Bool.and_eq_true, Bool.not_eq_true'] at h
  obtain ⟨x, ⟨-, ⟨-, hremoving⟩, -⟩, rfl⟩ := h
  exact hremoving

theorem finishRemovals_of_noneRemoved {t : Nat} {s : State} (hs : noneRemoved t s) : finishRemovals t s = s := by
  have hnone : s.tr.allocs.filter (fun e => e.2.present && decide (e.2.tree = t) && e.2.removing) = [] := by
    refine List.filter_eq_nil_iff.2 fun x hx => ?_
    by_cases htree : x.2.tree = t
    · simp [hs x hx htree]
    · simp [htree]
  rw [finishRemovals, hnone, List.foldl_nil]

/-- A woken cupola leaves the tables of the trees and the time bases. -/
theorem moveCup_active_frame (k reason : Nat) (s : State) :
    (moveCup k .active reason s).tr = s.tr ∧ (moveCup k .active reason s).time = s.time := by
  generalize hu : moveCup k .active reason s = u
  unfold moveCup at hu
  extract_lets c at hu
  split at hu
  · subst hu
    exact ⟨rfl, rfl⟩
  · split at hu
    rename_i d s1 hdrawn
    have hs1 : s1.tr = s.tr ∧ s1.time = s.time := by
      split at hdrawn
      · split at hdrawn <;> cases hdrawn <;> exact ⟨rfl, rfl⟩
      · cases hdrawn
        exact ⟨rfl, rfl⟩
    extract_lets c1 s2 at hu
    have hs2 : s2.tr = s.tr ∧ s2.time = s.time := by simpa [s2, setCup] using hs1
    split at hu <;> subst hu
    · exact ⟨(post_tr ..).trans hs2.1, (time_of_lasting (post_lasting ..)).trans hs2.2⟩
    · exact hs2

theorem sendImage_tr (t k : Nat) (s : State) : (sendImage t k s).tr = s.tr := by
  unfold sendImage
  split
  · rfl
  · dsimp only
    split
    · rfl
    · unfold countUnsent
      split <;> rfl

theorem nextMap_congr {s u : State} (htr : u.tr = s.tr) (htime : u.time = s.time) (t : Nat) : nextMap t u = nextMap t s := by
  unfold nextMap tree timeBase
  rw [htr, htime]

/-- The map that closes writes its own tree's entry, with its number as the last map's. -/
theorem closeMap_trees {t : Nat} {s0 : State} (h0 : noneRemoved t s0) :
    ∃ v : Tree, v.lastMap = nextMap t s0 ∧ v.closeDue = false ∧ (closeMap t s0).tr.trees = (setTree s0 t v).tr.trees := by
  unfold closeMap
  extract_lets s v k cs p s1 s2 w grants s3 s4
  have hawake : s.tr = s0.tr ∧ s.time = s0.time := by
    simp only [s]
    split
    · exact moveCup_active_frame ..
    · exact ⟨rfl, rfl⟩
  have hs2 : s2.tr = s1.tr := foldl_keeps (·.tr) _ (fun _ _ => tr_of_treesAndQueues (grantWarning_treesAndQueues ..)) _ _
  have htrees : s2.tr.trees = s0.tr.trees := by rw [hs2, finishClaims_trees, hawake.1]
  have hnone : noneRemoved t s := by rwa [noneRemoved, hawake.1]
  have hnone2 : noneRemoved t s2 := by
    rw [noneRemoved, hs2]
    exact noneRemoved_finishClaims k v.mode p (fun _ => removing_of_mem_claims) hnone
  obtain ⟨x, hmap, hdue, hs3⟩ : ∃ x : Tree, x.lastMap = k ∧ x.closeDue = false ∧ s3 = setTree s2 t x := by
    refine ⟨_, ?_, ?_, finishRemovals_of_noneRemoved hnone2⟩ <;> rfl
  have hs4 : s4.tr.trees = (setTree s0 t x).tr.trees := by simp only [s4, emit_tr, hs3, setTree, htrees]
  refine ⟨x, hmap.trans (nextMap_congr hawake.1 hawake.2 t), hdue, ?_⟩
  split
  · rw [sendImage_tr, setMember_tr, hs4]
  · exact hs4

theorem exec_mapClose (t : Fin 64) (s : State) : exec (.mapClose t) s = execMapClose t s := rfl

theorem exec_mapClose_of_awaiting {t : Fin 64} {s : State} (hon : (tree s t.val).enabled = true)
    (hprot : protTransmits t.val s = true) (hawaits : mapAwaits t.val s = true) :
    exec (.mapClose t) s = .next (setTree s t.val { tree s t.val with closeDue := true }) := by
  simp [exec_mapClose, execMapClose, hon, hprot, hawaits]

theorem exec_mapClose_of_ready {t : Fin 64} {s : State} (hon : (tree s t.val).enabled = true)
    (hprot : protTransmits t.val s = true) (hawaits : mapAwaits t.val s = false) :
    exec (.mapClose t) s = .next (closeMap t.val s) := by
  simp [exec_mapClose, execMapClose, hon, hprot, hawaits]

/-- Settles O13: reports and announcements by their lemmas; a map that closes writes its own tree's entry alone. -/
theorem demandAndMaps : Obligations.DemandAndMaps := by
  unfold Obligations.DemandAndMaps
  refine ⟨fun _ _ bytes _ => exec_queueReport_of_decoded bytes, exec_queueReport_of_failed,
    fun _ _ => exec_coopAnnouncement_of_admitted, fun _ s => exec_coopAnnouncement_of_otherVersion s, ?close,
    fun _ _ => exec_mapClose_of_awaiting⟩
  case close =>
    intro t s hon hprot hawaits hnone
    obtain ⟨v, hmap, hdue, htrees⟩ := closeMap_trees hnone
    have htree (u : Nat) : tree (closeMap t.val s) u = tree (setTree s t.val v) u := by rw [tree, htrees, ← tree]
    refine ⟨_, exec_mapClose_of_ready hon hprot hawaits, ?_, ?_, fun u hu => ?_⟩
    · rw [htree, tree_setTree_same, hmap]
    · rw [htree, tree_setTree_same, hdue]
    · rw [htree, tree_setTree_other _ _ _ _ hu]

/-! ## The passes of a map (R187, R189, R190) -/

theorem roundGrant_le (mode bytes : Nat) : roundGrant mode bytes ≤ bytes := by
  unfold roundGrant
  extract_lets g
  split
  · exact Nat.le_refl _
  · exact Nat.div_mul_le_self _ _

/-- Pinned positions share no more than the allocation's pinned bytes (R194). -/
theorem sum_pinShares_le (mode share n : Nat) : (pinShares mode share n).sum ≤ share := by
  cases n with
  | zero => simp [pinShares]
  | succ n =>
    have hall : ((List.range n).map (fun i => roundGrant mode (if i + 1 = n + 1 then share / (n + 1) + share % (n + 1)
        else share / (n + 1)))).sum ≤ n * (share / (n + 1)) := by
      refine (List.sum_le_card_nsmul _ (share / (n + 1)) fun y hy => ?_).trans_eq (by simp)
      obtain ⟨i, hi, rfl⟩ := List.mem_map.1 hy
      have hlt := List.mem_range.1 hi
      rw [if_neg (by omega)]
      exact roundGrant_le ..
    have hlast := roundGrant_le mode (share / (n + 1) + share % (n + 1))
    have hdiv := Nat.div_add_mod share (n + 1)
    rw [Nat.add_mul, Nat.one_mul] at hdiv
    rw [pinShares, List.range_succ, List.map_append, List.sum_append, List.map_singleton, List.sum_singleton, if_pos rfl]
    omega

/-- What the claim is granted stays within its maximum, but for a structure that the last map could not hold (R187, R190). -/
def Claim.withinMaximum (c : Claim) : Prop :=
  (c.a.moved = none → c.g1 + c.total ≤ c.maximum) ∧ c.total ≤ max c.maximum (c.a.moved.getD 0)

theorem withinMaximum_of_total_le_add_room {c d : Claim} (ha : d.a = c.a) (hmax : d.maximum = c.maximum) (hg1 : d.g1 = c.g1)
    (htotal : d.total ≤ c.total + c.room) (hc : c.withinMaximum) : d.withinMaximum := by
  obtain ⟨hnone, hmoved⟩ := hc
  simp only [Claim.room] at htotal
  refine ⟨fun hd => ?_, ?_⟩
  · have := hnone (ha ▸ hd)
    omega
  · rw [ha, hmax]
    omega

/-- A claim of a shared pass is one that came in, with a grant within its cap. -/
theorem mem_sharePass {mode : Nat} {fits : List Claim → Bool} {weight cap : Claim → Nat} {put : Claim → Nat → Claim}
    {cs : List Claim} {d : Claim} (h : d ∈ sharePass mode fits weight cap put cs) :
    ∃ c ∈ cs, ∃ g ≤ cap c, d = put c g := by
  simp only [sharePass] at h
  split at h
  · obtain ⟨c, hc, rfl⟩ := List.mem_map.1 h
    exact ⟨c, hc, _, roundGrant_le .., rfl⟩
  · obtain ⟨c, hc, rfl⟩ := List.mem_map.1 h
    exact ⟨c, hc, _, (roundGrant_le ..).trans (Nat.min_le_left ..), rfl⟩

/-- A claim of the poll pass is one that came in, polled or not. -/
theorem mem_pollPass {k : Nat} {fits : List Claim → Bool} {cs done : List Claim} {d : Claim}
    (h : d ∈ pollPass k fits done cs) : d ∈ done ∨ ∃ c ∈ cs, ∃ poll, d = { c with poll := poll } := by
  induction cs generalizing done with
  | nil => exact .inl h
  | cons c cs ih =>
    have hstep (b : Bool) (hd : d ∈ pollPass k fits (done ++ [{ c with poll := b }]) cs) :
        d ∈ done ∨ ∃ x ∈ c :: cs, ∃ poll, d = { x with poll := poll } := by
      rcases ih hd with hdone | ⟨x, hx, hpoll⟩
      · rcases List.mem_append.1 hdone with hdone | hlast
        · exact .inl hdone
        · exact .inr ⟨c, List.mem_cons_self, b, List.mem_singleton.1 hlast⟩
      · exact .inr ⟨x, List.mem_cons_of_mem _ hx, hpoll⟩
    unfold pollPass at h
    extract_lets d' at h
    split at h
    · exact hstep true h
    · exact hstep c.poll h

theorem fixedPass_g1_le (mode : Nat) (c : Claim) : (fixedPass mode c).g1 ≤ if c.a.cls = 0 then c.maximum else 0 := by
  have hpins := sum_pinShares_le mode (min c.fixed c.maximum) c.a.pins.length
  rw [List.sum_eq_foldl] at hpins
  simp only [fixedPass]
  split
  · exact hpins.trans (Nat.min_le_right ..)
  · exact Nat.le_refl 0

theorem fixedPass_total (mode : Nat) {c : Claim} (h3 : c.g3 = 0) (h5 : c.g5 = 0) (h6 : c.g6 = 0) :
    (fixedPass mode c).total = c.a.moved.getD 0 +
      if c.a.cls = 0 then 0 else roundGrant mode (min (min c.fixed c.maximum) (c.maximum - c.a.moved.getD 0)) := by
  simp [fixedPass, Claim.total, h3, h5, h6]

/-- Passes 1 and 2 share the lesser of FIXED and MAXIMUM; a moved structure alone may exceed the maximum (R187, R190). -/
theorem fixedPass_withinMaximum (mode : Nat) {c : Claim} (h3 : c.g3 = 0) (h5 : c.g5 = 0) (h6 : c.g6 = 0) :
    (fixedPass mode c).withinMaximum := by
  have hg1 := fixedPass_g1_le mode c
  have hshare := roundGrant_le mode (min (min c.fixed c.maximum) (c.maximum - c.a.moved.getD 0))
  have ha : (fixedPass mode c).a = c.a := rfl
  have hmax : (fixedPass mode c).maximum = c.maximum := rfl
  rw [Claim.withinMaximum, fixedPass_total mode h3 h5 h6, ha, hmax]
  refine ⟨fun hmoved => ?_, ?_⟩
  · rw [hmoved, Option.getD_none] at hshare ⊢
    by_cases hcls : c.a.cls = 0
    · rw [if_pos hcls] at hg1 ⊢
      omega
    · rw [if_neg hcls] at hg1 ⊢
      omega
  · split <;> omega

section

variable {c : Claim} {g : Nat} (hc : c.withinMaximum) (hg : g ≤ c.room)

include hc hg

theorem withinMaximum_assured (h3 : c.g3 = 0) : ({ c with g3 := g } : Claim).withinMaximum :=
  withinMaximum_of_total_le_add_room (c := c) rfl rfl rfl (by simp only [Claim.total]; omega) hc

theorem withinMaximum_nonAssured (h5 : c.g5 = 0) : ({ c with g5 := g } : Claim).withinMaximum :=
  withinMaximum_of_total_le_add_room (c := c) rfl rfl rfl (by simp only [Claim.total]; omega) hc

theorem withinMaximum_bestEffort (h6 : c.g6 = 0) : ({ c with g6 := g } : Claim).withinMaximum :=
  withinMaximum_of_total_le_add_room (c := c) rfl rfl rfl (by simp only [Claim.total]; omega) hc

end

/-- Settles O14: pass by pass, each claim stays within its maximum, and what the later passes grant is still 0. -/
theorem grantsStayWithinMaximum : Obligations.GrantsStayWithinMaximum := by
  unfold Obligations.GrantsStayWithinMaximum
  intro level k mode fits cs hcs
  unfold fillPasses
  extract_lets c2 c3 c4 c5
  have h2 : ∀ c ∈ c2, c.withinMaximum ∧ c.g3 = 0 ∧ c.g5 = 0 ∧ c.g6 = 0 := by
    intro c hc
    obtain ⟨b, hb, rfl⟩ := List.mem_map.1 hc
    obtain ⟨-, -, h3, h5, h6⟩ := hcs b hb
    exact ⟨fixedPass_withinMaximum mode h3 h5 h6, h3, h5, h6⟩
  have h3 : ∀ c ∈ c3, c.withinMaximum ∧ c.g5 = 0 ∧ c.g6 = 0 := by
    intro c hc
    obtain ⟨b, hb, g, hg, rfl⟩ := mem_sharePass hc
    obtain ⟨hwithin, h3, h5, h6⟩ := h2 b hb
    exact ⟨withinMaximum_assured hwithin (by omega) h3, h5, h6⟩
  have h4 : ∀ c ∈ c4, c.withinMaximum ∧ c.g5 = 0 ∧ c.g6 = 0 := by
    intro c hc
    rcases mem_pollPass hc with hnone | ⟨b, hb, poll, rfl⟩
    · cases hnone
    · exact h3 b hb
  have h5 : ∀ c ∈ c5, c.withinMaximum ∧ c.g6 = 0 := by
    intro c hc
    simp only [c5] at hc
    split at hc
    · obtain ⟨hwithin, -, h6⟩ := h4 c hc
      exact ⟨hwithin, h6⟩
    · obtain ⟨b, hb, g, hg, rfl⟩ := mem_sharePass hc
      obtain ⟨hwithin, h5, h6⟩ := h4 b hb
      exact ⟨withinMaximum_nonAssured hwithin (by omega) h5, h6⟩
  intro c hc
  split at hc
  · exact (h5 c hc).1
  · obtain ⟨b, hb, g, hg, rfl⟩ := mem_sharePass hc
    obtain ⟨hwithin, h6⟩ := h5 b hb
    refine withinMaximum_bestEffort hwithin ?_ h6
    split at hg <;> omega

/-! ## Domain tags (R201, R202) -/

theorem parityFrom_lt_two (i d : Nat) : parityFrom i d < 2 := Nat.mod_lt _ (by decide)

/-- The two parity bits of a tag stand above its domain. -/
theorem toNat_domainTag (d : Nat) :
    (domainTag d).toNat = 2 ^ 12 * (parityFrom 0 d + 2 * parityFrom 1 d) + d % 4096 := by
  have h0 := parityFrom_lt_two 0 d
  have h1 := parityFrom_lt_two 1 d
  rw [domainTag, BitVec.toNat_ofNat, Nat.mod_eq_of_lt] <;> omega

theorem tagDomain_domainTag (d : Nat) : tagDomain (domainTag d) = d % 4096 := by
  rw [tagDomain, toNat_domainTag]
  omega

theorem tagParityOk_domainTag {d : Nat} (hd : d < 4096) : tagParityOk (domainTag d) = true := by
  simp [tagParityOk, tagDomain_domainTag, Nat.mod_eq_of_lt hd]

/-- The exclusive or of every second bit of a tag from bit j on: of the bits of the domain and of the parity bit over them. -/
def tagSyndrome (j : Nat) (t : BitVec 14) : Bool := (List.range 7).foldl (fun a k => a ^^ t.getLsbD (2 * k + j)) false

theorem tagSyndrome_xor (j : Nat) (t u : BitVec 14) : tagSyndrome j (t ^^^ u) = (tagSyndrome j t ^^ tagSyndrome j u) := by
  simp [tagSyndrome, List.range_succ, Bool.xor_left_comm]

theorem tagSyndrome_twoPow (i : Fin 14) : tagSyndrome (i.val % 2) (BitVec.twoPow 14 i.val) = true := by
  revert i
  decide

/-- The parity of a domain as the exclusive or of its bits. -/
theorem parityFrom_eq_xor (i d : Nat) :
    parityFrom i d = ((List.range 6).foldl (fun a k => a ^^ d.testBit (2 * k + i)) false).toNat := by
  have hsum : ∀ b0 b1 b2 b3 b4 b5 : Bool, (b0.toNat + b1.toNat + b2.toNat + b3.toNat + b4.toNat + b5.toNat) % 2 =
      (b0 ^^ b1 ^^ b2 ^^ b3 ^^ b4 ^^ b5).toNat := by decide
  simp [parityFrom, List.range_succ, ← Nat.toNat_testBit, hsum]

/-- Bits of a tag below its parity bits are those of the domain. -/
theorem getLsbD_domainTag_of_lt (d : Nat) {e : Nat} (he : e < 12) : (domainTag d).getLsbD e = d.testBit e := by
  have hmod : d % 4096 < 2 ^ 12 := Nat.mod_lt _ (by decide)
  rw [BitVec.getLsbD, toNat_domainTag, Nat.testBit_two_pow_mul_add _ hmod, if_pos he, show 4096 = 2 ^ 12 from rfl,
    Nat.testBit_mod_two_pow]
  simp [he]

/-- The parity bit over the bits from bit j on. -/
theorem getLsbD_domainTag_parity (d : Nat) {j : Nat} (hj : j < 2) :
    (domainTag d).getLsbD (12 + j) = decide (parityFrom j d = 1) := by
  have hmod : d % 4096 < 2 ^ 12 := Nat.mod_lt _ (by decide)
  have h0 := parityFrom_lt_two 0 d
  have h1 := parityFrom_lt_two 1 d
  have hbit : (parityFrom 0 d + 2 * parityFrom 1 d) / 2 ^ j % 2 = parityFrom j d := by
    interval_cases j <;> omega
  rw [BitVec.getLsbD, toNat_domainTag, Nat.testBit_two_pow_mul_add _ hmod, if_neg (by omega), Nat.add_sub_cancel_left,
    Nat.testBit_eq_decide_div_mod_eq, hbit]

/-- A tag made for a domain has even parity in both of its halves. -/
theorem tagSyndrome_domainTag (d : Nat) {j : Nat} (hj : j < 2) : tagSyndrome j (domainTag d) = false := by
  have hdomain : (List.range 6).foldl (fun a k => a ^^ (domainTag d).getLsbD (2 * k + j)) false =
      (List.range 6).foldl (fun a k => a ^^ d.testBit (2 * k + j)) false :=
    List.foldl_ext _ _ _ fun a k hk => by
      rw [getLsbD_domainTag_of_lt d (by have := List.mem_range.1 hk; omega)]
  rw [tagSyndrome, List.range_succ, List.foldl_append, hdomain]
  simp [getLsbD_domainTag_parity d hj, parityFrom_eq_xor]

/-- A single flipped bit is seen by the check. -/
theorem tagParityOk_domainTag_xor_twoPow (d : Nat) (i : Fin 14) :
    tagParityOk (domainTag d ^^^ BitVec.twoPow 14 i.val) = false := by
  have hj : i.val % 2 < 2 := Nat.mod_lt _ (by decide)
  refine Bool.eq_false_iff.2 fun hok => ?_
  have htag : domainTag d ^^^ BitVec.twoPow 14 i.val = domainTag _ := of_decide_eq_true hok
  have hsyndrome := congrArg (tagSyndrome (i.val % 2)) htag
  rw [tagSyndrome_xor, tagSyndrome_twoPow, tagSyndrome_domainTag d hj, tagSyndrome_domainTag _ hj] at hsyndrome
  cases hsyndrome

/-- Settles O29: the check unfolds to its three parts; a domain is read back from its tag, and one flipped bit makes one half of it
odd. -/
theorem domainTagsGuardEgress : Obligations.DomainTagsGuardEgress := by
  unfold Obligations.DomainTagsGuardEgress
  refine ⟨fun held tag => ?agrees, fun d hd => ?made, fun d i _ => tagParityOk_domainTag_xor_twoPow d i⟩
  case agrees =>
    simp only [tagAgrees, tagParityOk, Bool.and_eq_true, decide_eq_true_eq]
    constructor
    · rintro ⟨⟨htag, hheld⟩, hdomain⟩
      exact ⟨hdomain.symm, htag, hheld⟩
    · rintro ⟨hdomain, htag, hheld⟩
      exact ⟨⟨htag, hheld⟩, hdomain.symm⟩
  case made => exact ⟨by rw [tagDomain_domainTag, Nat.mod_eq_of_lt hd], tagParityOk_domainTag hd⟩

/-! ## The checks of an upstream frame (R138, R173, R198–R200) -/

theorem spoofed_frame (t : Nat) (x : XgemFrame) (owner : Nat) (s : State) :
    treesAndQueues (spoofed t x owner s) = treesAndQueues (setAlloc s x.ctx.val { alloc s x.ctx.val with
      spoof := satur 32 ((alloc s x.ctx.val).spoof + 1), spoofSeen := true }) := by
  unfold spoofed
  extract_lets a key s1
  split
  · rw [post_treesAndQueues, markPost_treesAndQueues]
    rfl
  · rfl

theorem unknownPort_frame (t ctx : Nat) (s : State) :
    treesAndQueues (unknownPort t ctx s) = treesAndQueues (setAlloc s ctx { alloc s ctx with
      unknownPort := satur 32 ((alloc s ctx).unknownPort + 1) }) :=
  grantWarning_treesAndQueues ..

/-- The state in which an upstream frame of a burst that stands is checked: its tree busy, the burst not stale. -/
def upstreamTaken (t : Nat) (s : State) : State := setTree s t { tree s t with upstreamBusy := true, staleBurst := false }

/-- The port context that an upstream frame names, as it stood before the cycle's changes (R178, R198, R199). -/
def namedPort (t : Nat) (x : XgemFrame) (s : State) : Option (Nat × PortCtx) :=
  (checkedPorts s).find? (fun y => y.2.present && decide (y.2.tree = t) && decide (y.2.portId = x.portId))

/-- What becomes of a frame of a burst that stands, by the port context that it names (R198). -/
def judgeUpstream (t : Nat) (x : XgemFrame) (s : State) : Option (Nat × PortCtx) → State
  | none => dropBuffer t x.bufPtr (unknownPort t x.ctx.val s)
  | some (k, c) =>
    if c.terminal ≠ x.grantTerminal.val then dropBuffer t x.bufPtr (spoofed t x c.terminal s)
    else if !c.up then dropBuffer t x.bufPtr (unknownPort t x.ctx.val s)
    else match decryptUp t x s with
      | (u, true) => enqueueUp t x k u
      | (u, false) => dropBuffer t x.bufPtr u

theorem goneOf_upstreamTaken (t : Nat) (x : XgemFrame) (s : State) :
    goneOf t x (upstreamTaken t s) = goneOf t x s := rfl
theorem checkedPorts_upstreamTaken (t : Nat) (s : State) : checkedPorts (upstreamTaken t s) = checkedPorts s := rfl

theorem exec_upstreamXgemFrame (t : Fin 64) (x : XgemFrame) (s : State) :
    exec (.upstreamXgemFrame t x) s = execUpstreamXgemFrame t x s := rfl

theorem exec_upstreamXgemFrame_of_standing {t : Fin 64} {x : XgemFrame} {s : State} (hon : (tree s t.val).enabled = true)
    (hprot : protTransmits t.val s = true) (hburst : (tree s t.val).staleBurst = false ∨ x.first = true)
    (hstands : goneOf t.val x s = none) :
    exec (.upstreamXgemFrame t x) s = .next (judgeUpstream t.val x (upstreamTaken t.val s) (namedPort t.val x s)) := by
  have hwas : ((tree s t.val).staleBurst && !x.first) = false := by
    rcases hburst with h | h <;> simp [h]
  rw [exec_upstreamXgemFrame, execUpstreamXgemFrame, if_neg (by simp [hon, hprot])]
  extract_lets was v s2
  have hs2 : s2 = upstreamTaken t.val s := by
    simp only [s2, was, hwas]
    rfl
  rw [if_neg (by simp [was, hwas]), hs2, goneOf_upstreamTaken, hstands, checkedPorts_upstreamTaken, ← namedPort]
  rcases namedPort t.val x s with _ | ⟨k, c⟩
  · rfl
  · simp only [judgeUpstream]
    rcases decryptUp t.val x (upstreamTaken t.val s) with ⟨u, decrypted⟩
    cases decrypted <;> split_ifs <;> rfl

/-- A frame that the queue has room for joins its end, under the tag of its terminal's domain (R173, R201). -/
theorem enqueueUp_of_room {t k : Nat} {x : XgemFrame} {s : State}
    (hroom : bytesOf (queue s (upQueue x.ctx.val)).onDie + x.length ≤ 1048576) :
    ∃ pk : Packet, (queue (enqueueUp t x k s) (upQueue x.ctx.val)).onDie = (queue s (upQueue x.ctx.val)).onDie ++ [pk] ∧
      pk.length = x.length ∧ pk.tag = domainTag (terminal s t x.grantTerminal.val).domain := by
  unfold enqueueUp
  extract_lets q v tag d pk
  rw [if_neg (Nat.not_lt.2 hroom)]
  refine ⟨pk, ?_, rfl, rfl⟩
  rw [queue_of_treesAndQueues (count_treesAndQueues ..), queue_of_treesAndQueues (count_treesAndQueues ..), queue_setQueue_same]

/-- Settles O15: by the port context that the frame names; of a dropped frame its counter remains, and the return of its buffer
keeps that and every queue. -/
theorem upstreamFramesAreChecked : Obligations.UpstreamFramesAreChecked := by
  unfold Obligations.UpstreamFramesAreChecked
  refine ⟨?unknown, ?spoofed, ?good⟩
  case unknown =>
    intro t x s hon hprot hburst hstands hport
    have hport : namedPort t.val x s = none := hport
    have hframe := (dropBuffer_treesAndQueues t.val x.bufPtr _).trans
      (unknownPort_frame t.val x.ctx.val (upstreamTaken t.val s))
    refine ⟨_, exec_upstreamXgemFrame_of_standing hon hprot hburst hstands, ?_, ?_⟩ <;> rw [hport, judgeUpstream]
    · rw [pe_of_treesAndQueues hframe]
      rfl
    · rw [alloc_of_treesAndQueues hframe, alloc_setAlloc_same]
      rfl
  case spoofed =>
    intro t x s k c hon hprot hburst hstands hport howner
    have hport : namedPort t.val x s = some (k, c) := hport
    have hframe := (dropBuffer_treesAndQueues t.val x.bufPtr _).trans
      (spoofed_frame t.val x c.terminal (upstreamTaken t.val s))
    refine ⟨_, exec_upstreamXgemFrame_of_standing hon hprot hburst hstands, ?_, ?_⟩ <;>
      rw [hport, judgeUpstream, if_pos howner]
    · rw [pe_of_treesAndQueues hframe]
      rfl
    · rw [alloc_of_treesAndQueues hframe, alloc_setAlloc_same]
      rfl
  case good =>
    intro t x s k c hon hprot hburst hstands hport howner hup hclear hroom
    have hport : namedPort t.val x s = some (k, c) := hport
    have hjudged : judgeUpstream t.val x (upstreamTaken t.val s) (some (k, c)) = enqueueUp t.val x k (upstreamTaken t.val s) := by
      simp [judgeUpstream, howner, hup, decryptUp, hclear]
    obtain ⟨pk, hqueue, hlength, htag⟩ := enqueueUp_of_room (t := t.val) (k := k) (s := upstreamTaken t.val s) hroom
    refine ⟨_, pk, exec_upstreamXgemFrame_of_standing hon hprot hburst hstands, ?_, hlength, ?_⟩
    · rw [hport, hjudged]
      exact hqueue
    · rw [htag, tagDomain_domainTag]
      rfl

end Sys2Proof.Machine
end

section
/-!
PROOFS of the chapter on line engines and their framers. The commands of ranges 0x05 and 0x06, each by what its own work replies; the
limits of the symbol rate; the steps of acquisition, the Lantern's monitors, the mask check and signal degrade.
-/
namespace Sys2Proof.Machine

/-! ## What leaves the line engines as they were -/

theorem line_of_lines {s u : State} (h : u.line = s.line) (l : Nat) : line u l = line s l := by
  rw [line, line, h]

@[simp] theorem post_line (src : Nat) (cls : EvClass) (payload : Nat) (s : State) : (post src cls payload s).line = s.line := by
  obtain ⟨ev, out, msix, h⟩ := post_frame src cls payload s
  rw [h]

@[simp] theorem post_pwr (src : Nat) (cls : EvClass) (payload : Nat) (s : State) : (post src cls payload s).pwr = s.pwr := by
  obtain ⟨ev, out, msix, h⟩ := post_frame src cls payload s
  rw [h]

@[simp] theorem line_postLine (k reason : Nat) (s : State) (l : Nat) : line (postLine k reason s) l = line s l :=
  line_of_lines (post_line ..) l
@[simp] theorem line_postLantern (k m : Nat) (asserted : Bool) (reading : Int) (s : State) (l : Nat) :
    line (postLantern k m asserted reading s) l = line s l :=
  line_of_lines (post_line ..) l
@[simp] theorem line_postQuality (k kind value : Nat) (s : State) (l : Nat) : line (postQuality k kind value s) l = line s l :=
  line_of_lines (post_line ..) l
@[simp] theorem line_markPost (key : Nat) (s : State) (l : Nat) : line (markPost key s) l = line s l := rfl

@[simp] theorem count_line (ev inst n : Nat) (domain : Option Nat) (s : State) : (count ev inst n domain s).line = s.line := by
  unfold count
  split
  · rfl
  · exact foldl_keeps (·.line) _ (fun _ _ => by rfl) _ _

@[simp] theorem line_count (ev inst n : Nat) (domain : Option Nat) (s : State) (l : Nat) :
    line (count ev inst n domain s) l = line s l := line_of_lines (count_line ..) l

@[simp] theorem postDefects_line (k before : Nat) (s : State) : (postDefects k before s).line = s.line := by
  refine foldl_keeps (·.line) _ (fun st n => ?_) _ _
  split
  · rfl
  · exact post_line ..

/-- A line engine changed with its framer told of it (R251). -/
@[simp] theorem line_putLine_same (l : Nat) (v : LineEngine) (s : State) : line (putLine l v s) l = v := by
  have hsearch (u : State) : (framerSearch l u).line = u.line := by
    unfold framerSearch
    split <;> rfl
  have hput : (putLine l v s).line = (setLine s l v).line := by
    simp only [putLine, postDefects_line]
    split
    · rfl
    · split
      · exact hsearch _
      · rfl
  rw [line_of_lines hput, line_setLine_same]

/-! ## A command that needs its cupola awake, by what its own work replies -/

section

variable {op k : Nat} {act : Option Activity} {cupola : State → Option Nat} {h : Caller} {e : Held} {s : State}
  {body : State → Reply} (hs : startable op act h e s) (hc : cupola s = some k) (ha : (cup s k).state = .active)

include hs hc ha

theorem perform_done_awake {st d r : Nat} {resp : List Byte} {t : State} (hb : body s = .done st d r resp t) :
    perform op act cupola h body s = .next (finish e st d r resp t) := by
  have hreserved : e.reserved = false := hs.2.2
  rw [perform_awake cupola body k hs hc ha, runBody_done body st d r resp t hreserved hb]

theorem perform_later_awake {key : Nat} {t : State} (hb : body s = .later key t) :
    perform op act cupola h body s = .next (setPhase e (.running key) t) := by
  have hreserved : e.reserved = false := hs.2.2
  rw [perform_awake cupola body k hs hc ha, runBody_later body key t hreserved hb]

end

section

variable {h : Caller} {e : Held} {s : State}

/-! ## Range 0x05: line engines (R212, R216, R240–R244) -/

/-- A configuration as LINE_CONFIGURE takes it: 31 taps and a threshold of 1,500 where it gives none (R241). -/
def withLineDefaults (p : LineP) : LineP :=
  { p with
    mimoTaps := if p.mimoTaps = 0 then 31 else p.mimoTaps
    sdThreshold := if p.sdThreshold = 0 then 1500 else p.sdThreshold }

/-- The rate of a native configuration is judged by 62.320447 × n × 20 over 20 × H (R211, R212). -/
theorem rateValid_of_outside {p : LineP} (hnative : p.mode.val = 0)
    (hout : 62320447 * p.rate * 20 < 60000000 * entropyX20 p ∨ 240000000 * entropyX20 p < 62320447 * p.rate * 20) :
    rateValid p = false := by
  rcases hout with hlow | hhigh
  · simp [rateValid, symbolRate, rateNumerator, hnative, Nat.not_le.2 hlow]
  · simp [rateValid, symbolRate, rateNumerator, hnative, Nat.not_le.2 hhigh]

section

variable {p : LineP} (hs : startable 0x0500 none h e s) (howns : owns h kLine p.line.val s = true)
  (hidle : lineBusy p.line.val s = false) (hoff : (line s p.line.val).enabled = false) (hwf : p.wf = true)

include hs howns hidle hoff hwf

theorem exec_lineConfigure_of_rateOutside (hnative : p.mode.val = 0) (hrate : rateValid p = false) :
    exec (.lineConfigure h p) s = .next (finish e stLimit 0x0500 0 [] s) := by
  have hmode : ¬ (p.mode.val = 1 ∧ ¬(p.modulation = 1 ∧ p.rate = 4)) := by omega
  refine perform_done hs ?_
  simp only [howns, hidle, hoff, hwf, if_neg hmode, hrate]
  rfl

theorem exec_lineConfigure_of_fitting (hmode : p.mode.val = 1 → p.modulation = 1 ∧ p.rate = 4) (hrate : rateValid p = true)
    (hslot : fitsSlot p = true) :
    exec (.lineConfigure h p) s = .next (if spectrumOk p (line s p.line.val).filters = true then
        finish e stOk 0 (symbolKbd p) [] (setLine s p.line.val { line s p.line.val with cfg := some (withLineDefaults p) })
      else finish e stRefused 0x0502 0 [] s) := by
  have hmode : ¬ (p.mode.val = 1 ∧ ¬(p.modulation = 1 ∧ p.rate = 4)) := by tauto
  by_cases hmask : spectrumOk p (line s p.line.val).filters = true
  · rw [if_pos hmask]
    refine perform_done hs ?_
    simp only [howns, hidle, hoff, hwf, if_neg hmode, hrate, hslot, hmask]
    rfl
  · rw [if_neg hmask]
    have hfails : spectrumOk p (line s p.line.val).filters = false := by simpa using hmask
    refine perform_done hs ?_
    simp only [howns, hidle, hoff, hwf, if_neg hmode, hrate, hslot, hfails]
    rfl

end

section

variable {l : Fin 4}

/-- LINE_ENABLE of an owned line that is not enabled and whose cupola is Active needs no wake. -/
theorem exec_lineEnable_of_placed {power : Int} {c : LineP} {s1 : State}
    (hs : startable 0x0501 (some { kind := 8, scope := l.val }) h e s) (howns : owns h kLine l.val s = true)
    (hidle : lineBusy l.val s = false) (hport : (portEnt s (0x40 + l.val)).enabled = false)
    (hcup : (cup s (64 + l.val)).state = .active) (hcfg : (line s l.val).cfg = some c) (hframer : framerFits l.val c s = true)
    (hpower : 1300 ≤ power) (hlantern : lanternOf l.val s = true)
    (hplaced : enablePort (0x40 + l.val) (lineRate c) s = .placed s1) :
    exec (.lineEnable h l power) s = .next (finish e stOk 0 0 [] (startLine l.val s1)) := by
  refine perform_done_awake hs (k := 64 + l.val) ?_ hcup ?_
  · simp [lineCupola, howns, hport, hcup]
  · simp [howns, hidle, hport, hcfg, hframer, Int.not_lt.2 hpower, hlantern, hplaced, okay]

theorem exec_lineEnable_of_enabled {power : Int} (hs : startable 0x0501 (some { kind := 8, scope := l.val }) h e s)
    (howns : owns h kLine l.val s = true) (hidle : lineBusy l.val s = false)
    (hport : (portEnt s (0x40 + l.val)).enabled = true) :
    exec (.lineEnable h l power) s = .next (finish e stOk 0 0 [] s) := by
  have hreserved : e.reserved = false := hs.2.2
  refine (perform_startable _ _ hs ?_).trans (congrArg _ (runBody_done _ _ _ _ _ _ hreserved ?_))
  · simp [lineCupola, hport]
  · simp [howns, hidle, hport, okay]

theorem exec_lineDisable_of_idle (hs : startable 0x0502 none h e s) (howns : owns h kLine l.val s = true)
    (hidle : lineBusy l.val s = false) :
    exec (.lineDisable h l) s = .next (if (line s l.val).enabled = true then
        setPhase e (.running l.val) (stopLine l.val s)
      else finish e stOk 0 0 [] s) := by
  by_cases hon : (line s l.val).enabled = true
  · rw [if_pos hon]
    exact perform_later hs (by simp [howns, hidle, hon])
  · rw [if_neg hon]
    exact perform_done hs (by simp [howns, hidle, hon, okay])

theorem exec_lineStatus_of_idle {power temp : Int} (hs : startable 0x0503 none h e s) (hidle : lineBusy l.val s = false) :
    exec (.lineStatus h l power temp) s =
      .next (finish e stOk 0 0 (lineStatus l.val (saturInt 16 power) (saturInt 16 temp) s) s) :=
  perform_done hs (by simp [hidle, okResp])

theorem length_lineStatus (k : Nat) (power temp : Int) (s : State) : (lineStatus k power temp s).length = 64 :=
  length_fields (by simp)

theorem length_lineQuality (v : LineEngine) (m : LineReadings) (now : Nat) : (lineQuality v m now).length = 64 :=
  length_fields (by simp)

/-- The engine whose window LINE_QUALITY reads: the counts of a locked one have entered it (R243). -/
def countedIn (counts : LineCounts) (v : LineEngine) : LineEngine :=
  if v.locked then { v with quality := addCounts v.quality (countsLess counts v.early), early := counts } else v

theorem quality_countedIn (counts : LineCounts) (v : LineEngine) : (countedIn counts v).quality =
    if v.locked then addCounts v.quality (countsLess counts v.early) else v.quality := by
  unfold countedIn
  split <;> rfl

theorem exec_lineQuality_of_lockedOnce {clear : Bool} {counts : LineCounts} {m : LineReadings}
    (hs : startable 0x0504 none h e s) (hidle : lineBusy l.val s = false) (honce : (line s l.val).lockedOnce = true)
    (howns : clear = true → owns h kLine l.val s = true) :
    exec (.lineQuality h l clear counts m) s =
      .next (finish e stOk 0 0 (lineQuality (countedIn counts (line s l.val)) m s.now)
        (setLine s l.val (if clear then { countedIn counts (line s l.val) with quality := { since := s.now } }
          else countedIn counts (line s l.val)))) := by
  have hclear : (clear && !owns h kLine l.val s) = false := by simpa using howns
  have hseen : (!(line s l.val).lockedOnce) = false := by simp [honce]
  refine perform_done hs ?_
  simp only [hclear, hidle, hseen]
  rfl

section

variable {taps : List Int} (hs : startable 0x0505 none h e s) (howns : owns h kLine l.val s = true) (htaps : tapsOk taps = true)
  (hidle : lineBusy l.val s = false)

include hs howns htaps hidle

theorem exec_predistortionLoad_of_unconfigured (hcfg : (line s l.val).cfg = none) (hoff : (line s l.val).enabled = false) :
    exec (.predistortionLoad h l taps) s =
      .next (finish e stOk 0 0 [] (setLine s l.val { line s l.val with filters := some taps })) :=
  perform_done hs (by simp [howns, htaps, hidle, hcfg, hoff, okay])

theorem exec_predistortionLoad_of_configured {c : LineP} (hcfg : (line s l.val).cfg = some c) :
    exec (.predistortionLoad h l taps) s = .next (if spectrumOk c (some taps) = true then
        finish e stOk 0 0 [] (setLine s l.val (if (line s l.val).enabled = true then
            { line s l.val with filtersNext := some taps } else { line s l.val with filters := some taps }))
      else finish e stRefused 0x0502 0 [] s) := by
  by_cases hmask : spectrumOk c (some taps) = true
  · rw [if_pos hmask]
    exact perform_done hs (by simp [howns, htaps, hidle, hcfg, hmask, okay])
  · rw [if_neg hmask]
    exact perform_done hs (by simp [howns, htaps, hidle, hcfg, hmask, refuse])

end

end

theorem exec_lineAdjust_of_enabled {p : AdjustP} {c : LineP} (hs : startable 0x0506 none h e s)
    (howns : owns h kLine p.line.val s = true) (hwf : p.wf = true) (hidle : lineBusy p.line.val s = false)
    (hon : (line s p.line.val).enabled = true) (hcfg : (line s p.line.val).cfg = some c) :
    exec (.lineAdjust h p) s = .next (finish e stOk 0 0 [] (setLine s p.line.val { line s p.line.val with
      powerFrom := txPowerNow (line s p.line.val) s.now, powerSince := s.now,
      cfg := some { c with
        txPower := p.txPower, sdThreshold := if p.sdThreshold = 0 then 1500 else p.sdThreshold, maskMute := p.maskMute } })) := by
  refine perform_done hs ?_
  simp only [howns, hwf, hidle, hon, hcfg]
  rfl

/-! ## Range 0x06: framers, their cupola awake (R264, R271, R272) -/

theorem exec_framerConfigure_of_disabled {p : FramerP} (hs : startable 0x0600 none h e s)
    (howns : owns h kLine p.line.val s = true) (hcup : (cup s (64 + p.line.val)).state = .active)
    (hoff : (line s p.line.val).enabled = false) (hwf : p.wf = true) :
    exec (.framerConfigure h p) s = .next (finish e stOk 0 0 [] (setFramer s p.line.val { framer s p.line.val with
      cfg := some { p with
        nConfirm := orDefault 3 p.nConfirm, mLoss := orDefault 5 p.mLoss, mfConfirm := orDefault 2 p.mfConfirm,
        mfLoss := orDefault 5 p.mfLoss } })) :=
  perform_done_awake hs (if_pos howns) hcup (by simp [howns, hoff, hwf, okay])

/-- A trace as TTI_SET writes it: one that a framer sends changes with the next cycle, one that it does not at once (R272). -/
def setTrace (p : TtiP) (s : State) (t : Trace) : Trace :=
  if p.expected then { t with expected := p.tti }
  else if framing p.line.val s then { t with next := some p.tti } else { t with sent := p.tti, next := none }

theorem exec_ttiSet_of_owner {p : TtiP} (hs : startable 0x0604 none h e s) (howns : owns h kLine p.line.val s = true)
    (hcup : (cup s (64 + p.line.val)).state = .active) (hwf : p.wf = true) :
    exec (.ttiSet h p) s = .next (finish e stOk 0 0 [] (setFramer s p.line.val (if p.pm then
        { framer s p.line.val with pm := setTrace p s (framer s p.line.val).pm }
      else { framer s p.line.val with sm := setTrace p s (framer s p.line.val).sm }))) := by
  refine perform_done_awake hs (if_pos howns) hcup ?_
  simp only [howns, hwf]
  rfl

section

variable {l : Fin 4} (hcup : (cup s (64 + l.val)).state = .active)

include hcup

theorem exec_tributaryConfigure_of_free {t : Fin 32} {mask : Nat} (hs : startable 0x0601 none h e s)
    (howns : owns h kLine l.val s = true)
    (hfree : ∀ u, u < 32 → u ≠ t.val →
      ((tributary s l.val u).slots ||| ((tributary s l.val u).change.getD 0)) &&& mask = 0)
    (hmask : mask ≠ 0) (hslots : mask < 2 ^ (20 * framerRate l.val s)) (hnew : tributaryExists (tributary s l.val t.val) = false) :
    exec (.tributaryConfigure h l t mask) s = .next (finish e stOk 0 0 [] (changeLayout l.val t.val mask s)) := by
  have htaken : ((List.range 32).any (fun u => decide (u ≠ t.val) &&
      decide (((tributary s l.val u).slots ||| ((tributary s l.val u).change.getD 0)) &&& mask ≠ 0))) = false :=
    List.any_eq_false.2 fun u hu => by simpa using hfree u (List.mem_range.1 hu)
  have hrange : ¬ (mask = 0 ∨ 2 ^ (20 * framerRate l.val s) ≤ mask) := by simp [hmask, hslots]
  refine perform_done_awake hs (if_pos howns) hcup ?_
  simp only [howns, htaken, if_neg hrange, hnew]
  rfl

theorem exec_tributaryRemove_of_existing {t : Fin 32} (hs : startable 0x0602 none h e s) (howns : owns h kLine l.val s = true)
    (hexists : tributaryExists (tributary s l.val t.val) = true) :
    exec (.tributaryRemove h l t) s = .next (if framing l.val s then
        setPhase e (.running (l.val * 32 + t.val)) (changeLayout l.val t.val 0 s)
      else finish e stOk 0 0 [] (changeLayout l.val t.val 0 s)) := by
  by_cases hframing : framing l.val s = true
  · rw [if_pos hframing]
    exact perform_later_awake hs (if_pos howns) hcup (by simp [howns, hexists, hframing])
  · rw [if_neg hframing]
    exact perform_done_awake hs (if_pos howns) hcup (by simp [howns, hexists, hframing, okay])

theorem exec_framerStatus_of_awake (hs : startable 0x0603 none h e s) :
    exec (.framerStatus h l) s = .next (finish e stOk 0 0 (framerStatus l.val s) s) :=
  perform_done_awake (cupola := fun _ => some (64 + l.val)) hs rfl hcup rfl

theorem exec_delayMeasure_of_framing (hs : startable 0x0605 none h e s) (howns : owns h kLine l.val s = true)
    (hframing : framing l.val s = true) (hidle : (framer s l.val).measuring = false) :
    exec (.delayMeasure h l) s = .next (setPhase e (.running l.val)
      (setFramer s l.val { framer s l.val with measuring := true, dmpOut := !(framer s l.val).dmpOut, dmSent := none })) :=
  perform_later_awake hs (if_pos howns) hcup (by simp [howns, hframing, hidle])

theorem exec_ttiRead_of_accepted {x : List Byte} (hs : startable 0x0606 none h e s) (hsm : (framer s l.val).sm.accepted = some x) :
    exec (.ttiRead h l) s =
      .next (finish e stOk 0 0 (traceBytes x ++ traceBytes ((framer s l.val).pm.accepted.getD [])) s) :=
  perform_done_awake (cupola := fun _ => some (64 + l.val)) hs rfl hcup (by simp [hsm, okResp])

end

end

theorem length_framerStatus (l : Nat) (s : State) : (framerStatus l s).length = 64 := length_fields (by simp)

@[simp] theorem length_traceBytes (t : List Byte) : (traceBytes t).length = 64 := by simp [traceBytes]

/-- Settles O17: such a rate is not valid. -/
theorem symbolRateLimits : Obligations.SymbolRateLimits := by
  unfold Obligations.SymbolRateLimits
  intro h p e s hs howns hidle hoff hnative hwf hout
  exact exec_lineConfigure_of_rateOutside hs howns hidle hoff hwf hnative (rateValid_of_outside hnative hout)

/-- Settles O16: each command by its lemma; the responses by the sizes of their layouts. -/
theorem lineAndFramerCommandsComplete : Obligations.LineAndFramerCommandsComplete := by
  unfold Obligations.LineAndFramerCommandsComplete
  refine ⟨fun _ _ _ _ hs howns hidle hoff hmode hwf => exec_lineConfigure_of_fitting hs howns hidle hoff hwf hmode,
    fun _ _ _ _ _ _ _ => exec_lineEnable_of_placed, fun _ _ _ _ _ => exec_lineEnable_of_enabled,
    fun _ _ _ _ => exec_lineDisable_of_idle,
    fun _ _ _ _ _ _ hs hidle => ⟨_, exec_lineStatus_of_idle hs hidle, length_lineStatus ..⟩, ?quality,
    fun _ _ _ _ _ => exec_predistortionLoad_of_unconfigured,
    fun _ _ _ _ _ _ hs howns htaps hidle => exec_predistortionLoad_of_configured hs howns htaps hidle,
    fun _ _ _ _ _ => exec_lineAdjust_of_enabled, ?framer,
    fun _ _ _ _ _ _ hs howns hcup => exec_tributaryConfigure_of_free hcup hs howns,
    fun _ _ _ _ _ hs howns hcup => exec_tributaryRemove_of_existing hcup hs howns,
    fun _ _ _ _ hs hcup => ⟨_, exec_framerStatus_of_awake hcup hs, length_framerStatus ..⟩, ?trace,
    fun _ _ _ _ hs howns hcup => exec_delayMeasure_of_framing hcup hs howns, ?traces⟩
  case quality =>
    intro h l clear counts m e s hs hidle honce howns
    refine ⟨_, _, exec_lineQuality_of_lockedOnce hs hidle honce howns, length_lineQuality .., ?_⟩
    cases clear
    · simp [quality_countedIn]
    · simp
  case framer =>
    intro h p e s hs howns hcup hoff hwf
    exact ⟨_, exec_framerConfigure_of_disabled hs howns hcup hoff hwf, by simp⟩
  case trace =>
    intro h p e s hs howns hcup hwf
    refine ⟨_, exec_ttiSet_of_owner hs howns hcup hwf, ?_⟩
    cases p.pm <;> simp only [framer_setFramer_same, setTrace] <;> split_ifs <;> rfl
  case traces =>
    intro h l e s x hs hcup hsm
    exact ⟨_, exec_ttiRead_of_accepted hcup hs hsm, by simp, by simp⟩

/-! ## Acquisition (R233–R236) -/

/-- Acquisition that light does not hold up is at the step it starts at. -/
theorem acquireFrom_step_of_light {v : LineEngine} (step now : Nat) (hlight : losOf v = false) :
    (acquireFrom step now v).step = step := by
  simp [acquireFrom, hlight]

theorem line_restartLine_same (l : Nat) (v : LineEngine) (s : State) : line (restartLine l v s) l = acquireFrom 1 s.now v := by
  unfold restartLine
  extract_lets s1
  split <;> simp [s1]

theorem line_lockLine_same (l : Nat) (s : State) : line (lockLine l s) l = { line s l with
    locked := true, lockedOnce := true, step := 0, acqCount := satur 32 ((line s l).acqCount + 1), locks := (line s l).locks + 1,
    lockTimeUs := satur 32 ((s.now - (line s l).acqStart) / 1000), quality := { since := s.now }, early := {} } := by
  simp [lockLine]

theorem exec_acquisitionStepEnd (l : Fin 4) (format rate : Nat) (s : State) :
    exec (.acquisitionStepEnd l format rate) s = execAcquisitionStepEnd l format rate s := rfl
theorem exec_acquisitionStepTimeout (l : Fin 4) (s : State) :
    exec (.acquisitionStepTimeout l) s = execAcquisitionStepTimeout l s := rfl
theorem exec_mismatchRestart (l : Fin 4) (s : State) : exec (.mismatchRestart l) s = execMismatchRestart l s := rfl
theorem exec_lossOfLock (l : Fin 4) (s : State) : exec (.lossOfLock l) s = execLossOfLock l s := rfl

section

variable {l : Fin 4} {s : State}

section

variable {format rate : Nat} {c : LineP} (hcfg : (line s l.val).cfg = some c) (hon : (line s l.val).enabled = true)

include hcfg hon

/-- A step that ends leads to the next; headers, which step 7 reads, must be those of the configuration (R233, R235). -/
theorem exec_acquisitionStepEnd_of_more (h0 : (line s l.val).step ≠ 0) (h9 : (line s l.val).step ≠ 9)
    (h7 : (line s l.val).step ≠ 7 ∨ (format = formatOf c ∧ rate = c.rate)) :
    exec (.acquisitionStepEnd l format rate) s = .next (setLine s l.val { line s l.val with
      step := nextStep (line s l.val).step, stepStart := s.now }) := by
  have hheaders : ¬ ((line s l.val).step = 7 ∧ c.mode.val = 0 ∧ ¬(format = formatOf c ∧ rate = c.rate)) := by tauto
  simp only [exec_acquisitionStepEnd, execAcquisitionStepEnd, hcfg, if_neg hheaders, if_neg h9]
  simp [hon, h0]

theorem exec_acquisitionStepEnd_of_last (h9 : (line s l.val).step = 9) :
    exec (.acquisitionStepEnd l format rate) s = .next (lockLine l.val s) := by
  simp [exec_acquisitionStepEnd, execAcquisitionStepEnd, hcfg, hon, h9]

theorem exec_acquisitionStepEnd_of_otherHeaders (h7 : (line s l.val).step = 7) (hnative : c.mode.val = 0)
    (hother : ¬(format = formatOf c ∧ rate = c.rate)) :
    exec (.acquisitionStepEnd l format rate) s = .next (postLine l.val 6 (setLine s l.val { line s l.val with
      mismatch := true, mismatchAt := s.now, step := 0 })) := by
  have hheaders : (line s l.val).step = 7 ∧ c.mode.val = 0 ∧ ¬(format = formatOf c ∧ rate = c.rate) := ⟨h7, hnative, hother⟩
  simp only [exec_acquisitionStepEnd, execAcquisitionStepEnd, hcfg, if_pos hheaders]
  simp [hon, h7]

theorem exec_acquisitionStepTimeout_of_lapsed (h0 : (line s l.val).step ≠ 0)
    (hlapsed : lapsed (line s l.val).stepStart (stepBound c (line s l.val).step) s = true) :
    exec (.acquisitionStepTimeout l) s = .next (restartLine l.val
      { line s l.val with acqRetry := satur 32 ((line s l.val).acqRetry + 1) } s) := by
  simp [exec_acquisitionStepTimeout, execAcquisitionStepTimeout, hcfg, hon, h0, hlapsed]

end

theorem exec_mismatchRestart_of_due (hon : (line s l.val).enabled = true) (hmismatch : (line s l.val).mismatch = true)
    (hdue : (line s l.val).mismatchAt + 10000000 ≤ s.now) :
    exec (.mismatchRestart l) s = .next (restartLine l.val (line s l.val) s) := by
  simp [exec_mismatchRestart, execMismatchRestart, hon, hmismatch, hdue]

theorem exec_lossOfLock_of_locked (hon : (line s l.val).enabled = true) (hlocked : (line s l.val).locked = true) :
    exec (.lossOfLock l) s = .next (postLine l.val 2 (putLine l.val (acquireFrom 4 s.now (line s l.val)) s)) := by
  simp [exec_lossOfLock, execLossOfLock, hon, hlocked]

end

/-! ## The Lantern's monitors (R208) -/

@[simp] theorem monitorOf_setMonitor (m : Nat) (b : Bool) (v : LineEngine) : monitorOf m (setMonitor m b v) = b := by
  match m with
  | 0 | 1 | 2 | 3 | _ + 4 => rfl

/-- The laser's and the receiver's monitors make up LOS. -/
theorem losOf_setMonitor_of_light {m : Nat} (v : LineEngine) (hm : m ≤ 1) : losOf (setMonitor m true v) = true := by
  obtain rfl | rfl : m = 0 ∨ m = 1 := by omega
  · simp [losOf, setMonitor]
  · simp [losOf, setMonitor]

@[simp] theorem enabled_setMonitor (m : Nat) (b : Bool) (v : LineEngine) : (setMonitor m b v).enabled = v.enabled := by
  unfold setMonitor
  split <;> rfl

/-- What a change of LOS brings about leaves the monitors as they are. -/
theorem monitorOf_losChanged (m l : Nat) (before : Bool) (s : State) :
    monitorOf m (line (losChanged l before s) l) = monitorOf m (line s l) := by
  unfold losChanged
  extract_lets v
  split
  · rfl
  · split
    · rw [line_postLine, line_putLine_same]
      rfl
    · split
      · rw [line_postLine]
      · rw [line_postLine, line_setLine_same]
        rfl

/-- Light lost unlocks an enabled engine. -/
theorem locked_losChanged_of_lost {l : Nat} {s : State} (hon : (line s l).enabled = true) (hlos : losOf (line s l) = true) :
    (line (losChanged l false s) l).locked = false := by
  simp [losChanged, hon, hlos]

theorem exec_lanternMonitorAssert (l : Fin 4) (m : Fin 5) (reading : Int) (s : State) :
    exec (.lanternMonitorAssert l m reading) s = execLanternMonitorAssert l m reading s := rfl

/-- The state in which a monitor's condition is judged, once it has changed and been posted. -/
def withMonitor (l m : Nat) (b : Bool) (reading : Int) (s : State) : State :=
  postLantern l m b reading (setLine s l (setMonitor m b (line s l)))

@[simp] theorem line_withMonitor_same (l m : Nat) (b : Bool) (reading : Int) (s : State) :
    line (withMonitor l m b reading s) l = setMonitor m b (line s l) := by
  simp [withMonitor]

theorem exec_lanternMonitorAssert_of_running {m : Fin 5} (l : Fin 4) (reading : Int) (s : State) (hm : m.val ≠ 3) :
    exec (.lanternMonitorAssert l m reading) s =
      .next (losChanged l.val (losOf (line s l.val)) (withMonitor l.val m.val true reading s)) := by
  rw [exec_lanternMonitorAssert, execLanternMonitorAssert]
  exact if_neg hm

theorem exec_lanternMonitorClear (l : Fin 4) (m : Fin 5) (reading : Int) (s : State) :
    exec (.lanternMonitorClear l m reading) s =
      .next (losChanged l.val (losOf (line s l.val)) (withMonitor l.val m.val false reading s)) := rfl

/-! ## The mask check and signal degrade (R219, R243, R245) -/

theorem exec_maskCheck (l : Fin 4) (pass : Bool) (s : State) : exec (.maskCheck l pass) s = execMaskCheck l pass s := rfl
theorem exec_signalDegradeCheck (l : Fin 4) (n : LineCounts) (s : State) :
    exec (.signalDegradeCheck l n) s = execSignalDegradeCheck l n s := rfl

@[simp] theorem mutedOf_postQuality (l k kind value : Nat) (s : State) :
    mutedOf l (postQuality k kind value s) = mutedOf l s := by
  simp [mutedOf, cup, postQuality, line_of_lines (post_line ..)]

@[simp] theorem cup_setLine (s : State) (l : Nat) (v : LineEngine) (k : Nat) : cup (setLine s l v) k = cup s k := rfl

/-- An engine that was not muted is, once a violation mutes it. -/
theorem mutedOf_violation {l : Nat} {s : State} (mute : Bool) (hmuted : mutedOf l s = false) :
    mutedOf l (setLine s l { line s l with maskViolation := true, maskMuted := mute }) = mute := by
  simp only [mutedOf, Bool.or_eq_false_iff] at hmuted
  obtain ⟨⟨⟨⟨⟨⟨hon, -⟩, hlaser⟩, hbias⟩, hshutdown⟩, hfenced⟩, htripped⟩ := hmuted
  simp only [mutedOf, line_setLine_same, cup_setLine, setLine_pwr, hon, hlaser, hbias, hshutdown, hfenced, htripped]
  simp

theorem exec_maskCheck_of_violation {l : Fin 4} {s : State} {c : LineP} (hmuted : mutedOf l.val s = false)
    (hcfg : (line s l.val).cfg = some c) :
    exec (.maskCheck l false) s = .next (postQuality l.val 3 0 (setLine s l.val { line s l.val with
      maskViolation := true, maskMuted := c.maskMute })) := by
  have hquiet : (line s l.val).maskMuted = false := by
    simp only [mutedOf, Bool.or_eq_false_iff] at hmuted
    obtain ⟨⟨⟨⟨⟨⟨-, hquiet⟩, -⟩, -⟩, -⟩, -⟩, -⟩ := hmuted
    exact hquiet
  simp [exec_maskCheck, execMaskCheck, hmuted, hcfg, hquiet]

/-- The engine after a second whose pre-FEC ratio is compared with the threshold. -/
def afterSecond (threshold : Nat) (n : LineCounts) (v : LineEngine) : LineEngine :=
  { v with
    degrade := if threshold * n.bits < n.preFecErrors * 100000 then true
      else if n.preFecErrors * 1000000 < 9 * threshold * n.bits then false else v.degrade
    quality := addCounts v.quality (countsLess n v.early), early := {} }

/-- The counters and the events of the check leave the engine. -/
theorem exec_signalDegradeCheck_of_locked {l : Fin 4} {s : State} {c : LineP} (n : LineCounts)
    (hon : (line s l.val).enabled = true) (hlocked : (line s l.val).locked = true) (hcfg : (line s l.val).cfg = some c) :
    ∃ s', exec (.signalDegradeCheck l n) s = .next s' ∧ line s' l.val = afterSecond c.sdThreshold n (line s l.val) := by
  rw [exec_signalDegradeCheck, execSignalDegradeCheck, if_neg (by simp [hon, hlocked])]
  extract_lets thr worse better s1 s2 s3
  have hs1 : line s1 l.val = afterSecond c.sdThreshold n (line s l.val) := by
    simp [s1, afterSecond, worse, better, thr, hcfg]
  have hs3 : line s3 l.val = line s1 l.val := by
    simp only [s3, s2]
    split_ifs <;> simp
  split
  · exact ⟨_, rfl, hs3.trans hs1⟩
  · exact ⟨_, rfl, (line_postQuality ..).trans (hs3.trans hs1)⟩

theorem degrade_afterSecond_of_worse {threshold : Nat} {n : LineCounts} (v : LineEngine)
    (hworse : threshold * n.bits < n.preFecErrors * 100000) : (afterSecond threshold n v).degrade = true := if_pos hworse

/-- A ratio below 0.9 of the threshold is not above it. -/
theorem degrade_afterSecond_of_better {threshold : Nat} {n : LineCounts} (v : LineEngine)
    (hbetter : n.preFecErrors * 1000000 < 9 * threshold * n.bits) : (afterSecond threshold n v).degrade = false := by
  have hnotWorse : ¬ threshold * n.bits < n.preFecErrors * 100000 := by
    rw [Nat.mul_assoc] at hbetter
    omega
  exact (if_neg hnotWorse).trans (if_pos hbetter)

/-- Settles O18: each occurrence by its lemma; the events that it posts leave the engine as it is. -/
theorem linesAcquireAndMonitor : Obligations.LinesAcquireAndMonitor := by
  unfold Obligations.LinesAcquireAndMonitor
  refine ⟨fun _ _ _ _ _ => exec_acquisitionStepEnd_of_more, ?last, ?mismatch, ?timeout, ?restart, ?loss, ?assert, ?clear, ?mask,
    ?degrade⟩
  case last =>
    intro l format rate s c hcfg hon h9
    exact ⟨_, exec_acquisitionStepEnd_of_last hcfg hon h9, by simp [line_lockLine_same]⟩
  case mismatch =>
    intro l format rate s c hcfg hon h7 hnative hother
    exact ⟨_, exec_acquisitionStepEnd_of_otherHeaders hcfg hon h7 hnative hother, by simp⟩
  case timeout =>
    intro l s c hcfg hon h0 hlight hlapsed
    refine ⟨_, exec_acquisitionStepTimeout_of_lapsed hcfg hon h0 hlapsed, ?_⟩
    rw [line_restartLine_same]
    exact ⟨acquireFrom_step_of_light _ _ hlight, rfl⟩
  case restart =>
    intro l s hon hmismatch hlight hdue
    refine ⟨_, exec_mismatchRestart_of_due hon hmismatch hdue, ?_⟩
    rw [line_restartLine_same]
    exact ⟨acquireFrom_step_of_light _ _ hlight, rfl⟩
  case loss =>
    intro l s hon hlocked hlight
    refine ⟨_, exec_lossOfLock_of_locked hon hlocked, ?_⟩
    rw [line_postLine, line_putLine_same]
    exact ⟨acquireFrom_step_of_light _ _ hlight, rfl⟩
  case assert =>
    intro l m reading s hm
    refine ⟨_, exec_lanternMonitorAssert_of_running l reading s hm, by simp [monitorOf_losChanged], fun hlight hon hlos => ?_⟩
    rw [hlos]
    exact locked_losChanged_of_lost (by simpa using hon) (by simpa using losOf_setMonitor_of_light _ hlight)
  case clear =>
    exact fun l m reading s => ⟨_, exec_lanternMonitorClear l m reading s, by simp [monitorOf_losChanged]⟩
  case mask =>
    intro l s c hon hmuted hcfg
    exact ⟨_, exec_maskCheck_of_violation hmuted hcfg, by simp, by simp [mutedOf_violation _ hmuted]⟩
  case degrade =>
    intro l n s c hon hlocked hcfg
    obtain ⟨s', hs', hline⟩ := exec_signalDegradeCheck_of_locked n hon hlocked hcfg
    refine ⟨s', hs', ?_⟩
    rw [hline]
    exact ⟨degrade_afterSecond_of_worse _, degrade_afterSecond_of_better _, rfl⟩

end Sys2Proof.Machine
end

section
/-!
PROOFS of the chapter on line framing. Frame alignment, by what a correct and an errored frame do in each state of R251's table.
-/
namespace Sys2Proof.Machine

/-! ## HELD and IF -/

section
variable {now pos places : Nat} {c : FramerP} {f : Framer}

theorem alignFrame_of_held (correct : Bool) (hstate : f.state = .held) : alignFrame now c f pos correct places = f := by
  simp [alignFrame, hstate]

theorem alignFrame_of_elsewhere (correct : Bool) (hstate : f.state = .inFrame) (hpos : pos ≠ f.aligned) :
    alignFrame now c f pos correct places = f := by
  simp [alignFrame, hstate, hpos]

theorem alignFrame_of_inFrame_correct (hstate : f.state = .inFrame) (hpos : pos = f.aligned) :
    alignFrame now c f pos true places = { f with frameErrors := 0 } := by
  simp [alignFrame, hstate, hpos]

theorem alignFrame_of_inFrame_errored (hstate : f.state = .inFrame) (hpos : pos = f.aligned) :
    alignFrame now c f pos false places =
      if c.mLoss ≤ f.frameErrors + 1 then leaveFrame now .search f else { f with frameErrors := f.frameErrors + 1 } := by
  simp [alignFrame, hstate, hpos]

end

@[simp] theorem leaveFrame_state (now : Nat) (dst : FrameState) (f : Framer) : (leaveFrame now dst f).state = dst := rfl
@[simp] theorem leaveFrame_frameErrors (now : Nat) (dst : FrameState) (f : Framer) :
    (leaveFrame now dst f).frameErrors = 0 := rfl

/-! ## SEARCH and CANDIDATE -/

/-- The framer once it has aligned to a position: the candidates are discarded, the errored count is 0. -/
def alignedTo (now pos : Nat) (f : Framer) : Framer :=
  { f with state := .inFrame, candidates := [], aligned := pos, frameErrors := 0, since := now, mfSince := now }

@[simp] theorem alignedTo_state (now pos : Nat) (f : Framer) : (alignedTo now pos f).state = .inFrame := rfl
@[simp] theorem alignedTo_aligned (now pos : Nat) (f : Framer) : (alignedTo now pos f).aligned = pos := rfl
@[simp] theorem alignedTo_candidates (now pos : Nat) (f : Framer) : (alignedTo now pos f).candidates = [] := rfl

/-- The framer once the candidate at a position is discarded. -/
def withoutCandidate (pos : Nat) (f : Framer) : Framer :=
  { f with
    candidates := f.candidates.filter (fun e => decide (e.1 ≠ pos))
    state := if f.candidates.filter (fun e => decide (e.1 ≠ pos)) = [] then .search else .candidate }

theorem withoutCandidate_candidates (pos : Nat) (f : Framer) :
    (withoutCandidate pos f).candidates = f.candidates.filter (fun e => decide (e.1 ≠ pos)) := rfl

theorem withoutCandidate_state_eq_search_iff (pos : Nat) (f : Framer) :
    (withoutCandidate pos f).state = .search ↔ f.candidates.filter (fun e => decide (e.1 ≠ pos)) = [] := by
  rw [withoutCandidate]
  split
  case isTrue hnone => exact iff_of_true rfl hnone
  case isFalse hsome => exact iff_of_false nofun hsome

section
variable {now pos places : Nat} {c : FramerP} {f : Framer} (hstate : f.state = .search ∨ f.state = .candidate)
include hstate

/-- A correct frame at an untracked position. -/
theorem alignFrame_of_untracked (hnew : f.candidates.find? (fun e => decide (e.1 = pos)) = none) :
    alignFrame now c f pos true places =
      if places ≤ f.candidates.length then f
      else if c.nConfirm ≤ 1 then alignedTo now pos f
      else { f with candidates := f.candidates ++ [(pos, 1)], state := .candidate } := by
  rcases hstate with h | h <;> simp only [alignFrame, h, hnew, alignedTo] <;> simp

theorem alignFrame_of_tracked_confirmed {e : Nat × Nat} (htracked : f.candidates.find? (fun e => decide (e.1 = pos)) = some e)
    (hconfirmed : c.nConfirm ≤ e.2 + 1) : alignFrame now c f pos true places = alignedTo now pos f := by
  rcases hstate with h | h <;> simp [alignFrame, h, htracked, hconfirmed, alignedTo]

theorem alignFrame_of_tracked_errored {e : Nat × Nat} (htracked : f.candidates.find? (fun e => decide (e.1 = pos)) = some e) :
    alignFrame now c f pos false places = withoutCandidate pos f := by
  rcases hstate with h | h <;> simp [alignFrame, h, htracked, withoutCandidate]

end

/-- Settles O19: each row of the table by the lemma on its state and event. -/
theorem frameAlignmentStates : Obligations.FrameAlignmentStates := by
  unfold Obligations.FrameAlignmentStates
  intro now places c f pos
  refine ⟨fun ok => alignFrame_of_held ok, ?tracked, ?alignedAtOnce, ?noPlace, ?confirmed, ?discarded, ?correct, ?lost, ?errored,
    fun ok => alignFrame_of_elsewhere ok⟩
  case tracked =>
    intro hstate hnew hplace hconfirm
    rw [alignFrame_of_untracked hstate hnew, if_neg (Nat.not_le.mpr hplace), if_neg (Nat.not_le.mpr hconfirm)]
    exact ⟨rfl, rfl⟩
  case alignedAtOnce =>
    intro hstate hnew hplace hconfirm
    rw [alignFrame_of_untracked hstate hnew, if_neg (Nat.not_le.mpr hplace), if_pos hconfirm]
    exact ⟨alignedTo_state .., alignedTo_aligned ..⟩
  case noPlace =>
    intro hstate hnew hfull
    rw [alignFrame_of_untracked hstate hnew, if_pos hfull]
  case confirmed =>
    intro n hstate htracked hconfirm
    rw [alignFrame_of_tracked_confirmed hstate htracked hconfirm]
    exact ⟨alignedTo_state .., alignedTo_aligned .., alignedTo_candidates ..⟩
  case discarded =>
    intro x hstate htracked
    rw [alignFrame_of_tracked_errored hstate htracked]
    exact ⟨withoutCandidate_candidates pos f, withoutCandidate_state_eq_search_iff pos f⟩
  case correct =>
    intro hstate hpos
    rw [alignFrame_of_inFrame_correct hstate hpos]
    exact ⟨rfl, hstate⟩
  case lost =>
    intro hstate hpos hloss
    rw [alignFrame_of_inFrame_errored hstate hpos, if_pos hloss]
    exact ⟨leaveFrame_state .., leaveFrame_frameErrors ..⟩
  case errored =>
    intro hstate hpos hbelow
    rw [alignFrame_of_inFrame_errored hstate hpos, if_neg (Nat.not_le.mpr hbelow)]
    exact ⟨hstate, rfl⟩

end Sys2Proof.Machine
end

section
/-!
PROOFS of the cipher chapter. What the use of a half leaves of it; the commands of range 0x07, each by what its own work replies;
the reception of sealed multiframes and of MACsec frames.
-/
namespace Sys2Proof.Machine

/-! ## What leaves the key store, the seals and the MACsec ports as they were -/

theorem sealOf_of_cph {s u : State} (h : u.cph = s.cph) (l : Nat) : sealOf u l = sealOf s l := by rw [sealOf, sealOf, h]
theorem macsec_of_cph {s u : State} (h : u.cph = s.cph) (x : Nat) : macsec u x = macsec s x := by rw [macsec, macsec, h]


@[simp] theorem post_cph (src : Nat) (cls : EvClass) (payload : Nat) (s : State) : (post src cls payload s).cph = s.cph := by
  obtain ⟨ev, out, msix, h⟩ := post_frame src cls payload s
  rw [h]

@[simp] theorem count_cph (ev inst n : Nat) (domain : Option Nat) (s : State) : (count ev inst n domain s).cph = s.cph := by
  unfold count
  split
  · rfl
  · exact foldl_keeps (·.cph) _ (fun _ _ => by rfl) _ _

@[simp] theorem logResumed_cph (s : State) : (logResumed s).cph = s.cph := by
  unfold logResumed
  split
  · exact congrArg (·.cph) (logAppend_acrossBoot 8 _ s)
  · rfl

/-! ## Halves and their use (R286, R287) -/

@[simp] theorem halfOf_withHalf_same (v : Slot) (b : Bool) (h : Half) : halfOf (withHalf v b h) b = h := by cases b <;> rfl
@[simp] theorem halfOf_withHalf_other (v : Slot) (b : Bool) (h : Half) : halfOf (withHalf v b h) (!b) = halfOf v (!b) := by
  cases b <;> rfl

/-- A half after some uses: its count stops at the limit, and the use that reaches the limit stops the half. -/
def usedHalf (uses : Nat) (h : Half) : Half :=
  { h with
    count := min h.limit (h.count + uses)
    state := if h.count < h.limit ∧ h.limit ≤ h.count + uses then .refusing else h.state }

/-- Of the key store, a use changes the used half alone; the events that it posts leave the store. -/
theorem useHalf_cph (kind n : Nat) (b : Bool) (uses : Nat) (s : State) : (useHalf kind n b uses s).cph =
    (setSlot s kind n (withHalf (slot s kind n) b (usedHalf uses (halfOf (slot s kind n) b)))).cph := by
  unfold useHalf
  extract_lets v h c near reached s1 s2
  have hs2 : s2.cph = s1.cph := by
    simp only [s2]
    split
    · exact post_cph ..
    · rfl
  have hused : { h with count := c, state := if reached then .refusing else h.state } = usedHalf uses h := by
    have hreached : reached = true ↔ h.count < h.limit ∧ h.limit ≤ h.count + uses := by simp [reached, c]
    simp only [usedHalf, hreached, c]
  have hs1 : s1.cph = (setSlot s kind n (withHalf v b (usedHalf uses h))).cph := by simp only [s1, hused]
  split
  · exact (post_cph ..).trans (hs2.trans hs1)
  · exact hs2.trans hs1

theorem slot_useHalf_same (kind n : Nat) (b : Bool) (uses : Nat) (s : State) : slot (useHalf kind n b uses s) kind n =
    withHalf (slot s kind n) b (usedHalf uses (halfOf (slot s kind n) b)) := by
  rw [slot, useHalf_cph]
  exact slot_setSlot_same ..

@[simp] theorem sealOf_useHalf (kind n : Nat) (b : Bool) (uses : Nat) (s : State) (l : Nat) :
    sealOf (useHalf kind n b uses s) l = sealOf s l := by
  rw [sealOf, useHalf_cph]
  rfl

@[simp] theorem macsec_useHalf (kind n : Nat) (b : Bool) (uses : Nat) (s : State) (x : Nat) :
    macsec (useHalf kind n b uses s) x = macsec s x := by
  rw [macsec, useHalf_cph]
  rfl

/-- Settles O24: the used half is `usedHalf` of the half before, and the other half is as it was. -/
theorem usageLimits : Obligations.UsageLimits := by
  unfold Obligations.UsageLimits
  intro k n b uses s
  simp only [slot_useHalf_same, halfOf_withHalf_same, halfOf_withHalf_other]
  generalize halfOf (slot s k n) b = h
  refine ⟨rfl, fun hbelow hreaches => ?reached, fun hbelow => ?below, trivial⟩
  case reached => exact if_pos ⟨hbelow, hreaches⟩
  case below => exact if_neg fun ⟨_, hreaches⟩ => Nat.not_le.2 hbelow hreaches

/-! ## The commands of range 0x07 (R281, R297, R298, R302, R306, R307) -/

section

variable {h : Caller} {e : Held} {s : State}

theorem exec_treeKeyExchange_of_operating {t : Fin 64} {i : Fin 512} (hs : startable 0x0700 none h e s)
    (howns : owns h kTree t.val s = true) (hstate : (terminal s t.val i.val).state = 4) (hkeys : s.cph.zeroised = false) :
    exec (.treeKeyExchange h t i) s = .next (setPhase e (.running (t.val * 512 + i.val))
      (emit (.keyRequest t.val i.val (nextKeyIndex (slot s kindTree (treeSlot t.val i.val 0)))) s)) :=
  perform_later hs (by simp [howns, hstate, hkeys])

theorem exec_lineSealConfigure_of_sealedLayout {p : SealP} {c : FramerP} (hs : startable 0x0701 none h e s)
    (howns : owns h kLine p.line.val s = true) (hcup : (cup s (64 + p.line.val)).state = .active)
    (hcfg : (framer s p.line.val).cfg = some c) (hlayout : c.sealedLayout = true) (hnative : line400zr p.line.val s = false)
    (hdomain : ownsDomain h p.domain.val s = true) :
    exec (.lineSealConfigure h p) s = .next (finish e stOk 0 0 [] (setSeal s p.line.val { sealOf s p.line.val with
      change := some (p.enable, p.early), domain := some p.domain.val })) :=
  perform_done_awake hs (if_pos howns) hcup (by simp [howns, hcfg, hlayout, hnative, hdomain, okay])

/-- A port's MACsec state with the parameters that MACSEC_CONFIGURE sets; packet numbers and counts go on. -/
def withMacsecP (p : MacsecP) (m : Macsec) : Macsec :=
  { m with
    enable := p.enable, confidentiality := p.confidentiality, replayProtect := p.replayProtect, includeSci := p.includeSci
    domain := some p.domain.val, sci := p.sci, peerSci := p.peerSci, replayWindow := p.replayWindow }

theorem exec_macsecConfigure_of_enabledPort {p : MacsecP} (hs : startable 0x0702 none h e s)
    (howns : owns h kLaneGroup (p.lane.val / 8) s = true) (hport : (portEnt s (0x80 + p.lane.val)).enabled = true)
    (hdomain : ownsDomain h p.domain.val s = true) (hwf : p.wf = true) :
    exec (.macsecConfigure h p) s =
      .next (finish e stOk 0 0 [] (setMacsec s p.lane.val (withMacsecP p (macsec s p.lane.val)))) :=
  perform_done hs (by simp [howns, hport, hdomain, hwf, okay, withMacsecP])

theorem exec_keySlotStatus_of_ownedDomain {k : Fin 3} {n d : Nat} (hs : startable 0x0703 none h e s)
    (hexists : slotExists k.val n = true) (hslot : slotDomain k.val n s = some d) (hdomain : ownsDomain h d s = true) :
    exec (.keySlotStatus h k n) s = .next (finish e stOk 0 0 (keySlotStatus k.val n s) s) :=
  perform_done hs (by simp [hexists, hslot, hdomain, okResp])

theorem length_keySlotStatus (kind n : Nat) (s : State) : (keySlotStatus kind n s).length = 32 :=
  length_fields (by simp [halfBytes])

/-- The store in service again, the resumption logged and announced (R302). -/
def resumeKeyStore (s : State) : State :=
  postSafe 3 false 0 (post 0x2A0 .security 0 (logResumed { s with cph := { s.cph with zeroised := false } }))

theorem resumeKeyStore_cph (s : State) : (resumeKeyStore s).cph = { s.cph with zeroised := false } := by
  simp [resumeKeyStore, postSafe]

theorem exec_keyStoreResume_of_noSource (hs : startable 0x0704 none h e s) (howns : ownsDevice h s = true)
    (hkeys : s.cph.zeroised = true) :
    exec (.keyStoreResume h 0) s = .next (finish e stOk 0 0 [] (resumeKeyStore s)) :=
  perform_done hs (by simp [howns, hkeys, okay, resumeKeyStore])

theorem exec_sealStatus (l : Fin 4) (hs : startable 0x0705 none h e s) :
    exec (.sealStatus h l) s = .next (finish e stOk 0 0 (sealStatus l.val s) s) :=
  perform_done hs rfl

theorem length_sealStatus (l : Nat) (s : State) : (sealStatus l s).length = 64 := length_fields (by simp)

end

/-! ## Reception of sealed multiframes (R291–R296) -/

/-- A seal event reports the failed blocks and starts their count anew. -/
@[simp] theorem sealOf_postSeal_same (l kind : Nat) (s : State) :
    sealOf (postSeal l kind s) l = { sealOf s l with failedSince := 0 } := by
  rw [postSeal, sealOf_of_cph (post_cph ..), sealOf_setSeal_same]

theorem exec_sealControlMessage (l : Fin 4) (bytes : List Byte) (s : State) :
    exec (.sealControlMessage l bytes) s = execSealControlMessage l bytes s := rfl
theorem exec_sealingBlockReceive (l : Fin 4) (first : Bool) (bytes : List Byte) (compareOk : Bool) (passed : Fin 256)
    (truncated delivered : Nat) (s : State) : exec (.sealingBlockReceive l first bytes compareOk passed truncated delivered) s =
      execSealingBlockReceive l first bytes compareOk passed truncated delivered s := rfl
theorem exec_macsecRxFrame (f : MacsecFrame) (s : State) : exec (.macsecRxFrame f) s = execMacsecRxFrame f s := rfl

section

variable {l : Fin 4} {s : State} (hlocked : lineLocked l.val s = true) (him : (framer s l.val).im = true)

include hlocked him

theorem exec_sealControlMessage_of_inMultiframe (bytes : List Byte) :
    ∃ s', exec (.sealControlMessage l bytes) s = .next s' ∧ (sealOf s' l.val).rxNext = parseSeal bytes := by
  rw [exec_sealControlMessage, execSealControlMessage, if_neg (by simp [hlocked, him])]
  extract_lets q
  split
  case h_1 hrejected => exact ⟨_, rfl, by simp [hrejected]⟩
  case h_2 x haccepted =>
    split
    · exact ⟨_, rfl, by simp [haccepted]⟩
    · exact ⟨_, rfl, by simp [haccepted]⟩

/-- A further block of a sealed multiframe is processed under its own number. -/
theorem exec_sealingBlockReceive_of_sealed (bytes : List Byte) (compareOk : Bool) (passed : Fin 256) (truncated delivered : Nat)
    (hsealed : (sealOf s l.val).rxSealing = true) :
    exec (.sealingBlockReceive l false bytes compareOk passed truncated delivered) s =
      .next (receiveBlock l.val bytes compareOk passed.val truncated delivered (nextBlock l.val false s)) := by
  have hstays : (sealOf (nextBlock l.val false s) l.val).rxSealing = true := by simp [nextBlock, hsealed]
  rw [exec_sealingBlockReceive, execSealingBlockReceive, if_neg (by simp [hlocked, him])]
  exact if_pos hstays

end

theorem sealOf_openMultiframe_of_missed {l : Nat} {s : State} (hmissed : (sealOf s l).rxNext = none) :
    sealOf (openMultiframe l s) l = { sealOf s l with
      rxSeq := (sealOf s l).rxSeq + 1, ctrlErrors := satur 32 ((sealOf s l).ctrlErrors + 1) } := by
  simp [openMultiframe, hmissed]

theorem sealOf_nextBlock_of_further (l : Nat) (s : State) :
    sealOf (nextBlock l false s) l = { sealOf s l with rxBlock := (sealOf s l).rxBlock + 1 } := by
  simp [nextBlock]

/-- The end of SEAL_LOSS is posted once the block is counted, which leaves the counts (R296). -/
theorem sealOf_blockVerified_same (l : Nat) (s : State) :
    (sealOf (blockVerified l s) l).verified = satur 64 ((sealOf s l).verified + 1) ∧
      (sealOf (blockVerified l s) l).failedRun = 0 := by
  unfold blockVerified
  extract_lets q run s1
  split
  · simp [s1, q]
  · simp [s1, q]

/-- A truncated packet and SEAL_LOSS are posted once the block is counted, which leaves the counts (R294, R296). -/
theorem sealOf_blockFailed_same (l truncated delivered : Nat) (s : State) :
    (sealOf (blockFailed l truncated delivered s) l).failed = satur 64 ((sealOf s l).failed + 1) ∧
      (sealOf (blockFailed l truncated delivered s) l).verifiedRun = 0 := by
  unfold blockFailed
  extract_lets q run s1 s2
  have hs2 : (sealOf s2 l).failed = satur 64 ((sealOf s l).failed + 1) ∧ (sealOf s2 l).verifiedRun = 0 := by
    simp only [s2]
    split
    · simp [s1, q]
    · simp [s1, q]
  split
  · simpa using hs2
  · exact hs2

/-- The block that a line has reached carries a tag that checks under the half of its multiframe (R288). -/
def blockPasses (l : Nat) (bytes : List Byte) (s : State) : Bool :=
  (openBlock (halfOf (slot s kindLine (rxSlot l)) (sealOf s l).rxHalf) (sealOf s l).rxSeq (sealOf s l).rxBlock bytes).2

theorem blockPasses_nextBlock_of_further (l : Nat) (bytes : List Byte) (s : State) : blockPasses l bytes (nextBlock l false s) =
    (openBlock (halfOf (slot s kindLine (rxSlot l)) (sealOf s l).rxHalf) (sealOf s l).rxSeq
      ((sealOf s l).rxBlock + 1) bytes).2 := by
  rw [blockPasses, sealOf_nextBlock_of_further]
  rfl

theorem canOpen_nextBlock_of_further (l : Nat) (s : State) : canOpen l (nextBlock l false s) = canOpen l s := by
  simp only [canOpen, sealOf_nextBlock_of_further]
  rfl

/-- Where the outputs of the pair agree, the tag alone decides how the block is counted. -/
theorem sealOf_receiveBlock_of_agreement {l : Nat} {s : State} (bytes : List Byte) (passed truncated delivered : Nat)
    (hopens : canOpen l s = true) : sealOf (receiveBlock l bytes true passed truncated delivered s) l =
      sealOf (if blockPasses l bytes s = true then
        blockVerified l (useHalf kindLine (rxSlot l) (sealOf s l).rxHalf 1 s)
      else blockFailed l truncated delivered (useHalf kindLine (rxSlot l) (sealOf s l).rxHalf 1 s)) l := by
  unfold receiveBlock blockPasses
  extract_lets q b
  rw [if_neg (by simp [hopens])]
  rcases openBlock (halfOf (slot s kindLine (rxSlot l)) q.rxHalf) q.rxSeq b bytes with ⟨plain, ok⟩
  cases ok <;> rfl

/-! ## Reception of MACsec frames (R282, R298, R299) -/

theorem receiveHalf_of_active {kind n number : Nat} {b : Bool} {s : State} (hmatch : matching (slot s kind n) number = some b)
    (hactive : (halfOf (slot s kind n) b).state = .active) : receiveHalf kind n number s = (s, some b) := by
  simp [receiveHalf, hmatch, hactive]

/-- The counters and the event of a drop leave the port's MACsec state. -/
theorem macsec_dropMacsec_same (x an : Nat) (s : State) :
    macsec (dropMacsec x an s) x = { macsec s x with drops := (macsec s x).drops + 1 } := by
  unfold dropMacsec
  extract_lets key m s1
  have hs1 : macsec s1 x = { macsec s x with drops := (macsec s x).drops + 1 } :=
    (macsec_of_cph (count_cph ..) x).trans (macsec_setMacsec_same ..)
  split
  · exact (macsec_of_cph (post_cph ..) x).trans hs1
  · exact hs1

/-- What becomes of a frame that an ACTIVE half has processed, the outputs of the pair agreeing. -/
def judgeMacsecFrame (f : MacsecFrame) (b : Bool) (s : State) : State :=
  let x := f.lane.val
  let u := useHalf kindMacsec (2 * x + 1) b 1 (setMacsec s x (macsec s x))
  if !icvOk (halfOf (slot s kindMacsec (2 * x + 1)) b) f || replayed (macsec s x) f.pn then dropMacsec x f.an.val u
  else setMacsec u x { macsec u x with
    nextPn := max (macsec s x).nextPn (f.pn + 1), verified := (macsec s x).verified + 1 }

theorem exec_macsecRxFrame_of_active {f : MacsecFrame} {s s1 : State} {b : Bool} (hon : (macsec s f.lane.val).enable = true)
    (hsettled : s1 = settleCommits kindMacsec (2 * f.lane.val + 1) s) (hserves : pairServes 2 f.lane.val s1 = true)
    (hmatch : matching (slot s1 kindMacsec (2 * f.lane.val + 1)) f.an.val = some b)
    (hactive : (halfOf (slot s1 kindMacsec (2 * f.lane.val + 1)) b).state = .active) (hcompare : f.compareOk = true) :
    exec (.macsecRxFrame f) s = .next (judgeMacsecFrame f b s1) := by
  have hstale : decide ((halfOf (slot s1 kindMacsec (2 * f.lane.val + 1)) b).state = .loaded) = false := by simp [hactive]
  rw [exec_macsecRxFrame, execMacsecRxFrame]
  simp only [← hsettled, hon, hserves, receiveHalf_of_active hmatch hactive, hmatch, hstale, hcompare, judgeMacsecFrame,
    Bool.not_true, Bool.false_eq_true, if_false]
  split_ifs <;> rfl

section

variable {f : MacsecFrame} {b : Bool} {s : State}

theorem nextPn_judgeMacsecFrame_of_passed (hicv : icvOk (halfOf (slot s kindMacsec (2 * f.lane.val + 1)) b) f = true)
    (hreplay : (macsec s f.lane.val).replayProtect = false) :
    (macsec (judgeMacsecFrame f b s) f.lane.val).nextPn = max (macsec s f.lane.val).nextPn (f.pn + 1) := by
  simp [judgeMacsecFrame, hicv, replayed, hreplay]

theorem drops_judgeMacsecFrame_of_failed (hicv : ¬ icvOk (halfOf (slot s kindMacsec (2 * f.lane.val + 1)) b) f = true) :
    (macsec (judgeMacsecFrame f b s) f.lane.val).drops = (macsec s f.lane.val).drops + 1 := by
  simp [judgeMacsecFrame, hicv, macsec_dropMacsec_same]

end

/-- Settles O21: each command and each reception by its lemma; the responses by the sizes of their layouts. -/
theorem cipherCommandsAndReception : Obligations.CipherCommandsAndReception := by
  unfold Obligations.CipherCommandsAndReception
  refine ⟨fun _ _ _ _ _ => exec_treeKeyExchange_of_operating, fun _ _ _ _ _ => exec_lineSealConfigure_of_sealedLayout,
    fun _ _ _ _ hs howns hport hdomain hwf =>
      ⟨_, exec_macsecConfigure_of_enabledPort hs howns hport hdomain hwf, rfl, rfl, rfl, rfl, rfl⟩,
    fun _ _ _ _ _ _ hs hexists hslot hdomain =>
      ⟨_, exec_keySlotStatus_of_ownedDomain hs hexists hslot hdomain, length_keySlotStatus ..⟩, ?resume,
    fun _ l _ _ hs => ⟨_, exec_sealStatus l hs, length_sealStatus ..⟩,
    fun _ bytes _ hlocked him => exec_sealControlMessage_of_inMultiframe hlocked him bytes, ?missed, ?block, ?frame⟩
  case resume =>
    intro h e s hs howns hkeys
    refine ⟨_, exec_keyStoreResume_of_noSource hs howns hkeys, ?_⟩
    rw [resumeKeyStore_cph]
    exact ⟨rfl, rfl⟩
  case missed =>
    intro l s hmissed
    rw [sealOf_openMultiframe_of_missed hmissed]
  case block =>
    intro l bytes n truncated delivered s hlocked him hsealed hkey hactive hserves
    have hopens : canOpen l.val (nextBlock l.val false s) = true := by
      rw [canOpen_nextBlock_of_further]
      simp [canOpen, hkey, hactive, hserves]
    refine ⟨_, exec_sealingBlockReceive_of_sealed hlocked him bytes true n truncated delivered hsealed, ?_⟩
    rw [sealOf_receiveBlock_of_agreement _ _ _ _ hopens, ← blockPasses_nextBlock_of_further]
    split
    · simp [sealOf_blockVerified_same, sealOf_nextBlock_of_further]
    · simp [sealOf_blockFailed_same, sealOf_nextBlock_of_further]
  case frame =>
    intro f s s1 b hon hsettled hserves hmatch hactive hcompare
    refine ⟨_, exec_macsecRxFrame_of_active hon hsettled hserves hmatch hactive hcompare, ?_⟩
    split
    case isTrue hicv => exact nextPn_judgeMacsecFrame_of_passed hicv
    case isFalse hicv => exact drops_judgeMacsecFrame_of_failed hicv

end Sys2Proof.Machine
end

section
/-!
PROOFS of the packet engine chapter: what the operations of other blocks leave of its tables; learning and aging of bridge
entries.
-/
namespace Sys2Proof.Machine

/-! ## What leaves the packet engine's tables as they were -/

section

variable {s u : State} (h : u.pe = s.pe)

include h

theorem pipe_of_pe (p : Nat) : pipe u p = pipe s p := by rw [pipe, pipe, h]
theorem queue_of_pe (q : Nat) : queue u q = queue s q := by rw [queue, queue, h]
theorem portEnt_of_pe (port : Nat) : portEnt u port = portEnt s port := by rw [portEnt, portEnt, h]
theorem learnEntry_of_pe (p i : Nat) : learnEntry u p i = learnEntry s p i := by rw [learnEntry, learnEntry, h]
theorem inService_of_pe (p : Nat) : inService p u = inService p s := by rw [inService, inService, h]

end

@[simp] theorem post_pe (src : Nat) (cls : EvClass) (payload : Nat) (s : State) : (post src cls payload s).pe = s.pe :=
  pe_of_treesAndQueues (post_treesAndQueues ..)
@[simp] theorem count_pe (ev inst n : Nat) (domain : Option Nat) (s : State) : (count ev inst n domain s).pe = s.pe :=
  pe_of_treesAndQueues (count_treesAndQueues ..)
@[simp] theorem freeBuffer_pe (r ptr ecc : Nat) (s : State) : (freeBuffer r ptr ecc s).pe = s.pe :=
  pe_of_treesAndQueues (freeBuffer_treesAndQueues ..)

@[simp] theorem learnEvent_pe (p kind domain : Nat) (s : State) : (learnEvent p kind domain s).pe = s.pe := by
  unfold learnEvent
  extract_lets key s1
  split
  · exact post_pe ..
  · rfl

@[simp] theorem setPipe_learned (s : State) (p : Nat) (v : Pipeline) : (setPipe s p v).pe.learned = s.pe.learned := rfl

@[simp] theorem learnEntry_setPipe (s : State) (j : Nat) (v : Pipeline) (p i : Nat) :
    learnEntry (setPipe s j v) p i = learnEntry s p i := rfl
@[simp] theorem learnEntry_setLearn_same (s : State) (p i : Nat) (e : Option LearnEntry) :
    learnEntry (setLearn s p i e) p i = e := tget_tset_same _ _ _ _

/-! ## Learning (R324) -/

section

variable {p d i : Nat} {src : BitVec 48} {s : State} {x : LearnEntry} (hfound : findLearn p (learnKey src d) s = some (i, x))

include hfound

/-- R324's table for a known address: static, at its own queue, within its hold-down, moved. -/
theorem learnRequest_of_found (q : Nat) : learnRequest p src d q s =
    if x.isStatic then
      if x.queue = q then s
      else learnEvent p 3 d (setPipe s p { pipe s p with staticConflicts := satur 32 ((pipe s p).staticConflicts + 1) })
    else if x.queue = q then setLearn s p i (some { x with hit := true })
    else if (nowMs s + 2 ^ 32 - x.movedMs % 2 ^ 32) % 2 ^ 32 < s.pe.learn.moveHoldMs then
      learnEvent p 1 d (setPipe s p { pipe s p with flaps := satur 32 ((pipe s p).flaps + 1) })
    else learnEvent p 0 d (count 0x033 p 1 (some d) (setPipe
      (setLearn s p i (some { x with queue := q, movedMs := nowMs s, age := 0 })) p
      { pipe s p with moves := satur 32 ((pipe s p).moves + 1) })) := by
  rw [learnRequest]
  simp only [hfound]

theorem learned_learnRequest_of_static (q : Nat) (hstatic : x.isStatic = true) :
    (learnRequest p src d q s).pe.learned = s.pe.learned := by
  rw [learnRequest_of_found hfound, if_pos hstatic]
  split
  case isTrue => rfl
  case isFalse => rw [learnEvent_pe, setPipe_learned]

theorem learnRequest_of_sameQueue {q : Nat} (hdynamic : x.isStatic = false) (hq : x.queue = q) :
    learnRequest p src d q s = setLearn s p i (some { x with hit := true }) := by
  rw [learnRequest_of_found hfound, if_neg (by simp [hdynamic]), if_pos hq]

theorem learned_learnRequest_of_heldDown {q : Nat} (hdynamic : x.isStatic = false) (hq : x.queue ≠ q)
    (hheld : (nowMs s + 2 ^ 32 - x.movedMs % 2 ^ 32) % 2 ^ 32 < s.pe.learn.moveHoldMs) :
    (learnRequest p src d q s).pe.learned = s.pe.learned := by
  rw [learnRequest_of_found hfound, if_neg (by simp [hdynamic]), if_neg hq, if_pos hheld, learnEvent_pe, setPipe_learned]

theorem learnEntry_learnRequest_of_moved {q : Nat} (hdynamic : x.isStatic = false) (hq : x.queue ≠ q)
    (hpassed : s.pe.learn.moveHoldMs ≤ (nowMs s + 2 ^ 32 - x.movedMs % 2 ^ 32) % 2 ^ 32) :
    learnEntry (learnRequest p src d q s) p i = some { x with queue := q, movedMs := nowMs s, age := 0 } := by
  rw [learnRequest_of_found hfound, if_neg (by simp [hdynamic]), if_neg hq, if_neg (Nat.not_lt.mpr hpassed),
    learnEntry_of_pe (learnEvent_pe ..), learnEntry_of_pe (count_pe ..), learnEntry_setPipe, learnEntry_setLearn_same]

end

/-! ## Aging (R327) -/

theorem exec_ageScan (p : Fin 8) (s : State) : exec (.ageScan p) s = execAgeScan p s := rfl

theorem exec_ageScan_of_early {p : Fin 8} {s : State} (hearly : scanDue p.val s = false) : exec (.ageScan p) s = .next s := by
  rw [exec_ageScan, execAgeScan, if_pos (by simp [hearly])]

theorem exec_ageScan_of_due {p : Fin 8} {s s1 : State} (hdue : scanDue p.val s = true)
    (hs1 : s1 = setPipe s p.val { pipe s p.val with scannedAt := s.now }) :
    exec (.ageScan p) s = .next (if lookupsToCome s = true then
      { s1 with pe := { s1.pe with scansDue := s1.pe.scansDue ++ [p.val] } } else ageScan p.val s1) := by
  rw [exec_ageScan, execAgeScan, if_neg (by simp [hdue]), hs1]
  split <;> rfl

theorem scanDue_iff (p : Nat) (s : State) : scanDue p s = true ↔
    inService p s = true ∧ (pipe s p).scannedAt + 1000000 * s.pe.learn.ageScanMs ≤ s.now := by
  rw [scanDue, Bool.and_eq_true, decide_eq_true_iff, msNs, Nat.mul_comm]

/-- A pass over a table in canonical form changes the entries of its pipeline that this cycle has not hit. -/
theorem learnEntry_ageScan {s : State} (p q : Nat) {i : Nat} (hwf : tableWf none s.pe.learned = true) (hi : i < 262144) :
    learnEntry (ageScan p s) q i = if q = p ∧ q * 262144 + i ∉ hitsOf s then
      (learnEntry s q i).bind (ageEntry s.pe.learn.ageLimit) else learnEntry s q i := by
  have hpipe : (q * 262144 + i) / 262144 = q := by omega
  rw [learnEntry, ageScan, tget_tmap _ _ _ _ (by simp) hwf]
  simp [hpipe, learnEntry]

theorem ageEntry_eq (limit : Nat) (x : LearnEntry) : ageEntry limit x =
    if x.parity then none else if x.isStatic then some x else if x.hit then some { x with age := 0, hit := false }
    else if limit ≤ x.age + 1 then none else some { x with age := x.age + 1 } := by
  simp only [ageEntry, ← Nat.not_lt, ite_not]

/-- Settles O27: learning by the case of R324's table that the entry falls under; aging by the pass and by one entry's aging. -/
theorem learningAndAging : Obligations.LearningAndAging := by
  unfold Obligations.LearningAndAging
  refine ⟨?learning, fun _ _ _ => exec_ageScan_of_due, fun _ _ => exec_ageScan_of_early, scanDue_iff,
    fun p q _ _ => learnEntry_ageScan p q, ageEntry_eq⟩
  case learning =>
    intro p src d q s i x hfound
    exact ⟨learned_learnRequest_of_static hfound q, learnRequest_of_sameQueue hfound,
      learned_learnRequest_of_heldDown hfound, learnEntry_learnRequest_of_moved hfound⟩

end Sys2Proof.Machine
end

section
/-!
PROOFS of the packet engine chapter: the table commands of range 0x08 and the TBL_CMD window.
-/
namespace Sys2Proof.Machine

/-! ## What the operations on tables do to them -/

@[simp] theorem serviceEntry_setService_same (s : State) (i : Nat) (e : Option ServiceEntry) :
    serviceEntry (setService s i e) i = e := tget_tset_same _ _ _ _

theorem learnEntry_of_insertLearn {p i : Nat} {e : LearnEntry} {s s1 : State} (hput : insertLearn p e s = (some i, s1)) :
    learnEntry s1 p i = some e := by
  unfold insertLearn at hput
  split at hput
  case h_1 => cases hput
  case h_2 =>
    cases hput
    exact learnEntry_setLearn_same s p _ (some e)

theorem failedTable_of_serving {t : Nat} {s : State} (hserves : inService t s = true) : failedTable t s = false := by
  simp [failedTable, hserves]

/-! ## TABLE_WRITE, TABLE_READ, TABLE_DELETE and TABLE_FLUSH (R331, R349) -/

section

variable {h : Caller} {p : TableP} {e : Held} {s s1 : State} {i : Nat}

theorem exec_tableWrite_of_learnTable (hs : startable 0x0804 none h e s) (htable : p.table.val < 8)
    (howns : ownsDomain h (p.key.toNat / 2 ^ 48 % 4096) s = true) (hserves : inService p.table.val s = true)
    (hput : insertLearn p.table.val (learnOf p.key.toNat p.data.toNat s) (noteTables s) = (some i, s1)) :
    exec (.tableWrite h p) s = .next (finish e stOk 0 i [] s1) := by
  have hservice : p.table.val ≠ 8 := by omega
  have hevery : p.table.val ≠ 9 := by omega
  exact perform_done hs (by
    simp [hservice, howns, failedTable_of_serving hserves, learnTargets, hevery, insertAll, hput, okResult, -Nat.reducePow])

theorem exec_tableWrite_of_everyLearnTable (hs : startable 0x0804 none h e s) (htable : p.table.val = 9)
    (howns : ownsDomain h (p.key.toNat / 2 ^ 48 % 4096) s = true)
    (hput : insertAll (learnOf p.key.toNat p.data.toNat s) (noteTables s) (learnTargets 9 s) = (some i, s1)) :
    exec (.tableWrite h p) s = .next (finish e stOk 0 i [] s1) :=
  perform_done hs (by simp [htable, howns, failedTable, hput, okResult, -Nat.reducePow])

theorem exec_tableWrite_of_serviceTable (hs : startable 0x0804 none h e s) (htable : p.table.val = 8)
    (hbridge : serviceKind p.key.toNat ≠ 1) (hkind : serviceKind p.key.toNat ≤ 2)
    (howns : ownsAll h (serviceDomains p.key.toNat p.data.toNat ++ heldDomains p.key.toNat s) s = true)
    (hput : insertService p.key.toNat p.data.toNat (noteTables s) = (some i, s1)) :
    exec (.tableWrite h p) s = .next (finish e stOk 0 i [] s1) :=
  perform_done hs (by simp [htable, hbridge, Nat.not_lt.mpr hkind, howns, hput, okResult])

theorem exec_tableWrite_of_badBridge (hs : startable 0x0804 none h e s) (htable : p.table.val = 8)
    (hbridge : serviceKind p.key.toNat = 1) (hbad : bridgeOk h p.key.toNat p.data.toNat s = false) :
    exec (.tableWrite h p) s = .next (finish e stRefused 0x0802 0 [] s) :=
  perform_done hs (by simp [htable, hbridge, hbad, refuse])

theorem exec_tableRead_of_learnTable {x : LearnEntry} (hs : startable 0x0805 none h e s) (htable : p.table.val < 8)
    (howns : ownsDomain h (p.key.toNat / 2 ^ 48 % 4096) s = true) (hserves : inService p.table.val s = true)
    (hfound : findLearn p.table.val (p.key.toNat % 2 ^ 60) s = some (i, x)) :
    exec (.tableRead h p) s = .next (finish e stOk 0 0 (le 16 x.key ++ le 16 (learnData x)) s) := by
  have hservice : p.table.val ≠ 8 := by omega
  have hevery : p.table.val ≠ 9 := by omega
  exact perform_done hs (by
    simp [hservice, hevery, howns, failedTable_of_serving hserves, hfound, okResp, entryPair, -Nat.reducePow])

theorem exec_tableDelete_of_serviceTable (hs : startable 0x0806 none h e s) (htable : p.table.val = 8)
    (hfound : serviceIndex p.key.toNat s = some i) (howns : ownsAll h (heldDomains p.key.toNat s) s = true) :
    exec (.tableDelete h p) s = .next (finish e stOk 0 0 [] (setService (noteTables s) i none)) :=
  perform_done hs (by simp [htable, hfound, howns, okay])

theorem exec_tableDelete_of_failedPipeline (hs : startable 0x0806 none h e s) (htable : p.table.val < 8)
    (howns : ownsDomain h (p.key.toNat / 2 ^ 48 % 4096) s = true) (hfailed : inService p.table.val s = false) :
    exec (.tableDelete h p) s = .next (finish e stFaulted 0x0807 0 [] s) := by
  have hservice : p.table.val ≠ 8 := by omega
  exact perform_done hs (by simp [hservice, howns, failedTable, htable, hfailed, -Nat.reducePow])

/-- No entry of the learn tables and none of the service table names the domain. -/
def namesNowhere (d : Nat) (s : State) : Prop :=
  (∀ x ∈ s.pe.learned, ∀ y, x.2 = some y → y.key / 2 ^ 48 ≠ d) ∧ ∀ x ∈ s.pe.service, serviceOf d x.2 = false

theorem exec_tableFlush_of_owner {d : Fin 4096} (hs : startable 0x080B none h e s) (howns : ownsDomain h d.val s = true) :
    ∃ s', exec (.tableFlush h d false) s = .next (finish e stOk 0 0 [] s') ∧ namesNowhere d.val s' := by
  refine ⟨_, perform_done hs (if_neg (by simp [howns])), fun x hx y hy => ?learned, fun x hx => ?service⟩
  case learned =>
    have hkept := (List.mem_filter.1 hx).2
    simpa [hy] using hkept
  case service =>
    have hkept := (List.mem_filter.1 hx).2
    simpa using hkept

end

/-! ## The TBL_CMD window (R332–R334) -/

@[simp] theorem tablePage_setTablePage_same (s : State) (t : Nat) (v : TablePage) : tablePage (setTablePage s t v) t = v :=
  tget_tset_same _ _ _ _

theorem noteTables_pages (s : State) : (noteTables s).pe.pages = s.pe.pages := by
  unfold noteTables
  split <;> rfl

theorem insertLearn_pages (p : Nat) (e : LearnEntry) (s : State) : (insertLearn p e s).2.pe.pages = s.pe.pages := by
  unfold insertLearn
  split <;> rfl

theorem insertService_pages (key data : Nat) (s : State) : (insertService key data s).2.pe.pages = s.pe.pages := by
  unfold insertService
  split <;> rfl

theorem removeLearn_pages (p key : Nat) (s : State) : (removeLearn p key s).2.pe.pages = s.pe.pages := by
  unfold removeLearn
  extract_lets b
  split <;> rfl

/-- An operation is under way on the page and is counted there. -/
def operationStarted (t : Nat) (s s' : State) : Prop :=
  (tablePage s' t).busy.isSome = true ∧ (tablePage s' t).ops = ((tablePage s t).ops + 1) % 2 ^ 16

/-- An operation starts with whatever the tables have become by it. -/
theorem operationStarted_startOp {s u : State} (hpages : u.pe.pages = s.pe.pages) (t result index key data : Nat) :
    operationStarted t s (startOp t result index key data u) := by
  have hpage : tablePage u t = tablePage s t := by rw [tablePage, tablePage, hpages]
  simp [operationStarted, startOp, hpage]

section

variable {f : PciFn} {t : Nat} {s : State} (hup : windowsDown s = false) (hpf : isPf f = true)
  (hserves : t < 8 → inService t s = true ∧ (cup s (68 + t)).state = .active)

include hup hpf hserves

/-- A PF's write reaches a page that serves as it stands: no cupola has to be woken. -/
theorem onTable_of_serving (op : State → State) : onTable f t op s =
    if (tablePage s t).busy.isSome then setTablePage s t { tablePage s t with result := resDiscarded } else op s := by
  have hopen : ¬ (t < 8 ∧ (inService t s = false ∨ (cup s (68 + t)).state = .fenced)) := by
    rintro ⟨ht, hdown⟩
    simp [hserves ht] at hdown
  have hawake : ¬ (t < 8 ∧ (cup s (68 + t)).state ≠ .active) := fun ⟨ht, hasleep⟩ => hasleep (hserves ht).2
  simp only [onTable, hup, hpf, if_neg hopen, if_neg hawake, Bool.not_true, Bool.false_eq_true, if_false]

theorem onTable_of_free (hfree : (tablePage s t).busy = none) (op : State → State) : onTable f t op s = op s := by
  rw [onTable_of_serving hup hpf hserves, hfree]
  rfl

theorem onTable_of_busy {x : Nat × Nat × Nat × Nat} (hbusy : (tablePage s t).busy = some x) (op : State → State) :
    onTable f t op s = setTablePage s t { tablePage s t with result := resDiscarded } := by
  rw [onTable_of_serving hup hpf hserves, hbusy]
  rfl

end

theorem exec_tblRead (f : PciFn) (t : Fin 9) (s : State) : exec (.tblRead f t) s = execTblRead f t s := rfl
theorem exec_tblSearch (f : PciFn) (t : Fin 9) (s : State) : exec (.tblSearch f t) s = execTblSearch f t s := rfl
theorem exec_tblInsert (f : PciFn) (t : Fin 9) (s : State) : exec (.tblInsert f t) s = execTblInsert f t s := rfl
theorem exec_tblDelete (f : PciFn) (t : Fin 9) (s : State) : exec (.tblDelete f t) s = execTblDelete f t s := rfl
theorem exec_tableOperationComplete (t : Fin 9) (s : State) :
    exec (.tableOperationComplete t) s = execTableOperationComplete t s := rfl

section

variable {f : PciFn} {t : Fin 9} {s : State} (hup : windowsDown s = false) (hpf : isPf f = true)
  (hserves : t.val < 8 → inService t.val s = true ∧ (cup s (68 + t.val)).state = .active)

include hup hpf hserves

section

variable (hfree : (tablePage s t.val).busy = none)

include hfree

theorem exec_tblRead_starts : ∃ s', exec (.tblRead f t) s = .next s' ∧ operationStarted t.val s s' := by
  refine ⟨_, rfl, ?_⟩
  rw [onTable_of_free hup hpf hserves hfree]
  dsimp only
  repeat' split
  all_goals exact operationStarted_startOp rfl ..

theorem exec_tblSearch_starts : ∃ s', exec (.tblSearch f t) s = .next s' ∧ operationStarted t.val s s' := by
  refine ⟨_, rfl, ?_⟩
  rw [onTable_of_free hup hpf hserves hfree]
  dsimp only
  repeat' split
  all_goals exact operationStarted_startOp rfl ..

theorem exec_tblInsert_starts : ∃ s', exec (.tblInsert f t) s = .next s' ∧ operationStarted t.val s s' := by
  have hlearn (x : LearnEntry) : (insertLearn t.val x (noteTables s)).2.pe.pages = s.pe.pages :=
    (insertLearn_pages ..).trans (noteTables_pages s)
  have hservice (key data : Nat) : (insertService key data (noteTables s)).2.pe.pages = s.pe.pages :=
    (insertService_pages ..).trans (noteTables_pages s)
  refine ⟨_, rfl, ?_⟩
  rw [onTable_of_free hup hpf hserves hfree]
  dsimp only
  split
  case isTrue =>
    split
    · exact operationStarted_startOp rfl ..
    · split <;> exact operationStarted_startOp (hlearn _) ..
  case isFalse =>
    split
    · exact operationStarted_startOp rfl ..
    · split <;> exact operationStarted_startOp (hservice ..) ..

theorem exec_tblDelete_starts : ∃ s', exec (.tblDelete f t) s = .next s' ∧ operationStarted t.val s s' := by
  have hlearn {key : Nat} {found : Bool} {u : State} (hremoved : removeLearn t.val key (noteTables s) = (found, u)) :
      u.pe.pages = s.pe.pages := by
    have hu : u = (removeLearn t.val key (noteTables s)).2 := by rw [hremoved]
    rw [hu, removeLearn_pages, noteTables_pages]
  refine ⟨_, rfl, ?_⟩
  rw [onTable_of_free hup hpf hserves hfree]
  dsimp only
  split
  case isTrue =>
    split
    · exact operationStarted_startOp rfl ..
    · split
      case h_1 hremoved => exact operationStarted_startOp (hlearn hremoved) ..
      case h_2 hremoved => exact operationStarted_startOp (hlearn hremoved) ..
  case isFalse =>
    split
    · exact operationStarted_startOp rfl ..
    · split
      · exact operationStarted_startOp rfl ..
      · split
        · exact operationStarted_startOp (noteTables_pages s) ..
        · exact operationStarted_startOp rfl ..

end

theorem exec_tblInsert_of_busy {x : Nat × Nat × Nat × Nat} (hbusy : (tablePage s t.val).busy = some x) :
    exec (.tblInsert f t) s = .next (setTablePage s t.val { tablePage s t.val with result := resDiscarded }) :=
  congrArg Host.Outcome.next (onTable_of_busy hup hpf hserves hbusy _)

theorem exec_tblDelete_of_busy {x : Nat × Nat × Nat × Nat} (hbusy : (tablePage s t.val).busy = some x) :
    exec (.tblDelete f t) s = .next (setTablePage s t.val { tablePage s t.val with result := resDiscarded }) :=
  congrArg Host.Outcome.next (onTable_of_busy hup hpf hserves hbusy _)

/-- An entry of a domain that no session of the PF owns is denied: the registers come back as they are (R334). -/
theorem exec_tblInsert_of_foreignDomain (hfree : (tablePage s t.val).busy = none) (htable : t.val < 8)
    (hforeign : fnOwnsDomain (pciKey f) ((tablePage s t.val).key.toNat / 2 ^ 48 % 4096) s = false) :
    exec (.tblInsert f t) s = .next (startOp t.val resDenied (tablePage s t.val).index
      (tablePage s t.val).key.toNat (tablePage s t.val).data.toNat s) := by
  rw [exec_tblInsert, execTblInsert, onTable_of_free hup hpf hserves hfree]
  simp [htable, ownsAllDomains, hforeign, -Nat.reducePow]

end

theorem exec_tableOperationComplete_of_busy {t : Fin 9} {s : State} {r i k d : Nat}
    (hbusy : (tablePage s t.val).busy = some (r, i, k, d)) :
    exec (.tableOperationComplete t) s = .next (setTablePage s t.val { tablePage s t.val with
      busy := none, result := r, index := i, key := BitVec.ofNat 128 k, data := BitVec.ofNat 128 d }) := by
  simp only [exec_tableOperationComplete, execTableOperationComplete, hbusy]

/-- Settles O26: each command by the table that it names, each write of the window by whether its page is BUSY. -/
theorem tableOperationsComplete : Obligations.TableOperationsComplete := by
  unfold Obligations.TableOperationsComplete
  refine ⟨fun _ _ _ _ _ _ hs htable howns hserves hput =>
      ⟨exec_tableWrite_of_learnTable hs htable howns hserves hput, learnEntry_of_insertLearn hput⟩,
    fun _ _ _ _ _ _ => exec_tableWrite_of_everyLearnTable, fun _ _ _ _ _ _ => exec_tableWrite_of_serviceTable,
    fun _ _ _ _ => exec_tableWrite_of_badBridge, fun _ _ _ _ _ _ => exec_tableRead_of_learnTable,
    fun _ _ _ _ _ hs htable hfound howns =>
      ⟨exec_tableDelete_of_serviceTable hs htable hfound howns, serviceEntry_setService_same ..⟩,
    fun _ _ _ _ => exec_tableDelete_of_failedPipeline, fun _ _ _ _ => exec_tableFlush_of_owner, ?starts, ?denied, ?discarded,
    fun _ _ _ _ _ _ => exec_tableOperationComplete_of_busy⟩
  case starts =>
    intro f t s hup hpf hfree hserves
    exact ⟨exec_tblRead_starts hup hpf hserves hfree, exec_tblSearch_starts hup hpf hserves hfree,
      exec_tblInsert_starts hup hpf hserves hfree, exec_tblDelete_starts hup hpf hserves hfree⟩
  case denied =>
    intro f t s hup hpf hfree hserves hawake hforeign
    exact exec_tblInsert_of_foreignDomain (t := t.castSucc) hup hpf (fun _ => ⟨hserves, hawake⟩) hfree t.isLt hforeign
  case discarded =>
    intro f t s x hup hpf hbusy hserves
    exact ⟨exec_tblInsert_of_busy hup hpf hserves hbusy, exec_tblDelete_of_busy hup hpf hserves hbusy⟩

end Sys2Proof.Machine
end

section
/-!
PROOFS of the packet engine chapter: placement of ports, domains and queues; the loss of a pipeline and its domain-tag intervals.
-/
namespace Sys2Proof.Machine

/-! ## PORT_PIPELINE_SET (R311) -/

@[simp] theorem portEnt_postService (port : Nat) (s : State) (q : Nat) : portEnt (postService port s) q = portEnt s q :=
  portEnt_of_pe (post_pe ..) q

/-- A port with the preference and the priority that PORT_PIPELINE_SET names. -/
def withPreference (p : PortPipeP) (e : PortEnt) : PortEnt :=
  { e with preferred := p.pipeline.map (fun x => x.val), remapPriority := some p.remapPriority.val }

/-- The port placed on the pipeline that it prefers; one that was UNSERVED is reported. -/
def placePreferred (p : PortPipeP) (x : Fin 8) (s : State) : State :=
  let s1 := setPortEnt s p.port { withPreference p (portEnt s p.port) with pipeline := some x.val, unserved := false }
  if (portEnt s p.port).unserved then postService p.port s1 else s1

theorem portEnt_placePreferred_same (p : PortPipeP) (x : Fin 8) (s : State) : portEnt (placePreferred p x s) p.port =
    { withPreference p (portEnt s p.port) with pipeline := some x.val, unserved := false } := by
  simp only [placePreferred]
  split
  · rw [portEnt_postService, portEnt_setPortEnt_same]
  · rw [portEnt_setPortEnt_same]

section

variable {h : Caller} {e : Held} {s : State} {p : PortPipeP} (hs : startable 0x0800 none h e s) (hport : portExists p.port = true)
  (howns : ownsPort h p.port s = true)

include hs hport howns

/-- A port that is disabled, that prefers no pipeline or one that has failed keeps its place. -/
theorem exec_portPipelineSet_of_staying
    (hstays : ∀ x, p.pipeline = some x → ¬ ((portEnt s p.port).enabled = true ∧ inService x.val s = true)) :
    exec (.portPipelineSet h p) s =
      .next (finish e stOk 0 0 [] (setPortEnt s p.port (withPreference p (portEnt s p.port)))) := by
  refine perform_done hs ?_
  simp only [hport, howns, Bool.not_true, Bool.false_eq_true, if_false]
  split
  case h_1 => rfl
  case h_2 x hx =>
    have hno := hstays x hx
    rw [if_pos (by simpa [Bool.or_eq_true, imp_iff_not_or] using hno)]
    rfl

theorem exec_portPipelineSet_of_room {x : Fin 8} (hx : p.pipeline = some x) (hon : (portEnt s p.port).enabled = true)
    (hserves : inService x.val s = true) (hroom : (portEnt s p.port).rate ≤ roomBut p.port x.val s) :
    exec (.portPipelineSet h p) s = .next (finish e stOk 0 0 [] (placePreferred p x s)) := by
  refine perform_done hs ?_
  simp only [hport, howns, hx, hon, hserves, if_neg (Nat.not_lt.mpr hroom), Bool.not_true, Bool.or_self, Bool.false_eq_true,
    if_false]
  simp [okay, placePreferred, withPreference, hx, hon]

end

/-! ## The other commands (R317, R320, R339, R340, R349) -/

section

variable {h : Caller} {e : Held} {s : State}

theorem exec_pipelineStatus_of_startable (p : Fin 8) (hs : startable 0x0801 none h e s) :
    exec (.pipelineStatus h p) s = .next (finish e stOk 0 0 (pipelineStatus p.val s) s) :=
  perform_done hs rfl

theorem length_pipelineStatus (p : Nat) (s : State) : (pipelineStatus p s).length = 64 := length_fields (by simp)

theorem exec_pipelineRestore_of_owner (p : Fin 8) (hs : startable 0x0802 none h e s) (howns : ownsDevice h s = true) :
    exec (.pipelineRestore h p) s = .next (if inService p.val s then finish e stEmpty 0 0 [] s
      else setPhase e (.running p.val) s) := by
  cases hserves : inService p.val s
  case true => exact perform_done hs (by simp [howns, hserves, emptyReply])
  case false => exact perform_later hs (by simp [howns, hserves])

/-- The configuration that DOMAIN_CONFIGURE's block names. -/
def namedDomainCfg (p : DomainP) : DomainCfg :=
  { learn := p.learn, floodUnknown := p.floodUnknown, floodMulticast := p.floodMulticast, flood := p.flood.map (fun q => q.val) }

def setDomainCfg (s : State) (d : Nat) (c : DomainCfg) : State :=
  { s with pe := { s.pe with domains := tset {} d c s.pe.domains } }

theorem domainCfg_setDomainCfg_same (s : State) (d : Nat) (c : DomainCfg) : domainCfg (setDomainCfg s d c) d = c :=
  tget_tset_same ..
theorem domainCfg_setDomainCfg_other {s : State} {d k : Nat} (c : DomainCfg) (hne : d ≠ k) :
    domainCfg (setDomainCfg s k c) d = domainCfg s d := tget_tset_other _ _ _ _ _ hne

theorem exec_domainConfigure_of_ownQueues {p : DomainP} (hs : startable 0x0803 none h e s)
    (hlen : h.blockLen = 64 + 64 * ((p.flood.length + 31) / 32)) (howns : ownsDomain h p.domain.val s = true)
    (hfits : p.flood.length ≤ 1024) (hqueues : ∀ q ∈ p.flood, queueDomain q.val s = some p.domain.val) :
    exec (.domainConfigure h p) s = .next (finish e stOk 0 0 [] (setDomainCfg s p.domain.val (namedDomainCfg p))) := by
  have hforeign : ¬ p.flood.any (fun q => decide (queueDomain q.val s ≠ some p.domain.val)) = true := by
    simpa [List.any_eq_true] using hqueues
  refine perform_done hs ?_
  rw [if_neg (not_not.mpr hlen), if_neg (by simp [howns]), if_neg (Nat.not_lt.mpr hfits), if_neg hforeign]
  rfl

/-- The learning parameters, 0 standing for the default of each (R349). -/
def learnParams (p : LearnP) : LearnCfg :=
  { ageScanMs := if p.ageScanMs = 0 then 20000 else p.ageScanMs, ageLimit := if p.ageLimit = 0 then 15 else p.ageLimit
    random := p.random, moveHoldMs := if p.moveHoldMs = 0 then 1000 else p.moveHoldMs }

theorem exec_learnConfigure_of_owner {p : LearnP} (hs : startable 0x0807 none h e s) (howns : ownsDevice h s = true)
    (hwf : p.wf = true) : exec (.learnConfigure h p) s =
      .next (finish e stOk 0 0 [] { s with pe := { s.pe with learn := learnParams p } }) :=
  perform_done hs (by simp [howns, hwf, okay, learnParams])

theorem exec_queueConfigure_of_empty {p : QueueP} (hs : startable 0x0808 none h e s)
    (howns : ownsDomain h p.domain.val s = true) (hown : foreignQueue h (queue s p.queue.val) s = false) (hwf : p.wf = true)
    (honDie : (queue s p.queue.val).onDie = []) (hdram : (queue s p.queue.val).dram = []) :
    exec (.queueConfigure h p) s = .next (finish e stOk 0 0 [] (setQueue s p.queue.val { queue s p.queue.val with
      cfg := some p, domTag := domainTag p.domain.val, shaper := shaperFull p.burstBytes s.now })) :=
  perform_done hs (by simp [howns, hown, hwf, honDie, hdram, okay])

theorem exec_queueStatus_of_pf (q : Fin 131072) (hs : startable 0x0809 none h e s) (hpf : isVf h.id.fn = false) :
    exec (.queueStatus h q) s = .next (finish e stOk 0 0 (queueStatus q.val s) s) :=
  perform_done hs (by simp [hpf, okResp])

theorem length_queueStatus (q : Nat) (s : State) : (queueStatus q s).length = 64 := by
  unfold queueStatus
  extract_lets v
  split
  · exact length_fields (by simp)
  · exact length_fields (by simp)

theorem exec_schedGroupConfigure_of_ownPort {p : GroupP} (hs : startable 0x080A none h e s) (howns : ownsPort h p.port s = true)
    (hwf : p.wf = true) (hport : portExists p.port = true) (helsewhere : groupElsewhere p.group.val p.port s = false) :
    exec (.schedGroupConfigure h p) s = .next (finish e stOk 0 0 [] (setGroup s p.group.val { group s p.group.val with
      cfg := some p, shaper := shaperFull p.burstBytes s.now })) :=
  perform_done hs (by simp [howns, hwf, hport, helsewhere, okay])

end

/-! ## A pipeline declared failed (R314) -/

theorem not_shallower_fenced (c : CupState) : ¬ cupCode .fenced < cupCode c := by cases c <;> decide

theorem getLsbD_bitOfPipe (p q : Nat) : (BitVec.ofNat 8 (2 ^ p)).getLsbD q = (decide (q < 8) && decide (p = q)) := by
  rw [BitVec.getLsbD_ofNat, Nat.testBit_two_pow]

/-- Fencing counts no wake, drops no learn entry and is always posted (R541). -/
theorem moveCup_fenced_eq {k : Nat} (reason : Nat) {s : State} (hup : (cup s k).state ≠ .fenced) :
    ∃ c payload, c.state = .fenced ∧ moveCup k .fenced reason s = post (0x480 + k) .info payload (setCup s k c) := by
  refine ⟨?cupola, ?payload, ?state, ?eq⟩
  case eq =>
    simp only [moveCup, if_neg hup, if_neg (not_shallower_fenced _), decide_true, Bool.or_true, Bool.true_or, if_true,
      reduceCtorEq, false_and, if_false]
    rfl
  case state => rfl

theorem cup_of_pwr {s u : State} (h : u.pwr = s.pwr) (k : Nat) : cup u k = cup s k := by rw [cup, cup, h]

theorem cup_setCup_same {s : State} {k : Nat} {c : Cupola} (hc : c.state ≠ .off) : cup (setCup s k c) k = c := by
  have hget : tget {} k (setCup s k c).pwr.cupolas = c := tget_tset_same ..
  simp [cup, hget, hc]

theorem moveCup_fenced_frame (k reason : Nat) (s : State) : (cup (moveCup k .fenced reason s) k).state = .fenced ∧
    (moveCup k .fenced reason s).pe = s.pe ∧ (moveCup k .fenced reason s).pwr.pl = s.pwr.pl := by
  by_cases hup : (cup s k).state = .fenced
  · rw [moveCup, if_pos hup]
    exact ⟨hup, rfl, rfl⟩
  · obtain ⟨c, payload, hc, hmoved⟩ := moveCup_fenced_eq reason hup
    rw [hmoved, cup_of_pwr (post_pwr ..), cup_setCup_same (by simp [hc]), post_pe, post_pwr]
    exact ⟨hc, rfl, rfl⟩

section

variable {p : Nat} (reason : Nat) {s : State} (hserves : inService p s = true)

include hserves

theorem failPipeline_of_serving : failPipeline p reason s =
    setPipe { moveCup (68 + p) .fenced 3 s with pe := { s.pe with failedPipes := s.pe.failedPipes ||| BitVec.ofNat 8 (2 ^ p) } } p
      { pipe s p with remap := some reason } := by
  have hpe : (moveCup (68 + p) .fenced 3 s).pe = s.pe := (moveCup_fenced_frame ..).2.1
  rw [failPipeline, if_neg (by simp [hserves])]
  simp only [hpe, pipe_of_pe hpe]

theorem failedPipes_failPipeline :
    (failPipeline p reason s).pe.failedPipes = s.pe.failedPipes ||| BitVec.ofNat 8 (2 ^ p) := by
  rw [failPipeline_of_serving reason hserves]
  rfl

theorem pipe_failPipeline_same : pipe (failPipeline p reason s) p = { pipe s p with remap := some reason } := by
  rw [failPipeline_of_serving reason hserves, pipe_setPipe_same]

theorem cup_failPipeline : (cup (failPipeline p reason s) (68 + p)).state = .fenced := by
  rw [failPipeline_of_serving reason hserves]
  exact (moveCup_fenced_frame ..).1

theorem pl_failPipeline : (failPipeline p reason s).pwr.pl = s.pwr.pl := by
  rw [failPipeline_of_serving reason hserves]
  exact (moveCup_fenced_frame ..).2.2

theorem inService_failPipeline_same (hp : p < 8) : inService p (failPipeline p reason s) = false := by
  rw [inService, failedPipes_failPipeline reason hserves, BitVec.getLsbD_or, getLsbD_bitOfPipe]
  simp [hp]

theorem inService_failPipeline_other {q : Nat} (hne : q ≠ p) : inService q (failPipeline p reason s) = inService q s := by
  rw [inService, failedPipes_failPipeline reason hserves, BitVec.getLsbD_or, getLsbD_bitOfPipe, inService]
  simp [hne.symm]

end

/-- Seven of the eight pipelines serve after a first failure. -/
theorem length_serving_of_oneFailed (p : Fin 8) :
    ((List.range 8).filter (fun q => !(BitVec.ofNat 8 (2 ^ p.val)).getLsbD q)).length = 7 := by
  revert p
  decide

theorem portBudget_failPipeline_of_first (p : Fin 8) (reason : Nat) {s : State} (hserves : inService p.val s = true)
    (hpl : s.pwr.pl = 0) (hfirst : s.pe.failedPipes = 0) : portBudget (failPipeline p.val reason s) = 11200 := by
  have hfailed : (failPipeline p.val reason s).pe.failedPipes = BitVec.ofNat 8 (2 ^ p.val) := by
    simp [failedPipes_failPipeline reason hserves, hfirst]
  simp only [portBudget, servingPipes, inService, pl_failPipeline reason hserves, hpl, hfailed, length_serving_of_oneFailed]
  rfl

theorem exec_pipelineWatchdog (p : Fin 8) (s : State) : exec (.pipelineWatchdog p) s = .next (failPipeline p.val 2 s) := rfl
theorem exec_pipelineMemoryError (p : Fin 8) (s : State) : exec (.pipelineMemoryError p) s = .next (failPipeline p.val 3 s) := rfl

/-! ## Remap (R315, R316) -/

@[simp] theorem postServiceChanges_pe (s0 s : State) : (postServiceChanges s0 s).pe = s.pe :=
  foldl_keeps (·.pe) _ (fun _ _ => post_pe ..) _ _

theorem exec_pipelineRemapComplete (p : Fin 8) (s : State) :
    exec (.pipelineRemapComplete p) s = execPipelineRemapComplete p s := rfl

theorem exec_pipelineRemapComplete_of_due {p : Fin 8} {s : State} {reason : Nat} (hdue : (pipe s p.val).remap = some reason) :
    ∃ s', exec (.pipelineRemapComplete p) s = .next s' ∧ (pipe s' p.val).remap = none := by
  rw [exec_pipelineRemapComplete, execPipelineRemapComplete, hdue]
  refine ⟨_, rfl, ?_⟩
  rw [pipe_of_pe (post_pe ..), pipe_of_pe (postServiceChanges_pe ..), pipe_setPipe_same]

theorem mem_insertBy {lt : Nat → Nat → Bool} {x y : Nat} {l : List Nat} (hx : x ∈ insertBy lt y l) : x = y ∨ x ∈ l := by
  induction l with
  | nil => simpa [insertBy] using hx
  | cons z l ih =>
    unfold insertBy at hx
    split at hx
    · simpa using hx
    · rcases List.mem_cons.1 hx with rfl | hx
      · simp
      · rcases ih hx with rfl | hx <;> simp [*]

/-- Sorting a list by insertion brings nothing in. -/
theorem mem_foldl_insertBy {lt : Nat → Nat → Bool} {x : Nat} {l acc : List Nat}
    (hx : x ∈ l.foldl (fun acc y => insertBy lt y acc) acc) : x ∈ acc ∨ x ∈ l := by
  induction l generalizing acc with
  | nil => exact .inl hx
  | cons y l ih =>
    rcases ih hx with hacc | hl
    · rcases mem_insertBy hacc with rfl | hacc
      · simp
      · exact .inl hacc
    · simp [hl]

theorem mem_takeUntil {s : State} {need freed x : Nat} {l acc r : List Nat} (hr : takeUntil s need acc freed l = some r)
    (hx : x ∈ r) : x ∈ acc ∨ x ∈ l := by
  induction l generalizing acc freed with
  | nil =>
    unfold takeUntil at hr
    split at hr
    · cases hr
      exact .inl hx
    · cases hr
  | cons y l ih =>
    unfold takeUntil at hr
    split at hr
    · cases hr
      exact .inl hx
    · rcases ih hr with hacc | hl
      · rcases List.mem_append.1 hacc with hacc | hy
        · exact .inl hacc
        · simp [List.mem_singleton.1 hy]
      · simp [hl]

theorem remapOf_lt_of_displaced {port p : Nat} {s : State} {l : List Nat} (hl : displacedFrom port p s = some l) {x : Nat}
    (hx : x ∈ l) : remapOf port s < remapOf x s := by
  have hcandidate := (mem_foldl_insertBy ((mem_takeUntil hl hx).resolve_left (List.not_mem_nil))).resolve_left (List.not_mem_nil)
  exact of_decide_eq_true (List.mem_filter.1 hcandidate).2

/-! ## Domain-tag intervals (R202, R205, R536) -/

@[simp] theorem setDtFenced_pe (p : Nat) (b : Bool) (s : State) : (setDtFenced p b s).pe = s.pe := by
  unfold setDtFenced
  split
  · rfl
  · exact post_pe ..

/-- A pipeline's domain-tag interval: since when, the discards in it, the successive intervals with discards. -/
def intervalOf (v : Pipeline) : Nat × Nat × Nat := (v.dtSince, v.dtCount, v.dtRun)

theorem intervalOf_fenceDomainTag (p : Nat) (s : State) :
    intervalOf (pipe (fenceDomainTag p s) p) = intervalOf (pipe s p) := by
  unfold fenceDomainTag
  split
  case isTrue hserves =>
    have hpe : (setDtFenced p true s).pe = s.pe := setDtFenced_pe ..
    rw [pipe_failPipeline_same 1 ((inService_of_pe hpe p).trans hserves), pipe_of_pe hpe]
    rfl
  case isFalse => rfl

theorem exec_domainTagIntervalEnd (p : Fin 8) (s : State) : exec (.domainTagIntervalEnd p) s = execDomainTagIntervalEnd p s := rfl

theorem exec_domainTagIntervalEnd_of_due {p : Fin 8} {s : State} (hdue : (pipe s p.val).dtSince + 125000 ≤ s.now) :
    ∃ s', exec (.domainTagIntervalEnd p) s = .next s' ∧ intervalOf (pipe s' p.val) =
      (s.now, 0, if (pipe s p.val).dtCount = 0 then 0 else (pipe s p.val).dtRun + 1) := by
  have hbegun : pipe (setPipe s p.val { pipe s p.val with dtSince := s.now }) p.val = { pipe s p.val with dtSince := s.now } :=
    pipe_setPipe_same ..
  rw [exec_domainTagIntervalEnd, execDomainTagIntervalEnd]
  simp only [hbegun, if_neg (Nat.not_lt.mpr hdue)]
  split
  case isTrue hnone =>
    refine ⟨_, rfl, ?_⟩
    rw [pipe_setPipe_same, intervalOf, hnone]
  case isFalse =>
    split
    case isTrue =>
      refine ⟨_, rfl, ?_⟩
      rw [intervalOf_fenceDomainTag, pipe_of_pe (post_pe ..), pipe_setPipe_same]
      rfl
    case isFalse =>
      refine ⟨_, rfl, ?_⟩
      rw [pipe_of_pe (post_pe ..), pipe_setPipe_same]
      rfl

/-- Settles O25: the commands by what each replies; a failure by what `failPipeline` leaves; displacement by the candidates. -/
theorem packetEngineCommandsAndLoss : Obligations.PacketEngineCommandsAndLoss := by
  unfold Obligations.PacketEngineCommandsAndLoss
  refine ⟨?placement, fun _ p _ _ hs => ⟨_, exec_pipelineStatus_of_startable p hs, length_pipelineStatus ..⟩,
    fun _ p _ _ => exec_pipelineRestore_of_owner p, ?domain,
    fun _ _ _ _ hs howns hwf => ⟨_, exec_learnConfigure_of_owner hs howns hwf, rfl⟩,
    fun _ _ _ _ => exec_queueConfigure_of_empty,
    fun _ q _ _ hs hpf => ⟨_, exec_queueStatus_of_pf q hs hpf, length_queueStatus ..⟩,
    fun _ _ _ _ => exec_schedGroupConfigure_of_ownPort, ?watchdog, ?memoryError,
    fun _ _ _ => exec_pipelineRemapComplete_of_due, fun _ _ _ _ hl _ => remapOf_lt_of_displaced hl,
    ?interval⟩
  case placement =>
    intro h p e s hs hport howns hroom
    by_cases hmoves : ∃ x, p.pipeline = some x ∧ (portEnt s p.port).enabled = true ∧ inService x.val s = true
    · obtain ⟨x, hx, hon, hserves⟩ := hmoves
      refine ⟨_, exec_portPipelineSet_of_room hs hport howns hx hon hserves (hroom x hx hserves), ?_⟩
      rw [portEnt_placePreferred_same]
      exact ⟨rfl, rfl, fun y hy _ _ => ⟨by rw [Option.some.inj (hx.symm.trans hy)], rfl⟩⟩
    · have hstays : ∀ x, p.pipeline = some x → ¬ ((portEnt s p.port).enabled = true ∧ inService x.val s = true) :=
        fun x hx hboth => hmoves ⟨x, hx, hboth⟩
      refine ⟨_, exec_portPipelineSet_of_staying hs hport howns hstays, ?_⟩
      rw [portEnt_setPortEnt_same]
      exact ⟨rfl, rfl, fun x hx hon hserves => absurd ⟨hon, hserves⟩ (hstays x hx)⟩
  case domain =>
    intro h p e s hs hlen howns hfits hqueues
    exact ⟨_, exec_domainConfigure_of_ownQueues hs hlen howns hfits hqueues, domainCfg_setDomainCfg_same ..,
      fun d hne => domainCfg_setDomainCfg_other _ hne⟩
  case watchdog =>
    intro p s hserves
    exact ⟨_, exec_pipelineWatchdog p s, inService_failPipeline_same 2 hserves p.isLt, cup_failPipeline 2 hserves,
      by rw [pipe_failPipeline_same 2 hserves], portBudget_failPipeline_of_first p 2 hserves,
      fun q _ hne => inService_failPipeline_other 2 hserves hne⟩
  case memoryError =>
    intro p s hserves
    exact ⟨_, exec_pipelineMemoryError p s, inService_failPipeline_same 3 hserves p.isLt, cup_failPipeline 3 hserves,
      by rw [pipe_failPipeline_same 3 hserves]⟩
  case interval =>
    intro p s hdue
    simpa only [intervalOf, Prod.mk.injEq] using exec_domainTagIntervalEnd_of_due hdue

end Sys2Proof.Machine
end

section
/-!
PROOFS of the packet engine chapter: packets at ingress, at egress and in the spill partition.
-/
namespace Sys2Proof.Machine

/-! ## Ingress of a client port (R318) -/

theorem exec_packetIngress (pk : PacketIn) (s : State) : exec (.packetIngress pk) s = execPacketIngress pk s := rfl

theorem exec_packetIngress_eq (pk : PacketIn) (s : State) : exec (.packetIngress pk) s = .next (if arrivalAwaits s = true then
    { s with pe := { s.pe with ingressDue := s.pe.ingressDue ++ [pk] } } else ingress pk (portBoundary pk.port s)) := by
  rw [exec_packetIngress, execPacketIngress]
  split <;> rfl

theorem meterPacket_pe (port : Nat) (egress : Bool) (bytes : Nat) (s : State) : (meterPacket port egress bytes s).pe = s.pe := rfl

theorem needsVerified_meterPacket (port bytes : Nat) (egress : Bool) (s : State) (q : Nat) :
    needsVerified q (meterPacket port egress bytes s) = needsVerified q s := rfl

/-- Lookups do not see that a packet was metered. -/
theorem findService_lookupView_meterPacket (key port bytes : Nat) (egress : Bool) (s : State) :
    findService key (lookupView (meterPacket port egress bytes s)) = findService key (lookupView s) := by
  unfold lookupView
  rw [meterPacket_pe, show (meterPacket port egress bytes s).now = s.now from rfl]
  split <;> rfl

/-- A classified packet goes on to lookup; one that is not is counted at its port, and its buffer returns. -/
def takeClassified (p : Nat) (pk : PacketIn) : State × Option Ingress → State
  | (s, some g) => forward g pk.tributary s
  | (s, none) => freeBuffer p pk.bufPtr 0 (count 0x014 pk.port 1 untagged s)

section

variable {pk : PacketIn} {s : State} {p : Nat} (hserves : portServes pk.port s = true)
  (hpipe : (portEnt s pk.port).pipeline = some p) (hfirst : 0x80 ≤ pk.port) (hlen : pk.length ≤ 16352)
  (hparity : pk.parity = []) (hclear : needsVerified pk.port s = false) (hclient : isFabricPort pk.port = false)

include hserves hpipe hfirst hlen hparity hclear hclient

/-- A client port's packet is metered, classified, and taken on as its class says. -/
theorem ingress_of_clientPort :
    ingress pk s = takeClassified p pk (classifyEntry p pk (meterPacket pk.port false pk.length s)) := by
  have hline : ¬ (0x40 ≤ pk.port ∧ pk.port < 0x44) := by omega
  have htree : ¬ pk.port < 0x40 := by omega
  simp only [ingress, hserves, hpipe, hline, hparity, htree, Nat.not_lt.mpr hlen, needsVerified_meterPacket, hclear, takeVerified,
    hclient, decide_false, Bool.not_true, Bool.false_and, Bool.false_eq_true, if_false, List.foldl_nil]
  rfl

theorem ingress_of_noEntry (hnone : findService (classKey pk.port 0 pk.vlan) (lookupView s) = none) :
    (ingress pk s).pe.queues = s.pe.queues ∧ (pipe (ingress pk s) p).noDomain = satur 64 ((pipe s p).noDomain + 1) := by
  have hline : ¬ pk.port < 0x44 := by omega
  have hclass : classifyEntry p pk (meterPacket pk.port false pk.length s) =
      (setPipe (meterPacket pk.port false pk.length s) p
        { pipe s p with noDomain := satur 64 ((pipe s p).noDomain + 1) }, none) := by
    simp only [classifyEntry, if_neg hline, findService_lookupView_meterPacket, hnone, pipe_of_pe (meterPacket_pe ..)]
  have hpe (u : State) : (takeClassified p pk (u, none)).pe = u.pe := (freeBuffer_pe ..).trans (count_pe ..)
  rw [ingress_of_clientPort hserves hpipe hfirst hlen hparity hclear hclient, hclass, pipe_of_pe (hpe _), hpe, pipe_setPipe_same]
  exact ⟨rfl, rfl⟩

theorem ingress_of_entry {i : Nat} {x : ServiceEntry}
    (hfound : findService (classKey pk.port 0 pk.vlan) (lookupView s) = some (i, x)) :
    ∃ g, ingress pk s = forward g pk.tributary (meterPacket pk.port false pk.length s) ∧ g.pipeline = p ∧
      g.packet.tag = domainTag (x.data % 4096) ∧ g.packet.length = pk.length := by
  have hline : ¬ pk.port < 0x44 := by omega
  obtain ⟨g, hclass, hg⟩ : ∃ g, classifyEntry p pk (meterPacket pk.port false pk.length s) =
      (meterPacket pk.port false pk.length s, some g) ∧
        g.pipeline = p ∧ g.packet.tag = domainTag (x.data % 4096) ∧ g.packet.length = pk.length := by
    simp only [classifyEntry, if_neg hline, findService_lookupView_meterPacket, hfound]
    exact ⟨_, rfl, rfl, rfl, rfl⟩
  refine ⟨g, ?_, hg⟩
  rw [ingress_of_clientPort hserves hpipe hfirst hlen hparity hclear hclient, hclass]
  rfl

end

/-! ## Egress (R202, R340) -/

theorem exec_packetEgress (port : Nat) (upset qUpset : BitVec 14) (ok : Bool) (s : State) :
    exec (.packetEgress port upset qUpset ok) s = execPacketEgress port upset qUpset ok s := rfl

theorem exec_packetEgress_of_transmits {port p : Nat} {s : State} (upset qUpset : BitVec 14) (ok : Bool)
    (hpipe : (portEnt (portBoundary port s) port).pipeline = some p)
    (htransmits : portTransmits port (portBoundary port s) = true)
    (hclient : isFabricPort port = false) : exec (.packetEgress port upset qUpset ok) s =
      .next (servePort port p upset qUpset ok (portBoundary port s)) := by
  simp [exec_packetEgress, execPacketEgress, hpipe, htransmits, hclient]

/-- What leaves on the port of a packet that its cipher has released, dropped, or ended short. -/
def leaveSealed (port q : Nat) (pk : Packet) : State × Ciphered → State
  | (s, .released) => transmit port q pk s
  | (s, .ended) => transmit port q { pk with stomped := true } s
  | (s, .dropped) => s

section

variable {port q : Nat} {s s1 s2 s3 : State} {pk : Packet} {held tag upset qUpset : BitVec 14}
  (hscheduled : schedule port s = some (q, s1)) (htaken : takePacket q s1 = some (pk, s2))
  (hheld : held = (queue s q).domTag ^^^ qUpset) (htag : tag = pk.tag ^^^ upset)
  (hs3 : s3 = freeBuffer 0x10 pk.buffer 0 (setQueue s2 q { queue s2 q with domTag := held }))

include hscheduled htaken hheld htag hs3

/-- The packet at the head of the scheduled queue leaves where its tag agrees with the queue's, and is discarded elsewhere. -/
theorem servePort_of_taken (p : Nat) (ok : Bool) : servePort port p upset qUpset ok s =
    if tagAgrees held tag then leaveSealed port q pk (sealPacket port q ok (chargePacket q pk s3))
    else discardTag p (tagDomain held) (tagDomain tag) q (!tagParityOk tag || !tagParityOk held) s3 := by
  simp only [servePort, hscheduled, htaken, ← hheld, ← htag, ← hs3]
  cases tagAgrees held tag <;> rfl

end

/-! ## Read-back (R343, R344) -/

@[simp] theorem giveBuffer_pe (r ptr owner ecc : Nat) (s : State) : (giveBuffer r ptr owner ecc s).pe = s.pe := by
  refine pe_of_treesAndQueues (onBuffer_treesAndQueues (fun q u => ?_) r ptr ecc s)
  dsimp only
  split
  · exact reject_treesAndQueues ..
  · rfl

theorem exec_spillReadback (q : Fin 65536) (s : State) : exec (.spillReadback q) s = execSpillReadback q s := rfl

/-- A queue with its oldest packet in DRAM back on die, in the buffer that was had for it. -/
def withReadBack (x : Packet) (rest : List Packet) (ptr : Nat) (v : Queue) : Queue :=
  { v with dram := rest, spilling := !rest.isEmpty, onDie := v.onDie ++ [{ x with buffer := ptr, cut := false }] }

theorem exec_spillReadback_of_room {q : Fin 65536} {s s1 : State} {c : QueueP} {x : Packet} {rest : List Packet} {ptr : Nat}
    (hcfg : (queue s q.val).cfg = some c) (hdram : (queue s q.val).dram = x :: rest)
    (hbelow : 2 * bytesOf (queue s q.val).onDie < c.spillThreshold) (hgood : (queue s q.val).poisoned = false)
    (hbuffer : tryAlloc 0x11 0 true 4 (mappedPool 0x11 (classFor x.length) s) s = (.inl ptr, s1)) :
    ∃ s', exec (.spillReadback q) s = .next s' ∧ queue s' q.val = withReadBack x rest ptr (queue s1 q.val) := by
  have hroom : ¬ (c.spillThreshold ≠ 0 ∧ c.spillThreshold ≤ 2 * bytesOf (queue s q.val).onDie) := by omega
  simp only [exec_spillReadback, execSpillReadback, hcfg, hdram, if_neg hroom, hgood, hbuffer, Bool.false_eq_true, if_false]
  refine ⟨_, rfl, ?_⟩
  rw [queue_setQueue_same, queue_of_pe (count_pe ..), unspill, queue_setQueue_same, queue_of_pe (giveBuffer_pe ..)]
  rfl

/-- Settles O28: ingress by what classifies the packet, egress by the check of its tag, the read-back by what its queue
becomes. -/
theorem packetsMove : Obligations.PacketsMove := by
  unfold Obligations.PacketsMove
  refine ⟨exec_packetIngress_eq, ?unclassified, ?classified, ?transmits, ?egress, ?readBack⟩
  case unclassified =>
    intro pk s p hserves hpipe hfirst _ hlen hparity hclear hclient hnone
    exact ingress_of_noEntry hserves hpipe hfirst hlen hparity hclear hclient hnone
  case classified =>
    intro pk s p i x hserves hpipe hfirst _ hlen hparity hclear hclient hfound
    exact ingress_of_entry hserves hpipe hfirst hlen hparity hclear hclient hfound
  case transmits =>
    intro port upset qUpset ok s p
    exact exec_packetEgress_of_transmits upset qUpset ok
  case egress =>
    intro port p upset qUpset ok s q s1 pk s2 s3 held tag hscheduled htaken hheld htag hs3
    rw [servePort_of_taken hscheduled htaken hheld htag hs3]
    refine ⟨fun hdisagrees => if_neg (by simp [hdisagrees]), fun s4 hagrees hsealed => ?released,
      fun s4 hagrees hsealed => ?dropped⟩
    case released | dropped =>
      rw [if_pos hagrees, hsealed]
      rfl
  case readBack =>
    intro q s c x rest ptr s1 hcfg hdram hbelow hgood hbuffer
    obtain ⟨s', hs', hqueue⟩ := exec_spillReadback_of_room hcfg hdram hbelow hgood hbuffer
    exact ⟨s', hs', by rw [hqueue]; rfl, by rw [hqueue]; rfl, by rw [hqueue]; rfl⟩

end Sys2Proof.Machine
end

section
/-!
PROOFS of the buffer pools chapter: the pool commands, and the operations on buffers, alone and in their cycle.
-/
namespace Sys2Proof.Machine

/-! ## What leaves the pool manager as it was -/

theorem pool_of_pools {s u : State} (h : u.pool = s.pool) (q : Nat) : pool u q = pool s q := by rw [pool, pool, h]
theorem header_of_headers {s u : State} (h : u.pool.headers = s.pool.headers) (ptr : Nat) : header u ptr = header s ptr := by
  rw [header, header, h]

@[simp] theorem post_pool (src : Nat) (cls : EvClass) (payload : Nat) (s : State) : (post src cls payload s).pool = s.pool := by
  obtain ⟨ev, out, msix, h⟩ := post_frame src cls payload s
  rw [h]

@[simp] theorem count_pool (ev inst n : Nat) (domain : Option Nat) (s : State) : (count ev inst n domain s).pool = s.pool := by
  unfold count
  split
  · rfl
  · exact foldl_keeps (·.pool) _ (fun _ _ => by rfl) _ _

@[simp] theorem markPost_pool (key : Nat) (s : State) : (markPost key s).pool = s.pool := rfl
@[simp] theorem addUnreported_pool (key n : Nat) (s : State) : (addUnreported key n s).pool = s.pool := rfl

/-! ## Pools, headers and the map: a read after a write -/

@[simp] theorem pool_setPool_same (s : State) (q : Nat) (v : Pool) : pool (setPool s q v) q = v := tget_tset_same ..
@[simp] theorem setPool_headers (s : State) (q : Nat) (v : Pool) : (setPool s q v).pool.headers = s.pool.headers := rfl
@[simp] theorem setPool_held (s : State) (q : Nat) (v : Pool) : (setPool s q v).pool.held = s.pool.held := rfl
@[simp] theorem header_setHeader_same (s : State) (ptr : Nat) (h : Header) : header (setHeader s ptr h) ptr = h :=
  tget_tset_same ..

theorem mappedPool_setMapEntry_same (r c i : Nat) (s : State) : mappedPool r c (setMapEntry r c i s) = c * 4 + i :=
  congrArg (c * 4 + ·) (tget_tset_same ..)
theorem mappedPool_setMapEntry_other {c k : Nat} (r i : Nat) (s : State) (hne : c ≠ k) :
    mappedPool r c (setMapEntry r k i s) = mappedPool r c s :=
  congrArg (c * 4 + ·) (tget_tset_other _ _ _ _ _ (by omega))

/-! ## The judging of a pool (R364, R370, R374) -/

@[simp] theorem judgePool_headers (q : Nat) (s : State) : (judgePool q s).pool.headers = s.pool.headers := by
  unfold judgePool
  split <;> rfl

/-- Of its pool, judging writes LEVEL and LOW_WATER. -/
theorem pool_judgePool_same (q : Nat) (s : State) :
    ∃ level lowWater, pool (judgePool q s) q = { pool s q with level := level, lowWater := lowWater } := by
  unfold judgePool
  split
  · exact ⟨(pool s q).level, (pool s q).lowWater, rfl⟩
  · exact ⟨_, _, pool_setPool_same ..⟩

/-! ## The commands of range 0x09 (R373, R374) -/

section

variable {h : Caller} {e : Held} {s : State}

/-- The pool judged takes `v` in, whose configuration is the one given with BP_HOLD at its default where it is 0. -/
theorem exec_poolConfigure_of_unallocated {p : PoolP} (hs : startable 0x0900 none h e s) (howns : ownsDevice h s = true)
    (hhold : p.bpHold ≤ 1024) (hidle : allocated p.pool.val s = 0) (hfits : p.enable = true → extentOk p s = true) :
    ∃ v, exec (.poolConfigure h p) s = .next (finish e stOk 0 0 [] (judgePool p.pool.val (setPool s p.pool.val v))) ∧
      v.cfg = some { p with bpHold := if p.bpHold = 0 then 64 else p.bpHold } := by
  have hextent : (p.enable && !extentOk p s) = false := by
    cases henable : p.enable
    case false => rfl
    case true => simp [hfits henable]
  refine ⟨?pool, perform_done hs ?body, ?cfg⟩
  case body =>
    simp only [howns, if_neg (Nat.not_lt.mpr hhold), hidle, hextent, Nat.lt_irrefl, decide_false, Bool.and_false, Bool.not_true,
      Bool.false_eq_true, if_false]
    rfl
  case cfg => rfl

theorem exec_poolStatus_of_owner (q : Fin 16) (hs : startable 0x0901 none h e s) (howns : ownsDevice h s = true) :
    exec (.poolStatus h q) s = .next (finish e stOk 0 0 (poolStatus q.val s)
      (setPool s q.val { pool s q.val with lowWater := some (freeCount q.val s) })) :=
  perform_done hs (by simp [howns, okResp])

theorem length_poolStatus (q : Nat) (s : State) : (poolStatus q s).length = 64 := length_fields (by simp)

/-- The map with all four classes of a requester set. -/
def withMap (r : Nat) (c0 c1 c2 c3 : Fin 4) (s : State) : State :=
  setMapEntry r 3 c3.val (setMapEntry r 2 c2.val (setMapEntry r 1 c1.val (setMapEntry r 0 c0.val s)))

theorem exec_poolMapSet_of_requester {r : Nat} (c0 c1 c2 c3 : Fin 4) (hs : startable 0x0902 none h e s)
    (howns : ownsDevice h s = true) (hr : requesterOk r = true) :
    exec (.poolMapSet h r c0 c1 c2 c3) s = .next (finish e stOk 0 0 [] (withMap r c0 c1 c2 c3 s)) :=
  perform_done hs (by simp [howns, hr, okay, withMap])

theorem mappedPool_withMap (r : Nat) (c0 c1 c2 c3 : Fin 4) (s : State) :
    mappedPool r 0 (withMap r c0 c1 c2 c3 s) = c0.val ∧ mappedPool r 1 (withMap r c0 c1 c2 c3 s) = 4 + c1.val ∧
    mappedPool r 2 (withMap r c0 c1 c2 c3 s) = 8 + c2.val ∧ mappedPool r 3 (withMap r c0 c1 c2 c3 s) = 12 + c3.val := by
  simp [withMap, mappedPool_setMapEntry_same, mappedPool_setMapEntry_other]

/-- The pool's list built anew. -/
def rebuilt (v : Pool) : Pool := { v with freed := [], fresh := 0, quarantined := [], corrupt := false }

def rebuildPool (q : Nat) (s : State) : State := judgePool q (setPool s q (rebuilt (pool s q)))

theorem exec_poolRebuild_of_owner (q : Fin 16) (hs : startable 0x0903 none h e s) (howns : ownsDevice h s = true) :
    exec (.poolRebuild h q) s =
      .next (finish e stOk 0 (freeCount q.val (rebuildPool q.val s)) [] (rebuildPool q.val s)) :=
  perform_done hs (by simp [howns, okResult, rebuildPool, rebuilt])

theorem pool_rebuildPool (q : Nat) (s : State) :
    (pool (rebuildPool q s) q).corrupt = false ∧ (pool (rebuildPool q s) q).quarantined = [] := by
  obtain ⟨level, lowWater, hpool⟩ := pool_judgePool_same q (setPool s q (rebuilt (pool s q)))
  rw [rebuildPool, hpool, pool_setPool_same]
  exact ⟨rfl, rfl⟩

end

/-! ## Allocation (R361–R363, R371) -/

/-- The buffer handed out is its requester's, with one reference, whether or not the list goes on behind it. -/
theorem header_serveAlloc (q r : Nat) (listOk : Bool) (s : State) :
    header (serveAlloc q r listOk s).2 (serveAlloc q r listOk s).1 = { owner := r, refs := 1 } := by
  have hcounted (u : State) : (judgePool q (count 0x040 q 1 none u)).pool.headers = u.pool.headers := by simp
  simp only [serveAlloc]
  rw [header_of_headers (hcounted _)]
  cases listOk
  case true => simp
  case false =>
    simp only [Bool.false_eq_true, if_false]
    rw [header_of_headers (congrArg Pools.headers (post_pool ..)), header_of_headers (setPool_headers ..),
      header_setHeader_same]

/-- A pool that has returned EMPTY has counted it. -/
def countEmpty (q : Nat) (s : State) : State :=
  count 0x041 q 1 none (setPool s q { pool s q with emptyReturns := satur 32 ((pool s q).emptyReturns + 1) })

theorem countEmpty_held (q : Nat) (s : State) : (countEmpty q s).pool.held = s.pool.held := by
  rw [countEmpty, count_pool, setPool_held]

theorem judgeAlloc_of_admits {q priority : Nat} {s : State} (r : Nat) (listOk : Bool)
    (hadmits : admits (pool s q).level priority = true) (hfree : 0 < freeCount q s) :
    judgeAlloc r priority q listOk s = (some (serveAlloc q r listOk s).1, (serveAlloc q r listOk s).2) :=
  if_pos (by simp [hadmits, hfree])

theorem judgeAlloc_of_empty {q : Nat} {s : State} (r priority : Nat) (listOk : Bool) (hempty : freeCount q s = 0) :
    judgeAlloc r priority q listOk s = (none, countEmpty q s) := if_neg (by simp [hempty])

theorem spillUp_of_clear {q : Nat} {s : State} (r : Nat) (hclear : (poolCfg q s).spillUp = false) : spillUp r q s = none :=
  if_neg (by simp [hclear])

/-- Where an EMPTY pool passes a request on: to the pool `up`, or nowhere (R363). -/
def passOn (r priority : Nat) (listOk : Bool) (n q : Nat) (s1 : State) : Option Nat → (Nat ⊕ Nat) × State
  | some up => tryAlloc r priority listOk n up (countSpillUp q s1)
  | none => (.inr q, s1)

/-- What a request comes to that a pool has judged (R362, R363). -/
def afterJudging (r priority : Nat) (listOk : Bool) (n q : Nat) (up : Option Nat) : Option Nat × State → (Nat ⊕ Nat) × State
  | (some ptr, s1) => (.inl ptr, s1)
  | (none, s1) => passOn r priority listOk n q s1 up

theorem tryAlloc_succ (r priority : Nat) (listOk : Bool) (n q : Nat) (s : State) : tryAlloc r priority listOk (n + 1) q s =
    afterJudging r priority listOk n q (spillUp r q s) (judgeAlloc r priority q listOk s) := rfl

/-- What the requester of an ALLOC is answered: its buffer, or that it is held (R363). -/
def answerAlloc (x : HeldAlloc) : (Nat ⊕ Nat) × State → State
  | (.inl ptr, s1) => emit (.buffer x.requester 0 (some ptr)) s1
  | (.inr q, s1) => holdAlloc x q s1

theorem presentAlloc_eq (x : HeldAlloc) (listOk : Bool) (s : State) : presentAlloc x listOk s =
    answerAlloc x (tryAlloc x.requester x.priority listOk 4 x.pool s) := rfl

/-- A request held for the pool that it was presented in is held as it is. -/
theorem holdAlloc_own (x : HeldAlloc) (s : State) : holdAlloc x x.pool s =
    emit (.buffer x.requester 1 none) { s with pool := { s.pool with held := s.pool.held ++ [x] } } := by
  simp only [holdAlloc, ite_self]

theorem presentAlloc_of_admits {x : HeldAlloc} {s : State} (listOk : Bool)
    (hadmits : admits (pool s x.pool).level x.priority = true) (hfree : 0 < freeCount x.pool s) :
    ∃ ptr s', presentAlloc x listOk s = emit (.buffer x.requester 0 (some ptr)) s' ∧
      header s' ptr = { owner := x.requester, refs := 1 } := by
  rw [presentAlloc_eq, tryAlloc_succ, judgeAlloc_of_admits _ _ hadmits hfree]
  exact ⟨_, _, rfl, header_serveAlloc ..⟩

theorem presentAlloc_of_empty {x : HeldAlloc} {s : State} (listOk : Bool) (hempty : freeCount x.pool s = 0)
    (hclear : (poolCfg x.pool s).spillUp = false) :
    ∃ s', presentAlloc x listOk s = emit (.buffer x.requester 1 none) s' ∧ s'.pool.held = s.pool.held ++ [x] := by
  rw [presentAlloc_eq, tryAlloc_succ, judgeAlloc_of_empty _ _ _ hempty, spillUp_of_clear _ hclear]
  exact ⟨_, holdAlloc_own .., congrArg (· ++ [x]) (countEmpty_held ..)⟩

theorem takeAlloc_of_alone {s : State} (x : HeldAlloc) (listOk : Bool) (halone : poolAwaits s = false) :
    takeAlloc x listOk s = presentAlloc x listOk s := if_neg (by simp [halone])

/-- The request that an ALLOC makes (R356, R371). -/
def allocRequest (r : Nat) (cls : Fin 4) (pr : Fin 3) (s : State) : HeldAlloc :=
  { requester := r, cls := cls.val, priority := requestPriority r pr.val, pool := mappedPool r cls.val s, since := s.now }

theorem exec_alloc_of_alone {s : State} (r : Nat) (cls : Fin 4) (pr : Fin 3) (listOk : Bool) (halone : poolAwaits s = false) :
    exec (.alloc r cls pr listOk) s = .next (presentAlloc (allocRequest r cls pr s) listOk s) :=
  congrArg Host.Outcome.next (takeAlloc_of_alone _ listOk halone)

theorem exec_allocRetry_of_held {r : Nat} {cls : Fin 4} {s : State} {x : HeldAlloc} (listOk : Bool)
    (hheld : heldAlloc r cls.val s = some x) (halone : poolAwaits (dropHeldAlloc x s) = false) :
    exec (.allocRetry r cls listOk) s = .next (presentAlloc x listOk (dropHeldAlloc x s)) := by
  rw [show exec (.allocRetry r cls listOk) s = execAllocRetry r cls listOk s from rfl, execAllocRetry, hheld]
  exact congrArg Host.Outcome.next (takeAlloc_of_alone x listOk halone)

theorem exec_bpHoldExpiry_of_expired {r : Nat} {cls : Fin 4} {s : State} {x : HeldAlloc} (hheld : heldAlloc r cls.val s = some x)
    (hingress : r < 8) (hexpired : holdExpired x s = true) : exec (.bpHoldExpiry r cls) s =
      .next (setPool (dropHeldAlloc x s) x.pool { pool s x.pool with dropped := satur 32 ((pool s x.pool).dropped + 1) }) := by
  rw [show exec (.bpHoldExpiry r cls) s = execBpHoldExpiry r cls s from rfl, execBpHoldExpiry, hheld]
  exact if_neg (by simp [hexpired, hingress])

/-! ## Operations on a buffer (R362, R369) -/

@[simp] theorem reject_headers (q kind r ptr : Nat) (s : State) : (reject q kind r ptr s).pool.headers = s.pool.headers := by
  simp only [reject]
  split <;> simp

section

variable {ptr q : Nat} {s : State} (hpool : pointerPool ptr s = some q)

include hpool

theorem onBuffer_of_allocated (r : Nat) (f : Nat → State → State) (hrefs : (header s ptr).refs ≠ 0) :
    onBuffer r ptr 0 f s = f q s := by
  simp [onBuffer, hpool, hrefs]

theorem onBuffer_of_free (r : Nat) (f : Nat → State → State) (hrefs : (header s ptr).refs = 0) :
    onBuffer r ptr 0 f s = reject q 0 r ptr s := by
  simp [onBuffer, hpool, hrefs]

theorem shareBuffer_of_room {k : Nat} (r : Nat) (hrefs : (header s ptr).refs ≠ 0) (hroom : (header s ptr).refs + k ≤ 4095) :
    shareBuffer r ptr k 0 s = setHeader s ptr { header s ptr with refs := (header s ptr).refs + k } :=
  (onBuffer_of_allocated hpool r _ hrefs).trans (if_neg (Nat.not_lt.mpr hroom))

theorem giveBuffer_of_owner {r : Nat} (owner : Nat) (hrefs : (header s ptr).refs ≠ 0) (hown : (header s ptr).owner = r) :
    giveBuffer r ptr owner 0 s = setHeader s ptr { header s ptr with owner := owner } :=
  (onBuffer_of_allocated hpool r _ hrefs).trans (if_neg (not_not.mpr hown))

theorem freeBuffer_of_shared (r : Nat) (hrefs : 1 < (header s ptr).refs) :
    freeBuffer r ptr 0 s = setHeader s ptr { header s ptr with refs := (header s ptr).refs - 1 } :=
  (onBuffer_of_allocated hpool r _ (by omega)).trans (if_pos hrefs)

/-- The owner's last reference makes the buffer a free one. -/
theorem header_freeBuffer_of_last {r : Nat} (hrefs : (header s ptr).refs = 1) (hown : (header s ptr).owner = r) :
    header (freeBuffer r ptr 0 s) ptr = {} := by
  rw [freeBuffer, onBuffer_of_allocated hpool r _ (by omega)]
  simp only [hrefs, hown, Nat.lt_irrefl, ne_eq, not_true_eq_false, if_false]
  rw [header_of_headers (judgePool_headers ..), header_setHeader_same]

/-- The double free, and another's free of the last reference. -/
theorem freeBuffer_headers_of_refused {r : Nat}
    (hrefused : (header s ptr).refs = 0 ∨ ((header s ptr).refs = 1 ∧ (header s ptr).owner ≠ r)) :
    (freeBuffer r ptr 0 s).pool.headers = s.pool.headers := by
  rcases hrefused with hfree | ⟨hlast, hforeign⟩
  · rw [freeBuffer, onBuffer_of_free hpool r _ hfree, reject_headers]
  · rw [freeBuffer, onBuffer_of_allocated hpool r _ (by omega)]
    simp only [hlast, hforeign, Nat.lt_irrefl, ne_eq, not_false_eq_true, if_false, if_true]
    exact reject_headers ..

end

/-! ## One cycle (R364, R366, R367) -/

theorem takeOp_of_alone {s : State} (o : BufferOp) (halone : poolAwaits s = false) : takeOp o s = performOp o s :=
  if_neg (by simp [halone])

theorem takeOp_of_awaits {s : State} (o : BufferOp) (hawaits : poolAwaits s = true) :
    takeOp o s = { s with pool := { s.pool with opsDue := s.pool.opsDue ++ [o] } } := if_pos hawaits

section

variable {s : State} (halone : poolAwaits s = false) (r ptr : Nat)

include halone

theorem exec_share_of_alone (k : Nat) : exec (.share r ptr k 0) s = .next (shareBuffer r ptr k 0 s) :=
  congrArg Host.Outcome.next (takeOp_of_alone (.share r ptr k 0) halone)

theorem exec_give_of_alone (owner : Nat) : exec (.give r ptr owner 0) s = .next (giveBuffer r ptr owner 0 s) :=
  congrArg Host.Outcome.next (takeOp_of_alone (.give r ptr owner 0) halone)

theorem exec_free_of_alone : exec (.free r ptr 0) s = .next (freeBuffer r ptr 0 s) :=
  congrArg Host.Outcome.next (takeOp_of_alone (.free r ptr 0) halone)

end

theorem exec_give_of_awaits {s : State} (r ptr owner : Nat) (hawaits : poolAwaits s = true) : exec (.give r ptr owner 0) s =
    .next { s with pool := { s.pool with opsDue := s.pool.opsDue ++ [.give r ptr owner 0] } } :=
  congrArg Host.Outcome.next (takeOp_of_awaits (.give r ptr owner 0) hawaits)

/-- The FREE has a rank and the GIVE none, so the FREE comes first whatever their order. -/
theorem runOps_of_giveThenFree {s : State} {r w ptr owner : Nat}
    (hdue : s.pool.opsDue = [.give w ptr owner 0, .free r ptr 0]) : runOps s =
      performOp (.give w ptr owner 0) (performOp (.free r ptr 0) { s with pool := { s.pool with opsDue := [] } }) := by
  simp [runOps, hdue, freeRank, insertFree]

/-- Settles O30: each command and each operation by its lemma; what a command or an operation leaves is read back from the pool
or the header that it writes. -/
theorem poolsAndBuffers : Obligations.PoolsAndBuffers := by
  unfold Obligations.PoolsAndBuffers
  refine ⟨?configure, ?status, ?map, ?rebuild, ?served, ?held, ?retry, ?expiry, ?share, ?give, ?freeShared, ?freeLast, ?freeRefused,
    ?waits, ?cycle⟩
  case configure =>
    intro h p e s hs howns hhold hidle hfits
    obtain ⟨v, hexec, hcfg⟩ := exec_poolConfigure_of_unallocated hs howns hhold hidle hfits
    obtain ⟨level, lowWater, hpool⟩ := pool_judgePool_same p.pool.val (setPool s p.pool.val v)
    exact ⟨_, hexec, by rw [hpool, pool_setPool_same, hcfg]⟩
  case status =>
    intro h q e s hs howns
    exact ⟨_, exec_poolStatus_of_owner q hs howns, length_poolStatus ..⟩
  case map =>
    intro h r c0 c1 c2 c3 e s hs howns hr
    exact ⟨_, exec_poolMapSet_of_requester c0 c1 c2 c3 hs howns hr, mappedPool_withMap ..⟩
  case rebuild =>
    intro h q e s hs howns
    exact ⟨_, exec_poolRebuild_of_owner q hs howns, pool_rebuildPool ..⟩
  case served =>
    intro r cls pr ok s halone hadmits hfree
    obtain ⟨ptr, s', hserved, hheader⟩ := presentAlloc_of_admits (x := allocRequest r cls pr s) ok hadmits hfree
    exact ⟨ptr, s', by rw [exec_alloc_of_alone r cls pr ok halone, hserved]; rfl, hheader⟩
  case held =>
    intro r cls pr ok s halone hempty hspill
    obtain ⟨s', hpresented, hheld⟩ := presentAlloc_of_empty (x := allocRequest r cls pr s) ok hempty hspill
    exact ⟨s', by rw [exec_alloc_of_alone r cls pr ok halone, hpresented]; rfl, hheld⟩
  case retry => exact fun r cls ok s x hheld halone => exec_allocRetry_of_held ok hheld halone
  case expiry => exact fun r cls s x hheld hingress hexpired => exec_bpHoldExpiry_of_expired hheld hingress hexpired
  case share =>
    intro r ptr k s q halone hpool hrefs hroom
    rw [exec_share_of_alone halone, shareBuffer_of_room hpool r hrefs hroom]
  case give =>
    intro r ptr o s q halone hpool hrefs hown
    rw [exec_give_of_alone halone, giveBuffer_of_owner hpool o hrefs hown]
  case freeShared =>
    intro r ptr s q halone hpool hrefs
    rw [exec_free_of_alone halone, freeBuffer_of_shared hpool r hrefs]
  case freeLast =>
    intro r ptr s q halone hpool hrefs hown
    exact ⟨_, exec_free_of_alone halone r ptr, by rw [header_freeBuffer_of_last hpool hrefs hown]⟩
  case freeRefused =>
    intro r ptr s q halone hpool hrefused
    exact ⟨_, exec_free_of_alone halone r ptr, freeBuffer_headers_of_refused hpool hrefused⟩
  case waits => exact fun r ptr o s hawaits => exec_give_of_awaits r ptr o hawaits
  case cycle => exact fun r w ptr o s hdue => runOps_of_giveThenFree hdue

end Sys2Proof.Machine
end

section
/-!
PROOFS of the time chapter. What the servo and the steps of a time base do to it, and what they leave as it was; the time clock;
the latching of snapshots.
-/
namespace Sys2Proof.Machine

/-! ## The tables of Campanile: a read after a write -/

theorem timeBase_of_bases {s u : State} (h : u.time.bases = s.time.bases) (b : Nat) : timeBase u b = timeBase s b := by
  rw [timeBase, timeBase, h]
theorem pps_of_table {s u : State} (h : u.time.pps = s.time.pps) (i : Nat) : pps u i = pps s i := by rw [pps, pps, h]

@[simp] theorem pps_setPps_same (s : State) (i : Nat) (v : PpsInput) : pps (setPps s i v) i = v := tget_tset_same ..
@[simp] theorem ptpClock_setPtpClock_same (s : State) (c : Nat) (v : PtpClock) : ptpClock (setPtpClock s c v) c = v :=
  tget_tset_same ..
@[simp] theorem witness_setWitness_same (s : State) (l : Nat) (w : Witness) : witness (setWitness s l w) l = w :=
  tget_tset_same ..

/-- A fold whose step `b` works on entry `b` alone makes each entry's own change to it. -/
theorem foldl_range_each {β : Type} {r : State → Nat → β} {f : State → Nat → State} {g : Nat → β → β}
    (hsame : ∀ s b, r (f s b) b = g b (r s b)) (hother : ∀ s b j, j ≠ b → r (f s b) j = r s j) (n b : Nat) (s : State) :
    r ((List.range n).foldl f s) b = if b < n then g b (r s b) else r s b := by
  induction n with
  | zero => rfl
  | succ n ih =>
    rw [List.range_succ, List.foldl_append, List.foldl_cons, List.foldl_nil]
    rcases Nat.lt_trichotomy b n with hlt | rfl | hgt
    · rw [hother _ _ _ hlt.ne, ih, if_pos hlt, if_pos (by omega)]
    · rw [hsame, ih, if_neg (Nat.lt_irrefl b), if_pos (by omega)]
    · rw [hother _ _ _ hgt.ne', ih, if_neg (by omega), if_neg (by omega)]

/-! ## What posting and moves of the servo leave as it was -/

/-- The state but for the time bases and what posting an event changes. -/
def outsideBases (s : State) : State :=
  { s with ev := {}, out := [], mbx := { s.mbx with msix := [] }, time := { s.time with bases := [] } }

section

variable {s t : State} (h : outsideBases t = outsideBases s)

include h

theorem now_of_outsideBases : t.now = s.now := (congrArg (fun u : State => u.now) h :)
theorem ptpClock_of_outsideBases (c : Nat) : ptpClock t c = ptpClock s c := (congrArg (ptpClock · c) h :)
theorem witness_of_outsideBases (l : Nat) : witness t l = witness s l := (congrArg (witness · l) h :)
theorem pps_of_outsideBases (i : Nat) : pps t i = pps s i := (congrArg (pps · i) h :)

end

theorem outsideBases_of_sameButEvents {s t : State} (h : sameButEvents s t) : outsideBases t = outsideBases s := by
  obtain ⟨ev, out, msix, rfl⟩ := h
  rfl

@[simp] theorem post_outsideBases (src : Nat) (cls : EvClass) (payload : Nat) (s : State) :
    outsideBases (post src cls payload s) = outsideBases s := outsideBases_of_sameButEvents (post_frame ..)
@[simp] theorem setTimeBase_outsideBases (s : State) (b : Nat) (v : TimeBase) :
    outsideBases (setTimeBase s b v) = outsideBases s := rfl

@[simp] theorem post_time (src : Nat) (cls : EvClass) (payload : Nat) (s : State) : (post src cls payload s).time = s.time := by
  obtain ⟨ev, out, msix, h⟩ := post_frame src cls payload s
  rw [h]

@[simp] theorem timeBase_post (src : Nat) (cls : EvClass) (payload : Nat) (s : State) (b : Nat) :
    timeBase (post src cls payload s) b = timeBase s b := timeBase_of_bases (by simp) b

/-! ## Moves of the servo (R388) -/

/-- The time base that enters the servo state `dst`. -/
def entering (dst : Servo) (now : Nat) (v : TimeBase) : TimeBase :=
  { closeSegment now v with
    servo := dst, entryUnc := uncertainty v now, entryAt := now, runSince := none,
    left := if (decide (v.servo = .holdover) || decide (v.servo = .coarse)) && decide (dst = .acquiring) then
      some (uncertainty v now) else v.left,
    isUnset := if dst = .locked then false else v.isUnset,
    adj := match dst with
      | .holdover => holdMean now v
      | .stepHeld => holdMean now v
      | _ => v.adj }

theorem enterServo_of_eq {b : Nat} {dst : Servo} {s : State} (reason : Nat) (h : (timeBase s b).servo = dst) :
    enterServo b dst reason s = s := if_pos h

theorem enterServo_of_ne {b : Nat} {dst : Servo} {s : State} (reason : Nat) (h : (timeBase s b).servo ≠ dst) :
    ∃ payload, enterServo b dst reason s =
      post (0x300 + b) .info payload (setTimeBase s b (entering dst s.now (timeBase s b))) := ⟨_, if_neg h⟩

theorem timeBase_enterServo_of_ne {b : Nat} {dst : Servo} {s : State} (reason : Nat) (h : (timeBase s b).servo ≠ dst) :
    timeBase (enterServo b dst reason s) b = entering dst s.now (timeBase s b) := by
  obtain ⟨payload, hmove⟩ := enterServo_of_ne reason h
  rw [hmove, timeBase_post, timeBase_setTimeBase_same]

theorem servo_enterServo (b : Nat) (dst : Servo) (reason : Nat) (s : State) :
    (timeBase (enterServo b dst reason s) b).servo = dst := by
  by_cases h : (timeBase s b).servo = dst
  · rw [enterServo_of_eq reason h, h]
  · rw [timeBase_enterServo_of_ne reason h]
    rfl

/-- The servo of time base `b` moves to another state, or stays. -/
def servoMoves (b : Nat) (s t : State) : Prop := t = s ∨ ∃ dst reason, t = enterServo b dst reason s

theorem servoMoves_refl (b : Nat) (s : State) : servoMoves b s s := .inl rfl
theorem servoMoves_enterServo (b : Nat) (dst : Servo) (reason : Nat) (s : State) :
    servoMoves b s (enterServo b dst reason s) := .inr ⟨dst, reason, rfl⟩

theorem servoMoves_inputArrives (b : Nat) (s : State) : servoMoves b s (inputArrives b s) := by
  unfold inputArrives
  extract_lets v
  split
  · exact servoMoves_refl b s
  · split
    case h_4 => exact servoMoves_refl b s
    all_goals exact servoMoves_enterServo ..

theorem servoMoves_inputLost (b reason : Nat) (s : State) : servoMoves b s (inputLost b reason s) := by
  unfold inputLost
  split
  case h_3 => exact servoMoves_refl b s
  all_goals exact servoMoves_enterServo ..

section

variable {b : Nat} {s t : State} (h : servoMoves b s t)

include h

/-- A move that is one is written to the time base and posted. -/
theorem servoMoves_cases :
    t = s ∨ ∃ dst src payload, t = post src .info payload (setTimeBase s b (entering dst s.now (timeBase s b))) := by
  rcases h with rfl | ⟨dst, reason, rfl⟩
  · exact .inl rfl
  · by_cases hdst : (timeBase s b).servo = dst
    · exact .inl (enterServo_of_eq reason hdst)
    · obtain ⟨payload, hmove⟩ := enterServo_of_ne reason hdst
      exact .inr ⟨dst, _, payload, hmove⟩

theorem servoMoves_outsideBases : outsideBases t = outsideBases s := by
  rcases servoMoves_cases h with rfl | ⟨dst, src, payload, rfl⟩
  · rfl
  · rw [post_outsideBases, setTimeBase_outsideBases]

theorem servoMoves_timeBase_other {j : Nat} (hne : j ≠ b) : timeBase t j = timeBase s j := by
  rcases servoMoves_cases h with rfl | ⟨dst, src, payload, rfl⟩
  · rfl
  · rw [timeBase_post, timeBase_setTimeBase_other _ _ _ _ hne]

/-- A move keeps every reading of the time base that entering a servo state keeps. -/
theorem servoMoves_keeps {β : Type} (p : TimeBase → β) (hp : ∀ dst now v, p (entering dst now v) = p v) :
    p (timeBase t b) = p (timeBase s b) := by
  rcases servoMoves_cases h with rfl | ⟨dst, src, payload, rfl⟩
  · rfl
  · rw [timeBase_post, timeBase_setTimeBase_same, hp]

theorem servoMoves_set (hset : (timeBase s b).isUnset = false) : (timeBase t b).isUnset = false := by
  rcases servoMoves_cases h with rfl | ⟨dst, src, payload, rfl⟩
  · exact hset
  · simp [entering, hset]

end

@[simp] theorem enterServo_outsideBases (b : Nat) (dst : Servo) (reason : Nat) (s : State) :
    outsideBases (enterServo b dst reason s) = outsideBases s := servoMoves_outsideBases (servoMoves_enterServo ..)

/-- Every time base's input judged again is a move of its servo. -/
theorem servoMoves_judged (b : Nat) (s : State) : servoMoves b s
    (if (timeBase s b).inputKind = 0 ∨ (timeBase s b).inputKind = 4 then s
     else if inputPresent b s then inputArrives b s else inputLost b 3 s) := by
  split
  · exact servoMoves_refl b s
  · split
    · exact servoMoves_inputArrives b s
    · exact servoMoves_inputLost b 3 s

@[simp] theorem rejudgeInputs_outsideBases (s : State) : outsideBases (rejudgeInputs s) = outsideBases s :=
  foldl_keeps outsideBases _ (fun st b => servoMoves_outsideBases (servoMoves_judged b st)) _ _

/-! ## Steps of a time base (R393, R394, R398) -/

/-- The state but for what a step of a time base changes: the bases, the pulse outputs, the witnesses, and the events. -/
def outsideSteps (s : State) : State :=
  { outsideBases s with time := { (outsideBases s).time with pulses := [], witnesses := [] } }

theorem outsideSteps_of_outsideBases {s t : State} (h : outsideBases t = outsideBases s) : outsideSteps t = outsideSteps s := by
  rw [outsideSteps, outsideSteps, h]

section

variable {s t : State} (h : outsideSteps t = outsideSteps s)

include h

theorem ppsTable_of_outsideSteps : t.time.pps = s.time.pps := (congrArg (fun u : State => u.time.pps) h :)
theorem owns_of_outsideSteps (c : Caller) (kind idx : Nat) : owns c kind idx t = owns c kind idx s :=
  (congrArg (owns c kind idx ·) h :)

end

/-- A step's pass over the pulse outputs keeps what writing an output and posting keep. -/
theorem stepPulses_keeps {β : Type} (p : State → β) (hpulse : ∀ s o v, p (setPulse s o v) = p s)
    (hpost : ∀ src cls payload s, p (post src cls payload s) = p s) (b value : Nat) (s : State) :
    p (stepPulses b value s) = p s := by
  refine foldl_keeps p _ (fun st o => ?_) _ _
  extract_lets output passed moved
  split
  · split
    · exact hpulse ..
    · rw [hpost, hpulse]
  · rfl

@[simp] theorem stepPulses_bases (b value : Nat) (s : State) : (stepPulses b value s).time.bases = s.time.bases :=
  stepPulses_keeps (·.time.bases) (fun _ _ _ => rfl) (fun src cls payload s => by rw [post_time]) b value s

@[simp] theorem stepPulses_outsideSteps (b value : Nat) (s : State) : outsideSteps (stepPulses b value s) = outsideSteps s :=
  stepPulses_keeps outsideSteps (fun _ _ _ => rfl)
    (fun _ _ _ _ => outsideSteps_of_outsideBases (post_outsideBases ..)) b value s

/-- The time base stepped by `c`. -/
def stepped (c : Int) (v : TimeBase) : TimeBase :=
  { v with value := addFrac v.value c, check := addFrac v.check c, isUnset := false, left := none,
           stepsApplied := satur 32 (v.stepsApplied + 1) }

theorem applyStep_bases (b : Nat) (c : Int) (s : State) :
    (applyStep b c s).time.bases = (setTimeBase s b (stepped c (timeBase s b))).time.bases := by
  rw [applyStep, stepPulses_bases]
  rfl

@[simp] theorem timeBase_applyStep_same (b : Nat) (c : Int) (s : State) :
    timeBase (applyStep b c s) b = stepped c (timeBase s b) := by
  rw [timeBase_of_bases (applyStep_bases b c s), timeBase_setTimeBase_same]

@[simp] theorem applyStep_outsideSteps (b : Nat) (c : Int) (s : State) : outsideSteps (applyStep b c s) = outsideSteps s :=
  stepPulses_outsideSteps ..

@[simp] theorem refuseCorrection_outsideBases (b : Nat) (c : Int) (s : State) :
    outsideBases (refuseCorrection b c s) = outsideBases s := by
  simp [refuseCorrection]

theorem servoCorrection_outsideSteps (b : Nat) (e : Int) (s : State) :
    outsideSteps (servoCorrection b e s) = outsideSteps s := by
  have hrefused (u : State) : outsideSteps (refuseCorrection b (-e) u) = outsideSteps u :=
    outsideSteps_of_outsideBases (refuseCorrection_outsideBases ..)
  unfold servoCorrection
  extract_lets v s1
  split
  case h_1 =>
    split
    · rfl
    · split
      · split
        · exact hrefused s1
        · rfl
      · exact hrefused s1
  case h_2 =>
    split
    · split
      · exact hrefused s1
      · exact applyStep_outsideSteps b (-e) s1
    · rfl
  all_goals rfl

/-! ## The time clock (R376, R415, R412) -/

/-- The time base and its check counter one cycle later. -/
def ticked (v : TimeBase) : TimeBase :=
  { v with value := (((v.value : Int) + (unitNs : Int) + v.adj) % (timeModulus : Int)).toNat,
           check := (((v.check : Int) + (unitNs : Int) + v.adj) % (timeModulus : Int)).toNat }

theorem ticked_value (v : TimeBase) :
    (ticked v).value = (((v.value : Int) + unitNs + v.adj : Int) % timeModulus).toNat := rfl
theorem ticked_check (v : TimeBase) :
    (ticked v).check = (((v.check : Int) + unitNs + v.adj : Int) % timeModulus).toNat := rfl

theorem timeBase_tickBases {b : Nat} (hb : b < 8) (s : State) : timeBase (tickBases s) b = ticked (timeBase s b) :=
  (foldl_range_each (r := timeBase) (g := fun _ => ticked) (fun _ _ => timeBase_setTimeBase_same ..)
    (fun _ _ _ hne => timeBase_setTimeBase_other _ _ _ _ hne) 8 b s).trans (if_pos hb)

@[simp] theorem tickBases_now (s : State) : (tickBases s).now = s.now := foldl_keeps (·.now) _ (fun _ _ => by rfl) _ _

theorem timeBase_withNow (s : State) (t b : Nat) : timeBase { s with now := t } b = timeBase s b := rfl

theorem step_of_nothingPending {s : State} (hidle : s.pending = []) : step s = .next (idle s) := by rw [step, hidle]

theorem idle_of_stopped {s : State} (hstopped : (cycleEnd s).time.stopped = true) :
    idle s = { cycleEnd s with now := s.now + 1 } := by
  unfold idle
  generalize cycleEnd s = u at hstopped ⊢
  exact if_pos hstopped
theorem idle_of_running {s : State} (hruns : (cycleEnd s).time.stopped = false) :
    idle s = tickBases { cycleEnd s with now := s.now + 1 } := by
  unfold idle
  generalize cycleEnd s = u at hruns ⊢
  exact if_neg (by simp [hruns])

theorem idle_now (s : State) : (idle s).now = s.now + 1 := by
  cases hstopped : (cycleEnd s).time.stopped
  case true => rw [idle_of_stopped hstopped]
  case false => rw [idle_of_running hstopped, tickBases_now]

/-- Settles O2: an idle step is one cycle's end and then, while the clocks run, one tick of every time base. -/
theorem idleStepAdvancesTheTimeClock : Obligations.IdleStepAdvancesTheTimeClock := by
  unfold Obligations.IdleStepAdvancesTheTimeClock
  refine ⟨?cycle, ?keepOnly, ?running⟩
  case cycle => exact fun s hidle => ⟨step_of_nothingPending hidle, idle_now s⟩
  case keepOnly =>
    intro s b hidle hstopped
    exact ⟨_, step_of_nothingPending hidle, by rw [idle_of_stopped hstopped, timeBase_withNow]⟩
  case running =>
    rintro s _ b hidle rfl hruns hb
    have htick : timeBase (idle s) b = ticked (timeBase (cycleEnd s) b) := by
      rw [idle_of_running hruns, timeBase_tickBases hb, timeBase_withNow]
    exact ⟨_, step_of_nothingPending hidle, by rw [htick, ticked_value], by rw [htick, ticked_check]⟩

/-! ## Snapshots (R381, R382) -/

theorem windowsDown_of_fwReady {s : State} (hready : s.boot.fwReady = true) : windowsDown s = false := by
  simp [windowsDown, hready]

/-- The time base with its snapshot taken and held. -/
def latchedNow (v : TimeBase) : TimeBase := { v with snapshot := v.value, latched := true }

/-- The snapshots of the time bases that the mask names taken, all at one instant. -/
def latchAll (mask : BitVec 8) (s : State) : State :=
  (List.range 8).foldl (fun st b => if mask.getLsbD b then setTimeBase st b (latchedNow (timeBase st b)) else st) s

theorem exec_campLatchAll_of_pf {f : PciFn} {s : State} (mask : BitVec 8) (hready : s.boot.fwReady = true) (hpf : isPf f = true) :
    exec (.campLatchAll f mask) s = .next (latchAll mask s) :=
  (if_neg (by simp [windowsDown_of_fwReady hready])).trans (if_neg (by simp [hpf]))

theorem timeBase_latchAll {b : Nat} (hb : b < 8) (mask : BitVec 8) (s : State) :
    timeBase (latchAll mask s) b = if mask.getLsbD b then latchedNow (timeBase s b) else timeBase s b := by
  refine (foldl_range_each (r := timeBase) (g := fun b v => if mask.getLsbD b then latchedNow v else v)
    (fun s b => ?_) (fun s b j hne => ?_) 8 b s).trans (if_pos hb)
  · split
    · exact timeBase_setTimeBase_same ..
    · rfl
  · split
    · exact timeBase_setTimeBase_other _ _ _ _ hne
    · rfl

section

variable {s : State} (f : PciFn) (b : Fin 8) (hready : s.boot.fwReady = true)

include hready

theorem exec_campSnapFrac_of_latched (hlatched : (timeBase s b.val).latched = true) : exec (.campSnapFrac f b) s =
    .next (emit (.registerRead (pciKey f) (0x300000 + b.val * 0x1000) (fracOf (timeBase s b.val).snapshot))
      (setTimeBase s b.val { timeBase s b.val with latched := false })) := by
  refine (if_neg (by simp [windowsDown_of_fwReady hready])).trans ?_
  simp only [hlatched, if_true]
  rfl

theorem exec_campSnapFrac_of_unlatched (hfree : (timeBase s b.val).latched = false) : exec (.campSnapFrac f b) s =
    .next (emit (.registerRead (pciKey f) (0x300000 + b.val * 0x1000) (fracOf (timeBase s b.val).value))
      (setTimeBase s b.val { timeBase s b.val with snapshot := (timeBase s b.val).value })) := by
  refine (if_neg (by simp [windowsDown_of_fwReady hready])).trans ?_
  simp only [hfree, Bool.false_eq_true, if_false]
  rfl

end

/-- Settles O33: the write is a fold that works on each time base alone; the read answers the snapshot that the page holds. -/
theorem latchAllTakesEverySnapshot : Obligations.LatchAllTakesEverySnapshot := by
  unfold Obligations.LatchAllTakesEverySnapshot
  intro f mask s hready hpf
  refine ⟨_, exec_campLatchAll_of_pf mask hready hpf, fun b hb => timeBase_latchAll hb mask s, ?read⟩
  case read =>
    intro b u hbit hreadyU hpage
    have hheld : timeBase u b.val = latchedNow (timeBase s b.val) := by rw [hpage, timeBase_latchAll b.isLt, if_pos hbit]
    refine ⟨_, exec_campSnapFrac_of_latched f b hreadyU (by rw [hheld]; rfl), ?cleared, ?answer⟩
    case cleared => exact congrArg TimeBase.latched (timeBase_setTimeBase_same ..)
    case answer =>
      rw [emit_out, setTimeBase_out, hheld]
      rfl

end Sys2Proof.Machine
end

section
/-!
PROOFS of the time chapter. The servo's corrections and the conditions that move it.
-/
namespace Sys2Proof.Machine

/-! ## Corrections (R390–R392) -/

theorem exec_servoCorrection_of_measured {b : Fin 8} {e : Int} {s : State} (hmeasured : (timeBase s b.val).measured = some e) :
    exec (.servoCorrection b) s = .next (servoCorrection b.val e s) := by
  rw [show exec (.servoCorrection b) s = execServoCorrection b s from rfl, execServoCorrection, hmeasured]

/-- The state in which the phase error has been taken up. -/
def withError (b : Nat) (e : Int) (s : State) : State := setTimeBase s b (takeUp e s.now (timeBase s b))

@[simp] theorem timeBase_withError (b : Nat) (e : Int) (s : State) :
    timeBase (withError b e s) b = takeUp e s.now (timeBase s b) := timeBase_setTimeBase_same ..

section

variable {b : Nat} {e : Int} {s : State}

theorem servoCorrection_of_beyondSlew (hservo : (timeBase s b).servo = .acquiring)
    (hslew : (timeBase s b).slewLimitNs * 65536 < e.natAbs) : servoCorrection b e s =
      if beyondGuard (timeBase s b) e then refuseCorrection b (-e) (withError b e s) else applyStep b (-e) (withError b e s) := by
  have hv : (takeUp e s.now (timeBase s b)).servo = .acquiring := hservo
  simp only [servoCorrection, hv]
  exact if_pos hslew

/-- The time base slewed by a phase error that it has taken up. -/
def slewed (e : Int) (now : Nat) (v : TimeBase) : TimeBase :=
  { closeSegment now (takeUp e now v) with adj := slew (takeUp e now v) e }

theorem servoCorrection_of_slewed (hservo : (timeBase s b).servo = .locked ∨
    ((timeBase s b).servo = .acquiring ∧ e.natAbs ≤ (timeBase s b).slewLimitNs * 65536)) :
    servoCorrection b e s = setTimeBase (withError b e s) b (slewed e s.now (timeBase s b)) := by
  rcases hservo with hlocked | ⟨hacquiring, hslew⟩
  · have hv : (takeUp e s.now (timeBase s b)).servo = .locked := hlocked
    simp only [servoCorrection, hv]
    rfl
  · have hv : (takeUp e s.now (timeBase s b)).servo = .acquiring := hacquiring
    simp only [servoCorrection, hv]
    exact if_neg (Nat.not_lt.mpr hslew)

end

/-- A slew is bounded by MAX_SLEW_PPB and by the range of a frequency (R376, R390). -/
theorem slew_bounded (v : TimeBase) (e : Int) : (slew v e).natAbs ≤ 102400000 ∧ (slew v e).natAbs ≤ v.maxSlewPpb * 1024 := by
  unfold slew clampAdj
  omega

/-- The time base whose servo's correction is refused. -/
def refusing (c : Int) (v : TimeBase) : TimeBase :=
  { v with pending := some c, stepSeq := (v.stepSeq + 1) % 256, stepsRefused := satur 32 (v.stepsRefused + 1) }

theorem timeBase_refuseCorrection_of_acquiring {b : Nat} {s : State} (c : Int) (hservo : (timeBase s b).servo = .acquiring) :
    timeBase (refuseCorrection b c s) b = entering .stepHeld s.now (refusing c (timeBase s b)) := by
  rw [refuseCorrection, timeBase_enterServo_of_ne, timeBase_post, timeBase_setTimeBase_same]
  · rw [now_of_outsideBases (post_outsideBases ..)]
    rfl
  · rw [timeBase_post, timeBase_setTimeBase_same]
    simp [hservo]

/-! ## What ends a servo state (R388, R392) -/

section

variable {b : Fin 8} {s : State}

theorem exec_lockAchieved_of_held (hservo : (timeBase s b.val).servo = .acquiring)
    (hheld : heldFor 64 (timeBase s b.val) s.now = true) :
    exec (.lockAchieved b) s = .next (enterServo b.val .locked 2 s) := if_pos ⟨hservo, hheld⟩

theorem exec_lockLost_of_held (hservo : (timeBase s b.val).servo = .locked)
    (hheld : heldFor 8 (timeBase s b.val) s.now = true) :
    exec (.lockLost b) s = .next (enterServo b.val .acquiring 9 s) := if_pos ⟨hservo, hheld⟩

theorem exec_pendingDiscard_of_held (hservo : (timeBase s b.val).servo = .stepHeld)
    (hheld : heldFor 4 (timeBase s b.val) s.now = true) : exec (.pendingDiscard b) s =
      .next (enterServo b.val .acquiring 8 (setTimeBase s b.val { timeBase s b.val with pending := none })) :=
  if_pos ⟨hservo, hheld⟩

end

theorem isUnset_enterServo_locked {b : Nat} {s : State} (reason : Nat) (hservo : (timeBase s b).servo = .acquiring) :
    (timeBase (enterServo b .locked reason s) b).isUnset = false := by
  rw [timeBase_enterServo_of_ne reason (by simp [hservo])]
  rfl

/-- Settles O32: each correction by the one of the three that it is, step, refusal or slew; each end of a servo state by the state
entered. -/
theorem servoStepsSlewsOrRefuses : Obligations.ServoStepsSlewsOrRefuses := by
  unfold Obligations.ServoStepsSlewsOrRefuses
  refine ⟨?steps, ?refuses, ?slews, ?achieved, ?lost, ?discarded⟩
  case steps =>
    intro b x s hmeasured hservo hslew hguard
    refine ⟨_, exec_servoCorrection_of_measured hmeasured, ?_⟩
    rw [servoCorrection_of_beyondSlew hservo hslew, hguard, if_neg Bool.false_ne_true, timeBase_applyStep_same,
      timeBase_withError]
    exact ⟨rfl, rfl, rfl, rfl⟩
  case refuses =>
    intro b x s hmeasured hservo hslew hguard
    refine ⟨_, exec_servoCorrection_of_measured hmeasured, ?_⟩
    rw [servoCorrection_of_beyondSlew hservo hslew, hguard, if_pos rfl, timeBase_refuseCorrection_of_acquiring,
      timeBase_withError]
    · exact ⟨rfl, rfl, rfl, rfl, rfl⟩
    · rw [timeBase_withError]
      exact hservo
  case slews =>
    intro b x s hmeasured hservo
    refine ⟨_, exec_servoCorrection_of_measured hmeasured, ?_⟩
    rw [servoCorrection_of_slewed hservo, timeBase_setTimeBase_same]
    obtain ⟨hrange, hmax⟩ := slew_bounded (takeUp x s.now (timeBase s b.val)) x
    exact ⟨rfl, hrange, hmax, rfl, rfl⟩
  case achieved =>
    intro b s hservo hheld
    exact ⟨_, exec_lockAchieved_of_held hservo hheld, servo_enterServo .., isUnset_enterServo_locked 2 hservo⟩
  case lost => exact fun b s hservo hheld => ⟨_, exec_lockLost_of_held hservo hheld, servo_enterServo ..⟩
  case discarded =>
    intro b s hservo hheld
    refine ⟨_, exec_pendingDiscard_of_held hservo hheld, servo_enterServo .., ?_⟩
    rw [servoMoves_keeps (servoMoves_enterServo ..) (·.pending) (fun _ _ _ => rfl), timeBase_setTimeBase_same]

end Sys2Proof.Machine
end

section
/-!
PROOFS of the time chapter. The commands of range 0x0A.
-/
namespace Sys2Proof.Machine

/-! ## TIME_BASE_CONFIGURE (R416) -/

/-- The time base as its configuration sets it, a check that agrees again no longer failed. -/
def withSettings (p : TimeBaseP) (v : TimeBase) : TimeBase :=
  { v with
    inputKind := p.inputKind.val, inputIndex := p.inputIndex.val, firstStepGuard := p.firstStepGuard,
    fabricTb := p.fabricTb, checkEnable := p.checkEnable, stepGuardNs := orDefault 1000 p.stepGuardNs,
    lockNs := orDefault 20 p.lockNs, bandwidth := orDefault 100 p.bandwidth,
    holdoverPpb := orDefault 1000 p.holdoverPpb, checkPps := p.checkPps.map (fun i => i.val),
    checkPpsNs := orDefault 50 p.checkPpsNs, utcOffset := p.utcOffset,
    maxSlewPpb := orDefault 1000 p.maxSlewPpb, slewLimitNs := orDefault 100 p.slewLimitNs,
    checkFault := v.checkFault && !(v.checkFault && checkAgrees v) }

/-- The configuration set and a fault cleared reported, before the servo takes up the input. -/
def withConfigured (p : TimeBaseP) (s : State) : State :=
  let v := timeBase s p.tb.val
  let s1 := setTimeBase s p.tb.val (withSettings p v)
  if v.checkFault && checkAgrees v then postSafe 0 false p.tb.val s1 else s1

theorem timeBase_withConfigured (p : TimeBaseP) (s : State) (b : Nat) :
    timeBase (withConfigured p s) b = timeBase (setTimeBase s p.tb.val (withSettings p (timeBase s p.tb.val))) b := by
  unfold withConfigured
  extract_lets v s1
  split
  · exact timeBase_post ..
  · rfl

theorem servoMoves_timeBaseConfigured (p : TimeBaseP) (s : State) :
    servoMoves p.tb.val (withConfigured p s) (timeBaseConfigured p s) := by
  unfold timeBaseConfigured
  extract_lets b v sameInput cleared v1 s1 s2
  have hs2 : withConfigured p s = s2 := rfl
  rw [hs2]
  split
  case h_1 => exact servoMoves_enterServo ..
  case h_2 => exact servoMoves_enterServo ..
  case h_3 =>
    split
    · exact servoMoves_enterServo ..
    · split
      · split
        · exact servoMoves_inputArrives ..
        · split
          · exact servoMoves_enterServo ..
          · exact servoMoves_inputArrives ..
      · exact servoMoves_inputLost ..

/-- What the configuration sets and the servo does not move. -/
theorem timeBaseConfigured_keeps {β : Type} (q : TimeBase → β) (hq : ∀ dst now v, q (entering dst now v) = q v) (p : TimeBaseP)
    (s : State) : q (timeBase (timeBaseConfigured p s) p.tb.val) = q (withSettings p (timeBase s p.tb.val)) := by
  rw [servoMoves_keeps (servoMoves_timeBaseConfigured p s) q hq, timeBase_withConfigured, timeBase_setTimeBase_same]

theorem timeBase_timeBaseConfigured_other (p : TimeBaseP) (s : State) {b : Nat} (hne : b ≠ p.tb.val) :
    timeBase (timeBaseConfigured p s) b = timeBase s b := by
  rw [servoMoves_timeBase_other (servoMoves_timeBaseConfigured p s) hne, timeBase_withConfigured,
    timeBase_setTimeBase_other _ _ _ _ hne]

theorem timeBaseConfigured_of_none {p : TimeBaseP} (s : State) (hkind : p.inputKind.val = 0) :
    timeBaseConfigured p s = enterServo p.tb.val .freeRun 0 (withConfigured p s) := by
  unfold timeBaseConfigured
  extract_lets b v sameInput cleared v1 s1 s2
  split
  case h_1 => rfl
  case h_2 hhost => omega
  case h_3 hnone _ => exact absurd hkind hnone

theorem timeBaseConfigured_of_host {p : TimeBaseP} (s : State) (hkind : p.inputKind.val = 4) :
    timeBaseConfigured p s = enterServo p.tb.val .host 0 (withConfigured p s) := by
  unfold timeBaseConfigured
  extract_lets b v sameInput cleared v1 s1 s2
  split
  case h_1 hnone => omega
  case h_2 => rfl
  case h_3 _ hhost => exact absurd hkind hhost

section

variable {h : Caller} {e : Held} {s : State}

theorem exec_timeBaseConfigure_of_owner {p : TimeBaseP} (hs : startable 0x0A00 none h e s)
    (howns : owns h kTimeBase p.tb.val s = true) (hwf : p.wf = true) (hfabric : p.fabricTb = false)
    (hkind : p.inputKind.val ≠ 2) :
    exec (.timeBaseConfigure h p) s = .next (finish e stOk 0 0 [] (timeBaseConfigured p s)) :=
  perform_done hs (by simp [howns, hwf, hfabric, hkind, okay])

theorem exec_timeBaseStatus_of_startable (b : Fin 8) (hs : startable 0x0A01 none h e s) :
    exec (.timeBaseStatus h b) s = .next (finish e stOk 0 0 (timeBaseStatus b.val s) s) := perform_done hs rfl

theorem length_timeBaseStatus (b : Nat) (s : State) : (timeBaseStatus b s).length = 64 := length_fields (by simp)

/-! ## TIME_SET (R388, R394, R416) -/

/-- The time base set to `value`, and its check counter by the same amount. -/
def setTo (value : Nat) (v : TimeBase) : TimeBase :=
  { v with value := value, check := (((v.check : Int) + (value : Int) - (v.value : Int)) % (timeModulus : Int)).toNat,
           isUnset := false, left := none, setWait := none }

/-- The time set and the outputs and witnesses told, before COARSE_HOLDOVER ends. -/
def withTime (b value : Nat) (s : State) : State :=
  stepPulses b value (stepWitnesses b (setTimeBase s b (setTo value (timeBase s b))))

theorem timeBase_withTime (b value : Nat) (s : State) (j : Nat) :
    timeBase (withTime b value s) j = timeBase (setTimeBase s b (setTo value (timeBase s b))) j := by
  refine timeBase_of_bases ?_ j
  rw [withTime, stepPulses_bases]
  rfl

theorem servoMoves_timeSet (b value : Nat) (s : State) : servoMoves b (withTime b value s) (timeSet b value s) := by
  unfold timeSet
  extract_lets v v1 s1
  have hs1 : withTime b value s = s1 := rfl
  rw [hs1]
  split
  · split
    · exact servoMoves_enterServo ..
    · split <;> exact servoMoves_enterServo ..
  · exact servoMoves_refl b s1

theorem timeSet_outsideSteps (b value : Nat) (s : State) : outsideSteps (timeSet b value s) = outsideSteps s := by
  rw [outsideSteps_of_outsideBases (servoMoves_outsideBases (servoMoves_timeSet b value s)), withTime, stepPulses_outsideSteps]
  rfl

theorem timeSet_same (b value : Nat) (s : State) :
    (timeBase (timeSet b value s) b).value = value ∧ (timeBase (timeSet b value s) b).isUnset = false := by
  have hset : timeBase (withTime b value s) b = setTo value (timeBase s b) := by
    rw [timeBase_withTime, timeBase_setTimeBase_same]
  constructor
  · rw [servoMoves_keeps (servoMoves_timeSet b value s) (·.value) (fun _ _ _ => rfl), hset]
    rfl
  · exact servoMoves_set (servoMoves_timeSet b value s) (by rw [hset]; rfl)

theorem timeBase_timeSet_other (b value : Nat) (s : State) {j : Nat} (hne : j ≠ b) :
    timeBase (timeSet b value s) j = timeBase s j := by
  rw [servoMoves_timeBase_other (servoMoves_timeSet b value s) hne, timeBase_withTime, timeBase_setTimeBase_other _ _ _ _ hne]

section

variable {p : TimeSetP} (hs : startable 0x0A02 none h e s) (howns : owns h kTimeBase p.tb.val s = true) (hwf : p.wf = true)

include hs howns hwf

theorem exec_timeSet_of_now (hnow : p.atPps = none) : exec (.timeSet h p) s =
    .next (finish e stOk 0 0 [] (timeSet p.tb.val (timeOf p.seconds p.ns p.frac) s)) :=
  perform_done hs (by simp [howns, hwf, hnow, okay])

theorem exec_timeSet_of_pps {i : Fin 4} (hpps : p.atPps = some i) :
    exec (.timeSet h p) s = .next (setPhase e (.running p.tb.val) (setTimeBase s p.tb.val { timeBase s p.tb.val with
      setWait := some { input := i.val, value := timeOf p.seconds p.ns p.frac } })) :=
  perform_later hs (by simp [howns, hwf, hpps])

end

/-! ## TIME_STEP_AUTHORISE (R392) -/

theorem owns_replaceFirst (c : Caller) (kind idx b : Nat) (s : State) :
    owns c kind idx (replaceFirst b s) = owns c kind idx s := by
  unfold replaceFirst
  split
  · split
    · exact owns_of_outsideSteps (servoCorrection_outsideSteps ..) c kind idx
    · rfl
  · rfl

/-- An authorised correction applied. -/
def authorised (b : Nat) (c : Int) (s : State) : State :=
  enterServo b .acquiring 7 (applyStep b c (setTimeBase s b { timeBase s b with pending := none }))

/-- What a correction applied leaves, whether or not the servo moves. -/
theorem timeBase_authorised_keeps {β : Type} (q : TimeBase → β) (hq : ∀ dst now v, q (entering dst now v) = q v) (b : Nat)
    (c : Int) (s : State) : q (timeBase (authorised b c s) b) = q (stepped c { timeBase s b with pending := none }) := by
  rw [authorised, servoMoves_keeps (servoMoves_enterServo ..) q hq, timeBase_applyStep_same, timeBase_setTimeBase_same]

section

variable {p : StepAuthP} {s1 : State} (hs : startable 0x0A03 none h e s) (howns : owns h kTimeBase p.tb.val s = true)
  (hfirst : s1 = replaceFirst p.tb.val s)

include hs howns hfirst

theorem exec_timeStepAuthorise_of_match {c : Int} (hpending : (timeBase s1 p.tb.val).pending = some c)
    (hseq : (timeBase s1 p.tb.val).stepSeq = p.stepSeq) (htolerance : (c - p.expected).natAbs ≤ p.toleranceNs * 65536) :
    exec (.timeStepAuthorise h p) s = .next (finish e stOk 0 0 [] (authorised p.tb.val c s1)) := by
  subst hfirst
  exact perform_done hs (by simp [howns, owns_replaceFirst, hpending, hseq, htolerance, okay, authorised])

theorem exec_timeStepAuthorise_of_mismatch {c : Int} (hpending : (timeBase s1 p.tb.val).pending = some c)
    (hmismatch : (timeBase s1 p.tb.val).stepSeq ≠ p.stepSeq ∨ p.toleranceNs * 65536 < (c - p.expected).natAbs) :
    exec (.timeStepAuthorise h p) s = .next (finish e stRefused 0x0A02 0 [] s1) := by
  subst hfirst
  have hrefused : ¬((timeBase (replaceFirst p.tb.val s) p.tb.val).stepSeq = p.stepSeq ∧
      (c - p.expected).natAbs ≤ p.toleranceNs * 65536) := by
    rintro ⟨hseq, hwithin⟩
    rcases hmismatch with hne | hbeyond
    · exact hne hseq
    · omega
  exact perform_done hs (by simp [howns, owns_replaceFirst, hpending, hrefused, refuse])

theorem exec_timeStepAuthorise_of_nonePending (hpending : (timeBase s1 p.tb.val).pending = none) :
    exec (.timeStepAuthorise h p) s = .next (finish e stEmpty 0 0 [] s1) := by
  subst hfirst
  exact perform_done hs (by simp [howns, owns_replaceFirst, hpending, emptyReply])

end

/-! ## Pins (R395, R397) -/

/-- A PPS input as PPS_INPUT_CONFIGURE sets it. -/
def withInput (p : PpsP) (i : PpsInput) : PpsInput :=
  { i with enabled := p.enable, tb := p.tb.val, falling := p.falling, inDelay := p.inDelay, present := i.present && p.enable }

theorem exec_ppsInputConfigure_of_owner {p : PpsP} (hs : startable 0x0A04 none h e s)
    (howns : owns h kTimeBase p.tb.val s = true) :
    ∃ s', exec (.ppsInputConfigure h p) s = .next (finish e stOk 0 0 [] s') ∧
      pps s' p.input.val = withInput p (pps s p.input.val) := by
  refine ⟨_, perform_done hs (if_neg (by simp [howns])), ?_⟩
  rw [pps_of_outsideBases (rejudgeInputs_outsideBases ..)]
  split
  · rw [postPps, pps_of_outsideBases (post_outsideBases ..), pps_setPps_same]
    rfl
  · exact pps_setPps_same ..

theorem firstEdge_isEdge (start period value : Nat) : ∃ k, firstEdge start period value = start + k * period := by
  unfold firstEdge
  split
  · exact ⟨0, by simp⟩
  · exact ⟨_, rfl⟩

/-- A pulse output as PULSE_OUTPUT_CONFIGURE sets it. -/
def asConfigured (p : PulseP) (s : State) : PulseOut :=
  { tb := p.tb.val, mode := p.mode.val, activeLow := p.activeLow, outDelay := p.outDelay, widthNs := p.widthNs,
    periodNs := p.periodNs, start := p.startSec * unitSec + p.startNs * unitNs, everConfigured := true,
    next := match p.mode.val with
      | 0 => none
      | 1 => some (p.startSec * unitSec + p.startNs * unitNs)
      | _ => some (firstEdge (p.startSec * unitSec + p.startNs * unitNs) (p.periodNs * unitNs) (timeBase s p.tb.val).value) }

theorem exec_pulseOutputConfigure_of_owner {p : PulseP} (hs : startable 0x0A05 none h e s)
    (howns : owns h kTimeBase p.tb.val s = true) (hwf : p.wf = true)
    (hahead : p.mode.val = 1 → (timeBase s p.tb.val).value + 1000 * unitNs ≤ p.startSec * unitSec + p.startNs * unitNs)
    (hwidth : p.mode.val = 2 → p.widthNs < p.periodNs) :
    exec (.pulseOutputConfigure h p) s = .next (finish e stOk 0 0 [] (setPulse s p.output.val (asConfigured p s))) := by
  have hlate : (decide (p.mode.val = 1) && decide (p.startSec * unitSec + p.startNs * unitNs <
      (timeBase s p.tb.val).value + 1000 * unitNs)) = false := by
    simpa using hahead
  have hwide : (decide (p.mode.val = 2) && decide (p.periodNs ≤ p.widthNs)) = false := by simpa using hwidth
  refine perform_done hs ?_
  simp only [howns, hwf, hlate, hwide, Bool.not_true, Bool.false_eq_true, if_false]
  rfl

/-! ## PTP (R400, R416) -/

/-- A PTP clock as PTP_CLOCK_CONFIGURE sets it. -/
def withClock (p : PtpClockP) (c : PtpClock) : PtpClock :=
  { c with enabled := p.enable, bound := true, tb := p.tb.val, domainNumber := p.domainNumber, priority2 := p.priority2,
           localPriority := p.localPriority, clockIdentity := p.clockIdentity }

theorem ptpClock_rejudged (c : Nat) (v : PtpClock) (s : State) : ptpClock (rejudgeInputs (setPtpClock s c v)) c = v := by
  rw [ptpClock_of_outsideBases (rejudgeInputs_outsideBases ..), ptpClock_setPtpClock_same]

theorem exec_ptpClockConfigure_of_unbound {p : PtpClockP} (hs : startable 0x0A06 none h e s)
    (howns : owns h kTimeBase p.tb.val s = true) (hwf : p.wf = true)
    (hfree : ∀ x ∈ s.time.clocks, x.1 ≠ p.clock.val → x.2.bound = true → x.2.tb ≠ p.tb.val) :
    exec (.ptpClockConfigure h p) s = .next (finish e stOk 0 0 []
      (rejudgeInputs (setPtpClock s p.clock.val (withClock p (ptpClock s p.clock.val))))) := by
  have hany : s.time.clocks.any (fun x => decide (x.1 ≠ p.clock.val) && x.2.bound && decide (x.2.tb = p.tb.val)) = false :=
    List.any_eq_false.2 fun x hx => by simpa using hfree x hx
  refine perform_done hs ?_
  simp only [howns, hwf, hany, Bool.not_true, Bool.false_eq_true, if_false]
  rfl

/-- The PTP port that PTP_PORT_CONFIGURE enables. -/
def newPort (p : PtpPortP) : PtpPort :=
  { port := p.port, tributary := p.tributary.val, masterOnly := p.masterOnly, nonForwardable := p.nonForwardable,
    localPriority := p.localPriority, delayAsymmetry := p.delayAsymmetry, state := 4, blocked := false }

/-- The clock with that port in place of the one of its PORT and tributary. -/
def withPort (p : PtpPortP) (c : PtpClock) : PtpClock :=
  { c with ports := c.ports.filter (fun x => decide (x.port ≠ p.port) || decide (x.tributary ≠ p.tributary.val)) ++ [newPort p] }

section

variable {p : PtpPortP} (hs : startable 0x0A07 none h e s) (howns : owns h kTimeBase (ptpClock s p.clock.val).tb s = true)
  (hexists : portExists p.port = true) (henable : p.enable = true)

include hs howns hexists henable

theorem exec_ptpPortConfigure_of_room (hbase : assignedBase p.port s = (ptpClock s p.clock.val).tb)
    (hroom : (ptpClock s p.clock.val).ports.length < 32) :
    exec (.ptpPortConfigure h p) s = .next (finish e stOk 0 0 []
      (rejudgeInputs (setPtpClock s p.clock.val (withPort p (ptpClock s p.clock.val))))) := by
  have hrest : ¬ 32 ≤ ((ptpClock s p.clock.val).ports.filter
      (fun x => decide (x.port ≠ p.port) || decide (x.tributary ≠ p.tributary.val))).length :=
    Nat.not_le.2 (Nat.lt_of_le_of_lt (List.length_filter_le ..) hroom)
  refine perform_done hs ?_
  simp only [howns, hexists, henable, hbase, if_neg hrest, ne_eq, not_true_eq_false, Bool.not_true, Bool.false_eq_true, if_false]
  rfl

theorem exec_ptpPortConfigure_of_otherBase (hbase : assignedBase p.port s ≠ (ptpClock s p.clock.val).tb) :
    exec (.ptpPortConfigure h p) s = .next (finish e stRefused 0x0A08 0 [] s) :=
  perform_done hs (by simp [howns, hexists, henable, hbase, refuse])

end

theorem exec_ptpStatus_of_startable (c : Fin 8) (hs : startable 0x0A08 none h e s) :
    exec (.ptpStatus h c) s = .next (finish e stOk 0 0 (ptpStatus (ptpClock s c.val)) s) := perform_done hs rfl

/-! ## Time of day on the trees (R404, R416) -/

theorem exec_treeTodConfigure_of_owner {p : TodP} (hs : startable 0x0A09 none h e s) (howns : owns h kTree p.tree.val s = true)
    (hwf : p.wf = true) :
    exec (.treeTodConfigure h p) s = .next (finish e stOk 0 0 [] (setTod s p.tree.val { tod s p.tree.val with
      enabled := p.enable, periodS := orDefault 10 p.periodS, asymPpb := p.asymPpb, driftNs := orDefault 2 p.driftNs })) :=
  perform_done hs (by simp [howns, hwf, okay])

/-- The answer of TREE_TOD_STATUS. -/
def todStatus (t i : Nat) (s : State) : List Byte :=
  fields 32 [(8, (tod s t).superframe), (2, fracOf (tod s t).instant), (4, nsOf (tod s t).instant), (6, secOf (tod s t).instant),
    (8, match terminalRtd t i s with
      | some r => twos 64 (oneWay r (tod s t).asymPpb) | none => 0), (4, (tod s t).messages)]

theorem length_todStatus (t i : Nat) (s : State) : (todStatus t i s).length = 32 := length_fields (by simp)

theorem exec_treeTodStatus_of_admitted {t : Fin 64} {i : Fin 512} (hs : startable 0x0A0E none h e s)
    (hadmitted : i.val ∈ admittedTerminals t.val s) :
    exec (.treeTodStatus h t i) s = .next (finish e stOk 0 0 (todStatus t.val i.val s) s) :=
  perform_done hs (if_neg (by simpa using hadmitted))

/-! ## The witness (R411, R416) -/

theorem exec_witnessConfigure_of_owner {p : WitnessP} (hs : startable 0x0A0A none h e s)
    (howns : owns h kLine p.line.val s = true) (hwf : p.wf = true) (hmode : line400zr p.line.val s = false) :
    ∃ w, exec (.witnessConfigure h p) s = .next (finish e stOk 0 0 [] (setWitness s p.line.val w)) ∧
      w.enabled = p.enable ∧ w.thresholdNs = orDefault 20 p.thresholdNs ∧ w.holdS = orDefault 60 p.holdS := by
  refine ⟨?w, perform_done hs ?body, ?fields⟩
  case body =>
    simp only [howns, hwf, hmode, Bool.not_true, Bool.false_eq_true, if_false]
    rfl
  case fields => exact ⟨rfl, rfl, rfl⟩

theorem exec_witnessStatus_of_startable (l : Fin 4) (hs : startable 0x0A0B none h e s) :
    exec (.witnessStatus h l) s = .next (finish e stOk 0 0 (witnessStatus (witness s l.val)) s) := perform_done hs rfl

theorem length_witnessStatus (w : Witness) : (witnessStatus w).length = 64 := length_fields (by simp)

/-- The witness once a declaration has been answered. -/
def answered (w : Witness) : Witness :=
  { w with step := false, refLost := false, window := [], reference := none, runDev := [], peerRun := 0 }

/-- Releasing the line's PTP ports, and reporting it, leave the witnesses. -/
theorem witness_releasePtp (l kind : Nat) (corr step : Int) (s : State) :
    witness (releasePtp l corr (postWitness l kind step s)) = witness s := by
  funext j
  rw [releasePtp, witness_of_outsideBases (rejudgeInputs_outsideBases ..)]
  exact witness_of_outsideBases (post_outsideBases ..) j

section

variable {l : Fin 4} {k : Nat} (hs : startable 0x0A0C none h e s) (howns : owns h kLine l.val s = true)
  (hstep : (witness s l.val).step = true) (hseq : (witness s l.val).stepSeq = k)

include hs howns hstep hseq

theorem exec_witnessApply_of_rebase :
    ∃ s', exec (.witnessApply h l k true) s = .next (finish e stOk 0 0 [] s') ∧
      witness s' l.val = { answered (witness s l.val) with rebases := satur 32 ((witness s l.val).rebases + 1) } := by
  refine ⟨?state, perform_done hs ?body, ?witness⟩
  case body =>
    simp only [howns, hstep, hseq, Bool.true_or, Bool.not_true, Bool.false_eq_true, ne_eq, not_true_eq_false, if_false, if_true]
    rfl
  case witness =>
    rw [witness_releasePtp, witness_setWitness_same]
    simp only [answered, hseq]

theorem exec_witnessApply_of_peer {peer : Int} (href : (witness s l.val).refLost = false)
    (hpeer : (witness s l.val).peerStep = some peer) :
    ∃ s', exec (.witnessApply h l k false) s = .next (finish e stOk 0 0 [] s') ∧
      witness s' l.val = answered (witness s l.val) := by
  refine ⟨?state, perform_done hs ?body, ?witness⟩
  case body =>
    simp only [howns, hstep, hseq, href, hpeer, Bool.true_or, Bool.not_true, Bool.false_eq_true, ne_eq, not_true_eq_false,
      if_false]
    rfl
  case witness =>
    rw [witness_releasePtp, witness_setWitness_same]
    simp only [answered, hseq, hpeer]

end

/-! ## PORT_TIME_BASE_SET (R23) -/

/-- The state with a base assigned to a port, in force at its next boundary. -/
def withAssigned (port base : Nat) (s : State) : State :=
  { s with time := { s.time with portTbNext := tset 0 port (base + 1) s.time.portTbNext } }

theorem exec_portTimeBaseSet_of_owner {port : Nat} (b : Fin 8) (hs : startable 0x0A0D none h e s)
    (hexists : portExists port = true) (hport : 0x40 ≤ port) (howns : ownsPort h port s = true) :
    exec (.portTimeBaseSet h port b) s = .next (finish e stOk 0 0 [] (withAssigned port b.val s)) :=
  perform_done hs (by simp [howns, hexists, Nat.not_lt.2 hport, okay, withAssigned])

theorem assignedBase_withAssigned (port base : Nat) (s : State) : assignedBase port (withAssigned port base s) = base := by
  simp [assignedBase, withAssigned]

theorem portTimeBase_portBoundary_withAssigned {port : Nat} (hport : 0x40 ≤ port) (base : Nat) (s : State) :
    portTimeBase port (portBoundary port (withAssigned port base s)) = base := by
  simp [portTimeBase, Nat.not_lt.2 hport, portBoundary, withAssigned]

end

/-- Settles O31: each command by its lemma; what a command leaves is read back from the table that it writes. -/
theorem timeCommandsComplete : Obligations.TimeCommandsComplete := by
  unfold Obligations.TimeCommandsComplete
  refine ⟨?configure, ?status, ?setNow, ?setAtPps, ?authorise, ?mismatch, ?nonePending, ?ppsInput, ?pulseOutput, ?clock, ?port,
    ?otherBase, ?ptpStatus, ?tod, ?witness, ?witnessStatus, ?rebase, ?apply, ?portBase, ?todStatus⟩
  case configure =>
    intro h p e s hs howns hwf hfabric hkind
    refine ⟨_, exec_timeBaseConfigure_of_owner hs howns hwf hfabric hkind,
      timeBaseConfigured_keeps (·.stepGuardNs) (fun _ _ _ => rfl) p s,
      timeBaseConfigured_keeps (·.maxSlewPpb) (fun _ _ _ => rfl) p s,
      timeBaseConfigured_keeps (·.lockNs) (fun _ _ _ => rfl) p s,
      ?freed, ?host, fun b hne => timeBase_timeBaseConfigured_other p s hne⟩
    case freed => exact fun hnone => by rw [timeBaseConfigured_of_none s hnone, servo_enterServo]
    case host => exact fun hhost => by rw [timeBaseConfigured_of_host s hhost, servo_enterServo]
  case status => exact fun h b e s hs => ⟨_, exec_timeBaseStatus_of_startable b hs, length_timeBaseStatus ..⟩
  case setNow =>
    intro h p e s hs howns hwf hnow
    obtain ⟨hvalue, hset⟩ := timeSet_same p.tb.val (timeOf p.seconds p.ns p.frac) s
    exact ⟨_, exec_timeSet_of_now hs howns hwf hnow, hvalue, hset, fun b hne => timeBase_timeSet_other _ _ s hne⟩
  case setAtPps => exact fun h p i e s hs howns hwf hpps => exec_timeSet_of_pps hs howns hwf hpps
  case authorise =>
    intro h p e s s1 c hs howns hfirst hpending hseq htolerance
    exact ⟨_, exec_timeStepAuthorise_of_match hs howns hfirst hpending hseq htolerance,
      timeBase_authorised_keeps (·.value) (fun _ _ _ => rfl) .., timeBase_authorised_keeps (·.check) (fun _ _ _ => rfl) ..,
      timeBase_authorised_keeps (·.pending) (fun _ _ _ => rfl) .., servo_enterServo ..,
      timeBase_authorised_keeps (·.stepsApplied) (fun _ _ _ => rfl) ..⟩
  case mismatch =>
    exact fun h p e s s1 c hs howns hfirst hpending hmismatch =>
      exec_timeStepAuthorise_of_mismatch hs howns hfirst hpending hmismatch
  case nonePending =>
    exact fun h p e s s1 hs howns hfirst hpending => exec_timeStepAuthorise_of_nonePending hs howns hfirst hpending
  case ppsInput => exact fun h p e s hs howns => exec_ppsInputConfigure_of_owner hs howns
  case pulseOutput =>
    intro h p e s hs howns hwf hahead hwidth
    refine ⟨_, _, exec_pulseOutputConfigure_of_owner hs howns hwf hahead hwidth, rfl, rfl, rfl, rfl, ?off, ?oneShot, ?periodic⟩
    case off => exact fun hmode => by simp only [asConfigured, hmode]
    case oneShot => exact fun hmode => by simp only [asConfigured, hmode]
    case periodic =>
      intro hmode
      obtain ⟨k, hedge⟩ := firstEdge_isEdge (p.startSec * unitSec + p.startNs * unitNs) (p.periodNs * unitNs)
        (timeBase s p.tb.val).value
      exact ⟨k, by simp only [asConfigured, hmode, hedge]⟩
  case clock =>
    exact fun h p e s hs howns hwf hfree => ⟨_, exec_ptpClockConfigure_of_unbound hs howns hwf hfree, ptpClock_rejudged ..⟩
  case port =>
    intro h p e s hs howns hexists henable hbase hroom
    refine ⟨_, newPort p, exec_ptpPortConfigure_of_room hs howns hexists henable hbase hroom, ?_, rfl, rfl, rfl⟩
    rw [ptpClock_rejudged]
    exact List.mem_append_right _ (List.mem_singleton_self _)
  case otherBase =>
    exact fun h p e s hs howns hexists henable hbase => exec_ptpPortConfigure_of_otherBase hs howns hexists henable hbase
  case ptpStatus => exact fun h c e s hs => exec_ptpStatus_of_startable c hs
  case tod => exact fun h p e s hs howns hwf => exec_treeTodConfigure_of_owner hs howns hwf
  case witness => exact fun h p e s hs howns hwf hmode => exec_witnessConfigure_of_owner hs howns hwf hmode
  case witnessStatus => exact fun h l e s hs => ⟨_, exec_witnessStatus_of_startable l hs, length_witnessStatus _⟩
  case rebase =>
    intro h l k e s hs howns hstep hseq
    obtain ⟨s', hexec, hw⟩ := exec_witnessApply_of_rebase hs howns hstep hseq
    exact ⟨s', hexec, by rw [hw]; exact ⟨rfl, rfl, rfl, rfl⟩⟩
  case apply =>
    intro h l k e s peer hs howns hstep href hseq hpeer
    obtain ⟨s', hexec, hw⟩ := exec_witnessApply_of_peer hs howns hstep hseq href hpeer
    exact ⟨s', hexec, by rw [hw]; rfl⟩
  case portBase =>
    exact fun h port b e s hs hexists hport howns => ⟨_, exec_portTimeBaseSet_of_owner b hs hexists hport howns,
      assignedBase_withAssigned .., rfl, portTimeBase_portBoundary_withAssigned hport ..⟩
  case todStatus =>
    exact fun h t i e s hs hadmitted => ⟨_, exec_treeTodStatus_of_admitted hs hadmitted, length_todStatus ..⟩

end Sys2Proof.Machine
end

section
/-!
PROOFS of the time chapter. What has left the device stays in its output: posting an event and moving a servo only add to it.
-/
namespace Sys2Proof.Machine

/-! ## Posting adds to the output -/

/-- The output of `t` is that of `s` with more before it. -/
def outGrows (s t : State) : Prop := s.out <:+ t.out

theorem outGrows_refl (s : State) : outGrows s s := List.suffix_refl _
theorem outGrows_trans {s t u : State} (h : outGrows s t) (k : outGrows t u) : outGrows s u := h.trans k
theorem outGrows_emit (o : Output) (s : State) : outGrows s (emit o s) := List.suffix_cons _ _

theorem outGrows_foldl {α : Type} {f : State → α → State} (h : ∀ s a, outGrows s (f s a)) (l : List α) (s : State) :
    outGrows s (l.foldl f s) := by
  induction l generalizing s with
  | nil => exact outGrows_refl s
  | cons a l ih => exact outGrows_trans (h s a) (ih (f s a))

theorem outGrows_setEvq (s : State) (q : Nat) (v : Evq) : outGrows s (setEvq s q v) := outGrows_refl s

theorem outGrows_signalVector (fn v : Nat) (s : State) : outGrows s (signalVector fn v s) := by
  unfold signalVector
  extract_lets e
  split
  · exact outGrows_refl s
  · exact outGrows_emit ..

theorem outGrows_sendMsix (q : Nat) (s : State) : outGrows s (sendMsix q s) :=
  outGrows_trans (outGrows_emit _ s) (outGrows_signalVector ..)

theorem outGrows_fireMsix (q before : Nat) (s : State) : outGrows s (fireMsix q before s) := by
  unfold fireMsix
  extract_lets e
  split
  · exact outGrows_trans (outGrows_setEvq s q _) (outGrows_sendMsix ..)
  · exact outGrows_refl s

theorem outGrows_storeEvent (q : Nat) (r : Record) (s : State) : outGrows s (storeEvent q r s) :=
  outGrows_trans (outGrows_setEvq s q _) (outGrows_emit ..)

theorem outGrows_warnOverflow (q : Nat) (s : State) : outGrows s (warnOverflow q s) := by
  unfold warnOverflow
  extract_lets e s1 counts s2
  have hs2 : outGrows s s2 := outGrows_refl s
  split
  · exact outGrows_refl s
  · split
    · split
      · exact hs2
      · split
        · exact hs2
        · exact outGrows_trans hs2 (outGrows_trans (outGrows_storeEvent _ _ (setEvq s2 _ _)) (outGrows_fireMsix ..))
    · exact hs2

theorem outGrows_putRecord (q : Nat) (r : Record) (s : State) : outGrows s (putRecord q r s) := by
  unfold putRecord
  split
  · exact outGrows_refl s
  · split
    · exact outGrows_storeEvent q r s
    · exact outGrows_warnOverflow q (dropRecord q s)

theorem outGrows_writeRecords (q : Nat) (rs : List Record) (s : State) : outGrows s (writeRecords q rs s) :=
  outGrows_trans (outGrows_foldl (fun st r => outGrows_putRecord q r st) rs (setEvq s q { evq s q with inWrite := 0 }))
    (outGrows_fireMsix ..)

theorem outGrows_flushStage (q : Nat) (s : State) : outGrows s (flushStage q s) :=
  outGrows_writeRecords q _ (setEvq s q { evq s q with stage := [] })

theorem outGrows_toQueue (q : Nat) (coalesce : Bool) (r : Record) (s : State) : outGrows s (toQueue q coalesce r s) := by
  unfold toQueue
  extract_lets e s1
  have hwritten (rs stage : List Record) : outGrows s (writeRecords q rs (setEvq s q { e with stage := stage })) :=
    outGrows_writeRecords q rs (setEvq s q { e with stage := stage })
  split
  · exact outGrows_refl s
  · split
    · exact hwritten ..
    · split
      · split
        · exact outGrows_flushStage q s1
        · exact outGrows_refl s
      · split
        · exact hwritten ..
        · exact outGrows_writeRecords q [r] s

theorem outGrows_deliverTo (q : Option Nat) (coalesce : Bool) (r : Record) (s : State) :
    outGrows s (deliverTo q coalesce r s) := by
  unfold deliverTo
  split
  · split
    · exact outGrows_toQueue _ coalesce r s
    · exact outGrows_refl s
  · exact outGrows_refl s

theorem outGrows_post (src : Nat) (cls : EvClass) (payload : Nat) (s : State) : outGrows s (post src cls payload s) := by
  unfold post
  extract_lets r counted e dq relayed delivered
  have hcounted : outGrows s counted := outGrows_refl s
  split
  · exact outGrows_refl s
  · split
    · exact hcounted
    · refine outGrows_trans hcounted ?_
      split
      · exact outGrows_deliverTo ..
      · split
        · have hrelayed : outGrows counted relayed := by
            unfold relayed
            split
            · exact outGrows_emit ..
            · exact outGrows_refl counted
          split
          · exact outGrows_trans hrelayed (outGrows_deliverTo ..)
          · exact hrelayed
        · have hdelivered : outGrows counted delivered := outGrows_deliverTo ..
          split
          · exact outGrows_trans hdelivered (outGrows_deliverTo ..)
          · exact hdelivered

/-! ## Moves of the servo add to the output -/

theorem servoMoves_outGrows {b : Nat} {s t : State} (h : servoMoves b s t) : outGrows s t := by
  rcases servoMoves_cases h with rfl | ⟨dst, src, payload, rfl⟩
  · exact outGrows_refl t
  · exact outGrows_post _ _ _ (setTimeBase s b (entering dst s.now (timeBase s b)))

theorem outGrows_rejudgeInputs (s : State) : outGrows s (rejudgeInputs s) :=
  outGrows_foldl (fun st b => servoMoves_outGrows (servoMoves_judged b st)) _ s

end Sys2Proof.Machine
end

section
/-!
PROOFS of the time chapter. The Campanile windows, the pins, the boundary clock, the witness and Keep-only.
-/
namespace Sys2Proof.Machine

/-! ## The windows that steer a time base (R376, R383, R391, R393) -/

theorem clampAdj_bounded (a : Int) : (clampAdj a).natAbs ≤ 102400000 := by
  unfold clampAdj
  omega

section

variable {f : PciFn} {b : Fin 8} {s : State} (hready : s.boot.fwReady = true) (hpf : isPf f = true)

include hready hpf

theorem exec_campFreq_of_steers (a : Int) (hsteers : steers f b.val s = true) : exec (.campFreq f b a) s =
    .next (setTimeBase s b.val { timeBase s b.val with adj := clampAdj a, adjResult := 0 }) :=
  (if_neg (by simp [windowsDown_of_fwReady hready])).trans ((if_neg (by simp [hpf])).trans (if_neg (by simp [hsteers])))

theorem exec_campFreq_of_stranger (a : Int) (hstranger : steers f b.val s = false) : exec (.campFreq f b a) s =
    .next (setTimeBase s b.val { timeBase s b.val with adjResult := 2 }) :=
  (if_neg (by simp [windowsDown_of_fwReady hready])).trans ((if_neg (by simp [hpf])).trans (if_pos (by simp [hstranger])))

variable (authorise : Bool) (hsteers : steers f b.val s = true)

include hsteers

/-- The step of the phase register applied, and its RESULT. -/
theorem exec_campAdjApply_of_spaced (hspaced : ∀ t, (timeBase s b.val).lastApply = some t → t + 200 ≤ s.now)
    (hallowed : beyondGuard (timeBase s b.val) (timeBase s b.val).phaseReg = false ∨ authorise = true) :
    exec (.campAdjApply f b authorise) s =
      .next (setTimeBase (applyStep b.val (timeBase s b.val).phaseReg s) b.val
        { timeBase (applyStep b.val (timeBase s b.val).phaseReg s) b.val with
          adjResult := 0, applied := ((timeBase s b.val).applied + 1) % 2 ^ 16, lastApply := some s.now }) := by
  refine (if_neg (by simp [windowsDown_of_fwReady hready])).trans ((if_neg (by simp [hpf])).trans
    ((if_neg (by simp [hsteers])).trans ((if_neg ?spaced).trans (if_neg ?allowed))))
  case spaced =>
    cases hlast : (timeBase s b.val).lastApply with
    | none => simp
    | some t => simpa using hspaced t hlast
  case allowed =>
    rcases hallowed with hguard | hauthorised
    · simp [hguard]
    · simp [hauthorised]

theorem exec_campAdjApply_of_early {t : Nat} (hlast : (timeBase s b.val).lastApply = some t) (hearly : s.now < t + 200) :
    exec (.campAdjApply f b authorise) s = .next (setTimeBase s b.val { timeBase s b.val with adjResult := 3 }) := by
  refine (if_neg (by simp [windowsDown_of_fwReady hready])).trans ((if_neg (by simp [hpf])).trans
    ((if_neg (by simp [hsteers])).trans (if_pos ?early)))
  simp [hlast, hearly]

end

/-! ## PPS inputs (R378, R387, R395, R396) -/

/-- A PPS input at its edge. -/
def atEdge (phase : Nat) (s : State) (i : PpsInput) : PpsInput :=
  { i with present := true, lastStamp := ppsStamp i (phase % 16) i.tb s, edgeAt := s.now }

/-- Beside its input the edge changes time bases, and those that it sets complete their TIME_SET; neither changes an input. -/
theorem exec_ppsEdge_of_enabled {i : Fin 4} {s : State} (k : Nat) (henabled : (pps s i.val).enabled = true) :
    ∃ s', exec (.ppsEdge i k) s = .next s' ∧ pps s' i.val = atEdge k s (pps s i.val) := by
  have hset (b value : Nat) (u : State) :
      (completeRunning 0x0A02 b stOk 0 0 [] (timeSet b value u)).time.pps = u.time.pps :=
    (congrArg Time.pps (time_of_lasting (completeRunning_lasting ..))).trans
      (ppsTable_of_outsideSteps (timeSet_outsideSteps b value u))
  refine ⟨_, if_neg (by simp [henabled]), ?_⟩
  rw [pps_of_outsideBases (rejudgeInputs_outsideBases ..)]
  refine (pps_of_table (foldl_keeps (·.time.pps) _ (fun u b => ?step) _ _) _).trans ?input
  case step =>
    extract_lets v off v1 u1
    split
    · split
      · rw [hset]
        rfl
      · rfl
    · rfl
  case input =>
    split
    · exact pps_setPps_same ..
    · rw [postPps, pps_of_outsideBases (post_outsideBases ..), pps_setPps_same]
      rfl

theorem exec_ppsInputLost_of_lapsed {i : Fin 4} {s : State} (hpresent : (pps s i.val).present = true)
    (hlapsed : lapsed (pps s i.val).edgeAt 2500000000 s = true) :
    ∃ s', exec (.ppsInputLost i) s = .next s' ∧ pps s' i.val = { pps s i.val with present := false } := by
  refine ⟨_, if_pos (by simp [hpresent, hlapsed]), ?_⟩
  rw [pps_of_outsideBases (rejudgeInputs_outsideBases ..), postPps, pps_of_outsideBases (post_outsideBases ..), pps_setPps_same]

/-! ## Pulse outputs (R397, R398) -/

theorem exec_pulseEdge (o : Fin 8) (s : State) : exec (.pulseEdge o) s = .next (if stepAwaits s = true then
    { s with time := { s.time with pulsesDue := s.time.pulsesDue ++ [o.val] } } else pulseEdge o.val s) :=
  (apply_ite Host.Outcome.next ..).symm

theorem pulseEdge_of_oneShot {o x : Nat} {s : State} (hnext : (pulse s o).next = some x) (hmode : (pulse s o).mode = 1)
    (hdue : edgeDue (pulse s o) x s = true) (hagrees : (timeBase s (pulse s o).tb).checkFault = false) :
    pulseEdge o s = post (0x318 + o) .info 0
      (setPulse (emit (.pulse o ((driven (pulse s o) x % (timeModulus : Int)).toNat) (pulse s o).widthNs
        (pulse s o).activeLow) s) o { pulse s o with next := none }) := by
  simp [pulseEdge, hnext, hmode, hdue, hagrees]

/-! ## The cross-check (R415, R536, R537) -/

/-- The time base whose check counter a fault has moved by `d`. -/
def upsetBy (d : Int) (v : TimeBase) : TimeBase := { v with check := addFrac v.check d }

/-- The two counters differ by more than 4 ns. -/
def countersDiffer (v : TimeBase) : Bool := decide (4 * unitNs < ((v.value : Int) - (v.check : Int)).natAbs)

/-- PPS checks out of bounds in a row, this one among them. -/
def badPpsChecks (v : TimeBase) : Nat :=
  if v.checkPps.isSome && decide (v.checkPpsNs * 65536 < (v.checkPpsDiff.getD 0).natAbs) then v.checkPpsBad + 1 else 0

/-- The time base after its cross-check. -/
def crossChecked (v : TimeBase) : TimeBase :=
  { v with checkPpsBad := min (badPpsChecks v) 2, checkPpsDiff := none, checkedSec := secOf v.value,
           checkFault := v.checkFault || countersDiffer v || decide (2 ≤ badPpsChecks v) }

theorem exec_crossCheck_of_due {b : Fin 8} {s : State} (d : Int) (harmed : (timeBase s b.val).checkEnable = true)
    (hsecond : secOf (timeBase s b.val).value ≠ (timeBase s b.val).checkedSec) :
    ∃ s', exec (.crossCheck b d) s = .next s' ∧ timeBase s' b.val = crossChecked (upsetBy d (timeBase s b.val)) := by
  rw [show exec (.crossCheck b d) s = execCrossCheck b d s from rfl]
  unfold execCrossCheck
  extract_lets v0 v u diff counterBad pps bad ppsBad s1 report
  have hchecked : timeBase s1 b.val = crossChecked (upsetBy d (timeBase s b.val)) := timeBase_setTimeBase_same ..
  rw [if_neg (by simp [v, v0, harmed, hsecond])]
  split
  · exact ⟨_, rfl, by rw [postSafe, timeBase_post, timeBase_post, hchecked]⟩
  · exact ⟨_, rfl, hchecked⟩

theorem crossChecked_of_differ {v : TimeBase} (hdiffer : countersDiffer v = true) : (crossChecked v).checkFault = true := by
  simp [crossChecked, hdiffer]

theorem crossChecked_of_agree {v : TimeBase} (hagree : countersDiffer v = false) (hpps : v.checkPps = none) :
    (crossChecked v).checkFault = v.checkFault ∧ (crossChecked v).checkPpsBad = 0 := by
  simp [crossChecked, hagree, badPpsChecks, hpps]

/-! ## The boundary clock (R386, R387, R399, R400) -/

@[simp] theorem portBoundary_now (port : Nat) (s : State) : (portBoundary port s).now = s.now := by
  unfold portBoundary
  split <;> rfl

@[simp] theorem emit_outsideBases (o : Output) (s : State) : outsideBases (emit o s) = outsideBases s := rfl

/-- The clock after a message on its port `p` with the stamp `rx`. -/
def heardClock (f : PtpFrame) (rx now : Nat) (c : PtpClock) (p : PtpPort) : PtpClock :=
  let (c1, p1) := ptpReceive f rx now c p
  { c1 with ports := c1.ports.map (fun x => if x = p then p1 else x),
            offset := if givesOffset f p then (ptpOffset c1 p1).getD c1.offset else c1.offset }

/-- The message taken up by clock `k`, a Delay_Req answered, before the offset is measured. -/
def heard (f : PtpFrame) (k : Nat) (c : PtpClock) (p : PtpPort) (s : State) : State :=
  let s1 := setPtpClock s k (heardClock f (receiveStamp p.port c.tb s) s.now c p)
  if f.kind.val = 1 ∧ p.state = 6 then emit (.ptpMessage k 9 p.port p.tributary (receiveStamp p.port c.tb s) none) s1 else s1

theorem ptpClock_heard (f : PtpFrame) (k : Nat) (c : PtpClock) (p : PtpPort) (s : State) :
    ptpClock (heard f k c p s) k = heardClock f (receiveStamp p.port c.tb s) s.now c p := by
  unfold heard
  extract_lets s1
  have hclock : ptpClock s1 k = heardClock f (receiveStamp p.port c.tb s) s.now c p := ptpClock_setPtpClock_same ..
  split
  · rw [ptpClock_of_outsideBases (emit_outsideBases ..), hclock]
  · exact hclock

/-- A message that finds its clock and port where stamps are taken: the clock takes it up, an offset is measured or not, and the
inputs are judged again. -/
theorem exec_ptpMessage_of_port {f : PtpFrame} {s s1 : State} {k : Nat} {c : PtpClock} {p : PtpPort}
    (hs1 : s1 = portBoundary f.port s) (hstamps : stampsAt f.port s1 = true)
    (hclock : s1.time.clocks.find? (fun e => e.2.enabled && e.2.bound && decide (e.2.domainNumber = f.domainNumber) &&
      decide (portTimeBase f.port s1 = e.2.tb) && e.2.ports.any (ptpPortMatches f)) = some (k, c))
    (hport : c.ports.find? (ptpPortMatches f) = some p) :
    ∃ u, exec (.ptpMessage f) s = .next (rejudgeInputs u) ∧
      (u = heard f k c p s1 ∨ ∃ o, givesOffset f p = true ∧ u = measure c.tb o (heard f k c p s1)) := by
  subst hs1
  rw [show exec (.ptpMessage f) s = execPtpMessage f s from rfl]
  simp only [execPtpMessage, hclock, hport, hstamps]
  refine ⟨_, rfl, ?_⟩
  split
  case isTrue hmeasures =>
    have hgives : givesOffset f p = true := by
      simp only [Bool.and_eq_true] at hmeasures
      exact hmeasures.1.1
    split
    · exact .inr ⟨_, hgives, rfl⟩
    · exact .inl rfl
  case isFalse => exact .inl rfl

section

variable {f : PtpFrame} {p : PtpPort}

/-- A Sync in one step at the slave port measures the offset (R399). -/
theorem heardClock_of_sync (rx now : Nat) (c : PtpClock) (hkind : f.kind.val = 0) (hstep : f.twoStep = false)
    (hstate : p.state = 9) :
    (heardClock f rx now c p).syncLost = false ∧ (heardClock f rx now c p).syncAt = now ∧
    (heardClock f rx now c p).offset = (rx : Int) - f.stamp - f.correction - p.delayAsymmetry - c.meanDelay := by
  simp [heardClock, ptpReceive, givesOffset, ptpOffset, hkind, hstep, hstate]

theorem givesOffset_of_delayReq (hkind : f.kind.val = 1) : givesOffset f p = false := by simp [givesOffset, hkind]

theorem heard_out_of_delayReq (k : Nat) (c : PtpClock) (s : State) (hkind : f.kind.val = 1) (hstate : p.state = 6) :
    (heard f k c p s).out = .ptpMessage k 9 p.port p.tributary (receiveStamp p.port c.tb s) none :: s.out := by
  simp [heard, hkind, hstate]

end

theorem exec_ptpInputLost_of_lapsed {c : Fin 8} {s : State} (henabled : (ptpClock s c.val).enabled = true)
    (hlapsed : lapsed (ptpClock s c.val).syncAt 1000000000 s = true) :
    ∃ s', exec (.ptpInputLost c) s = .next s' ∧ ptpClock s' c.val = { ptpClock s c.val with syncLost := true } :=
  ⟨_, if_pos (by simp [henabled, hlapsed]), ptpClock_rejudged ..⟩

/-- Sync and its Follow_Up leave by the clock's one master port (R399). -/
theorem exec_ptpMessageSend_of_sync {c : Fin 8} {s s1 : State} {p : PtpPort} (henabled : (ptpClock s c.val).enabled = true)
    (hagrees : (timeBase s (ptpClock s c.val).tb).checkFault = false) (hdue : messageDue 0 (ptpClock s c.val) s.now = true)
    (hports : (ptpClock s c.val).ports = [p]) (hmaster : p.state = 6) (hs1 : s1 = portBoundary p.port s)
    (hbase : portTimeBase p.port s1 = (ptpClock s c.val).tb) :
    exec (.ptpMessageSend c 0) s = .next
      (emit (.ptpMessage c.val 8 p.port p.tributary (sendStamp p.port (ptpClock s c.val).tb s1) none)
        (emit (.ptpMessage c.val 0 p.port p.tributary (sendStamp p.port (ptpClock s c.val).tb s1) none)
          (setPtpClock s1 c.val { ptpClock s c.val with syncSent := some s.now }))) := by
  subst hs1
  rw [show exec (.ptpMessageSend c 0) s = execPtpMessageSend c 0 s from rfl]
  simp [execPtpMessageSend, henabled, hagrees, hdue, hports, hmaster, hbase, markSent, sendPtp]

/-! ## Time of day on the trees (R404, R405) -/

theorem exec_todMessage_of_due {t : Fin 64} {n : Nat} {s : State} (henabled : (tod s t.val).enabled = true)
    (hon : treeOn t.val s = true) (hrate : treeDoubleRate t.val s = false)
    (hagrees : (timeBase s (treeTimeBase t.val s)).checkFault = false) (hdue : todDue t.val s = true)
    (hahead : (tree s t.val).superframe + 80 ≤ n) :
    exec (.todMessage t n) s = .next (emit (.todMessage t.val n none (predicted t.val n s))
      (setTod s t.val { tod s t.val with superframe := n, instant := predicted t.val n s, sentAt := s.now,
                                         period := framePeriod (tree s t.val).frameStamps,
                                         messages := satur 32 ((tod s t.val).messages + 1) })) :=
  (if_neg (by simp [henabled, hon, hagrees, hdue, Nat.not_lt.2 hahead])).trans (if_neg (by simp [hrate]))

/-! ## The witness (R407–R410) -/

theorem exec_witnessMessage_of_badCrc {l : Fin 4} {bytes : List Byte} {s : State} (henabled : (witness s l.val).enabled = true)
    (hstamps : lineStamps l.val s = true) (hmode : line400zr l.val s = false) (him : leavesIm l.val s = false)
    (hcrc : parseWitness bytes = none) : exec (.witnessMessage l bytes) s = .next (setWitness s l.val { witness s l.val with
      crcErrors := satur 32 ((witness s l.val).crcErrors + 1) }) := by
  refine (if_neg (by simp [henabled, hstamps, hmode, him])).trans ?_
  rw [hcrc]

theorem witness_stopLinePtp (l : Nat) (s : State) (j : Nat) : witness (stopLinePtp l s) j = witness s j :=
  foldl_keeps (witness · j) _ (fun _ _ => witness_of_outsideBases (servoMoves_outsideBases (servoMoves_inputLost ..)) j) _ _

/-- A lost reference declared. -/
theorem witness_declareStep_of_lost (l : Nat) (step : Int) (s : State) :
    (witness (declareStep l true step s) l).refLost = true ∧
    (witness (declareStep l true step s) l).stepSeq = ((witness s l).stepSeq + 1) % 2 ^ 16 := by
  rw [declareStep, witness_stopLinePtp, postWitness, witness_of_outsideBases (post_outsideBases ..), witness_setWitness_same]
  exact ⟨Bool.or_true _, rfl⟩

theorem exec_witnessHoldExpiry_of_lapsed {l : Fin 4} {s : State} (henabled : (witness s l.val).enabled = true)
    (href : (witness s l.val).reference.isSome = true) (hkept : (witness s l.val).refLost = false)
    (hstamps : lineStamps l.val s = false)
    (hlapsed : lapsed (framer s l.val).mfSince ((witness s l.val).holdS * 1000000000) s = true) :
    exec (.witnessHoldExpiry l) s = .next (declareStep l.val true 0 s) :=
  if_pos (by simp [henabled, href, hkept, hstamps, hlapsed])

/-! ## Keep-only (R412–R414) -/

theorem resumeBase_value (ticks : Nat) (clkLost : Bool) (stoppedAt now : Nat) (v : TimeBase) :
    (resumeBase ticks clkLost stoppedAt now v).value = (v.value + ticks * (unitSec / 32768)) % timeModulus := by
  unfold resumeBase
  extract_lets add v1
  split <;> rfl

@[simp] theorem timeBase_postOrOwe (src : Nat) (cls : EvClass) (payload : Nat) (s : State) (b : Nat) :
    timeBase (postOrOwe src cls payload s) b = timeBase s b := by
  unfold postOrOwe
  split
  · exact timeBase_post ..
  · rfl

/-- Time base `b` resumed, and the servo state that it enters posted. -/
def resumeOne (ticks : Nat) (clkLost : Bool) (stoppedAt : Nat) (s : State) (b : Nat) : State :=
  let v := timeBase s b
  let v1 := resumeBase ticks clkLost stoppedAt s.now v
  let s1 := setTimeBase s b v1
  if v1.servo = v.servo then s1
  else postOrOwe (0x300 + b) .info
    (servoCode v1.servo + servoCode v.servo * 8 + 5 * 2 ^ 6 + uncertainty v1 s.now * 2 ^ 10) s1

theorem timeBase_resumeOne (ticks : Nat) (clkLost : Bool) (stoppedAt : Nat) (s : State) (b j : Nat) :
    timeBase (resumeOne ticks clkLost stoppedAt s b) j =
      timeBase (setTimeBase s b (resumeBase ticks clkLost stoppedAt s.now (timeBase s b))) j := by
  unfold resumeOne
  extract_lets v v1 s1
  split
  · rfl
  · exact timeBase_postOrOwe ..

/-- Every time base resumed. -/
def resumeAll (ticks : Nat) (clkLost : Bool) (stoppedAt : Nat) (s : State) : State :=
  (List.range 8).foldl (resumeOne ticks clkLost stoppedAt) s

theorem value_resumeAll (ticks : Nat) (clkLost : Bool) (stoppedAt : Nat) (s : State) {b : Nat} (hb : b < 8) :
    (timeBase (resumeAll ticks clkLost stoppedAt s) b).value =
      ((timeBase s b).value + ticks * (unitSec / 32768)) % timeModulus :=
  (foldl_range_each (r := fun u b => (timeBase u b).value) (g := fun _ x => (x + ticks * (unitSec / 32768)) % timeModulus)
    (fun u b => by rw [timeBase_resumeOne, timeBase_setTimeBase_same, resumeBase_value])
    (fun u b j hne => by rw [timeBase_resumeOne, timeBase_setTimeBase_other _ _ _ _ hne]) 8 b s).trans (if_pos hb)

/-- The clocks running again after the sleep, the ledger's count taken. -/
def withClocks (ticks : Nat) (s : State) : State :=
  { s with
    time := { s.time with stopped := false },
    pwr := { s.pwr with clk32kLostAsleep := false, keep := { s.pwr.keep with ticks := ticks } } }

theorem timeBase_withClocks (ticks : Nat) (s : State) (b : Nat) : timeBase (withClocks ticks s) b = timeBase s b := rfl

theorem exec_sleepLedgerResume_of_woken {s : State} (n : Nat) (hstopped : s.time.stopped = true)
    (hawake : s.pwr.keep.asleep = false) : exec (.sleepLedgerResume n) s =
      .next (withClocks (n % 2 ^ 48) (resumeAll (n % 2 ^ 48) s.pwr.clk32kLostAsleep s.time.stoppedAt s)) := by
  rw [show exec (.sleepLedgerResume n) s = execSleepLedgerResume n s from rfl]
  unfold execSleepLedgerResume
  rw [if_neg (by simp [hstopped, hawake])]
  extract_lets ticks lost bs
  have hall : resumeAll (n % 2 ^ 48) s.pwr.clk32kLostAsleep s.time.stoppedAt s = bs := rfl
  rw [hall]
  clear_value bs
  rfl

/-- Settles O34: each register, pin and message by its lemma; what it leaves is read back from the table that it writes. -/
theorem campanileRegistersAndTimeEvents : Obligations.CampanileRegistersAndTimeEvents := by
  unfold Obligations.CampanileRegistersAndTimeEvents
  refine ⟨?snapshot, ?heldSnapshot, ?latchAll, ?freq, ?freqStranger, ?adjust, ?adjustEarly, ?ppsEdge, ?ppsLost, ?pulse, ?oneShot,
    ?checkFails, ?checkHolds, ?ptp, ?ptpLost, ?ptpSend, ?tod, ?badCrc, ?holdExpiry, ?resume⟩
  case snapshot =>
    intro f b s hready hfree
    refine ⟨_, exec_campSnapFrac_of_unlatched f b hready hfree, ?_, rfl⟩
    exact congrArg TimeBase.snapshot (timeBase_setTimeBase_same ..)
  case heldSnapshot =>
    intro f b s hready hlatched
    refine ⟨_, exec_campSnapFrac_of_latched f b hready hlatched, ?_, rfl⟩
    exact congrArg TimeBase.latched (timeBase_setTimeBase_same ..)
  case latchAll =>
    intro f mask s hready hpf
    refine ⟨_, exec_campLatchAll_of_pf mask hready hpf, fun b hb => ?_⟩
    rw [timeBase_latchAll hb]
    split
    · exact ⟨rfl, rfl⟩
    · rfl
  case freq => exact fun f b a s hready hpf hsteers => ⟨exec_campFreq_of_steers hready hpf a hsteers, clampAdj_bounded a⟩
  case freqStranger => exact fun f b a s hready hpf hstranger => exec_campFreq_of_stranger hready hpf a hstranger
  case adjust =>
    intro f b authorise s hready hpf hsteers hspaced hallowed
    refine ⟨_, exec_campAdjApply_of_spaced hready hpf authorise hsteers hspaced hallowed, ?_⟩
    rw [timeBase_setTimeBase_same, timeBase_applyStep_same]
    exact ⟨rfl, rfl, rfl⟩
  case adjustEarly =>
    exact fun f b authorise s t hready hpf hsteers hlast hearly =>
      exec_campAdjApply_of_early hready hpf authorise hsteers hlast hearly
  case ppsEdge =>
    intro i k s henabled
    obtain ⟨s', hexec, hpps⟩ := exec_ppsEdge_of_enabled k henabled
    exact ⟨s', hexec, by rw [hpps]; exact ⟨rfl, rfl, rfl⟩⟩
  case ppsLost =>
    intro i s hpresent hlapsed
    obtain ⟨s', hexec, hpps⟩ := exec_ppsInputLost_of_lapsed hpresent hlapsed
    exact ⟨s', hexec, by rw [hpps]⟩
  case pulse => exact exec_pulseEdge
  case oneShot => exact fun o s x hnext hmode hdue hagrees => pulseEdge_of_oneShot hnext hmode hdue hagrees
  case checkFails =>
    intro b d s harmed hsecond hdiffer
    obtain ⟨s', hexec, hchecked⟩ := exec_crossCheck_of_due d harmed hsecond
    exact ⟨s', hexec, by rw [hchecked]; exact crossChecked_of_differ (decide_eq_true hdiffer)⟩
  case checkHolds =>
    intro b d s harmed hsecond hpps hagree
    obtain ⟨s', hexec, hchecked⟩ := exec_crossCheck_of_due d harmed hsecond
    obtain ⟨hfault, hbad⟩ :=
      crossChecked_of_agree (v := upsetBy d (timeBase s b.val)) (decide_eq_false (Nat.not_lt.2 hagree)) hpps
    exact ⟨s', hexec, by rw [hchecked]; exact ⟨hfault, hbad, rfl⟩⟩
  case ptp =>
    intro f s s1 k c p hs1 hstamps hclock hport
    obtain ⟨u, hexec, hu⟩ := exec_ptpMessage_of_port hs1 hstamps hclock hport
    constructor
    · intro hkind hstep hstate
      have hk : ptpClock (rejudgeInputs u) k = heardClock f (receiveStamp p.port c.tb s1) s1.now c p := by
        rw [ptpClock_of_outsideBases (rejudgeInputs_outsideBases u), ← ptpClock_heard]
        rcases hu with rfl | ⟨o, -, rfl⟩ <;> rfl
      obtain ⟨hlost, hat, hoffset⟩ := heardClock_of_sync (receiveStamp p.port c.tb s1) s1.now c hkind hstep hstate
      refine ⟨_, hexec, ?_⟩
      rw [hk]
      exact ⟨hlost, by rw [hat, hs1, portBoundary_now], hoffset⟩
    · intro hkind hstate
      rcases hu with rfl | ⟨o, hgives, -⟩
      · refine ⟨_, hexec, (outGrows_rejudgeInputs _).subset ?_⟩
        rw [heard_out_of_delayReq k c s1 hkind hstate]
        exact List.mem_cons_self
      · rw [givesOffset_of_delayReq hkind] at hgives
        exact absurd hgives Bool.false_ne_true
  case ptpLost =>
    intro c s henabled hlapsed
    obtain ⟨s', hexec, hclock⟩ := exec_ptpInputLost_of_lapsed henabled hlapsed
    exact ⟨s', hexec, by rw [hclock]⟩
  case ptpSend =>
    exact fun c s s1 p henabled hagrees hdue hports hmaster hs1 hbase =>
      exec_ptpMessageSend_of_sync henabled hagrees hdue hports hmaster hs1 hbase
  case tod =>
    exact fun t n s henabled hon hrate hagrees hdue hahead => exec_todMessage_of_due henabled hon hrate hagrees hdue hahead
  case badCrc =>
    exact fun l bytes s henabled hstamps hmode him hcrc => exec_witnessMessage_of_badCrc henabled hstamps hmode him hcrc
  case holdExpiry =>
    exact fun l s henabled href hkept hstamps hlapsed =>
      ⟨_, exec_witnessHoldExpiry_of_lapsed henabled href hkept hstamps hlapsed, witness_declareStep_of_lost ..⟩
  case resume =>
    intro n s hstopped hawake
    refine ⟨_, exec_sleepLedgerResume_of_woken n hstopped hawake, rfl, fun b hb => ?_⟩
    rw [timeBase_withClocks, value_resumeAll _ _ _ _ hb]

end Sys2Proof.Machine
end

section
/-! PROOFS of the fabric's addresses (R469, R471), of memory at reset and of the front command. -/

namespace Sys2Proof.Machine

-- One proof at a time: elaborated side by side, the proofs of the joined text need more memory than its check has.
set_option Elab.async false

/-- Settles O1: that is what `step` does where the queue is not empty. -/
theorem stepRunsTheFrontCommand : Obligations.StepRunsTheFrontCommand := fun _ _ _ => rfl

/-- Settles O54: board memory holds no cell at all right after reset. -/
theorem resetMemoryIsCanonical : Obligations.ResetMemoryIsCanonical := by
  simp [Obligations.ResetMemoryIsCanonical, memoryWf, Memory.wf, State.reset, tableWf]

/-! ## Computed addresses -/

/-- The addresses of a table differ from each other, and each is below 64. -/
def AddressesOk (l : List (Nat × Nat)) : Prop := l.Pairwise (fun a b => a.2 ≠ b.2) ∧ ∀ e ∈ l, e.2 < 64

theorem chooseAddress_free {strap a : Nat} {taken : List Nat} (hstrap : strap < 32) (h : chooseAddress strap taken = some a) :
    a ∉ taken ∧ a < 64 := by
  unfold chooseAddress at h
  split at h
  next hfree =>
    cases h
    exact ⟨by simpa using hfree, by omega⟩
  · split at h
    next hfree =>
      cases h
      exact ⟨by simpa using hfree, by omega⟩
    · have hfree := List.find?_some h
      have hmem := List.mem_of_find?_eq_some h
      exact ⟨by simpa using hfree, List.mem_range.1 hmem⟩

theorem addressesOk_append {l : List (Nat × Nat)} {n a : Nat} (h : AddressesOk l) (hfree : a ∉ l.map (fun e => e.2)) (ha : a < 64) :
    AddressesOk (l ++ [(n, a)]) := by
  obtain ⟨hpairs, hbelow⟩ := h
  refine ⟨List.pairwise_append.2 ⟨hpairs, List.pairwise_singleton .., ?_⟩, ?_⟩
  · intro e he f hf heq
    obtain rfl := List.mem_singleton.1 hf
    exact hfree (List.mem_map.2 ⟨e, he, heq⟩)
  · intro e he
    rcases List.mem_append.1 he with he | he
    · exact hbelow e he
    · obtain rfl := List.mem_singleton.1 he
      exact ha

/-- Of two records that keep one address each has the lowest SERIAL, so the two are one. -/
theorem addressesOk_kept {l : List LsRecord} (h : l.Pairwise (fun a b => a.serial ≠ b.serial)) :
    AddressesOk ((l.filter (keepsAddress l)).map (fun r => (r.serial, r.address.val))) := by
  constructor
  · refine List.pairwise_map.2 ((h.sublist List.filter_sublist).imp_of_mem ?_)
    intro a b ha hb hne heq
    obtain ⟨hal, hakeeps⟩ := List.mem_filter.1 ha
    obtain ⟨hbl, hbkeeps⟩ := List.mem_filter.1 hb
    simp only [keepsAddress, Bool.and_eq_true, List.all_eq_true, Bool.or_eq_true, Bool.not_eq_true', decide_eq_true_eq] at hakeeps hbkeeps
    obtain ⟨havalid, haleast⟩ := hakeeps
    obtain ⟨hbvalid, hbleast⟩ := hbkeeps
    have haddr : a.address = b.address := Fin.ext heq
    have hab : a.serial ≤ b.serial := by simpa [hbvalid, haddr] using haleast b hbl
    have hba : b.serial ≤ a.serial := by simpa [havalid, haddr] using hbleast a hal
    exact hne (by omega)
  · intro e he
    obtain ⟨r, -, rfl⟩ := List.mem_map.1 he
    exact r.address.isLt

/-- One record's turn in `computeAddresses`: the address it chooses is free, and the table before stays its beginning. -/
theorem addressesOk_computeAddresses {l : List LsRecord} (h : l.Pairwise (fun a b => a.serial ≠ b.serial)) :
    AddressesOk (computeAddresses l) := by
  unfold computeAddresses
  extract_lets keep
  refine List.foldlRecOn (motive := AddressesOk) _ _ (addressesOk_kept h) (fun acc hacc r _ => ?_)
  split
  next a ha =>
    obtain ⟨hfree, hlt⟩ := chooseAddress_free r.strap.isLt ha
    exact addressesOk_append hacc hfree hlt
  · exact hacc

theorem mem_computeAddresses_of_keeps {l : List LsRecord} {r : LsRecord} (hr : r ∈ l) (h : keepsAddress l r = true) :
    (r.serial, r.address.val) ∈ computeAddresses l := by
  unfold computeAddresses
  extract_lets keep
  refine List.foldlRecOn (motive := ((r.serial, r.address.val) ∈ ·)) _ _ ?_ (fun acc hacc x _ => ?_)
  · exact List.mem_map.2 ⟨r, List.mem_filter.2 ⟨hr, h⟩, rfl⟩
  · split
    · exact List.mem_append_left _ hacc
    · exact hacc

/-- Settles O40: those that keep their address are the lowest of its holders, and every other device chooses a free one. -/
theorem fabricAddressesAreDistinct : Obligations.FabricAddressesAreDistinct := by
  intro l h
  obtain ⟨hpairs, hbelow⟩ := addressesOk_computeAddresses h
  refine ⟨hpairs, hbelow, fun r hr hvalid hleast => mem_computeAddresses_of_keeps hr ?_⟩
  simp only [keepsAddress, hvalid, Bool.true_and, List.all_eq_true, Bool.or_eq_true, Bool.not_eq_true', decide_eq_true_eq]
  intro x hx
  by_cases hxv : x.addressValid = true
  · by_cases hxa : x.address = r.address
    · exact .inr (hleast x hx hxv hxa)
    · exact .inl (.inr hxa)
  · exact .inl (.inl (by simpa using hxv))

end Sys2Proof.Machine
end

section
/-! PROOFS of the counters: what posting leaves of them, their rules, and the 96-bit pair (R542, R545). -/

namespace Sys2Proof.Machine

-- One proof at a time: elaborated side by side, the proofs of the joined text need more memory than its check has.
set_option Elab.async false

/-! ## What posting leaves of the event state -/

/-- The event state but for the queues, the sources' counts and the rate limits. -/
def besidePosting (s : State) : Events := { s.ev with queues := [], sources := [], lastPost := [], unreported := [] }

theorem counters_of_besidePosting {s t : State} (h : besidePosting t = besidePosting s) : t.ev.counters = s.ev.counters :=
  (congrArg Events.counters h :)

theorem besidePosting_ite (p : Prop) [Decidable p] (t u : State) :
    besidePosting (if p then t else u) = if p then besidePosting t else besidePosting u := apply_ite besidePosting p t u

@[simp] theorem besidePosting_sendMsix (q : Nat) (s : State) : besidePosting (sendMsix q s) = besidePosting s := by
  unfold sendMsix signalVector
  dsimp only
  split <;> rfl

@[simp] theorem besidePosting_fireMsix (q before : Nat) (s : State) : besidePosting (fireMsix q before s) = besidePosting s := by
  unfold fireMsix
  dsimp only
  split
  · exact besidePosting_sendMsix ..
  · rfl

theorem besidePosting_storeEvent (q : Nat) (r : Record) (s : State) : besidePosting (storeEvent q r s) = besidePosting s := rfl

@[simp] theorem besidePosting_warnOverflow (q : Nat) (s : State) : besidePosting (warnOverflow q s) = besidePosting s := by
  unfold warnOverflow
  dsimp only
  split
  · rfl
  · split
    · split
      · rfl
      · split
        · rfl
        · refine (besidePosting_fireMsix ..).trans ((besidePosting_storeEvent ..).trans ?_)
          rfl
    · rfl

@[simp] theorem besidePosting_putRecord (q : Nat) (r : Record) (s : State) : besidePosting (putRecord q r s) = besidePosting s := by
  unfold putRecord
  split
  · rfl
  · split
    · rfl
    · exact besidePosting_warnOverflow ..

@[simp] theorem besidePosting_writeRecords (q : Nat) (rs : List Record) (s : State) :
    besidePosting (writeRecords q rs s) = besidePosting s :=
  (besidePosting_fireMsix ..).trans
    (List.foldlRecOn (motive := fun t => besidePosting t = besidePosting s) rs _ rfl
      (fun t ht r _ => (besidePosting_putRecord q r t).trans ht))

@[simp] theorem besidePosting_toQueue (q : Nat) (coalesce : Bool) (r : Record) (s : State) :
    besidePosting (toQueue q coalesce r s) = besidePosting s := by
  unfold toQueue flushStage
  dsimp only
  split
  · rfl
  · split
    · exact besidePosting_writeRecords ..
    · split
      · split
        · exact besidePosting_writeRecords ..
        · rfl
      · split <;> exact besidePosting_writeRecords ..

@[simp] theorem besidePosting_deliverTo (q : Option Nat) (coalesce : Bool) (r : Record) (s : State) :
    besidePosting (deliverTo q coalesce r s) = besidePosting s := by
  unfold deliverTo
  split
  · split
    · exact besidePosting_toQueue ..
    · rfl
  · rfl

@[simp] theorem besidePosting_post (src : Nat) (cls : EvClass) (payload : Nat) (s : State) :
    besidePosting (post src cls payload s) = besidePosting s := by
  have hcount : besidePosting (countOccurrence src s) = besidePosting s := rfl
  have hmask (u : State) : besidePosting (countMasked src u) = besidePosting u := rfl
  have hrelay (a q : Nat) (r : Record) (u : State) : besidePosting (relay a q r u) = besidePosting u := rfl
  have hlost (u : State) : besidePosting (countRelayLost src u) = besidePosting u := rfl
  simp [post, besidePosting_ite, hcount, hmask, hrelay, hlost]

@[simp] theorem besidePosting_postLimited (src ns : Nat) (cls : EvClass) (payload : Nat → Nat) (s : State) :
    besidePosting (postLimited src ns cls payload s) = besidePosting s := by
  have hadd : besidePosting (addUnreported src 1 s) = besidePosting s := rfl
  have hmark (u : State) : besidePosting (markPost src u) = besidePosting u := rfl
  simp [postLimited, besidePosting_ite, hadd, hmark]

/-! ## Increments, carries and overflows (R542, R545) -/

theorem counters_overflowCounter (c : Nat) (pair : Bool) (s : State) :
    (overflowCounter c pair s).ev.counters = (setCounter s c { counter s c with overflow := true }).ev.counters := by
  unfold overflowCounter
  apply counters_of_besidePosting
  apply besidePosting_postLimited

@[simp] theorem counter_overflowCounter_same (c : Nat) (pair : Bool) (s : State) :
    counter (overflowCounter c pair s) c = { counter s c with overflow := true } := by
  rw [counter, counters_overflowCounter]
  exact counter_setCounter_same ..

theorem counter_overflowCounter_other {j c : Nat} (pair : Bool) (s : State) (h : j ≠ c) :
    counter (overflowCounter c pair s) j = counter s j := by
  rw [counter, counters_overflowCounter]
  exact counter_setCounter_other _ _ _ _ h

theorem addCounter_of_lt {c n : Nat} {s : State} (h : (counter s c).value + n < 2 ^ 48) :
    addCounter c n s = setCounter s c { counter s c with value := (counter s c).value + n } := by
  unfold addCounter
  dsimp only
  rw [if_pos h, Nat.mod_eq_of_lt h]

/-- The state in which the even counter has wrapped. -/
def wrapped (c n : Nat) (s : State) : State :=
  setCounter s c { counter s c with value := ((counter s c).value + n) % 2 ^ 48 }

theorem addCounter_of_unchained {c n : Nat} {s : State} (h : 2 ^ 48 ≤ (counter s c).value + n) (hc : chainedAbove c s = false) :
    addCounter c n s = overflowCounter c (isChainedOdd c s) (wrapped c n s) := by
  unfold addCounter wrapped
  dsimp only
  rw [if_neg (by omega), if_neg (by simp [hc])]

/-- The state in which the odd counter has taken the carry. -/
def carried (c n : Nat) (s : State) : State :=
  setCounter (wrapped c n s) (c + 1) { counter s (c + 1) with value := ((counter s (c + 1)).value + 1) % 2 ^ 48 }

theorem addCounter_of_chained {c n : Nat} {s : State} (h : 2 ^ 48 ≤ (counter s c).value + n) (hc : chainedAbove c s = true) :
    addCounter c n s = if (counter s (c + 1)).value + 1 < 2 ^ 48 then carried c n s
      else overflowCounter (c + 1) true (carried c n s) := by
  have hodd : counter (wrapped c n s) (c + 1) = counter s (c + 1) := counter_setCounter_other _ _ _ _ (by omega)
  unfold addCounter carried
  dsimp only
  rw [if_neg (by omega), if_pos hc, ← wrapped, hodd]

theorem value_addCounter (c n : Nat) (s : State) :
    (counter (addCounter c n s) c).value = ((counter s c).value + n) % 2 ^ 48 := by
  have hcarried : counter (carried c n s) c = counter (wrapped c n s) c := counter_setCounter_other _ _ _ _ (by omega)
  by_cases hlt : (counter s c).value + n < 2 ^ 48
  · rw [addCounter_of_lt hlt, counter_setCounter_same, Nat.mod_eq_of_lt hlt]
  · cases hc : chainedAbove c s with
    | false => rw [addCounter_of_unchained (by omega) hc, counter_overflowCounter_same, wrapped, counter_setCounter_same]
    | true =>
      rw [addCounter_of_chained (by omega) hc]
      split
      · rw [hcarried, wrapped, counter_setCounter_same]
      · rw [counter_overflowCounter_other _ _ (by omega), hcarried, wrapped, counter_setCounter_same]

/-- The odd counter of a pair after an addition to the even one: its value takes the carry, and what it adds at the end of the cycle
stays. -/
theorem addCounter_above {c n : Nat} {s : State} (hc : chainedAbove c s = true) :
    (counter (addCounter c n s) (c + 1)).value = (if (counter s c).value + n < 2 ^ 48 then (counter s (c + 1)).value
      else ((counter s (c + 1)).value + 1) % 2 ^ 48) ∧
    (counter (addCounter c n s) (c + 1)).inc = (counter s (c + 1)).inc := by
  by_cases hlt : (counter s c).value + n < 2 ^ 48
  · rw [addCounter_of_lt hlt, counter_setCounter_other _ _ _ _ (by omega), if_pos hlt]
    exact ⟨rfl, rfl⟩
  · rw [addCounter_of_chained (by omega) hc, if_neg hlt]
    split
    · rw [carried, counter_setCounter_same]
      exact ⟨rfl, rfl⟩
    · rw [counter_overflowCounter_same, carried, counter_setCounter_same]
      exact ⟨rfl, rfl⟩

/-- What the even and the odd counter of a pair hold together. -/
def pairValue (c : Nat) (s : State) : Nat := (counter s c).value + 2 ^ 48 * (counter s (c + 1)).value

theorem pairValue_addCounter {c n : Nat} {s : State} (hn : n ≤ 65535) (hc : chainedAbove c s = true)
    (hv : (counter s c).value < 2 ^ 48) (hw : (counter s (c + 1)).value < 2 ^ 48) :
    pairValue c (addCounter c n s) = (pairValue c s + n) % 2 ^ 96 ∧ (counter (addCounter c n s) c).value < 2 ^ 48 ∧
      (counter (addCounter c n s) (c + 1)).value < 2 ^ 48 := by
  obtain ⟨habove, -⟩ := addCounter_above (n := n) hc
  rw [pairValue, value_addCounter, habove, pairValue]
  split <;> omega

/-! ## The cycle's end, for a device whose counters are one pair -/

theorem reconfigured_value (v : Counter) : (reconfigured v).value = v.value := by
  unfold reconfigured
  split <;> rfl

theorem counter_mapCounters {f : Counter → Counter} {s : State} (hf : f {} = {}) (hwf : tableWf {} s.ev.counters = true) (c : Nat) :
    counter (mapCounters f s) c = f (counter s c) := by
  unfold counter mapCounters
  exact tget_tmap {} (fun _ v => f v) c s.ev.counters hf hwf


/-- What the end of the cycle does with one counter's increments. -/
def addWaiting (s : State) (e : Nat × Counter) : State :=
  if (counter s e.1).inc = 0 then s
  else addCounter e.1 (counter s e.1).inc (setCounter s e.1 { counter s e.1 with inc := 0 })

theorem finishCounters_eq (s : State) : finishCounters s =
    mapCounters reconfigured ((mapCounters cleared s).ev.counters.foldl addWaiting (mapCounters cleared s)) := rfl

theorem wf_overflowCounter {c : Nat} {pair : Bool} {s : State} (h : tableWf {} s.ev.counters = true) :
    tableWf {} (overflowCounter c pair s).ev.counters = true := by
  rw [counters_overflowCounter]
  exact tableWf_tset _ c _ _ h

theorem wf_addCounter {c n : Nat} {s : State} (h : tableWf {} s.ev.counters = true) :
    tableWf {} (addCounter c n s).ev.counters = true := by
  have hwrapped : tableWf {} (wrapped c n s).ev.counters = true := tableWf_tset _ c _ _ h
  have hcarried : tableWf {} (carried c n s).ev.counters = true := tableWf_tset _ (c + 1) _ _ hwrapped
  by_cases hlt : (counter s c).value + n < 2 ^ 48
  · rw [addCounter_of_lt hlt]
    exact tableWf_tset _ c _ _ h
  · cases hc : chainedAbove c s with
    | false =>
      rw [addCounter_of_unchained (by omega) hc]
      exact wf_overflowCounter hwrapped
    | true =>
      rw [addCounter_of_chained (by omega) hc]
      split
      · exact hcarried
      · exact wf_overflowCounter hcarried

theorem value_finished {s : State} (c : Nat) (h : tableWf {} s.ev.counters = true) :
    (counter (mapCounters reconfigured s) c).value = (counter s c).value := by
  rw [counter_mapCounters rfl h, reconfigured_value]

/-- A table of an even counter, if it is listed, and the odd counter above it. -/
def pairTable (c : Nat) (v w : Counter) : Table Counter := (if v = {} then [] else [(c, v)]) ++ [(c + 1, w)]

theorem tset_pairTable (c : Nat) (u v w : Counter) : tset {} c v [(c, u), (c + 1, w)] = pairTable c v w := by
  unfold tset pairTable
  split <;> simp [tins]

theorem tmap_pairTable {f : Counter → Counter} {c : Nat} {v w : Counter} (hf : f {} = {}) (hw : f w ≠ {}) :
    tmap {} (fun _ x => f x) (pairTable c v w) = pairTable c (f v) (f w) := by
  unfold pairTable
  by_cases hv : v = {}
  · simp [tmap, hv, hf, hw]
  · by_cases hfv : f v = {} <;> simp [tmap, hv, hfv, hw]

theorem wf_pairTable {c : Nat} {v w : Counter} (hw : w ≠ {}) : tableWf {} (pairTable c v w) = true := by
  unfold pairTable
  split
  · simpa [tableWf] using hw
  next hv => simpa [tableWf] using ⟨hv, hw⟩

theorem tget_pairTable (c : Nat) (v w : Counter) : tget {} c (pairTable c v w) = v ∧ tget {} (c + 1) (pairTable c v w) = w := by
  unfold pairTable
  split
  next hv => simp [tget, hv]
  · simp [tget]

/-- The increments of a device whose counters are a pair, of which the even one alone adds. -/
theorem pairValue_foldl_addWaiting {c n : Nat} {v w : Counter} {s : State} (hs : s.ev.counters = pairTable c v w) (hn : n ≤ 65535)
    (hc : c % 2 = 0) (hchain : w.chain = true) (hv : v.value < 2 ^ 48) (hw : w.value < 2 ^ 48) (hvi : v.inc = n) (hwi : w.inc = 0) :
    tableWf {} ((pairTable c v w).foldl addWaiting s).ev.counters = true ∧
    pairValue c ((pairTable c v w).foldl addWaiting s) = (v.value + 2 ^ 48 * w.value + n) % 2 ^ 96 := by
  have hwf : tableWf {} s.ev.counters = true := hs ▸ wf_pairTable (by rintro rfl; cases hchain)
  obtain ⟨heven, hodd⟩ := tget_pairTable c v w
  have hcv : counter s c = v := by rw [counter, hs, heven]
  have hcw : counter s (c + 1) = w := by rw [counter, hs, hodd]
  by_cases hzero : n = 0
  · have hstay : (pairTable c v w).foldl addWaiting s = s := by
      have heven' : ∀ x, addWaiting s (c, x) = s := fun x => if_pos (by rw [hcv, hvi, hzero])
      have hodd' : ∀ x, addWaiting s (c + 1, x) = s := fun x => if_pos (by rw [hcw, hwi])
      unfold pairTable
      split <;> simp [heven', hodd']
    rw [hstay, pairValue, hcv, hcw]
    exact ⟨hwf, by omega⟩
  · have hlisted : v ≠ {} := by
      rintro rfl
      exact hzero hvi.symm
    have heven' : addWaiting s (c, v) = addCounter c n (setCounter s c { v with inc := 0 }) := by
      rw [addWaiting, if_neg (by rw [hcv, hvi]; exact hzero), hcv, hvi]
    have hother : counter (setCounter s c { v with inc := 0 }) (c + 1) = w :=
      (counter_setCounter_other _ _ _ _ (by omega)).trans hcw
    have hchained : chainedAbove c (setCounter s c { v with inc := 0 }) = true := by
      simp [chainedAbove, hc, hother, hchain]
    obtain ⟨-, hinc⟩ := addCounter_above (n := n) hchained
    have hodd' : ∀ x, addWaiting (addCounter c n (setCounter s c { v with inc := 0 })) (c + 1, x) =
        addCounter c n (setCounter s c { v with inc := 0 }) := fun x => if_pos (by rw [hinc, hother, hwi])
    have hfold : (pairTable c v w).foldl addWaiting s = addCounter c n (setCounter s c { v with inc := 0 }) := by
      rw [pairTable, if_neg hlisted]
      simp [heven', hodd']
    obtain ⟨htotal, -, -⟩ := pairValue_addCounter hn hchained (by rw [counter_setCounter_same]; exact hv) (by rw [hother]; exact hw)
    rw [hfold, htotal, pairValue, counter_setCounter_same, hother]
    exact ⟨wf_addCounter (tableWf_tset _ c _ _ hwf), rfl⟩

/-- Settles O46: an addition carries into the odd counter exactly when the even one wraps, and at the end of the cycle the even one alone
has something to add. -/
theorem chainedCountersHold96Bits : Obligations.ChainedCountersHold96Bits := by
  refine ⟨fun c n s hn hc hv hw => pairValue_addCounter hn hc hv hw, ?_⟩
  intro c n v w s hn hc hs hchain hv hw hvi hwi hvc hwc _ _
  have hcv : counter s c.val = v := by simp [counter, hs, tget]
  refine ⟨_, rfl, ?_⟩
  have hadded : (addInc c.val n s).ev.counters = pairTable c.val { v with inc := n } w := by
    rw [addInc, hcv, hvi, Nat.zero_add]
    exact (congrArg (tset {} c.val { v with inc := n }) hs).trans (tset_pairTable ..)
  have hcleared : (mapCounters cleared (addInc c.val n s)).ev.counters =
      pairTable c.val (cleared { v with inc := n }) (cleared w) :=
by
    rw [← tmap_pairTable rfl (fun h => by simpa [cleared, hchain] using congrArg Counter.chain h), ← hadded]
    rfl
  have hvalue : (cleared { v with inc := n }).value = v.value := by simp [cleared, hvc]
  have hwvalue : (cleared w).value = w.value := by simp [cleared, hwc]
  obtain ⟨hwf, htotal⟩ := pairValue_foldl_addWaiting hcleared hn hc hchain (by rw [hvalue]; exact hv) (by rw [hwvalue]; exact hw) rfl hwi
  rw [finishCounters_eq, hcleared, value_finished _ hwf, value_finished _ hwf]
  rw [hvalue, hwvalue] at htotal
  exact htotal

end Sys2Proof.Machine
end

section
/-! PROOFS of the power commands (R516, R519, R524, R526, R527, R538, R540). -/

namespace Sys2Proof.Machine

-- One proof at a time: elaborated side by side, the proofs of the joined text need more memory than its check has.
set_option Elab.async false

section

variable {h : Caller} {e : Held} {s : State}

/-! ## Votes, floors, levels (R516, R519, R526, R527) -/

theorem votes_setCup (s : State) (k : Nat) (c : Cupola) : (cup (setCup s k c) k).votes = c.votes := by
  simp only [cup, setCup, tget_tset_same]
  split <;> rfl

theorem mem_votes_placeVote (k holder : Nat) {level : Nat} (s : State) (hlevel : level ≠ 0) :
    (⟨holder, level⟩ : Vote) ∈ (cup (placeVote k holder level s) k).votes := by
  rw [placeVote, votes_setCup, if_neg hlevel]
  exact List.mem_append_right _ (List.mem_singleton.2 rfl)

theorem length_maintEntry (waits : Bool) (m : MaintEntry) : (maintEntry waits m).length = 4 := by simp [maintEntry]

theorem length_maintStatus (s : State) : (maintStatus s).length = 64 := by
  have hentries (es : List (List Byte)) (hes : ∀ x ∈ es, x.length = 4) : (es.take 15).flatten.length ≤ 60 := by
    have hsum : ((es.take 15).map List.length).sum = 4 * (es.take 15).length := by
      rw [List.map_congr_left (fun x hx => hes x (List.mem_of_mem_take hx))]
      simp [Nat.mul_comm]
    rw [List.length_flatten, hsum, List.length_take]
    omega
  have hlen := hentries ((s.pwr.running.map (maintEntry false)) ++ (s.pwr.waiting.map (maintEntry true)))
    (List.forall_mem_append.2 ⟨List.forall_mem_map.2 (fun m _ => length_maintEntry false m),
      List.forall_mem_map.2 (fun m _ => length_maintEntry true m)⟩)
  simp only [maintStatus, List.length_append, List.length_replicate, length_le]
  omega

theorem exec_cupolaFloorSet_withDefaults {p : FloorP} (hs : startable 0x0103 none h e s) (hown : ownsDevice h s = true)
    (hwf : p.wf = true) (hfixed : fixedCupola p.cupola.val = false) (hdram : isDramCupola p.cupola.val = true → p.floor ≠ 3) :
    exec (.cupolaFloorSet h p) s = .next (finish e stOk 0 0 [] (setCup s p.cupola.val { cup s p.cupola.val with
      floor := p.floor, report := p.report,
      hystGated := if p.hystGated = 0 then 1 else p.hystGated,
      hystRetained := if p.hystRetained = 0 then 33 else p.hystRetained,
      hystOff := if p.hystOff = 0 then 32768 else p.hystOff })) := by
  have hfloor : ¬ (fixedCupola p.cupola.val || (isDramCupola p.cupola.val && decide (p.floor = 3))) = true := by
    simpa [hfixed] using hdram
  exact perform_done hs ((if_neg (by simp [hown])).trans ((if_neg (by simp [hwf])).trans ((if_neg hfloor).trans rfl)))

theorem exec_perfLevelSet_of_lower {level : Fin 4} (hs : startable 0x0102 (some { kind := 9, scope := 0 }) h e s)
    (hown : ownsDevice h s = true) (hl : s.pwr.pl < level.val)
    (hload : ∀ p ∈ servingPipes s, pipeLoad p s ≤ pipeCapacity level.val) :
    exec (.perfLevelSet h level) s = .next (setPhase e (.running s.pwr.pl) (post 0x4F0 .info (level.val + s.pwr.pl * 2 ^ 2)
      { s with pwr := { s.pwr with plTarget := some level.val, rampEnd := s.now + rampNs s.pwr.pl level.val, pl := level.val } })) := by
  refine perform_later hs ?_
  have hany : (servingPipes s).any (fun p => decide (pipeCapacity level.val < pipeLoad p s)) = false := by simpa using hload
  simp only [hown, if_neg (Nat.ne_of_gt hl), hany, if_pos hl]
  rfl

theorem exec_perfLevelSet_of_overload {level : Fin 4} {p : Nat} (hs : startable 0x0102 (some { kind := 9, scope := 0 }) h e s)
    (hown : ownsDevice h s = true) (hl : level.val ≠ s.pwr.pl) (hp : p ∈ servingPipes s) (hload : pipeCapacity level.val < pipeLoad p s) :
    exec (.perfLevelSet h level) s = .next (finish e stLimit 0x0110 0 [] s) := by
  refine perform_done hs ?_
  have hany : (servingPipes s).any (fun p => decide (pipeCapacity level.val < pipeLoad p s)) = true :=
    List.any_eq_true.2 ⟨p, hp, decide_eq_true hload⟩
  simp only [hown, if_neg hl, hany]
  rfl

/-- Settles O7: each command by its lemma; the reads of state have the size that their fields fit into. -/
theorem powerCommandsComplete : Obligations.PowerCommandsComplete := by
  unfold Obligations.PowerCommandsComplete
  refine ⟨fun h k level e s hs hfixed hwake => exec_cupolaVote_of_awake hs hfixed hwake,
    fun k holder level s hlevel => mem_votes_placeVote k holder s hlevel,
    fun h p e s hs hown hwf hfixed hdram => exec_cupolaFloorSet_withDefaults hs hown hwf hfixed hdram,
    fun h level e s hs hown hl hload => exec_perfLevelSet_of_lower hs hown hl hload,
    fun h level e s hs hown hl hload => exec_perfLevelSet_of_raise hs hown hl hload,
    fun h level e s p hs hown hl hp hload => exec_perfLevelSet_of_overload hs hown hl hp hload,
    ?cupolaStatus, ?maintStatus, ?safetyStatus,
    fun h k e s hs hown hpipe hdram hfenced => exec_cupolaRestore_of_fenced hs hown hpipe hdram hfenced,
    fun h tests e s hs hown => exec_safetySelfTest_of_owner hs hown⟩
  case cupolaStatus => exact fun h k e s hs => ⟨_, perform_done hs rfl, length_fields (by simp), rfl⟩
  case maintStatus => exact fun h e s hs => ⟨_, perform_done hs rfl, length_maintStatus s⟩
  case safetyStatus => exact fun h e s hs => ⟨_, perform_done hs rfl, length_fields (by simp)⟩

end

end Sys2Proof.Machine
end

section
/-! PROOFS of tree protection, part 1. What messages, events and deliveries leave of it. -/

namespace Sys2Proof.Machine

-- One proof at a time: elaborated side by side, the proofs of the joined text need more memory than its check has.
set_option Elab.async false

/-! ## What lease messages and their events leave as it was -/

@[simp] theorem post_prot (src : Nat) (cls : EvClass) (payload : Nat) (s : State) : (post src cls payload s).prot = s.prot := by
  obtain ⟨ev, out, msix, h⟩ := post_frame src cls payload s
  rw [h]

theorem member_of_prot {s u : State} (h : u.prot = s.prot) (t : Nat) : member u t = member s t := by rw [member, member, h]
theorem image_of_prot {s u : State} (h : u.prot = s.prot) (t k : Nat) : image u t k = image s t k := by rw [image, image, h]
theorem tree_of_trees {s u : State} (h : u.tr = s.tr) (t : Nat) : tree u t = tree s t := by rw [tree, tree, h]

@[simp] theorem postProt_prot (t reason : Nat) (s : State) : (postProt t reason s).prot = s.prot := post_prot ..
@[simp] theorem postProt_tr (t reason : Nat) (s : State) : (postProt t reason s).tr = s.tr := post_tr ..
@[simp] theorem postProt_pwr (t reason : Nat) (s : State) : (postProt t reason s).pwr = s.pwr := post_pwr ..
@[simp] theorem member_postProt (t reason : Nat) (s : State) (k : Nat) : member (postProt t reason s) k = member s k :=
  member_of_prot (postProt_prot ..) k
@[simp] theorem tree_postProt (t reason : Nat) (s : State) (k : Nat) : tree (postProt t reason s) k = tree s k :=
  tree_of_trees (postProt_tr ..) k

theorem countUnsent_frame (s : State) :
    (countUnsent s).prot = s.prot ∧ (countUnsent s).tr = s.tr ∧ (countUnsent s).pwr = s.pwr ∧ (countUnsent s).now = s.now := by
  unfold countUnsent
  split <;> exact ⟨rfl, rfl, rfl, rfl⟩

theorem sendLease_frame (t dst kind target superframe : Nat) (serviced : Bool) (s : State) :
    (sendLease t dst kind target superframe serviced s).prot = s.prot ∧
    (sendLease t dst kind target superframe serviced s).tr = s.tr ∧
    (sendLease t dst kind target superframe serviced s).pwr = s.pwr ∧
    (sendLease t dst kind target superframe serviced s).now = s.now := by
  unfold sendLease
  dsimp only
  split
  · exact ⟨rfl, rfl, rfl, rfl⟩
  · split
    · exact ⟨rfl, rfl, rfl, rfl⟩
    · exact countUnsent_frame s

@[simp] theorem member_sendLease (t dst kind target superframe : Nat) (serviced : Bool) (s : State) (k : Nat) :
    member (sendLease t dst kind target superframe serviced s) k = member s k :=
  member_of_prot (sendLease_frame ..).1 k
@[simp] theorem tree_sendLease (t dst kind target superframe : Nat) (serviced : Bool) (s : State) (k : Nat) :
    tree (sendLease t dst kind target superframe serviced s) k = tree s k :=
  tree_of_trees (sendLease_frame ..).2.1 k

@[simp] theorem tree_setMember (s : State) (t : Nat) (v : Member) (k : Nat) : tree (setMember s t v) k = tree s k := rfl
@[simp] theorem member_setTree (s : State) (t : Nat) (v : Tree) (k : Nat) : member (setTree s t v) k = member s k := rfl

/-- The member with a new request number, kept with its instant (R424, R425). -/
def withRequest (m : Member) (now : Nat) : Member :=
  { m with seq := (m.seq + 1) % 2 ^ 32,
           sent := ((m.seq + 1) % 2 ^ 32, now) :: m.sent.filter (fun e => decide (now ≤ e.2 + usNs 18)) }

theorem newRequest_eq (t : Nat) (s : State) : newRequest t s = setMember s t (withRequest (member s t) s.now) := rfl

@[simp] theorem member_newRequest (t : Nat) (s : State) : member (newRequest t s) t = withRequest (member s t) s.now := by
  rw [newRequest_eq, member_setMember_same]

@[simp] theorem member_sendRequest (t kind : Nat) (serviced : Bool) (s : State) :
    member (sendRequest t kind serviced s) t = { withRequest (member s t) s.now with lastSent := some s.now } := by
  simp only [sendRequest, member_sendLease, member_setMember_same, member_newRequest]

@[simp] theorem tree_sendRequest (t kind : Nat) (serviced : Bool) (s : State) (k : Nat) :
    tree (sendRequest t kind serviced s) k = tree s k := by
  simp [sendRequest, newRequest_eq]

@[simp] theorem member_sendReverts (t boundary : Nat) (s : State) :
    member (sendReverts t boundary s) t = { withRequest (member s t) s.now with revertSent := some s.now } := by
  simp only [sendReverts, member_sendLease, member_setMember_same, member_newRequest]

/-! ## What a session's end makes of members and images -/

/-- From `s` to `t` images stay, and a member stays or is disabled, its configuration kept. -/
def DisablesOnly (s t : State) : Prop :=
  t.prot.images = s.prot.images ∧ ∀ k, member t k = member s k ∨ member t k = { cfg := (member s k).cfg }

theorem disablesOnly_of_prot {s t : State} (h : t.prot = s.prot) : DisablesOnly s t :=
  ⟨by rw [h], fun k => .inl (member_of_prot h k)⟩

theorem disablesOnly_trans {s t u : State} (h : DisablesOnly s t) (k : DisablesOnly t u) : DisablesOnly s u := by
  obtain ⟨himages, hmember⟩ := h
  obtain ⟨kimages, kmember⟩ := k
  refine ⟨kimages.trans himages, fun i => ?_⟩
  rcases kmember i with hi | hi <;> rcases hmember i with hj | hj <;> simp [hi, hj]

theorem disablesOnly_foldl {α : Type} {f : State → α → State} (h : ∀ s a, DisablesOnly s (f s a)) (l : List α) (s : State) :
    DisablesOnly s (l.foldl f s) :=
  List.foldlRecOn (motive := DisablesOnly s) l f (disablesOnly_of_prot rfl) (fun t ht a _ => disablesOnly_trans ht (h t a))

theorem quiesceTree_disablesOnly (t : Nat) (s : State) : DisablesOnly s (quiesceTree t s) := by
  have hstop : (stopTree t s).prot = s.prot := rfl
  unfold quiesceTree
  dsimp only
  split
  · refine ⟨rfl, fun k => ?_⟩
    by_cases hk : k = t
    · exact .inr (by rw [hk]; exact member_setMember_same ..)
    · exact .inl (member_setMember_other _ _ _ _ hk)
  · exact disablesOnly_of_prot hstop

theorem ite_prot (p : Prop) [Decidable p] (t u : State) : (if p then t else u).prot = if p then t.prot else u.prot :=
  apply_ite State.prot p t u

theorem disablePort_prot (port : Nat) (s : State) : (disablePort port s).prot = s.prot := rfl

theorem putLine_prot (l : Nat) (v : LineEngine) (s : State) : (putLine l v s).prot = s.prot := by
  have hdefects (d : Nat) (u : State) : (postDefects l d u).prot = u.prot := by
    refine foldl_keeps (·.prot) _ (fun st n => ?_) _ _
    split
    · rfl
    · exact post_prot ..
  have hsearch (u : State) : (framerSearch l u).prot = u.prot := by
    unfold framerSearch
    split <;> rfl
  simp only [putLine, hdefects]
  split
  · rfl
  · split
    · exact hsearch _
    · rfl

theorem stopLine_prot (l : Nat) (s : State) : (stopLine l s).prot = s.prot := by
  unfold stopLine
  dsimp only
  split
  · rfl
  · exact (post_prot ..).trans ((disablePort_prot ..).trans (putLine_prot ..))

theorem quiesceLane_prot (x : Nat) (s : State) : (quiesceLane x s).prot = s.prot := by
  simp only [quiesceLane, ite_prot, setLink_prot, disablePort_prot, setClient_prot]
  simp

theorem disposeSession_disablesOnly (h : Nat) (quiesce : Bool) (s : State) : DisablesOnly s (disposeSession h quiesce s) := by
  have hquiesce : DisablesOnly s (if quiesce then quiesceOwned h s else s) := by
    split
    · exact disablesOnly_trans (disablesOnly_foldl (fun u t => quiesceTree_disablesOnly t u) (ownedBy h kTree s) s)
        (disablesOnly_trans (disablesOnly_foldl (fun u l => disablesOnly_of_prot (stopLine_prot l u)) (ownedBy h kLine s) _)
          (disablesOnly_foldl (fun u g => disablesOnly_foldl (fun v i => disablesOnly_of_prot (quiesceLane_prot (g * 8 + i) v))
            (List.range 8) u) (ownedBy h kLaneGroup s) _))
    · exact disablesOnly_of_prot rfl
  exact disablesOnly_trans hquiesce (disablesOnly_of_prot rfl)

theorem putCompletion_prot (fn k : Nat) (w : Waiting) (s : State) : (putCompletion fn k w s).prot = s.prot := by
  have hpost (q : Option Nat) (src : Nat) (cls : EvClass) (payload : Nat) (u : State) :
      (postFn q src cls payload u).prot = u.prot := by
    obtain ⟨ev, out, msix, h⟩ := postFn_frame q src cls payload u
    rw [h]
  simp only [putCompletion]
  split <;> split <;> simp [hpost]

theorem drainWaiting_prot (fn k n : Nat) (s : State) : (drainWaiting fn k n s).prot = s.prot := by
  induction n generalizing s with
  | zero => rfl
  | succ n ih =>
    unfold drainWaiting
    dsimp only
    split
    · rfl
    · split
      · rw [ih, putCompletion_prot, setRing_prot]
      · rfl

theorem deliver_prot (e : Held) (status : Nat) (final : Bool) (detail result : Nat) (resp : List Byte) (s : State) :
    (deliver e status final detail result resp s).prot = s.prot := by
  unfold deliver
  dsimp only
  split
  · rfl
  · split
    · split
      · rw [drainWaiting_prot, setRing_prot]
      · rfl
    · rfl
    · split <;> rfl

theorem settleOne_disablesOnly {s t : State} (h : settleOne s = some t) : DisablesOnly s t := by
  unfold settleOne at h
  split at h
  next n v _ =>
    have hdispose := disposeSession_disablesOnly n (v.closing.getD false) s
    dsimp only at h
    split at h
    · cases h
      exact disablesOnly_trans hdispose (disablesOnly_of_prot (deliver_prot ..))
    · cases h
      exact hdispose
  · split at h
    · split at h
      · cases h
        exact disablesOnly_of_prot (deliver_prot ..)
      · cases h
    · cases h

theorem settle_disablesOnly (s : State) : DisablesOnly s (settle s) := by
  unfold settle
  generalize s.mbx.held.length + s.ses.table.length = n
  induction n generalizing s with
  | zero => exact disablesOnly_of_prot rfl
  | succ n ih =>
    unfold settleN
    split
    next s1 h1 => exact disablesOnly_trans (settleOne_disablesOnly h1) (ih s1)
    · exact disablesOnly_of_prot rfl

theorem finish_disablesOnly (e : Held) (status detail result : Nat) (resp : List Byte) (s : State) :
    DisablesOnly s (finish e status detail result resp s) := by
  unfold finish
  have hdropped : DisablesOnly s (endOwned e.num (dropHeld e.num s)) := disablesOnly_of_prot rfl
  exact disablesOnly_trans hdropped
    (disablesOnly_trans (disablesOnly_of_prot (deliver_prot ..)) (settle_disablesOnly _))

theorem completeRunning_disablesOnly (op key status detail result : Nat) (resp : List Byte) (s : State) :
    DisablesOnly s (completeRunning op key status detail result resp s) :=
  disablesOnly_foldl (fun _ _ => finish_disablesOnly ..) _ s

end Sys2Proof.Machine
end

section
/-! PROOFS of tree protection, part 2. The member's side of the lease (R425). -/

namespace Sys2Proof.Machine

-- One proof at a time: elaborated side by side, the proofs of the joined text need more memory than its check has.
set_option Elab.async false

/-! ## The member behind its fence (R425) -/

/-- The member holds no lease, and its fence keeps the tree from transmitting. -/
def Fenced (t : Nat) (s : State) : Prop := (member s t).holding = false ∧ (member s t).fence = true ∧ (tree s t).txen = false

theorem fenced_of_fields {t : Nat} {s u : State} (h : Fenced t s) (hholding : (member u t).holding = (member s t).holding)
    (hfence : (member u t).fence = (member s t).fence) (htx : (tree u t).txen = (tree s t).txen) : Fenced t u := by
  obtain ⟨h1, h2, h3⟩ := h
  exact ⟨hholding.trans h1, hfence.trans h2, htx.trans h3⟩

theorem fenced_fenceMember (t : Nat) (s : State) : Fenced t (fenceMember t s) := by
  refine ⟨?_, ?_, ?_⟩ <;> simp [fenceMember]

theorem fenced_setMember {t : Nat} {s : State} {v : Member} (h : Fenced t s) (hholding : v.holding = (member s t).holding)
    (hfence : v.fence = (member s t).fence) : Fenced t (setMember s t v) :=
  fenced_of_fields h (by simpa using hholding) (by simpa using hfence) rfl

/-- 5 µs have passed since the last request. -/
def requestLapsed (m : Member) (now : Nat) : Bool := match m.lastSent with | none => true | some l => decide (l + usNs 5 ≤ now)

theorem requestNow_eq (t : Nat) (serviced : Bool) (s : State) : requestNow t serviced s =
    if !(member s t).enabled || !requestLapsed (member s t) s.now then s
    else if (member s t).holding then (if healthy t serviced s then sendRequest t leaseRenew serviced s else s)
    else if (member s t).claiming then sendRequest t leaseClaim serviced s
    else s := rfl

theorem fenced_requestNow {t : Nat} (serviced : Bool) {s : State} (h : Fenced t s) : Fenced t (requestNow t serviced s) := by
  obtain ⟨hholding, -, -⟩ := id h
  have hsent : Fenced t (sendRequest t leaseClaim serviced s) :=
    fenced_of_fields h (by simp [withRequest]) (by simp [withRequest]) (by simp)
  rw [requestNow_eq, if_neg (c := (member s t).holding = true) (by simp [hholding])]
  split
  · exact h
  · split
    · exact hsent
    · exact h

theorem fenced_requestAfter {t : Nat} {s : State} (h : Fenced t s) : Fenced t (requestAfter t s) := by
  unfold requestAfter
  split
  · exact h
  · split
    · exact h
    · exact fenced_requestNow _ (fenced_setMember h rfl rfl)

theorem fenceCheck_of_due {t : Nat} {s : State} (h : fenceDue t s = true) : fenceCheck t s = fenceMember t s := if_pos h
theorem fenceCheck_of_not_due {t : Nat} {s : State} (h : fenceDue t s = false) : fenceCheck t s = s := if_neg (by simp [h])

theorem exec_fenceInstant_of_due {t : Fin 64} {s : State} (h : fenceDue t.val s = true) :
    exec (.fenceInstant t) s = .next (fenceMember t.val s) := congrArg _ (if_pos h)

theorem exec_leaseRequestSend_fences (t : Fin 64) (served : Bool) {s : State} (h : fenceDue t.val s = true) :
    ∃ s', exec (.leaseRequestSend t served) s = .next s' ∧ Fenced t.val s' := by
  have hfenced := fenced_fenceMember t.val s
  by_cases hcomes : grantComes t.val s = true
  · exact ⟨_, if_pos hcomes, fenceCheck_of_due h ▸ fenced_setMember hfenced rfl rfl⟩
  · exact ⟨_, if_neg hcomes, fenceCheck_of_due h ▸ fenced_requestNow served hfenced⟩

/-- What a message at a member does before a waiting request goes out (R424, R425). -/
def grantTaken (t : Nat) (g : LeaseMsg) (c : ProtP) (s : State) : State :=
  if !soundMessage g || decide (g.group ≠ c.group) then badMessage t (fenceCheck t s)
  else if fenceDue t s || !(member s t).enabled || decide (g.kind ≠ leaseGrant) then fenceCheck t s
  else acceptGrant t g (fenceCheck t s)

theorem exec_leaseGrant_of_cfg {t : Fin 64} (bytes : List Byte) {s : State} {c : ProtP} (hcfg : (member s t.val).cfg = some c) :
    exec (.leaseGrant t bytes) s = .next (requestAfter t.val (grantTaken t.val (readLease bytes) c s)) := by
  change execLeaseGrant t bytes s = _
  unfold execLeaseGrant
  dsimp only
  rw [hcfg]
  rfl

theorem exec_leaseGrant_fences {t : Fin 64} (bytes : List Byte) {s : State} {c : ProtP} (h : fenceDue t.val s = true)
    (hcfg : (member s t.val).cfg = some c) : ∃ s', exec (.leaseGrant t bytes) s = .next s' ∧ Fenced t.val s' := by
  refine ⟨_, exec_leaseGrant_of_cfg bytes hcfg, fenced_requestAfter ?_⟩
  have hfenced := fenced_fenceMember t.val s
  unfold grantTaken
  rw [fenceCheck_of_due h]
  split
  · exact fenced_setMember hfenced rfl rfl
  · rw [if_pos (by simp [h])]
    exact hfenced

/-! ## Requests (R425, R426) -/

theorem exec_leaseRequestSend_of_noGrant {t : Fin 64} (served : Bool) {s : State} (hdue : fenceDue t.val s = false)
    (hcomes : grantComes t.val s = false) : exec (.leaseRequestSend t served) s = .next (requestNow t.val served s) :=
  (if_neg (by simp [hcomes])).trans (by rw [fenceCheck_of_not_due hdue])

theorem exec_leaseRequestSend_of_grant {t : Fin 64} (served : Bool) {s : State} (hdue : fenceDue t.val s = false)
    (hcomes : grantComes t.val s = true) :
    exec (.leaseRequestSend t served) s = .next (setMember s t.val { member s t.val with requestDue := some served }) :=
  (if_pos hcomes).trans (by rw [fenceCheck_of_not_due hdue])

/-- The last request is 5 µs old. -/
theorem requestNow_of_due {t : Nat} {served : Bool} {s : State} (henabled : (member s t).enabled = true)
    (hlast : ∀ l, (member s t).lastSent = some l → l + 5000 ≤ s.now)
    (hmay : ((member s t).holding = true ∧ healthy t served s = true) ∨
      ((member s t).holding = false ∧ (member s t).claiming = true)) :
    ∃ kind, requestNow t served s = sendRequest t kind served s := by
  have hdue : requestLapsed (member s t) s.now = true := by
    unfold requestLapsed
    split
    · rfl
    next l hl => exact decide_eq_true (hlast l hl)
  rcases hmay with ⟨hholding, hhealthy⟩ | ⟨hholding, hclaiming⟩
  · exact ⟨leaseRenew, by simp [requestNow_eq, henabled, hdue, hholding, hhealthy]⟩
  · exact ⟨leaseClaim, by simp [requestNow_eq, henabled, hdue, hholding, hclaiming]⟩

theorem requestNow_of_unhealthy {t : Nat} {served : Bool} {s : State} (hholding : (member s t).holding = true)
    (hhealthy : healthy t served s = false) : requestNow t served s = s := by
  simp [requestNow_eq, hholding, hhealthy]

/-! ## Grants (R424, R425) -/

theorem requestAfter_of_none {t : Nat} {s : State} (h : (member s t).requestDue = none) : requestAfter t s = s := by
  simp [requestAfter, h]

theorem fenceDue_of_notHolding {t : Nat} {s : State} (h : (member s t).holding = false) : fenceDue t s = false := by
  simp [fenceDue, h]

section

variable {t : Nat} {g : LeaseMsg} {c : ProtP} {s : State} (hdue : fenceDue t s = false) (hsound : soundMessage g = true)
  (hgroup : g.group = c.group)

include hdue hsound hgroup

theorem grantTaken_of_grant (hkind : g.kind = leaseGrant) (henabled : (member s t).enabled = true) :
    grantTaken t g c s = acceptGrant t g s := by
  simp [grantTaken, fenceCheck_of_not_due hdue, hsound, hgroup, hdue, henabled, hkind]

theorem grantTaken_of_other (h : acceptGrant t g s = s) : grantTaken t g c s = s := by
  simp [grantTaken, fenceCheck_of_not_due hdue, hsound, hgroup, h]

end

/-- The member as an accepted GRANT leaves it: the fence 18 µs after the request that it answers. -/
def withGrant (m : Member) (g : LeaseMsg) (sentAt : Nat) : Member :=
  { m with fenceAt := max m.fenceAt (sentAt + 18000), epoch := g.epoch }

theorem acceptGrant_of_answer {t : Nat} {g : LeaseMsg} {s : State} {x : Nat × Nat} (htarget : s.fab.address = some g.target.val)
    (hepoch : (member s t).epoch ≤ g.epoch)
    (hsent : (member s t).sent.find? (fun e => decide (e.1 = g.seq) && decide (s.now ≤ e.2 + 18000)) = some x) :
    acceptGrant t g s = if (member s t).holding = true then setMember s t (withGrant (member s t) g x.2)
      else takeOver t (setMember s t (withGrant (member s t) g x.2)) := by
  have hcond : ¬ (decide (s.fab.address ≠ some g.target.val) || decide (g.epoch < (member s t).epoch)) = true := by
    simp [htarget, hepoch]
  unfold acceptGrant
  dsimp only
  rw [if_neg hcond, show usNs 18 = 18000 from rfl, hsent]
  rfl

theorem acceptGrant_of_unanswered {t : Nat} {g : LeaseMsg} {s : State}
    (h : g.epoch < (member s t).epoch ∨ s.fab.address ≠ some g.target.val ∨
      ∀ x ∈ (member s t).sent, x.1 = g.seq → x.2 + 18000 < s.now) : acceptGrant t g s = s := by
  unfold acceptGrant
  dsimp only
  split
  · rfl
  next hcond =>
    have hfind : (member s t).sent.find? (fun e => decide (e.1 = g.seq) && decide (s.now ≤ e.2 + usNs 18)) = none := by
      refine List.find?_eq_none.2 (fun x hx => ?_)
      rcases h with h | h | h
      · simp [h] at hcond
      · simp [h] at hcond
      · by_cases hseq : x.1 = g.seq
        · have hlate := h x hx hseq
          have hpast : ¬ s.now ≤ x.2 + usNs 18 := by unfold usNs; omega
          simp [hpast]
        · simp [hseq]
    rw [hfind]

theorem activateImage_member (t : Nat) (s : State) :
    ∃ m, member (activateImage t s) t = m ∧ m.holding = (member s t).holding ∧ m.fence = (member s t).fence ∧
      m.state = (member s t).state ∧ m.epoch = (member s t).epoch ∧ m.fenceAt = (member s t).fenceAt ∧
      m.requestDue = (member s t).requestDue := by
  refine ⟨_, rfl, ?_⟩
  unfold activateImage
  split
  · have hmaps (l : List (Nat × List (List Byte))) (u : State) :
        (l.foldl (fun st h => emit (.heldMap t h.1 h.2) st) u).prot = u.prot :=
      foldl_keeps (·.prot) (fun st h => emit (.heldMap t h.1 h.2) st) (fun _ _ => rfl) l u
    dsimp only
    rw [member_of_prot (hmaps ..), member_setMember_same]
    exact ⟨rfl, rfl, rfl, rfl, rfl, rfl⟩
  · exact ⟨rfl, rfl, rfl, rfl, rfl, rfl⟩

theorem moveCup_prot (k : Nat) (dst : CupState) (reason : Nat) (s : State) : (moveCup k dst reason s).prot = s.prot := by
  generalize hu : moveCup k dst reason s = u
  unfold moveCup at hu
  extract_lets c at hu
  split at hu
  · exact hu ▸ rfl
  · split at hu
    rename_i d s1 hdrawn
    have hs1 : s1.prot = s.prot := by
      split at hdrawn
      · split at hdrawn <;> cases hdrawn <;> rfl
      · cases hdrawn
        rfl
    extract_lets c1 s2 at hu
    have hs2 : s2.prot = s.prot := by
      unfold s2
      split <;> exact hs1
    split at hu <;> subst hu
    · exact (post_prot ..).trans hs2
    · exact hs2

/-- The member that takes over holds the lease, its fence released (R425, R438). -/
theorem takeOver_of_member (t : Nat) (s : State) :
    ∃ s', takeOver t s = completeRunning 0x0B01 t stOk 0 0 [] s' ∧ (member s' t).holding = true ∧ (member s' t).fence = false ∧
      (member s' t).state = 2 ∧ (member s' t).epoch = (member s t).epoch ∧ (member s' t).fenceAt = (member s t).fenceAt ∧
      (member s' t).requestDue = (member s t).requestDue := by
  refine ⟨_, rfl, ?_⟩
  rw [member_postProt, member_of_prot (emit_prot ..)]
  split
  · rw [member_setTree, member_setMember_same]
    exact ⟨rfl, rfl, rfl, rfl, rfl, rfl⟩
  · generalize hs1 : setMember s t _ = s1
    obtain ⟨m, hm, hholding, hfence, hstate, hepoch, hat, hreq⟩ := activateImage_member t (moveCup t .active 0 (startTree t true s1))
    have hmember : member (moveCup t .active 0 (startTree t true s1)) t = member s1 t :=
      member_of_prot ((moveCup_prot ..).trans rfl) t
    rw [hmember, ← hs1, member_setMember_same] at hholding hfence hstate hepoch hat hreq
    rw [hm]
    exact ⟨hholding, hfence, hstate, hepoch, hat, hreq⟩

theorem requestDue_completeRunning {op key status detail result : Nat} {resp : List Byte} {t : Nat} {s : State}
    (h : (member s t).requestDue = none) : (member (completeRunning op key status detail result resp s) t).requestDue = none := by
  obtain ⟨-, hmember⟩ := completeRunning_disablesOnly op key status detail result resp s
  rcases hmember t with hk | hk <;> rw [hk]
  exact h

/-- Settles O36: the fence check comes first in every step of the member, and an accepted GRANT answers a request of the last 18 µs. -/
theorem leaseMember : Obligations.LeaseMember := by
  unfold Obligations.LeaseMember
  refine ⟨?fences, ?request, fun t served s hdue hcomes => exec_leaseRequestSend_of_grant served hdue hcomes, ?unhealthy, ?renewed,
    ?granted, ?ignored⟩
  case fences =>
    exact fun t s c hdue hcfg => ⟨⟨_, exec_fenceInstant_of_due hdue, fenced_fenceMember t.val s⟩,
      fun served => exec_leaseRequestSend_fences t served hdue, fun bytes => exec_leaseGrant_fences bytes hdue hcfg⟩
  case request =>
    intro t served s c hcfg hdue henabled hcomes hlast hmay
    obtain ⟨kind, hkind⟩ := requestNow_of_due henabled hlast hmay
    refine ⟨_, (exec_leaseRequestSend_of_noGrant served hdue hcomes).trans (by rw [hkind]), ?_⟩
    rw [member_sendRequest]
    exact ⟨rfl, rfl, rfl, rfl⟩
  case unhealthy =>
    intro t served s hholding hdue hcomes hhealthy
    rw [exec_leaseRequestSend_of_noGrant served hdue hcomes, requestNow_of_unhealthy hholding hhealthy]
  case renewed =>
    intro t bytes g s c x hcfg hg hdue hsound hgroup hkind henabled htarget hepoch hholding hreq hsent
    subst hg
    rw [exec_leaseGrant_of_cfg bytes hcfg, grantTaken_of_grant hdue hsound hgroup hkind henabled,
      acceptGrant_of_answer htarget hepoch hsent, if_pos hholding, requestAfter_of_none (by simpa [withGrant] using hreq)]
    rfl
  case granted =>
    intro t bytes g s c x hcfg hg hsound hgroup hkind henabled htarget hepoch hholding hreq hsent
    subst hg
    obtain ⟨s', hs', htaken, hfence, hstate, hepoch', hat, hreq'⟩ :=
      takeOver_of_member t.val (setMember s t.val (withGrant (member s t.val) (readLease bytes) x.2))
    rw [member_setMember_same] at hepoch' hat hreq'
    refine ⟨s', ?_, htaken, hfence, hstate, hepoch', hat⟩
    rw [exec_leaseGrant_of_cfg bytes hcfg, grantTaken_of_grant (fenceDue_of_notHolding hholding) hsound hgroup hkind henabled,
      acceptGrant_of_answer htarget hepoch hsent, if_neg (by simp [hholding]), hs',
      requestAfter_of_none (requestDue_completeRunning (hreq'.trans hreq))]
  case ignored =>
    intro t bytes g s c hcfg hg hdue hsound hgroup hreq h
    subst hg
    rw [exec_leaseGrant_of_cfg bytes hcfg, grantTaken_of_other hdue hsound hgroup (acceptGrant_of_unanswered h),
      requestAfter_of_none hreq]

end Sys2Proof.Machine
end

section
/-! PROOFS of tree protection, part 3. The arbiter's record (R427). -/

namespace Sys2Proof.Machine

-- One proof at a time: elaborated side by side, the proofs of the joined text need more memory than its check has.
set_option Elab.async false

/-! ## The arbiter's record (R427) -/

@[simp] theorem arbiter_setArbiter_same (s : State) (g : Nat) (v : Arbiter) : arbiter (setArbiter s g v) g = v := tget_tset_same ..

theorem canSend_setArbiter (a : Nat) (s : State) (g : Nat) (v : Arbiter) : canSend a (setArbiter s g v) = canSend a s := rfl

theorem arbiter_of_prot {s u : State} (h : u.prot = s.prot) (g : Nat) : arbiter u g = arbiter s g := by rw [arbiter, arbiter, h]

@[simp] theorem arbiter_sendGrant (g dst seq epoch : Nat) (s : State) (k : Nat) :
    arbiter (sendGrant g dst seq epoch s) k = arbiter s k := by
  unfold sendGrant
  split
  · rfl
  · exact arbiter_of_prot (countUnsent_frame s).1 k

theorem out_sendGrant {g dst seq epoch : Nat} {s : State} (h : canSend dst s = true) : (sendGrant g dst seq epoch s).out =
    .lease dst (leaseBytes leaseGrant g (selfAddress s) dst 0 seq epoch 0) :: s.out := by
  rw [sendGrant, if_pos h]
  rfl

theorem expireRecord_of_running {g : Nat} {s : State} (h : s.now < (arbiter s g).expiry) : expireRecord g s = s := by
  simp [expireRecord, Nat.not_le.2 h]

/-- An expired record leaves the arbiter without a holder, and otherwise as it was. -/
theorem arbiter_expireRecord_of_expired {g : Nat} {s : State} (h : (arbiter s g).expiry ≤ s.now) :
    arbiter (expireRecord g s) g = { arbiter s g with holder := none } := by
  unfold expireRecord
  dsimp only
  split
  · exact arbiter_setArbiter_same ..
  next hcond =>
    have hnone : (arbiter s g).holder = none := by simpa [h] using hcond
    exact congrArg (fun o => { arbiter s g with holder := o }) hnone

/-- The requests of a queue that are not stale. -/
def freshOf (a : Arbiter) (now : Nat) : List Queued := a.queue.filter (fun e => decide (now ≤ e.received + usNs 10))

theorem arbitrate_of_held {g m : Nat} {s : State} (h : (arbiter s g).holder = some m) :
    arbitrate g s = setArbiter s g { arbiter s g with queue := freshOf (arbiter s g) s.now } := if_pos (by simp [h])

theorem arbiter_arbitrate_of_held {g m : Nat} {s : State} (h : (arbiter s g).holder = some m) :
    arbiter (arbitrate g s) g = { arbiter s g with queue := freshOf (arbiter s g) s.now } := by
  rw [arbitrate_of_held h, arbiter_setArbiter_same]

/-- A queue of one fresh request, armed, is granted where no member holds the lease. -/
theorem arbiter_arbitrate_of_single {g : Nat} {q : Queued} {s : State} (hnone : (arbiter s g).holder = none)
    (hqueue : (arbiter s g).queue = [q]) (hfresh : s.now ≤ q.received + 10000) (harmed : armed (arbiter s g) q.sender s.now = true) :
    arbiter (arbitrate g s) g = { arbiter s g with
      holder := some q.sender, epoch := ((arbiter s g).epoch + 1) % 2 ^ 32, expiry := s.now + 20000, queue := [] } := by
  have hkept : (arbiter s g).queue.filter (fun e => decide (s.now ≤ e.received + usNs 10)) = [q] := by
    have hq : s.now ≤ q.received + usNs 10 := hfresh
    simp [hqueue, hq]
  have hpick : pickRequest { arbiter s g with queue := [q] } = some q := by
    unfold pickRequest
    by_cases hrevert : q.kind = leaseRevert
    · simp [hrevert]
    · by_cases hprimary : q.sender = (arbiter s g).primary <;> simp [hrevert, hprimary]
  have harmed' : armed { arbiter s g with queue := [q] } q.sender s.now = true := harmed
  unfold arbitrate
  simp only [hkept, hnone, Option.isSome_none, Bool.false_eq_true, if_false]
  simp only [hnone] at hpick harmed'
  simp only [hpick, harmed', if_true, arbiter_sendGrant, arbiter_setArbiter_same]
  rfl

/-! ## One message of a cycle -/

/-- A message as the arbiter unit presents it. -/
def presentedOf (g : LeaseMsg) (now : Nat) : Queued := { sender := g.sender.val, kind := g.kind, seq := g.seq, received := now }

theorem arbiterMessage_of_more {g : LeaseMsg} {s : State} (hsound : soundMessage g = true) (hmore : messageComes g.group s = true) :
    arbiterMessage g s = setArbiter s g.group.val { arbiter s g.group.val with
      presented := (arbiter s g.group.val).presented ++ [presentedOf g s.now] } := by
  simp [arbiterMessage, hsound, hmore, presentedOf]

/-- The arbiter's cycle over one message: the record still runs, so the message is taken and the stale requests dropped. -/
theorem arbiterMessage_of_single {g : LeaseMsg} {s : State} (hsound : soundMessage g = true) (hlast : messageComes g.group s = false)
    (hnone : (arbiter s g.group.val).presented = []) (hruns : s.now < (arbiter s g.group.val).expiry) :
    ∃ u, arbiterMessage g s = arbitrate g.group.val (takeMessage g.group.val (presentedOf g s.now) u) ∧
      arbiter u g.group.val = arbiter s g.group.val ∧ u.now = s.now ∧ u.out = s.out ∧ u.fab = s.fab ∧
      ∀ a, canSend a u = canSend a s := by
  have hback : ({ arbiter s g.group.val with presented := [] } : Arbiter) = arbiter s g.group.val := by rw [← hnone]
  generalize hs1 : setArbiter s g.group.val { arbiter s g.group.val with presented := [presentedOf g s.now] } = s1
  have hs1a : arbiter s1 g.group.val = { arbiter s g.group.val with presented := [presentedOf g s.now] } := by
    rw [← hs1, arbiter_setArbiter_same]
  have hexpire : expireRecord g.group.val s1 = s1 := by
    refine expireRecord_of_running ?_
    rw [hs1a, ← hs1]
    exact hruns
  refine ⟨setArbiter s1 g.group.val (arbiter s g.group.val), ?_, arbiter_setArbiter_same .., ?_, ?_, ?_, fun a => ?_⟩
  · simp only [arbiterMessage, hsound, hlast, hnone, Bool.not_true, Bool.false_eq_true, if_false, List.nil_append]
    rw [show ({ sender := g.sender.val, kind := g.kind, seq := g.seq, received := s.now } : Queued) = presentedOf g s.now from rfl,
      hs1, arbiterCycle, hexpire, hs1a]
    simp only [hback]
    rfl
  all_goals rw [← hs1]; rfl

section

variable {k m : Nat} {q : Queued} {u : State} (hholder : (arbiter u k).holder = some m)

include hholder

/-- No message but the holder's own RELEASE ends its lease. -/
theorem holder_takeMessage (hrelease : q.kind = leaseRelease → q.sender ≠ m) :
    (arbiter (takeMessage k q u) k).holder = some m ∧ (arbiter (takeMessage k q u) k).epoch = (arbiter u k).epoch := by
  unfold takeMessage
  dsimp only
  split
  · rw [arbiter_sendGrant, arbiter_setArbiter_same]
    exact ⟨hholder, rfl⟩
  · split
    next hkind =>
      have hother : ¬ decide ((arbiter u k).holder = some q.sender) = true := by
        simpa [hholder] using fun h => hrelease hkind h.symm
      rw [if_neg hother]
      exact ⟨hholder, rfl⟩
    · rw [arbiter_setArbiter_same]
      exact ⟨hholder, rfl⟩

theorem takeMessage_of_renew (hkind : q.kind = leaseRenew) (hmine : q.sender = m) :
    takeMessage k q u = sendGrant k q.sender q.seq (arbiter u k).epoch (setArbiter u k { arbiter u k with expiry := u.now + 20000 }) :=
  if_pos ⟨hkind, by simp [hholder, hmine]⟩

end

theorem takeMessage_of_claim {k : Nat} {q : Queued} {u : State} (hkind : q.kind = leaseClaim) :
    takeMessage k q u = setArbiter u k { arbiter u k with
      queue := (arbiter u k).queue.filter (fun e => decide (e.sender ≠ q.sender)) ++ [q] } := by
  have hrenew : ¬ (q.kind = leaseRenew ∧ decide ((arbiter u k).holder = some q.sender) = true) := by
    simp [hkind, leaseClaim, leaseRenew]
  have hrelease : ¬ q.kind = leaseRelease := by simp [hkind, leaseClaim, leaseRelease]
  exact (if_neg hrenew).trans (if_neg hrelease)

section

variable {bytes : List Byte} {g : LeaseMsg} {s : State} (hg : g = readLease bytes) (hserve : (arbiter s g.group.val).serve = true)

include hg hserve

/-- A message at the arbiter of its group: one that asks for something, or that is damaged, is taken (R424). -/
theorem exec_arbiterLeaseMessage_of_serving :
    exec (.arbiterLeaseMessage bytes) s = .next (arbiterMessage g s) ∨ exec (.arbiterLeaseMessage bytes) s = .next s := by
  subst hg
  have hexec : exec (.arbiterLeaseMessage bytes) s = .next (if _ then arbiterMessage (readLease bytes) s else s) := if_pos hserve
  rw [hexec]
  split
  · exact .inl rfl
  · exact .inr rfl

theorem exec_arbiterLeaseMessage_of_request (hkind : g.kind = leaseRenew ∨ g.kind = leaseClaim) :
    exec (.arbiterLeaseMessage bytes) s = .next (arbiterMessage g s) := by
  subst hg
  refine (if_pos hserve).trans (congrArg _ (if_pos ?_))
  rcases hkind with hkind | hkind <;> simp [hkind]

end

theorem holder_arbitrate {k m : Nat} {u : State} (h : (arbiter u k).holder = some m) :
    (arbiter (arbitrate k u) k).holder = some m ∧ (arbiter (arbitrate k u) k).epoch = (arbiter u k).epoch := by
  rw [arbiter_arbitrate_of_held h]
  exact ⟨h, rfl⟩

theorem holder_arbiterMessage {g : LeaseMsg} {s : State} {m : Nat} (hholder : (arbiter s g.group.val).holder = some m)
    (hnone : (arbiter s g.group.val).presented = []) (hruns : s.now < (arbiter s g.group.val).expiry)
    (hrelease : g.kind = leaseRelease → g.sender.val ≠ m) :
    (arbiter (arbiterMessage g s) g.group.val).holder = some m ∧
    (arbiter (arbiterMessage g s) g.group.val).epoch = (arbiter s g.group.val).epoch := by
  cases hsound : soundMessage g with
  | true =>
    cases hmore : messageComes g.group s with
    | true =>
      rw [arbiterMessage_of_more hsound hmore, arbiter_setArbiter_same]
      exact ⟨hholder, rfl⟩
    | false =>
      obtain ⟨u, hu, hua, -⟩ := arbiterMessage_of_single hsound hmore hnone hruns
      obtain ⟨htaken, hepoch⟩ := holder_takeMessage (q := presentedOf g s.now) (hua ▸ hholder) hrelease
      obtain ⟨hend, hepoch'⟩ := holder_arbitrate htaken
      rw [hu]
      exact ⟨hend, by rw [hepoch', hepoch, hua]⟩
  | false =>
    generalize hs1 : ({ s with prot := { s.prot with badMessages := satur 32 (s.prot.badMessages + 1) } } : State) = s1
    have ha : arbiter s1 g.group.val = arbiter s g.group.val := by rw [← hs1]; rfl
    have hcycle : arbiterMessage g s = if messageComes g.group s then s1 else arbiterCycle g.group.val s1 := by
      simp only [arbiterMessage, hsound, hs1]
      rfl
    rw [hcycle]
    split
    · rw [ha]
      exact ⟨hholder, rfl⟩
    · have hexpire : expireRecord g.group.val s1 = s1 := expireRecord_of_running (by rw [ha, ← hs1]; exact hruns)
      rw [arbiterCycle, hexpire, ha, hnone]
      obtain ⟨hend, hepoch⟩ := holder_arbitrate (k := g.group.val) (m := m)
        (u := setArbiter s1 g.group.val { arbiter s g.group.val with presented := [] }) (by rw [arbiter_setArbiter_same]; exact hholder)
      rw [arbiter_setArbiter_same] at hepoch
      exact ⟨hend, hepoch⟩

/-- Settles O37: the record is looked at first and a holder is replaced only by its RELEASE or by the grant of a record that is over. -/
theorem arbiterKeepsOneHolder : Obligations.ArbiterKeepsOneHolder := by
  unfold Obligations.ArbiterKeepsOneHolder
  refine ⟨?keeps, ?renew, ?claim, ?expires, ?runs, ?stale⟩
  case keeps =>
    intro bytes g s m hg hserve hholder hnone hruns hrelease
    rcases exec_arbiterLeaseMessage_of_serving hg hserve with hexec | hexec
    · obtain ⟨hend, hepoch⟩ := holder_arbiterMessage hholder hnone hruns hrelease
      exact ⟨_, hexec, hend, hepoch⟩
    · exact ⟨s, hexec, hholder, rfl⟩
  case renew =>
    intro bytes g s hg hserve hholder hnone hlast hruns hsound hkind
    obtain ⟨u, hu, hua, hnow, hout, hfab, hsend⟩ := arbiterMessage_of_single hsound hlast hnone hruns
    have htake := takeMessage_of_renew (q := presentedOf g s.now) (hua ▸ hholder) hkind rfl
    have hheld : (arbiter (takeMessage g.group.val (presentedOf g s.now) u) g.group.val).holder = some g.sender.val := by
      rw [htake, arbiter_sendGrant, arbiter_setArbiter_same, hua]
      exact hholder
    refine ⟨_, exec_arbiterLeaseMessage_of_request hg hserve (.inl hkind), ?_, fun hcan => ?_⟩
    · rw [hu, arbiter_arbitrate_of_held hheld, htake, arbiter_sendGrant, arbiter_setArbiter_same, hnow]
    · rw [hu, arbitrate_of_held hheld, setArbiter_out, htake, out_sendGrant ((canSend_setArbiter ..).trans ((hsend (presentedOf g s.now).sender).trans hcan)), setArbiter_out, hout, hua]
      simp only [selfAddress, setArbiter, hfab]
      rfl
  case claim =>
    intro bytes g s m hg hserve hholder hnone hlast hruns hsound hkind hother
    obtain ⟨u, hu, hua, hnow, -⟩ := arbiterMessage_of_single hsound hlast hnone hruns
    have htake := takeMessage_of_claim (k := g.group.val) (q := presentedOf g s.now) (u := u) hkind
    have hheld : (arbiter (takeMessage g.group.val (presentedOf g s.now) u) g.group.val).holder = some m := by
      rw [htake, arbiter_setArbiter_same, hua]
      exact hholder
    refine ⟨_, presentedOf g s.now, exec_arbiterLeaseMessage_of_request hg hserve (.inr hkind), ?_, rfl, rfl, rfl⟩
    rw [hu, arbiter_arbitrate_of_held hheld, htake, arbiter_setArbiter_same]
    refine List.mem_filter.2 ⟨List.mem_append_right _ (List.mem_singleton.2 rfl), ?_⟩
    simp [presentedOf, setArbiter, hnow]
  case expires =>
    intro g s q hserve hexpiry hlast hqueue hfresh harmed
    have hexec : exec (.arbiterLeaseExpiry g) s = .next (arbitrate g.val (expireRecord g.val s)) :=
      (if_neg (by simp [hserve])).trans (if_neg (by simp [hlast]))
    have ha := arbiter_expireRecord_of_expired hexpiry
    have hnow : (expireRecord g.val s).now = s.now := by
      unfold expireRecord
      dsimp only
      split <;> rfl
    have hgranted := arbiter_arbitrate_of_single (g := g.val) (q := q) (s := expireRecord g.val s) (by rw [ha]) (by rw [ha]; exact hqueue)
      (by rw [hnow]; exact hfresh) (by rw [ha, hnow]; exact harmed)
    rw [ha, hnow] at hgranted
    refine ⟨_, hexec, ?_⟩
    rw [hgranted]
    exact ⟨rfl, rfl, rfl, rfl⟩
  case runs =>
    intro g s hserve hruns hholder
    obtain ⟨m, hm⟩ := Option.isSome_iff_exists.1 hholder
    have hexpire := expireRecord_of_running hruns
    cases hmore : messageComes g s with
    | true => exact ⟨_, (if_neg (by simp [hserve])).trans (if_pos hmore), by rw [hexpire]⟩
    | false =>
      refine ⟨_, (if_neg (by simp [hserve])).trans (if_neg (by simp [hmore])), ?_⟩
      obtain ⟨hend, -⟩ := holder_arbitrate hm
      rw [hexpire, hend, hm]
  case stale =>
    intro g m s
    refine ⟨_, rfl, ?_⟩
    rw [arbiter_setArbiter_same]
    refine ⟨rfl, fun q hq hsender => ?_⟩
    obtain ⟨-, hfresh⟩ := List.mem_filter.1 hq
    have hage : s.now ≤ q.received + usNs 10 := by simpa [hsender] using hfresh
    exact hage

end Sys2Proof.Machine
end

section
/-! PROOFS of tree protection, part 4. WTR, standby and claims; the commands of range 0x0B (R420, R440–R447). -/

namespace Sys2Proof.Machine

-- One proof at a time: elaborated side by side, the proofs of the joined text need more memory than its check has.
set_option Elab.async false

/-! ## WTR, standby, claims: what they change (R425, R440) -/

theorem judgeWtr_cases (t : Nat) (s : State) :
    judgeWtr t s = s ∨ ∃ w x, judgeWtr t s = setMember s t { member s t with wtrSince := w, taking := x } := by
  unfold judgeWtr
  dsimp only
  split
  · exact .inl rfl
  · split
    · exact .inr ⟨_, _, rfl⟩
    · exact .inr ⟨_, _, rfl⟩

theorem member_judgeWtr (t : Nat) (s : State) :
    ∃ w x, member (judgeWtr t s) t = { member s t with wtrSince := w, taking := x } := by
  rcases judgeWtr_cases t s with h | ⟨w, x, h⟩ <;> rw [h]
  · exact ⟨_, _, rfl⟩
  · exact ⟨w, x, member_setMember_same ..⟩

/-- Only the members' table may differ. -/
def SameButMembers (s t : State) : Prop := t = { s with prot := { s.prot with members := t.prot.members } }

theorem sameButMembers_judgeWtr (t : Nat) (s : State) : SameButMembers s (judgeWtr t s) := by
  rcases judgeWtr_cases t s with h | ⟨w, x, h⟩ <;> rw [h] <;> rfl

theorem tree_judgeWtr (t : Nat) (s : State) (k : Nat) : tree (judgeWtr t s) k = tree s k := by
  rcases judgeWtr_cases t s with h | ⟨w, x, h⟩ <;> rw [h]
  rfl

/-- What a member that stands by leaves before its command completes. -/
theorem becomeStandby_eq (t : Nat) (s : State) : ∃ s', becomeStandby t s = completeRunning 0x0B01 t stOk 0 0 [] s' ∧
    (member s' t).holding = false ∧ (member s' t).fence = true ∧ (tree s' t).enabled = false ∧
    s'.prot.images = s.prot.images := by
  refine ⟨_, rfl, ?_⟩
  generalize hs1 : darkTree t (setMember s t _) = s1
  have hmember : (member s1 t).holding = false ∧ (member s1 t).fence = true := by
    rw [← hs1, darkTree, member_setTree, member_setMember_same]
    exact ⟨rfl, rfl⟩
  have htree : (tree s1 t).enabled = false := by
    rw [← hs1, darkTree, tree_setTree_same]
  have himages : s1.prot.images = s.prot.images := by rw [← hs1]; rfl
  generalize hs2 : (if (member s t).state = 1 then postProt t 0 s1 else s1) = s2
  have hsame : s2.prot = s1.prot ∧ s2.tr = s1.tr := by
    rw [← hs2]
    split
    · exact ⟨postProt_prot .., postProt_tr ..⟩
    · exact ⟨rfl, rfl⟩
  obtain ⟨hprot, htr⟩ := hsame
  obtain ⟨w, x, hw⟩ := member_judgeWtr t s2
  have hjudged : (judgeWtr t s2).prot.images = s2.prot.images := by rw [sameButMembers_judgeWtr t s2]
  rw [hw, tree_judgeWtr, tree_of_trees htr, member_of_prot hprot, hjudged, hprot]
  obtain ⟨hholding, hfence⟩ := hmember
  exact ⟨hholding, hfence, htree, himages⟩

theorem beginWake_prot (k : Nat) (s : State) : (beginWake k s).prot = s.prot ∧ (beginWake k s).tr = s.tr ∧ (beginWake k s).now = s.now := by
  unfold beginWake
  dsimp only
  split <;> exact ⟨rfl, rfl, rfl⟩

theorem abortTest_holding {t : Nat} {s : State} (h : (member s t).holding = false) : (member (abortTest t s) t).holding = false := by
  unfold abortTest
  split
  · generalize hs1 : postProt t 8 (setMember s t _) = s1
    have hs1' : (member s1 t).holding = false := by
      rw [← hs1, member_postProt, member_setMember_same]
      exact h
    obtain ⟨-, hmember⟩ := completeRunning_disablesOnly 0x0B05 t stRefused 0x0B07 0 [] s1
    rcases hmember t with hk | hk <;> rw [hk]
    exact hs1'
  · exact h

/-- A claim leaves the lease as it is, and begins where the member may claim. -/
theorem startClaim_member (t : Nat) (s : State) :
    (member (startClaim t s) t).holding = (member s t).holding ∧
    ((member s t).state ≠ 7 → (member (startClaim t s) t).peerLost = (member s t).peerLost) ∧
    ((member s t).holding = false → (member s t).current = true → (cup s t).state ≠ .fenced →
      (member (startClaim t s) t).claiming = true) := by
  unfold startClaim
  dsimp only
  split
  next hcond =>
    refine ⟨rfl, fun _ => rfl, fun hholding hcurrent hcup => ?_⟩
    simpa [hholding, hcurrent, hcup] using hcond
  next hcond =>
    have hholding : (member s t).holding = false := by
      by_contra hheld
      simp [hheld] at hcond
    rw [member_of_prot (beginWake_prot ..).1, member_setMember_same]
    refine ⟨(abortTest_holding hholding).trans hholding.symm, fun hstate => ?_, fun _ _ _ => rfl⟩
    rw [abortTest, if_neg hstate]

theorem refreshCurrent_of_holding {t : Nat} {s : State} (h : (member s t).holding = true) : refreshCurrent t s = s := by
  simp [refreshCurrent, h]

theorem refreshCurrent_images (t : Nat) (s : State) : (refreshCurrent t s).prot.images = s.prot.images := by
  unfold refreshCurrent
  dsimp only
  split
  · rfl
  · rw [sameButMembers_judgeWtr]
    split
    · rfl
    · rw [postProt_prot]
      rfl

theorem hearHolder_images (t : Nat) (s : State) : (hearHolder t s).prot.images = s.prot.images := by
  unfold hearHolder
  dsimp only
  split
  · obtain ⟨s', hs', -, -, -, himages⟩ := becomeStandby_eq t s
    rw [hs']
    exact (completeRunning_disablesOnly ..).1.trans himages
  · rfl

theorem image_of_images {s u : State} (h : u.prot.images = s.prot.images) (t k : Nat) : image u t k = image s t k := by
  rw [image, image, h]

@[simp] theorem image_setImage_same (s : State) (t k : Nat) (v : Image) : image (setImage s t k v) t k = v := tget_tset_same ..

section

variable {h : Caller} {e : Held} {s : State}

/-! ## The commands of range 0x0B (R420, R441, R444–R447, R582) -/

theorem exec_protGroupConfigure_of_idle {p : ProtP} (hs : startable 0x0B00 none h e s) (hown : owns h kTree p.tree.val s = true)
    (hwf : p.wf = true) (htree : (tree s p.tree.val).enabled = false) (hmember : (member s p.tree.val).enabled = false)
    (harbiter : p.arbiter ≠ p.peer) (haddress : s.fab.address ≠ some p.arbiter.val) :
    exec (.protGroupConfigure h p) s = .next (finish e stOk 0 0 [] (setMember s p.tree.val
      { member s p.tree.val with cfg := some (protDefaults p) })) := by
  refine perform_done hs ?_
  simp [hown, hwf, htree, hmember, harbiter, haddress, okay]

theorem exec_protGroupConfigure_of_enabled {p : ProtP} (hs : startable 0x0B00 none h e s) (hown : owns h kTree p.tree.val s = true)
    (hwf : p.wf = true) (hused : (tree s p.tree.val).enabled = true ∨ (member s p.tree.val).enabled = true) :
    exec (.protGroupConfigure h p) s = .next (finish e stRefused 0x0B01 0 [] s) := by
  refine perform_done hs ?_
  simp [hown, hwf, hused, refuse]

section

variable {t : Fin 64} {c : ProtP}

theorem exec_protEnable_of_placed {s1 : State} (hs : startable 0x0B01 (some { kind := 2, scope := t.val }) h e s)
    (hown : owns h kTree t.val s = true) (hcfg : (member s t.val).cfg = some c) (hmember : (member s t.val).enabled = false)
    (hdeps : protDeps t.val s = true) (hkey : (tget none c.group.val s.boot.pairingKeys).isSome = true)
    (hplaced : enablePort t.val (treeRate (tree s t.val).mode) s = .placed s1) :
    ∃ s', exec (.protEnable h t) s = .next (setPhase e (.running t.val) s') ∧
      member s' t.val = enabledMember (member s t.val) s.now := by
  have hkey' : (tget none c.group.val s.boot.pairingKeys).isNone = false := Option.isNone_eq_false_iff.2 hkey
  refine ⟨_, perform_later hs (by simp only [hown, hcfg, hmember, hdeps, hkey', hplaced]; rfl), ?_⟩
  have hfenced (u : State) : (setTreeFenced t.val false u).prot = u.prot := by
    unfold setTreeFenced
    split
    · rfl
    · exact (post_prot ..).trans rfl
  rw [member_postProt, member_of_prot (hfenced _)]
  exact member_setMember_same ..

theorem exec_protEnable_of_missing (hs : startable 0x0B01 (some { kind := 2, scope := t.val }) h e s)
    (hown : owns h kTree t.val s = true) (hcfg : (member s t.val).cfg = some c) (hmember : (member s t.val).enabled = false)
    (hdeps : protDeps t.val s = false) : exec (.protEnable h t) s = .next (finish e stRefused 0x0B00 0 [] s) := by
  refine perform_done hs ?_
  simp [hown, hcfg, hmember, hdeps, refuse]

theorem exec_protDisable_of_allowed {force : Bool} (hs : startable 0x0B02 none h e s) (hown : owns h kTree t.val s = true)
    (hmay : (member s t.val).holding = false ∨ force = true) :
    ∃ s', exec (.protDisable h t force) s = .next (finish e stOk 0 0 [] s') ∧ (member s' t.val).enabled = false ∧
      (tree s' t.val).enabled = false ∧ (tree s' t.val).txen = false := by
  have hrefused : ¬ ((member s t.val).holding && !force) = true := by
    rcases hmay with hmay | hmay <;> simp [hmay]
  refine ⟨_, perform_done hs ((if_neg (by simp [hown])).trans ((if_neg hrefused).trans rfl)), ?_⟩
  generalize (if (member s t.val).holding then sendLease t.val (arbiterOf t.val s) leaseRelease (selfAddress s) 0 true s else s) = s1
  obtain ⟨henabled, htx⟩ := tree_stopTree_same t.val s1
  refine ⟨?_, henabled, htx⟩
  have hmember : member (setMember (stopTree t.val s1) t.val {}) t.val = {} := member_setMember_same ..
  exact congrArg Member.enabled hmember

theorem exec_protDisable_of_holder (hs : startable 0x0B02 none h e s) (hown : owns h kTree t.val s = true)
    (hholding : (member s t.val).holding = true) : exec (.protDisable h t false) s = .next (finish e stRefused 0x0B03 0 [] s) :=
  perform_done hs (by simp [hown, hholding, refuse])

theorem exec_protSwitch_of_ready (hs : startable 0x0B03 none h e s) (hown : owns h kTree t.val s = true)
    (hholding : (member s t.val).holding = true) (hcurrent : (member s t.val).peerCurrent = true)
    (hhealthy : (member s t.val).peerHealthy = true) (hlost : (member s t.val).peerLost = false) :
    ∃ s', exec (.protSwitch h t) s = .next (setPhase e (.running t.val) s') ∧
      (member s' t.val).dueRelease = some (handoverFrame t.val s) ∧ (member s' t.val).holding = true := by
  refine ⟨_, perform_later hs (by simp only [hown, hholding, hcurrent, hhealthy, hlost]; rfl), ?_⟩
  rw [member_sendLease, member_setMember_same, member_newRequest]
  exact ⟨rfl, hholding⟩

theorem exec_protSwitch_of_unready (hs : startable 0x0B03 none h e s) (hown : owns h kTree t.val s = true)
    (hnot : (member s t.val).holding = false ∨ (member s t.val).peerCurrent = false ∨ (member s t.val).peerHealthy = false) :
    exec (.protSwitch h t) s = .next (finish e stRefused 0x0B02 0 [] s) := by
  refine perform_done hs ?_
  rcases hnot with hnot | hnot | hnot <;> simp [hown, hnot, refuse]

theorem exec_protStatus_of_configured (hs : startable 0x0B04 none h e s) (hown : owns h kTree t.val s = true)
    (hconfigured : protConfigured t.val s = true) : exec (.protStatus h t) s = .next (finish e stOk 0 0 (protStatus t.val s) s) :=
  perform_done hs (by simp [hown, hconfigured, okResp])

theorem exec_protStandbyTest_of_standby {us : Nat} (hs : startable 0x0B05 (some { kind := 6, scope := t.val }) h e s)
    (hown : owns h kTree t.val s = true) (hlow : 125 ≤ us) (hhigh : us ≤ 10000) (hwhole : us % 125 = 0)
    (hstate : (member s t.val).state = 3) :
    exec (.protStandbyTest h t us) s = .next (setPhase e (.running t.val)
      (setMember s t.val { member s t.val with state := 7, testEnds := s.now + us * 1000 })) := by
  refine perform_later hs ?_
  have hrange : ¬ (us < 125 ∨ 10000 < us ∨ us % 125 ≠ 0) := by omega
  simp only [hown, hrange, hstate]
  rfl

theorem exec_standbyTestEnd_of_due (pass : Bool) (hstate : (member s t.val).state = 7) (hends : (member s t.val).testEnds ≤ s.now) :
    exec (.standbyTestEnd t pass) s = .next (completeRunning 0x0B05 t.val stOk 0 (if pass then 1 else 0) []
      (setMember s t.val { member s t.val with state := if (member s t.val).current then 3 else 4 })) := by
  have hcond : ¬ ((member s t.val).state ≠ 7 ∨ s.now < (member s t.val).testEnds) := by omega
  refine (if_neg hcond).trans ?_
  cases pass <;> rfl

end

theorem exec_leaseArbiterConfigure_of_room {p : ArbiterP} (hs : startable 0x0B07 none h e s) (hown : ownsDevice h s = true)
    (hserve : p.serve = true) (hroom : groupsServed p.group.val s < 256) :
    exec (.leaseArbiterConfigure h p) s = .next (finish e stOk 0 0 [] (setArbiter s p.group.val
      { arbiter s p.group.val with
        serve := true, hostMode := p.hostMode, armedPrimary := p.armedPrimary, armedSecondary := p.armedSecondary,
        armedAt := s.now, wasPrimary := armedBit false (arbiter s p.group.val) s.now,
        wasSecondary := armedBit true (arbiter s p.group.val) s.now, primary := p.primary.val, secondary := p.secondary.val })) :=
  perform_done hs (by simp [hown, hserve, Nat.not_le.2 hroom, okay])

end

end Sys2Proof.Machine
end

section
/-! PROOFS of tree protection, part 5. Pairing, heartbeats, handover and the Marl image (R429–R431, R440, R480, R582). -/

namespace Sys2Proof.Machine

-- One proof at a time: elaborated side by side, the proofs of the joined text need more memory than its check has.
set_option Elab.async false

section

variable {h : Caller} {e : Held} {s s1 : State} {t : Fin 64} {c : ProtP} {d : Nat}

/-! ## Pairing (R582) -/

theorem exec_protPair_of_unknown (message : List Byte) (hs : startable 0x0B06 none h e s) (hown : owns h kTree t.val s = true)
    (hcfg : (member s t.val).cfg = some c) (hd : d = (draw s).1 % (p256.n - 1) + 1)
    (hs1 : s1 = emit (.pairing c.peer.val (ownPairingMessage d c.group.val)) (draw s).2) (hserial : serialOf c.peer.val s = none) :
    exec (.protPair h t message) s = .next (finish e stTimeout 0 0 [] s1) := by
  subst hd hs1
  refine perform_done hs ?_
  simp only [hown, hcfg, hserial]
  rfl

theorem exec_protPair_of_known {n : Nat} {keys : Table (Option Nat)} (message : List Byte) (hs : startable 0x0B06 none h e s)
    (hown : owns h kTree t.val s = true) (hcfg : (member s t.val).cfg = some c) (hd : d = (draw s).1 % (p256.n - 1) + 1)
    (hs1 : s1 = emit (.pairing c.peer.val (ownPairingMessage d c.group.val)) (draw s).2) (hserial : serialOf c.peer.val s = some n)
    (hkeys : keys = tset none c.group.val
        (some (pairingKey (sharedX p256 d (publicKey p256 (natsOf (message.take 64)))) c.group.val Config.serial n))
        s1.boot.pairingKeys) :
    exec (.protPair h t message) s = .next (if pairingOk c.group.val n message = true then
        finish e stOk 0 0 [] { s1 with boot := { s1.boot with pairingKeys := keys } }
      else finish e stTimeout 0 0 [] s1) := by
  subst hd hs1 hkeys
  cases hok : pairingOk c.group.val n message with
  | true =>
    refine perform_done hs ?_
    simp only [hown, hcfg, hserial, hok]
    rfl
  | false =>
    refine perform_done hs ?_
    simp only [hown, hcfg, hserial, hok]
    rfl

/-! ## Heartbeats (R424, R431) -/

theorem canSend_setMember (a : Nat) (s : State) (t : Nat) (v : Member) : canSend a (setMember s t v) = canSend a s := rfl

theorem canSend_judgeWtr (a t : Nat) (s : State) : canSend a (judgeWtr t s) = canSend a s := by
  rcases judgeWtr_cases t s with hj | ⟨w, x, hj⟩ <;> rw [hj]
  rfl

theorem selfAddress_judgeWtr (t : Nat) (s : State) : selfAddress (judgeWtr t s) = selfAddress s := by
  rcases judgeWtr_cases t s with hj | ⟨w, x, hj⟩ <;> rw [hj]
  rfl

theorem out_sendLease {k dst kind target superframe : Nat} {serviced : Bool} {s : State} (hcfg : (member s k).cfg = some c)
    (hcan : canSend dst s = true) : (sendLease k dst kind target superframe serviced s).out =
      .lease dst (leaseBytes kind c.group.val (selfAddress s) target (leaseFlags k serviced s) (member s k).seq (member s k).epoch
        superframe) :: s.out := by
  unfold sendLease
  dsimp only
  rw [hcfg]
  dsimp only
  rw [if_pos hcan]
  rfl

/-- The state in which a heartbeat at instant `now` is written, from the one with the image judged (R431). -/
def beaten (t now : Nat) (served : Bool) (s : State) : State :=
  judgeWtr t (setMember s t { member s t with hbSent := some now, hbHealthy := healthy t served s })

theorem member_beaten (t now : Nat) (served : Bool) (s : State) : ∃ w x, member (beaten t now served s) t =
    { member s t with hbSent := some now, hbHealthy := healthy t served s, wtrSince := w, taking := x } := by
  obtain ⟨w, x, hw⟩ := member_judgeWtr t (setMember s t { member s t with hbSent := some now, hbHealthy := healthy t served s })
  rw [member_setMember_same] at hw
  exact ⟨w, x, hw⟩

theorem canSend_beaten (a t now : Nat) (served : Bool) (s : State) : canSend a (beaten t now served s) = canSend a s := by
  rw [beaten, canSend_judgeWtr, canSend_setMember]

theorem selfAddress_beaten (t now : Nat) (served : Bool) (s : State) : selfAddress (beaten t now served s) = selfAddress s := by
  rw [beaten, selfAddress_judgeWtr]
  rfl

theorem exec_heartbeatSend_of_due {served : Bool} (henabled : (member s t.val).enabled = true)
    (hsent : ∀ l, (member s t.val).hbSent = some l → l + 5000 ≤ s.now) (hs1 : s1 = beaten t.val s.now served (refreshCurrent t.val s)) :
    ∃ frame, exec (.heartbeatSend t served) s =
      .next (sendLease t.val (peerOf t.val s1) leaseHeartbeat (selfAddress s1) frame served s1) := by
  subst hs1
  refine ⟨_, if_neg ?_⟩
  simp only [henabled, Bool.not_true, Bool.false_or, Bool.not_eq_true', Bool.not_eq_false]
  split
  · rfl
  next l hl => exact decide_eq_true (hsent l hl)

theorem exec_heartbeatSend_of_holder (served : Bool) (henabled : (member s t.val).enabled = true)
    (hholding : (member s t.val).holding = true) (hcfg : (member s t.val).cfg = some c)
    (hsent : ∀ l, (member s t.val).hbSent = some l → l + 5000 ≤ s.now) (hcan : canSend (peerOf t.val s) s = true) :
    ∃ s' flags seq epoch frame, exec (.heartbeatSend t served) s = .next s' ∧
      s'.out.head? = some (.lease (peerOf t.val s) (leaseBytes leaseHeartbeat c.group.val (selfAddress s) (selfAddress s)
        flags seq epoch frame)) ∧ (member s' t.val).hbSent = some s.now := by
  obtain ⟨w, x, hw⟩ := member_beaten t.val s.now served s
  obtain ⟨frame, hexec⟩ := exec_heartbeatSend_of_due henabled hsent rfl
  rw [refreshCurrent_of_holding hholding] at hexec
  have hcfg' : (member (beaten t.val s.now served s) t.val).cfg = some c := by
    rw [hw]
    exact hcfg
  have hpeer : peerOf t.val (beaten t.val s.now served s) = peerOf t.val s := by
    unfold peerOf
    rw [hcfg', hcfg]
  rw [hpeer] at hexec
  have hcan' := (canSend_beaten (peerOf t.val s) t.val s.now served s).trans hcan
  have hself := selfAddress_beaten t.val s.now served s
  generalize beaten t.val s.now served s = s1 at *
  rw [hself] at hexec
  refine ⟨_, leaseFlags t.val served s1, (member s1 t.val).seq, (member s1 t.val).epoch, frame, hexec, ?_, ?_⟩
  · rw [out_sendLease hcfg' hcan', hself]
    rfl
  · rw [member_sendLease, hw]

/-- The member that has heard its healthy peer at instant `now`. -/
def withPeerHeard (m : Member) (current : Bool) (now : Nat) : Member :=
  { m with hbLast := some now, peerLost := false, peerHealthy := true, peerCurrent := current }

theorem exec_heartbeat_of_peer {bytes : List Byte} {g : LeaseMsg} (hcfg : (member s t.val).cfg = some c) (hg : g = readLease bytes)
    (hsound : soundMessage g = true) (hgroup : g.group = c.group) (hkind : g.kind = leaseHeartbeat)
    (henabled : (member s t.val).enabled = true) (hsender : g.sender = c.peer) (hhealthy : g.healthy = true)
    (hclaiming : (member s t.val).claiming = false) :
    ∃ s', exec (.heartbeat t bytes) s = .next s' ∧ (member s' t.val).peerLost = false ∧
      (member s' t.val).hbLast = some s.now ∧ (member s' t.val).peerHealthy = true ∧
      (member s' t.val).peerCurrent = g.imageCurrent := by
  subst hg
  have hexec : ∃ u, member u t.val = withPeerHeard (member s t.val) (readLease bytes).imageCurrent s.now ∧
      exec (.heartbeat t bytes) s = .next (judgeWtr t.val u) := by
    change ∃ u, _ ∧ execHeartbeat t bytes s = _
    unfold execHeartbeat
    dsimp only
    rw [hcfg]
    refine ⟨_, ?_, (if_neg (by simp [hsound, hgroup])).trans ((if_neg (by simp [henabled, hsender, hkind])).trans
      (congrArg _ (if_neg (by simp [hhealthy]))))⟩
    simp only [hclaiming, hhealthy, Bool.and_false, Bool.false_and, Bool.false_eq_true, if_false]
    split
    · rw [member_postProt, member_setMember_same, withPeerHeard, hcfg, hclaiming]
    · rw [member_setMember_same, withPeerHeard, hcfg, hclaiming]
  obtain ⟨u, hu, hexec⟩ := hexec
  obtain ⟨w, x, hw⟩ := member_judgeWtr t.val u
  refine ⟨_, hexec, ?_⟩
  rw [hw, hu]
  exact ⟨rfl, rfl, rfl, rfl⟩

/-- The state in which the peer is lost and WTR judged anew (R431). -/
def withPeerLost (t : Nat) (s : State) : State := judgeWtr t (setMember s t { member s t with peerLost := true })

theorem member_withPeerLost (t : Nat) (s : State) :
    ∃ w x, member (withPeerLost t s) t = { member s t with peerLost := true, wtrSince := w, taking := x } := by
  obtain ⟨w, x, hw⟩ := member_judgeWtr t (setMember s t { member s t with peerLost := true })
  rw [member_setMember_same] at hw
  exact ⟨w, x, hw⟩

theorem cup_withPeerLost (t : Nat) (s : State) (k : Nat) : cup (withPeerLost t s) k = cup s k := by
  rw [withPeerLost, cup, sameButMembers_judgeWtr]
  rfl

theorem exec_heartbeatTimeout_of_lapsed (hcfg : (member s t.val).cfg = some c) (henabled : (member s t.val).enabled = true)
    (hlost : (member s t.val).peerLost = false)
    (hlapsed : lapsed ((member s t.val).hbLast.getD (member s t.val).enabledAt) (usNs c.hbTimeoutUs) s = true) :
    ∃ s', exec (.heartbeatTimeout t) s = .next s' ∧ ((member s t.val).state ≠ 7 → (member s' t.val).peerLost = true) ∧
      (member s' t.val).holding = (member s t.val).holding ∧
      ((member s t.val).state = 3 → (member s t.val).current = true → (member s t.val).holding = false →
        (cup s t.val).state ≠ .fenced → (member s' t.val).claiming = true) := by
  have hexec : exec (.heartbeatTimeout t) s = .next (postProt t.val 3
      (if decide ((member s t.val).state = 3) || decide ((member s t.val).state = 7) || decide ((member s t.val).state = 8)
        then startClaim t.val (withPeerLost t.val s) else withPeerLost t.val s)) := by
    change execHeartbeatTimeout t s = _
    unfold execHeartbeatTimeout
    dsimp only
    split
    next hnone => simp [hcfg] at hnone
    next c' hc' =>
      cases hcfg.symm.trans hc'
      refine if_neg ?_
      simp [henabled, hlost, hlapsed]
  refine ⟨_, hexec, ?_⟩
  obtain ⟨w, x, hw⟩ := member_withPeerLost t.val s
  have hcup := cup_withPeerLost t.val s
  generalize withPeerLost t.val s = s1 at hw hcup ⊢
  rw [member_postProt]
  obtain ⟨hholding, hpeer, hclaim⟩ := startClaim_member t.val s1
  rw [hw] at hholding hpeer hclaim
  rw [hcup] at hclaim
  split
  · exact ⟨fun hstate => hpeer hstate, hholding, fun _ hcurrent hheld hup => hclaim hheld hcurrent hup⟩
  next hstates =>
    rw [hw]
    exact ⟨fun _ => rfl, rfl, fun hstate => by simp [hstate] at hstates⟩

theorem moveCup_fenced_tr (k reason : Nat) (s : State) : (moveCup k .fenced reason s).tr = s.tr := by
  by_cases hup : (cup s k).state = .fenced
  · rw [moveCup, if_pos hup]
  · obtain ⟨c, payload, -, hmoved⟩ := moveCup_fenced_eq reason hup
    rw [hmoved, post_tr]
    rfl

theorem exec_transmitWithoutLease_of_fenced (ns : Nat) (hfence : (member s t.val).fence = true) :
    ∃ s', exec (.transmitWithoutLease t ns) s = .next s' ∧ (member s' t.val).enabled = false ∧
      (member s' t.val).holding = false ∧ (tree s' t.val).txen = false ∧ (cup s' t.val).state = .fenced := by
  have hexec : exec (.transmitWithoutLease t ns) s = .next _ := if_neg (by simp [hfence])
  refine ⟨_, hexec, ?_⟩
  generalize post 0x381 .safety (t.val + satur 26 ns * 2 ^ 6) s = s1
  generalize hs2 : moveCup t.val .fenced 3 (stopTree t.val s1) = s2
  have hcup : (cup s2 t.val).state = .fenced := by
    rw [← hs2]
    exact (moveCup_fenced_frame ..).1
  have htree : (tree s2 t.val).txen = false := by
    rw [← hs2, tree_of_trees (moveCup_fenced_tr ..)]
    exact (tree_stopTree_same ..).2
  have hfenced : (cup (setTreeFenced t.val true s2) t.val).state = .fenced ∧ (tree (setTreeFenced t.val true s2) t.val).txen = false := by
    unfold setTreeFenced
    split
    · exact ⟨hcup, htree⟩
    · refine ⟨?_, ?_⟩
      · rw [postSafe, cup_of_pwr (post_pwr ..)]
        exact hcup
      · rw [postSafe, tree_of_trees (post_tr ..)]
        exact htree
  obtain ⟨hcup', htree'⟩ := hfenced
  rw [member_postProt, member_setMember_same, tree_postProt, cup_of_pwr (postProt_pwr ..)]
  exact ⟨rfl, rfl, htree', hcup'⟩

/-! ## Handover (R440, R441) -/

theorem exec_wtrExpiry_of_due {w : Nat} (hcfg : (member s t.val).cfg = some c) (hw : (member s t.val).wtrSince = some w)
    (hstate : (member s t.val).state = 8) (htaking : (member s t.val).taking = none) (hholds : wtrHolds (member s t.val) = true)
    (hdue : w + c.wtrS * 1000000000 ≤ s.now) :
    ∃ s', exec (.wtrExpiry t) s = .next s' ∧ (member s' t.val).taking = some (handoverFrame t.val s, false) := by
  have hexec : exec (.wtrExpiry t) s = .next (sendReverts t.val (handoverFrame t.val s)
      (setMember s t.val { member s t.val with taking := some (handoverFrame t.val s, false) })) := by
    change execWtrExpiry t s = _
    unfold execWtrExpiry
    dsimp only
    rw [hcfg, hw]
    exact if_neg (by simp [hstate, htaking, hholds, Nat.not_lt.2 hdue])
  refine ⟨_, hexec, ?_⟩
  rw [member_sendReverts, member_setMember_same]
  rfl

/-- 5 µs have passed since the last REVERT. -/
def revertLapsed (m : Member) (now : Nat) : Bool := match m.revertSent with | some l => decide (l + usNs 5 ≤ now) | none => true

theorem exec_revertSend_of_due {b : Nat} {x : Bool} (htaking : (member s t.val).taking = some (b, x))
    (hholding : (member s t.val).holding = false) (hnear : untilFrame t.val b s ≤ 12000) (hfresh : -20000 ≤ untilFrame t.val b s)
    (hsent : (member s t.val).reverting = true → ∀ l, (member s t.val).revertSent = some l → l + 5000 ≤ s.now) :
    ∃ s', exec (.revertSend t) s = .next s' ∧ (member s' t.val).reverting = true ∧
      (member s' t.val).seq = ((member s t.val).seq + 1) % 2 ^ 32 := by
  have hdue : (!(member s t.val).reverting || revertLapsed (member s t.val) s.now) = true := by
    cases hrev : (member s t.val).reverting with
    | false => rfl
    | true =>
      unfold revertLapsed
      split
      next l hl => exact decide_eq_true (hsent hrev l hl)
      · rfl
  have hexec : exec (.revertSend t) s = .next (sendReverts t.val b (beginWake t.val
      (setMember s t.val { member s t.val with reverting := true }))) := by
    change execRevertSend t s = _
    unfold execRevertSend
    dsimp only
    rw [htaking]
    refine (if_neg ?_).trans (if_neg (Int.not_lt.2 hfresh))
    change ¬ ((member s t.val).holding || decide (12000 < untilFrame t.val b s) ||
      !(!(member s t.val).reverting || revertLapsed (member s t.val) s.now)) = true
    rw [hdue, hholding, decide_eq_false (Int.not_lt.2 hnear)]
    exact Bool.false_ne_true
  refine ⟨_, hexec, ?_⟩
  rw [member_sendReverts, member_of_prot (beginWake_prot ..).1, member_setMember_same]
  exact ⟨rfl, rfl⟩

section

variable {b : Nat} (hrelease : (member s t.val).dueRelease = some b) (hholding : (member s t.val).holding = true)
  (hcfg : (member s t.val).cfg = some c) (hcomes : messageComes c.group s = false) (hnear : untilFrame t.val b s ≤ 4000)

include hrelease hholding hcfg hcomes hnear

theorem exec_handoverRelease_of_due : exec (.handoverRelease t) s = .next (tryRelease t.val b s) := by
  change execHandoverRelease t s = _
  unfold execHandoverRelease
  dsimp only
  rw [hrelease, hcfg]
  exact (if_neg (by simp [hholding, Int.not_lt.2 hnear])).trans (if_neg (by simp [hcomes]))

theorem exec_handoverRelease_of_revert {r : Nat × Nat} (hr : r ∈ (member s t.val).reverts) (hb : r.1 = b)
    (hage : s.now ≤ r.2 + 10000) :
    ∃ s', exec (.handoverRelease t) s = .next (completeRunning 0x0B03 t.val stOk 0 0 [] (postProt t.val 7
      (completeRunning 0x0B01 t.val stOk 0 0 [] s'))) ∧ (member s' t.val).holding = false ∧
      (member s' t.val).fence = true ∧ (tree s' t.val).enabled = false := by
  obtain ⟨s', hs', hfree, hfence, htree, -⟩ :=
    becomeStandby_eq t.val (sendLease t.val (arbiterOf t.val s) leaseRelease (selfAddress s) b true s)
  have hfound : (member s t.val).reverts.any (fun r => decide (r.1 = b) && decide (s.now ≤ r.2 + usNs 10)) = true :=
    List.any_eq_true.2 ⟨r, hr, by rw [decide_eq_true hb]; exact decide_eq_true hage⟩
  refine ⟨s', ?_, hfree, hfence, htree⟩
  rw [exec_handoverRelease_of_due hrelease hholding hcfg hcomes hnear, ← hs']
  exact congrArg _ (if_pos hfound)

theorem exec_handoverRelease_of_noRevert (hnone : ∀ r ∈ (member s t.val).reverts, r.1 = b → r.2 + 10000 < s.now) :
    exec (.handoverRelease t) s = .next (completeRunning 0x0B03 t.val stRefused 0x0B02 0 []
      (setMember s t.val { member s t.val with dueRelease := none, releaseDue := false })) := by
  have hfound : ¬ (member s t.val).reverts.any (fun r => decide (r.1 = b) && decide (s.now ≤ r.2 + usNs 10)) = true := by
    simp only [List.any_eq_true, Bool.and_eq_true, decide_eq_true_eq]
    rintro ⟨r, hr, hb, hage⟩
    exact absurd hage (Nat.not_le.2 (hnone r hr hb))
  rw [exec_handoverRelease_of_due hrelease hholding hcfg hcomes hnear]
  exact congrArg _ (if_neg hfound)

end

/-! ## The Marl image (R429, R480) -/

theorem image_writeBytes (a : Nat) (bs : List Byte) (u : State) (t k : Nat) : image (writeBytes a bs u) t k = image u t k := by
  obtain ⟨cells, hcells⟩ := writeBytes_frame a bs u
  rw [hcells]
  rfl

/-- The image of a slot once a piece has come: a piece of another superframe begins it anew (R429). -/
def withPiece (m : MarlPiece) (i : Image) : Image :=
  let i0 := if i.superframe % 2 ^ 32 ≠ m.superframe then { superframe := m.superframe } else i
  if m.partB then { i0 with piecesB := (m.pieceOffset, m.bytes.length) :: i0.piecesB }
  else { i0 with piecesA := (m.pieceOffset, m.bytes.length) :: i0.piecesA }

theorem superframe_withPiece (m : MarlPiece) (i : Image) : (withPiece m i).superframe % 2 ^ 32 = m.superframe % 2 ^ 32 := by
  have hbegun : (if i.superframe % 2 ^ 32 ≠ m.superframe then { superframe := m.superframe } else i).superframe % 2 ^ 32 =
      m.superframe % 2 ^ 32 := by
    split
    · rfl
    next hsame => rw [← not_not.1 hsame, Nat.mod_mod]
  unfold withPiece
  dsimp only
  split <;> exact hbegun

theorem exec_marlFrame_of_room {sof payload : List Byte} {m : MarlPiece} {t : Nat} (hm : m = readPiece sof payload)
    (htree : memberTree m.group s = some t) (henabled : (member s t).enabled = true) (hlisted : flitListed sof = true)
    (hroom : m.pieceOffset + m.bytes.length ≤ (if m.partB then 0x1C0000 else 0x40000)) :
    ∃ u, u.mem = s.mem ∧ exec (.marlFrame sof payload) s =
      .next (writeBytes (savedState t m.slot.val + partOffset m.partB + m.pieceOffset) m.bytes
        (setImage u t m.slot.val (withPiece m (image s t m.slot.val)))) := by
  subst hm
  generalize hfresh : decide ((image s t (readPiece sof payload).slot.val).superframe % 2 ^ 32 ≠ (readPiece sof payload).superframe)
    = fresh
  refine ⟨if fresh then countLate t (unfinished (image s t (readPiece sof payload).slot.val)) s else s, ?_, ?_⟩
  · split <;> rfl
  · change execMarlFrame sof payload s = _
    unfold execMarlFrame
    dsimp only
    rw [htree]
    refine (if_neg ?_).trans ?_
    · simpa [hlisted, henabled] using hroom
    · unfold withPiece
      subst hfresh
      simp only [decide_eq_true_eq]

theorem exec_marlFrame_lands {sof payload : List Byte} {m : MarlPiece} {t : Nat} (hm : m = readPiece sof payload)
    (htree : memberTree m.group s = some t) (henabled : (member s t).enabled = true) (hlisted : flitListed sof = true)
    (hroom : m.pieceOffset + m.bytes.length ≤ (if m.partB then 0x1C0000 else 0x40000)) :
    ∃ s', exec (.marlFrame sof payload) s = .next s' ∧
      (image s' t m.slot.val).superframe % 2 ^ 32 = m.superframe % 2 ^ 32 ∧
      (∀ i (hi : i < m.bytes.length), readByte (savedState t m.slot.val + partOffset m.partB + m.pieceOffset + i) s' = m.bytes[i]) ∧
      (∀ a, (a < savedState t m.slot.val + partOffset m.partB + m.pieceOffset ∨
          savedState t m.slot.val + partOffset m.partB + m.pieceOffset + m.bytes.length ≤ a) → readByte a s' = readByte a s) := by
  obtain ⟨u, humem, hexec⟩ := exec_marlFrame_of_room hm htree henabled hlisted hroom
  refine ⟨_, hexec, ?_, fun i hi => readByte_writeBytes_inside _ i _ _ hi, fun a ha => ?_⟩
  · rw [image_writeBytes, image_setImage_same]
    exact superframe_withPiece ..
  · rw [readByte_writeBytes_outside _ _ _ _ ha]
    exact congrArg (fun mem => tget (0 : Byte) a mem.cells) humem

theorem prot_ite_postProt (p : Prop) [Decidable p] (t reason : Nat) (u : State) :
    (if p then u else postProt t reason u).prot = u.prot := by
  split
  · rfl
  · exact postProt_prot ..

section

variable {partB : Bool} {superframe k : Nat} (hslot : slotOf t.val superframe s = some k)

include hslot

theorem exec_marlPartComplete_of_whole (henabled : (member s t.val).enabled = true) (hholding : (member s t.val).holding = false)
    (hnew : (if partB then (image s t.val k).doneB else (image s t.val k).doneA) = false)
    (hwhole : partComplete t.val k partB s = true) :
    ∃ s', exec (.marlPartComplete t partB superframe) s = .next s' ∧
      (if partB then (image s' t.val k).doneB else (image s' t.val k).doneA) = true := by
  have hcond : ¬ (!(member s t.val).enabled || (member s t.val).holding ||
      (if partB then (image s t.val k).doneB else (image s t.val k).doneA) || !partComplete t.val k partB s) = true := by
    simp [henabled, hholding, hnew, hwhole]
  change ∃ s', execMarlPartComplete t partB superframe s = _ ∧ _
  unfold execMarlPartComplete
  dsimp only
  rw [hslot]
  cases partB with
  | true =>
    refine ⟨_, if_neg hcond, ?_⟩
    rw [if_pos rfl, image_of_images (refreshCurrent_images ..)]
    rw [image_of_prot (prot_ite_postProt ..), image_setImage_same]
  | false =>
    refine ⟨_, if_neg hcond, ?_⟩
    rw [if_neg Bool.false_ne_true, image_of_images (hearHolder_images ..), image_of_images (refreshCurrent_images ..),
      image_setImage_same]

theorem exec_marlPartComplete_of_part (hpart : partComplete t.val k partB s = false) :
    exec (.marlPartComplete t partB superframe) s = .next s := by
  change execMarlPartComplete t partB superframe s = _
  unfold execMarlPartComplete
  dsimp only
  rw [hslot]
  exact if_pos (by simp [hpart])

end

theorem protStatus_head (t : Nat) (s : State) : (protStatus t s).head? = some (BitVec.ofNat 8 (member s t).state) := rfl

end

/-- Settles O35: each clause is one of the rules above. -/
theorem protectionCommandsAndHandover : Obligations.ProtectionCommandsAndHandover := by
  refine ⟨?configure, ?configureInUse, ?enable, ?enableMissing, ?disable, ?disableHolder, ?switch, ?switchUnready, ?status, ?test,
    ?testEnd, ?pair, ?arbiter, ?beat, ?heard, ?silence, ?drive, ?wtr, ?revert, ?release, ?abandon, ?piece, ?part⟩
  case configure =>
    exact fun h p e s hs hown hwf htree hmember harbiter haddress =>
      exec_protGroupConfigure_of_idle hs hown hwf htree hmember harbiter haddress
  case configureInUse => exact fun h p e s hs hown hwf hused => exec_protGroupConfigure_of_enabled hs hown hwf hused
  case enable =>
    intro h t c e s s1 hs hown hcfg hmember hdeps hkey hplaced
    obtain ⟨s', hexec, hm⟩ := exec_protEnable_of_placed hs hown hcfg hmember hdeps hkey hplaced
    exact ⟨s', hexec, by rw [hm]; exact ⟨rfl, rfl, rfl, rfl, rfl, rfl⟩⟩
  case enableMissing => exact fun h t c e s hs hown hcfg hmember hdeps => exec_protEnable_of_missing hs hown hcfg hmember hdeps
  case disable => exact fun h t force e s hs hown hmay => exec_protDisable_of_allowed hs hown hmay
  case disableHolder => exact fun h t e s hs hown hholding => exec_protDisable_of_holder hs hown hholding
  case switch =>
    exact fun h t e s hs hown hholding hcurrent hhealthy hlost => exec_protSwitch_of_ready hs hown hholding hcurrent hhealthy hlost
  case switchUnready => exact fun h t e s hs hown hnot => exec_protSwitch_of_unready hs hown hnot
  case status =>
    exact fun h t e s hs hown hconfigured =>
      ⟨_, exec_protStatus_of_configured hs hown hconfigured, length_fields (by simp), protStatus_head ..⟩
  case test =>
    exact fun h t us e s hs hown hlow hhigh hwhole hstate => exec_protStandbyTest_of_standby hs hown hlow hhigh hwhole hstate
  case testEnd => exact fun t pass s hstate hends => exec_standbyTestEnd_of_due pass hstate hends
  case pair =>
    exact fun h t c message e s d s1 hs hown hcfg hd hs1 =>
      ⟨fun hserial => exec_protPair_of_unknown message hs hown hcfg hd hs1 hserial,
        fun n keys hserial hkeys => exec_protPair_of_known message hs hown hcfg hd hs1 hserial hkeys⟩
  case arbiter => exact fun h p e s hs hown hserve hroom => exec_leaseArbiterConfigure_of_room hs hown hserve hroom
  case beat =>
    exact fun t served s c henabled hholding hcfg hsent hcan =>
      exec_heartbeatSend_of_holder served henabled hholding hcfg hsent hcan
  case heard =>
    exact fun t bytes g s c hcfg hg hsound hgroup hkind henabled hsender hhealthy _ hclaiming =>
      exec_heartbeat_of_peer hcfg hg hsound hgroup hkind henabled hsender hhealthy hclaiming
  case silence => exact fun t s c hcfg henabled hlost hlapsed => exec_heartbeatTimeout_of_lapsed hcfg henabled hlost hlapsed
  case drive => exact fun t ns s hfence => exec_transmitWithoutLease_of_fenced ns hfence
  case wtr =>
    exact fun t s c w hcfg hw hstate htaking hholds hdue => exec_wtrExpiry_of_due hcfg hw hstate htaking hholds hdue
  case revert =>
    exact fun t s b x htaking hholding hnear hfresh hsent => exec_revertSend_of_due htaking hholding hnear hfresh hsent
  case release =>
    exact fun t s c b r hrelease hholding hcfg hcomes hnear hr hb hage =>
      exec_handoverRelease_of_revert hrelease hholding hcfg hcomes hnear hr hb hage
  case abandon =>
    exact fun t s c b hrelease hholding hcfg hcomes hnear hnone =>
      exec_handoverRelease_of_noRevert hrelease hholding hcfg hcomes hnear hnone
  case piece =>
    exact fun sof payload m s t hm htree henabled hlisted hroom => exec_marlFrame_lands hm htree henabled hlisted hroom
  case part =>
    exact fun t partB superframe s k hslot henabled hholding hnew =>
      ⟨exec_marlPartComplete_of_whole hslot henabled hholding hnew, exec_marlPartComplete_of_part hslot⟩

end Sys2Proof.Machine
end

section
/-! PROOFS of the counters and window meters (R545–R553). -/

namespace Sys2Proof.Machine

-- One proof at a time: elaborated side by side, the proofs of the joined text need more memory than its check has.
set_option Elab.async false

/-! ## Latches (R548, R553) -/

theorem latchCounter_of_odd {c : Nat} {s : State} (h : isChainedOdd c s = true) : latchCounter c s = s := if_pos h

theorem latchCounter_of_alone {c : Nat} {s : State} (hodd : isChainedOdd c s = false) (hpair : chainedAbove c s = false) :
    latchCounter c s = setCounter s c { counter s c with shadow := (counter s c).value, shadowOvf := (counter s c).overflow } :=
  (if_neg (by simp [hodd])).trans (if_neg (by simp [hpair]))

theorem not_isChainedOdd_of_chainedAbove {c : Nat} {s : State} (h : chainedAbove c s = true) : ¬ isChainedOdd c s = true := by
  simp only [chainedAbove, isChainedOdd, Bool.and_eq_true, decide_eq_true_eq] at h ⊢
  omega

theorem latchCounter_of_pair {c : Nat} {s : State} (h : chainedAbove c s = true) :
    counter (latchCounter c s) c = { counter s c with shadow := (counter s c).value, shadowOvf := (counter s (c + 1)).overflow } ∧
    (counter (latchCounter c s) (c + 1)).shadow = (counter s (c + 1)).value := by
  have hlatch : latchCounter c s = setCounter _ _ _ := (if_neg (not_isChainedOdd_of_chainedAbove h)).trans (if_pos h)
  rw [hlatch, counter_setCounter_other _ _ _ _ (Nat.succ_ne_self c).symm, counter_setCounter_same, counter_setCounter_same]
  exact ⟨rfl, rfl⟩

/-- A latch leaves a counter's value and its CLEAR. -/
theorem counter_latchCounter (c : Nat) (s : State) : (counter (latchCounter c s) c).value = (counter s c).value ∧
    (counter (latchCounter c s) c).clearNext = (counter s c).clearNext := by
  cases hodd : isChainedOdd c s with
  | true => rw [latchCounter_of_odd hodd]; exact ⟨rfl, rfl⟩
  | false =>
    cases hpair : chainedAbove c s with
    | false => rw [latchCounter_of_alone hodd hpair, counter_setCounter_same]; exact ⟨rfl, rfl⟩
    | true => rw [(latchCounter_of_pair hpair).1]; exact ⟨rfl, rfl⟩

section

variable {h : Caller} {e : Held} {s : State}

/-! ## Commands (R546, R550, R552, R562) -/

theorem exec_counterConfigure_of_owned {p : CounterP} (hs : startable 0x0E06 none h e s)
    (hown : owns h kCounter (p.counter.val / 64) s = true)
    (hdomain : p.domain ≠ 0xFFFF → ownsDomain h p.domain s = true ∧ packetEvent p.event = true) (hevent : eventDefined p.event = true)
    (hchain : p.chain = true → p.counter.val % 2 = 1) (hall : p.domain = 0xFFFF → isVf h.id.fn = false) (hwf : p.wf = true) :
    exec (.counterConfigure h p) s = .next (finish e stOk 0 0 [] (setCounter s p.counter.val { counter s p.counter.val with
      next := some (p.event, p.inst, p.domain, p.chain), clearNow := (counter s p.counter.val).clearNow || p.clear })) := by
  have hodd : ¬ (p.chain && decide (p.counter.val % 2 = 0)) = true := by
    simp only [Bool.and_eq_true, decide_eq_true_eq]
    exact fun ⟨hc, heven⟩ => absurd (hchain hc) (by omega)
  refine perform_done hs ((if_neg ?_).trans ((if_neg (by simp [hevent])).trans ((if_neg hodd).trans
    ((if_neg ?_).trans ((if_neg ?_).trans rfl)))))
  · simpa [hown] using fun hd => (hdomain hd).1
  · simpa using hall
  · simpa [hwf] using fun hd => (hdomain hd).2

section

variable {p : CounterP} (hs : startable 0x0E06 none h e s) (hown : owns h kCounter (p.counter.val / 64) s = true)
  (hdomain : p.domain = 0xFFFF)

include hs hown hdomain

theorem exec_counterConfigure_of_reserved (hevent : eventDefined p.event = false) :
    exec (.counterConfigure h p) s = .next (finish e stRefused 0x0E00 0 [] s) :=
  perform_done hs ((if_neg (by simp [hown, hdomain])).trans (if_pos (by simp [hevent])))

theorem exec_counterConfigure_of_chainEven (hevent : eventDefined p.event = true) (hchain : p.chain = true)
    (heven : p.counter.val % 2 = 0) : exec (.counterConfigure h p) s = .next (finish e stRefused 0x0E01 0 [] s) :=
  perform_done hs ((if_neg (by simp [hown, hdomain])).trans ((if_neg (by simp [hevent])).trans (if_pos (by simp [hchain, heven]))))

theorem exec_counterConfigure_of_vf (hevent : eventDefined p.event = true) (hchain : p.chain = false)
    (hvf : isVf h.id.fn = true) : exec (.counterConfigure h p) s = .next (finish e stRefused 0x0E02 0 [] s) :=
  perform_done hs ((if_neg (by simp [hown, hdomain])).trans ((if_neg (by simp [hevent])).trans ((if_neg (by simp [hchain])).trans
    (if_pos (by simp [hdomain, hvf])))))

end

theorem exec_counterRead_of_owned {i : Fin 2048} (clear : Bool) (hs : startable 0x0E07 none h e s)
    (hown : owns h kCounter (i.val / 64) s = true) :
    ∃ r s', exec (.counterRead h false i clear) s = .next (finish e stOk 0 0 r s') ∧ r.length = 32 ∧
      (counter s' i.val).value = (counter s i.val).value ∧ (clear = true → (counter s' i.val).clearNext = true) ∧
      (clear = false → (counter s' i.val).clearNext = (counter s i.val).clearNext) := by
  obtain ⟨hvalue, hclear⟩ := counter_latchCounter i.val s
  refine ⟨_, _, perform_done hs ((if_neg Bool.false_ne_true).trans ((if_neg (by simp [hown])).trans rfl)), length_fields (by simp), ?_⟩
  cases clear with
  | false => exact ⟨hvalue, nofun, fun _ => hclear⟩
  | true =>
    rw [if_pos rfl, counter_setCounter_same]
    exact ⟨hvalue, fun _ => rfl, nofun⟩

theorem exec_counterRead_of_meter {i : Fin 2048} (clear : Bool) (hs : startable 0x0E07 none h e s) (hpf : isVf h.id.fn = false)
    (hi : i.val < 256) :
    ∃ r s', exec (.counterRead h true i clear) s = .next (finish e stOk 0 0 r s') ∧ r.length = 32 ∧
      (meter s' i.val).latchBytes = (meter s i.val).lastBytes ∧ (clear = true → (meter s' i.val).clearPeak = true) := by
  refine ⟨_, _, perform_done hs ((if_pos rfl).trans ((if_neg (by simp [hpf])).trans ((if_neg (by omega)).trans rfl))),
    length_fields (by simp [meterWords]), ?_⟩
  cases clear with
  | false =>
    rw [if_neg Bool.false_ne_true, latchMeter, meter_setMeter_same]
    exact ⟨rfl, nofun⟩
  | true =>
    rw [if_pos rfl, meter_setMeter_same, latchMeter, meter_setMeter_same]
    exact ⟨rfl, fun _ => rfl⟩

theorem exec_meterConfigure_of_owned {p : MeterP} (hs : startable 0x0E08 none h e s) (hown : ownsPort h p.port s = true)
    (hwf : p.wf = true) (hport : portExists p.port = true) :
    exec (.meterConfigure h p) s = .next (finish e stOk 0 0 [] (setMeter s p.meter.val
      { enabled := p.enable, port := p.port, egress := p.egress, windowUs := p.windowUs, since := s.now })) :=
  perform_done hs ((if_neg (by simp [hown])).trans ((if_neg (by simp [hwf, hport])).trans rfl))

end

theorem besidePosting_violation (f : PciFn) (offset : Nat) (write : Bool) (s : State) :
    besidePosting (violation f offset write s) = besidePosting s := by
  unfold violation postFn
  split
  · rfl
  · exact besidePosting_deliverTo ..

section

variable {f : PciFn} {s : State} (hready : s.boot.fwReady = true)

include hready

/-! ## Registers (R547–R549, R553) -/

theorem not_windowsDown_of_fwReady : ¬ windowsDown s = true := Bool.eq_false_iff.1 (windowsDown_of_fwReady hready)

section

variable {c : Fin 2048} (hsees : seesBlock f (c.val / 64) s = true)

include hsees

theorem exec_cntLo_of_seen : exec (.cntLo f c) s =
    .next (answer f (cntOffset c.val 0) (cntLoValue c.val (latchCounter c.val s)) (latchCounter c.val s)) :=
  (if_neg (not_windowsDown_of_fwReady hready)).trans (if_neg (by simp [hsees]))

theorem exec_cntClear_of_seen :
    exec (.cntClear f c) s = .next (setCounter s c.val { counter s c.val with clearNow := true }) :=
  (if_neg (not_windowsDown_of_fwReady hready)).trans (if_neg (by simp [hsees]))

theorem exec_cntClearOvf_of_seen :
    exec (.cntClearOvf f c) s = .next (setCounter s c.val { counter s c.val with clearOvf := true }) :=
  (if_neg (not_windowsDown_of_fwReady hready)).trans (if_neg (by simp [hsees]))

theorem exec_cntLo_of_alone (hodd : isChainedOdd c.val s = false) (hpair : chainedAbove c.val s = false) :
    ∃ s', exec (.cntLo f c) s = .next s' ∧ (counter s' c.val).shadow = (counter s c.val).value ∧
      (counter s' c.val).shadowOvf = (counter s c.val).overflow ∧
      s'.out = .registerRead (pciKey f) (0x800000 + c.val / 64 * 0x1000 + c.val % 64 * 0x10) ((counter s c.val).value % 2 ^ 32) :: s.out := by
  have hlatched : counter (latchCounter c.val s) c.val =
      { counter s c.val with shadow := (counter s c.val).value, shadowOvf := (counter s c.val).overflow } := by
    rw [latchCounter_of_alone hodd hpair, counter_setCounter_same]
  refine ⟨_, exec_cntLo_of_seen hready hsees, congrArg Counter.shadow hlatched, congrArg Counter.shadowOvf hlatched, ?_⟩
  rw [cntLoValue, hlatched, latchCounter_of_alone hodd hpair]
  rfl

theorem exec_cntLo_of_pair (hpair : chainedAbove c.val s = true) :
    ∃ s', exec (.cntLo f c) s = .next s' ∧ (counter s' c.val).shadow = (counter s c.val).value ∧
      (counter s' (c.val + 1)).shadow = (counter s (c.val + 1)).value ∧
      (counter s' c.val).shadowOvf = (counter s (c.val + 1)).overflow := by
  obtain ⟨heven, hodd⟩ := latchCounter_of_pair hpair
  exact ⟨_, exec_cntLo_of_seen hready hsees, congrArg Counter.shadow heven, hodd, congrArg Counter.shadowOvf heven⟩

theorem exec_cntLo_of_odd (hodd : isChainedOdd c.val s = true) : ∃ s', exec (.cntLo f c) s = .next s' ∧ s'.ev = s.ev :=
  ⟨_, exec_cntLo_of_seen hready hsees, (congrArg State.ev (latchCounter_of_odd hodd) :)⟩

end

/-- A write that the function does not see is reported, and nothing more. -/
theorem exec_cntClear_of_hidden {c : Fin 2048} (hsees : seesBlock f (c.val / 64) s = false) :
    ∃ s', exec (.cntClear f c) s = .next s' ∧ (counter s' c.val).value = (counter s c.val).value := by
  refine ⟨_, (if_neg (not_windowsDown_of_fwReady hready)).trans (if_pos (by simp [hsees])), ?_⟩
  rw [counter, counters_of_besidePosting (besidePosting_violation ..)]
  rfl

theorem exec_cntMtrBytesLo_of_pf {m : Fin 256} (hpf : isPf f = true) :
    ∃ s', exec (.cntMtrBytesLo f m) s = .next s' ∧ (meter s' m.val).latchBytes = (meter s m.val).lastBytes ∧
      (meter s' m.val).latchPeak = (meter s m.val).peak ∧ (meter s' m.val).latchSeq = (meter s m.val).seq := by
  have hlatched : meter (latchMeter m.val s) m.val = _ := meter_setMeter_same ..
  exact ⟨_, (if_neg (not_windowsDown_of_fwReady hready)).trans (if_neg (by simp [hpf])), congrArg Meter.latchBytes hlatched,
    congrArg Meter.latchPeak hlatched, congrArg Meter.latchSeq hlatched⟩

theorem exec_peakClear_of_pf {m : Fin 256} (hpf : isPf f = true) :
    exec (.peakClear f m) s = .next (setMeter s m.val { meter s m.val with peak := 0 }) :=
  (if_neg (not_windowsDown_of_fwReady hready)).trans (if_neg (by simp [hpf]))

end

/-! ## The cycle's end, windows and increments (R542, R545, R549, R550, R552) -/

theorem value_cleared (v : Counter) : (v.clearNow = true → (cleared v).value = 0) ∧ (v.clearNow = false → (cleared v).value = v.value) :=
  ⟨fun h => if_pos h, fun h => if_neg (by simp [h])⟩

theorem overflow_cleared {v : Counter} (h : v.clearOvf = true) : (cleared v).overflow = false := by
  simp [cleared, h]

theorem reconfigured_of_next {v : Counter} {event inst domain : Nat} {chain : Bool} (h : v.next = some (event, inst, domain, chain)) :
    reconfigured v = { v with event := event, inst := inst, domain := domain, chain := chain, next := none } := by
  simp only [reconfigured, h]

section

variable {m : Fin 256} {s : State} (henabled : (meter s m.val).enabled = true)
  (hover : (meter s m.val).since + (meter s m.val).windowUs * 1000 ≤ s.now)

include henabled hover

theorem exec_meterWindowEnd_of_over : exec (.meterWindowEnd m) s =
    if s.pending.isEmpty && s.pe.ingressDue.isEmpty then .next (setMeter s m.val (endWindow (meter s m.val)))
    else .next (setMeter s m.val { meter s m.val with endDue := true }) :=
  if_neg (by
    rw [henabled, decide_eq_false (p := s.now < (meter s m.val).since + usNs (meter s m.val).windowUs) (Nat.not_lt.2 hover)]
    exact Bool.false_ne_true)

theorem exec_meterWindowEnd_of_last (hpending : s.pending = []) (hdue : s.pe.ingressDue = []) :
    exec (.meterWindowEnd m) s = .next (setMeter s m.val (endWindow (meter s m.val))) :=
  (exec_meterWindowEnd_of_over henabled hover).trans (if_pos (by rw [hpending, hdue]; rfl))

theorem exec_meterWindowEnd_of_pending (hpending : s.pending ≠ []) :
    exec (.meterWindowEnd m) s = .next (setMeter s m.val { meter s m.val with endDue := true }) :=
  (exec_meterWindowEnd_of_over henabled hover).trans (if_neg (by simp [hpending]))

end

/-- Settles O45: each clause is one of the rules above. -/
theorem counterCommandsComplete : Obligations.CounterCommandsComplete := by
  refine ⟨?configure, ?refused, ?read, ?cycle, ?readMeter, ?meter, ?registers, ?hidden, ?meterRegisters, ?window, ?waits, ?overflow⟩
  case configure =>
    exact fun h p e s hs hown hdomain hevent hchain hall hwf => exec_counterConfigure_of_owned hs hown hdomain hevent hchain hall hwf
  case refused =>
    exact fun h p e s hs hown hdomain => ⟨exec_counterConfigure_of_reserved hs hown hdomain,
      exec_counterConfigure_of_chainEven hs hown hdomain, exec_counterConfigure_of_vf hs hown hdomain⟩
  case read => exact fun h i clear e s hs hown => exec_counterRead_of_owned clear hs hown
  case cycle =>
    refine fun v => ⟨(value_cleared v).1, (value_cleared v).2, overflow_cleared, rfl, fun event inst domain chain hnext => ?_⟩
    rw [reconfigured_of_next hnext]
    exact ⟨rfl, rfl, rfl, rfl, rfl⟩
  case readMeter => exact fun h i clear e s hs hpf hi => exec_counterRead_of_meter clear hs hpf hi
  case meter => exact fun h p e s hs hown hwf hport => exec_meterConfigure_of_owned hs hown hwf hport
  case registers =>
    exact fun f c s hready hsees => ⟨exec_cntLo_of_alone hready hsees, exec_cntLo_of_pair hready hsees,
      exec_cntLo_of_odd hready hsees, exec_cntClear_of_seen hready hsees, exec_cntClearOvf_of_seen hready hsees⟩
  case hidden => exact fun f c s hready hsees => exec_cntClear_of_hidden hready hsees
  case meterRegisters => exact fun f m s hready hpf => ⟨exec_cntMtrBytesLo_of_pf hready hpf, exec_peakClear_of_pf hready hpf⟩
  case window =>
    exact fun m s henabled hover => ⟨exec_meterWindowEnd_of_last henabled hover, exec_meterWindowEnd_of_pending henabled hover⟩
  case waits => exact fun c n s => rfl
  case overflow =>
    refine fun c n s _ hn hc => ⟨?_, value_addCounter ..⟩
    rw [addCounter_of_unchained hn hc, counter_overflowCounter_same]

end Sys2Proof.Machine
end

section
/-! PROOFS of the event queues (R86, R87, R556, R559–R562, R613). -/

namespace Sys2Proof.Machine

-- One proof at a time: elaborated side by side, the proofs of the joined text need more memory than its check has.
set_option Elab.async false

section

variable {h : Caller} {e : Held} {s : State}

/-! ## Routes and queues (R80, R556, R557, R559, R562) -/

theorem exec_eventRouteSet_of_owned {p : RouteP} (hs : startable 0x0E00 none h e s) (hsource : 6 < p.source.val)
    (hown : ownsSource h p.source.val s = true) (hmask : p.masked = true → guardedSource p.source.val = false)
    (hqueue : p.remote = true ∨ ownsQueueOf h p.queue.val s = true) :
    exec (.eventRouteSet h p) s = .next (finish e stOk 0 0 [] (setRoute s p.source.val (routeEntry p))) := by
  refine perform_done hs ((if_neg (Nat.not_le.2 hsource)).trans ((if_neg (by simp [hown])).trans ((if_neg ?_).trans
    ((if_neg ?_).trans rfl))))
  · simpa using hmask
  · rcases hqueue with hq | hq <;> simp [hq]

theorem exec_eventRouteSet_of_function {p : RouteP} (hs : startable 0x0E00 none h e s) (hsource : p.source.val ≤ 6) :
    exec (.eventRouteSet h p) s = .next (finish e stRefused 0x0E05 0 [] s) := perform_done hs (if_pos hsource)

theorem exec_eventRouteSet_of_guarded {p : RouteP} (hs : startable 0x0E00 none h e s) (hsource : 6 < p.source.val)
    (hown : ownsSource h p.source.val s = true) (hmasked : p.masked = true) (hguarded : guardedSource p.source.val = true) :
    exec (.eventRouteSet h p) s = .next (finish e stRefused 0x0E03 0 [] s) :=
  perform_done hs ((if_neg (Nat.not_le.2 hsource)).trans ((if_neg (by simp [hown])).trans (if_pos (by simp [hmasked, hguarded]))))

theorem exec_eventQueueCreate_of_free {p : EvqP} (hs : startable 0x0E01 none h e s) (hown : ownsQueueOf h p.queue.val s = true)
    (hfree : (evq s p.queue.val).enabled = false) (hwf : p.wf (isVf h.id.fn) = true) (howed : s.pwr.keep.wakeEventOwed = false) :
    exec (.eventQueueCreate h p) s = .next (finish e stOk 0 0 [] (setEvq s p.queue.val
      { owner := (evq s p.queue.val).owner, enabled := true, log2 := p.log2, vector := p.vector, base := p.base,
        phase := true, armed := p.armed })) := by
  have hwake (v : Evq) : postWake (setEvq s p.queue.val v) = setEvq s p.queue.val v := if_neg (by simp [howed])
  exact perform_done hs ((if_neg (by simp [hown])).trans ((if_neg (by simp [hfree])).trans ((if_neg (by simp [hwf])).trans
    (congrArg okay (hwake _)))))

theorem route_dropRoutes (dead : Nat → Bool) (s : State) (k : Nat) (hvalid : (route (dropRoutes dead s) k).valid = true)
    (hlocal : (route (dropRoutes dead s) k).remote = false) : dead (route (dropRoutes dead s) k).queue = false := by
  refine tget_tmap_of (P := fun r : RouteEnt => r.valid = true → r.remote = false → dead r.queue = false) (d := {}) nofun
    (f := fun _ r => if r.valid && !r.remote && dead r.queue then { r with valid := false } else r) (fun _ r => ?_)
    k s.ev.routes hvalid hlocal
  split
  · exact nofun
  next hcond => exact fun hv hr => by simpa [hv, hr] using hcond

theorem exec_eventQueueDestroy_of_enabled {q : Fin 256} (hs : startable 0x0E02 none h e s) (hown : ownsQueueOf h q.val s = true)
    (henabled : (evq s q.val).enabled = true) (hrings : namedByRing (fnKey h.id.fn) q.val s = false) :
    ∃ s', exec (.eventQueueDestroy h q) s = .next (finish e stOk 0 0 [] s') ∧ (evq s' q.val).enabled = false ∧
      ∀ k, k < 4096 → (route s' k).valid = true → (route s' k).remote = false → (route s' k).queue ≠ q.val :=
  ⟨_, perform_done hs ((if_neg (by simp [hown])).trans ((if_neg (by simp [henabled])).trans ((if_neg (by simp [hrings])).trans rfl))),
    congrArg Evq.enabled (evq_setEvq_same ..),
    fun k _ hvalid hlocal => of_decide_eq_false (route_dropRoutes (fun k => decide (k = q.val)) _ k hvalid hlocal)⟩

theorem exec_eventQueueAssign_of_free {q : Fin 256} (vf : Fin 64) (hs : startable 0x0E03 none h e s)
    (hown : (evq s q.val).owner / 64 = fnKey h.id.fn / 64) (hfree : (evq s q.val).enabled = false) :
    exec (.eventQueueAssign h q vf) s = .next (finish e stOk 0 0 []
      (setEvq s q.val { evq s q.val with owner := pfOf (fnKey h.id.fn) + vf.val })) :=
  perform_done hs ((if_neg (not_not.2 hown)).trans ((if_neg (by simp [hfree])).trans rfl))

theorem exec_eventCoalesceSet_of_owned {q : Fin 256} {n us : Nat} (hs : startable 0x0E04 none h e s)
    (hown : ownsQueueOf h q.val s = true) (hn : 1 ≤ n ∧ n ≤ 64) (hus : 1 ≤ us ∧ us ≤ 1000) :
    exec (.eventCoalesceSet h q n us) s = .next (finish e stOk 0 0 []
      (setEvq s q.val { evq s q.val with coalesceCount := n, coalesceUs := us })) :=
  perform_done hs ((if_neg (by simp [hown])).trans ((if_neg (by omega)).trans rfl))

/-- A function source has no route: its first four bytes are zero. -/
theorem exec_eventSourceQuery_of_pf (i : Fin 4096) (hs : startable 0x0E05 none h e s) (hpf : isVf h.id.fn = false) :
    ∃ r, exec (.eventSourceQuery h i) s = .next (finish e stOk 0 0 r s) ∧ r.length = 32 ∧ (i.val ≤ 6 → r.take 4 = [0, 0, 0, 0]) := by
  refine ⟨_, perform_done hs ((if_neg (by simp [hpf])).trans rfl), length_fields (by simp), fun hi => ?_⟩
  rw [routeField, if_pos hi]
  rfl

end

/-! ## The head page (R86, R87) -/

/-- A head page written, with ARMED as the write leaves it. -/
def headTaken (q n : Nat) (armed : Bool) (s : State) : State :=
  setEvq s q { evq s q with head := n % 2 ^ ((evq s q).log2 + 6), armed := armed }

theorem evq_headTaken (q n : Nat) (armed : Bool) (s : State) :
    evq (headTaken q n armed s) q = { evq s q with head := n % 2 ^ ((evq s q).log2 + 6), armed := armed } := evq_setEvq_same ..

section

variable {f : PciFn} {q : Nat} {s : State} (hready : s.boot.fwReady = true)

include hready

theorem headWrite_of_stranger (n : Nat) (arm : Bool) (hown : (evq s q).owner ≠ pciKey f) :
    headWrite f q n arm s = violation f (0x200000 + q * 0x1000) true s :=
  (if_neg (not_windowsDown_of_fwReady hready)).trans (if_pos hown)

variable (hown : (evq s q).owner = pciKey f) (henabled : (evq s q).enabled = true)

include hown henabled

theorem headWrite_of_owner (n : Nat) :
    headWrite f q n false s = setEvq s q { evq s q with head := n % 2 ^ ((evq s q).log2 + 6) } :=
  (if_neg (not_windowsDown_of_fwReady hready)).trans ((if_neg (not_not.2 hown)).trans ((if_neg (by simp [henabled])).trans
    (if_pos rfl)))

theorem headWrite_of_arm (n : Nat) : headWrite f q n true s =
    if (evq s q).faulted ∨ (evq s q).tail = n % 2 ^ ((evq s q).log2 + 6) then headTaken q n true s
    else sendMsix q (headTaken q n false s) :=
  (if_neg (not_windowsDown_of_fwReady hready)).trans ((if_neg (not_not.2 hown)).trans ((if_neg (by simp [henabled])).trans
    (if_neg (by simp))))

end

@[simp] theorem evq_sendMsix (q : Nat) (s : State) (k : Nat) : evq (sendMsix q s) k = evq s k := by
  unfold sendMsix signalVector
  dsimp only
  split <;> rfl

theorem msixEntry_headTaken (q n : Nat) (armed : Bool) (s : State) (fn v : Nat) :
    msixEntry (headTaken q n armed s) fn v = msixEntry s fn v := by
  rw [msixEntry, headTaken, setEvq_mbx, msixEntry]

section

variable {q fn v : Nat} {s : State} (howner : (evq s q).owner = fn) (hvector : (evq s q).vector = v)

include howner hvector

theorem sendMsix_of_unmasked (h : (msixEntry s fn v).masked = false) :
    (sendMsix q s).out = .interrupt fn (msixEntry s fn v).addr (msixEntry s fn v).data :: .msix q v :: s.out := by
  subst howner hvector
  exact congrArg State.out (if_neg (Bool.eq_false_iff.1 h))

theorem sendMsix_of_masked (h : (msixEntry s fn v).masked = true) :
    (msixEntry (sendMsix q s) fn v).waits = true ∧ (sendMsix q s).out = .msix q v :: s.out := by
  subst howner hvector
  have hsend : sendMsix q s = setMsixEntry _ _ _ _ := if_pos h
  rw [hsend]
  exact ⟨congrArg MsixEntry.waits (tget_tset_same ..), rfl⟩

end

theorem exec_evqArm_of_owner {f : PciFn} {q : Fin 256} (n : Nat) {s : State} (hready : s.boot.fwReady = true)
    (hown : (evq s q.val).owner = pciKey f) (henabled : (evq s q.val).enabled = true) :
    ∃ s', exec (.evqArm f q n) s = .next s' ∧ (evq s' q.val).head = n % 2 ^ ((evq s q.val).log2 + 6) ∧
      ((evq s q.val).faulted = false → (evq s q.val).tail ≠ n % 2 ^ ((evq s q.val).log2 + 6) →
        (evq s' q.val).armed = false ∧
        ((msixEntry s (pciKey f) (evq s q.val).vector).masked = false →
          s'.out = .interrupt (pciKey f) (msixEntry s (pciKey f) (evq s q.val).vector).addr
            (msixEntry s (pciKey f) (evq s q.val).vector).data :: .msix q.val (evq s q.val).vector :: s.out) ∧
        ((msixEntry s (pciKey f) (evq s q.val).vector).masked = true →
          (msixEntry s' (pciKey f) (evq s q.val).vector).waits = true ∧
          s'.out = .msix q.val (evq s q.val).vector :: s.out)) ∧
      ((evq s q.val).tail = n % 2 ^ ((evq s q.val).log2 + 6) → s'.out = s.out ∧ (evq s' q.val).armed = true) := by
  have hexec : exec (.evqArm f q n) s = _ := congrArg Host.Outcome.next (headWrite_of_arm hready hown henabled n)
  refine ⟨_, hexec, ?_⟩
  have htaken := evq_headTaken q.val n false s
  split
  next hcond =>
    rw [evq_headTaken]
    exact ⟨rfl, fun hup hmore => absurd hcond (by simp [hup, hmore]), fun _ => ⟨rfl, rfl⟩⟩
  next hcond =>
    have howner : (evq (headTaken q.val n false s) q.val).owner = pciKey f := by
      rw [htaken]
      exact hown
    have hvector : (evq (headTaken q.val n false s) q.val).vector = (evq s q.val).vector := by rw [htaken]
    have hunmasked := sendMsix_of_unmasked howner hvector
    have hmasked := sendMsix_of_masked howner hvector
    rw [msixEntry_headTaken] at hunmasked hmasked
    rw [evq_sendMsix, htaken]
    exact ⟨rfl, fun _ _ => ⟨rfl, hunmasked, hmasked⟩, fun hempty => absurd (.inr hempty) hcond⟩

/-! ## Writes of records: what a queue keeps through them (R83, R87, R559, R613) -/

/-- What of a queue no write of records changes. -/
def keptOf (e : Evq) : Bool × List Record := (e.faulted, e.stage)

theorem kept_setEvq {q : Nat} {s : State} {v : Evq} (h : keptOf v = keptOf (evq s q)) (k : Nat) :
    keptOf (evq (setEvq s q v) k) = keptOf (evq s k) := by
  by_cases hk : k = q
  · rw [hk, evq_setEvq_same, h]
  · rw [evq_setEvq_other _ _ _ _ hk]

theorem kept_fireMsix (q before : Nat) (s : State) (k : Nat) : keptOf (evq (fireMsix q before s) k) = keptOf (evq s k) := by
  unfold fireMsix
  dsimp only
  split
  · rw [evq_sendMsix]
    exact kept_setEvq (by rfl) k
  · rfl

theorem kept_storeEvent (q : Nat) (r : Record) (s : State) (k : Nat) : keptOf (evq (storeEvent q r s) k) = keptOf (evq s k) :=
  kept_setEvq (s := s) (by rfl) k

theorem kept_dropRecord (q : Nat) (s : State) (k : Nat) : keptOf (evq (dropRecord q s) k) = keptOf (evq s k) := kept_setEvq (by rfl) k

theorem kept_warnOverflow (q : Nat) (s : State) (k : Nat) : keptOf (evq (warnOverflow q s) k) = keptOf (evq s k) := by
  have hwarned (u : State) (hu : u.ev.queues = (setEvq s q { evq s q with warned := true }).ev.queues) :
      keptOf (evq u k) = keptOf (evq s k) := by
    rw [evq, hu]
    exact kept_setEvq (by rfl) k
  unfold warnOverflow
  dsimp only
  split
  · rfl
  · split
    · split
      · exact hwarned _ rfl
      · split
        · exact (kept_dropRecord ..).trans (hwarned _ rfl)
        · exact (kept_fireMsix ..).trans ((kept_storeEvent ..).trans ((kept_setEvq (by rfl) k).trans (hwarned _ rfl)))
    · exact hwarned _ rfl

theorem kept_putRecord (q : Nat) (r : Record) (s : State) (k : Nat) : keptOf (evq (putRecord q r s) k) = keptOf (evq s k) := by
  unfold putRecord
  split
  · exact kept_dropRecord ..
  · split
    · exact kept_storeEvent ..
    · exact (kept_warnOverflow ..).trans (kept_dropRecord ..)

theorem kept_writeRecords (q : Nat) (rs : List Record) (s : State) (k : Nat) :
    keptOf (evq (writeRecords q rs s) k) = keptOf (evq s k) :=
  (kept_fireMsix ..).trans (List.foldlRecOn (motive := fun t => keptOf (evq t k) = keptOf (evq s k)) rs _ (kept_setEvq (by rfl) k)
    (fun t ht r _ => (kept_putRecord q r t k).trans ht))

theorem stage_flushStage (q : Nat) (s : State) : (evq (flushStage q s) q).stage = [] := by
  refine (congrArg Prod.snd (kept_writeRecords q (evq s q).stage _ q)).trans ?_
  rw [evq_setEvq_same]
  rfl

theorem faulted_restaged {q : Nat} {s : State} {stage : List Record} {at_ : Nat} (k : Nat) :
    (evq (setEvq s q { evq s q with stage := stage, stagedAt := at_ }) k).faulted = (evq s k).faulted := by
  by_cases hk : k = q
  · rw [hk, evq_setEvq_same]
  · rw [evq_setEvq_other _ _ _ _ hk]

theorem faulted_writeRecords (q : Nat) (rs : List Record) (s : State) (k : Nat) :
    (evq (writeRecords q rs s) k).faulted = (evq s k).faulted := congrArg Prod.fst (kept_writeRecords q rs s k)

theorem faulted_flushStage (q : Nat) (s : State) (k : Nat) : (evq (flushStage q s) k).faulted = (evq s k).faulted :=
  (faulted_writeRecords ..).trans (faulted_restaged k)

theorem faulted_toQueue (q : Nat) (coalesce : Bool) (r : Record) (s : State) (k : Nat) :
    (evq (toQueue q coalesce r s) k).faulted = (evq s k).faulted := by
  have hwritten (rs : List Record) := (faulted_writeRecords q rs _ k).trans (faulted_restaged (q := q) (s := s)
    (stage := []) (at_ := (evq s q).stagedAt) k)
  unfold toQueue
  dsimp only
  split
  · exact congrArg Prod.fst (kept_dropRecord q s k)
  · split
    · exact hwritten _
    · split
      · split
        · exact (faulted_flushStage ..).trans (faulted_restaged k)
        · exact faulted_restaged k
      · split
        · exact hwritten _
        · exact faulted_writeRecords ..

theorem faulted_postFn (a : Option Nat) (src : Nat) (cls : EvClass) (payload : Nat) (s : State) (k : Nat) :
    (evq (postFn a src cls payload s) k).faulted = (evq s k).faulted := by
  unfold postFn deliverTo
  split
  · rfl
  · split
    · split
      · exact faulted_toQueue ..
      · rfl
    · rfl

/-! ## Faults and flushes (R84, R559, R613) -/

section

variable {q : Fin 256} {s : State} (henabled : (evq s q.val).enabled = true) (hup : (evq s q.val).faulted = false)
  (hwritten : 0 < (evq s q.val).inWrite)

/-- The queue faulted, the records of its last write counted as lost. -/
def faultedEvq (e : Evq) : Evq := { e with faulted := true, lost := satur 32 (e.lost + e.inWrite), inWrite := 0 }

include henabled hup hwritten

theorem exec_eventQueueFault_of_written : ∃ u src cls payload, evq u q.val = faultedEvq (evq s q.val) ∧
    adminQueue u (evq s q.val).owner = adminQueue s (evq s q.val).owner ∧
    exec (.eventQueueFault q) s = if adminQueue u (evq s q.val).owner = some q.val then .next u
      else .next (postFn (adminQueue u (evq s q.val).owner) src cls payload u) := by
  have hcond : ¬ (!(evq s q.val).enabled || (evq s q.val).faulted || decide ((evq s q.val).inWrite = 0)) = true := by
    simpa [henabled, hup] using Nat.ne_of_gt hwritten
  exact ⟨emit _ (setEvq s q.val (faultedEvq (evq s q.val))), _, _, _, evq_setEvq_same .., rfl, if_neg hcond⟩

theorem exec_eventQueueFault_faults : ∃ s', exec (.eventQueueFault q) s = .next s' ∧ (evq s' q.val).faulted = true := by
  obtain ⟨u, src, cls, payload, hu, -, hexec⟩ := exec_eventQueueFault_of_written henabled hup hwritten
  have hfaulted : (evq u q.val).faulted = true := congrArg Evq.faulted hu
  split at hexec
  · exact ⟨_, hexec, hfaulted⟩
  · exact ⟨_, hexec, (faulted_postFn ..).trans hfaulted⟩

theorem exec_eventQueueFault_of_admin (hadmin : adminQueue s (evq s q.val).owner = some q.val) :
    ∃ s', exec (.eventQueueFault q) s = .next s' ∧ (evq s' q.val).tail = (evq s q.val).tail ∧
      (evq s' q.val).lost = satur 32 ((evq s q.val).lost + (evq s q.val).inWrite) := by
  obtain ⟨u, src, cls, payload, hu, hsame, hexec⟩ := exec_eventQueueFault_of_written henabled hup hwritten
  exact ⟨u, hexec.trans (if_pos (hsame.trans hadmin)), by rw [hu]; rfl, by rw [hu]; rfl⟩

end

theorem exec_coalesceTimeout_of_last {q : Fin 256} {s : State} (hdue : stageDue q.val s = true) (hpending : s.pending = []) :
    exec (.coalesceTimeout q) s = .next (flushStage q.val s) :=
  (if_neg (by simp [hdue])).trans (if_pos (by rw [hpending]; rfl))

theorem exec_coalesceTimeout_of_pending {q : Fin 256} {s : State} (hdue : stageDue q.val s = true) (hpending : s.pending ≠ []) :
    exec (.coalesceTimeout q) s = .next { s with ev := { s.ev with flushDue := s.ev.flushDue ++ [q.val] } } :=
  (if_neg (by simp [hdue])).trans (if_neg (by simp [hpending]))

/-! ## Relayed records (R561) -/

theorem exec_relayedEventRecord_of_queue (q : Fin 256) (payload : List Byte) (s : State) :
    exec (.relayedEventRecord (2 ^ 31 + q.val) payload) s =
      if s.boot.fwReady && (evq s q.val).enabled then .next (toQueue q.val false (readRecord payload) s) else .next s := by
  have hq : (2 ^ 31 + q.val) % 2 ^ 31 = q.val := by omega
  have hbit : Nat.testBit (2 ^ 31 + q.val) 31 = true := by
    rw [Nat.testBit_two_pow_add_eq, Nat.testBit_lt_two_pow (by omega)]
    rfl
  change execRelayedEventRecord (2 ^ 31 + q.val) payload s = _
  unfold execRelayedEventRecord
  simp only [hq, hbit, q.isLt, decide_true, Bool.and_true]

/-! ## One record written (R83, R84, R87) -/

section

variable {q : Nat} {s : State} (r : Record) (hup : (evq s q).faulted = false)

include hup

theorem putRecord_of_room (hroom : evqRoom (evq s q) = true) : putRecord q r s = storeEvent q r s :=
  (if_neg (Bool.eq_false_iff.1 hup)).trans (if_pos hroom)

theorem putRecord_of_full (hfull : evqRoom (evq s q) = false) : putRecord q r s = warnOverflow q (dropRecord q s) :=
  (if_neg (Bool.eq_false_iff.1 hup)).trans (if_neg (Bool.eq_false_iff.1 hfull))

end

/-- The queue with the record that it discards. -/
def discarded (e : Evq) : Evq := { e with lost := satur 32 (e.lost + 1), lostFlag := true }

theorem evq_dropRecord (q : Nat) (s : State) : evq (dropRecord q s) q = discarded (evq s q) := evq_setEvq_same ..

theorem warnOverflow_of_warned {q : Nat} {s : State} (h : (evq s q).warned = true) : warnOverflow q s = s := if_pos h

theorem tail_fireMsix (q before : Nat) (s : State) : (evq (fireMsix q before s) q).tail = (evq s q).tail := by
  unfold fireMsix
  dsimp only
  split
  · rw [evq_sendMsix, evq_setEvq_same]
  · rfl

theorem evq_fireMsix_other (a before : Nat) (s : State) {q : Nat} (h : q ≠ a) : evq (fireMsix a before s) q = evq s q := by
  unfold fireMsix
  dsimp only
  split
  · rw [evq_sendMsix, evq_setEvq_other _ _ _ _ h]
  · rfl

/-- The state in which a queue's discard is marked as reported, and counted at source 0x002. -/
def reported (q : Nat) (s : State) : State :=
  setSource (setEvq s q { evq s q with warned := true }) 2 { source s 2 with occurrences := satur 32 ((source s 2).occurrences + 1) }

theorem evq_reported_same (q : Nat) (s : State) : evq (reported q s) q = { evq s q with warned := true } := evq_setEvq_same ..

theorem evq_reported_other {a q : Nat} (s : State) (h : a ≠ q) : evq (reported q s) a = evq s a := evq_setEvq_other _ _ _ _ h

theorem warnOverflow_of_admin {q a : Nat} {s : State} (hwarned : (evq s q).warned = false)
    (hadmin : adminQueue s (evq s q).owner = some a) (henabled : (evq (reported q s) a).enabled = true)
    (hup : (evq (reported q s) a).faulted = false) (hroom : evqRoom (evq (reported q s) a) = true) :
    ∃ r, warnOverflow q s = fireMsix a (evq (reported q s) a).tail
      (storeEvent a r (setEvq (reported q s) a { evq (reported q s) a with inWrite := 0 })) := by
  unfold warnOverflow
  dsimp only
  rw [if_neg (Bool.eq_false_iff.1 hwarned)]
  split
  next b hb =>
    cases hadmin.symm.trans hb
    refine ⟨_, (if_neg ?_).trans (if_neg ?_)⟩
    · rw [Bool.not_eq_true', Bool.not_eq_false]
      exact henabled
    · exact Bool.eq_false_iff.1 (Bool.or_eq_false_iff.2 ⟨hup, by rw [Bool.not_eq_false']; exact hroom⟩)
  next hnone => cases hadmin.symm.trans hnone

theorem tail_storeEvent (a : Nat) (r : Record) (s : State) :
    (evq (storeEvent a r s) a).tail = ((evq s a).tail + 1) % 2 ^ ((evq s a).log2 + 6) := congrArg Evq.tail (evq_setEvq_same ..)

/-- The first discard is reported to the administrative queue, which takes the record. -/
theorem warnOverflow_of_unwarned {q a : Nat} {s : State} (hwarned : (evq s q).warned = false) (hqa : a ≠ q)
    (hadmin : adminQueue s (evq s q).owner = some a) (henabled : (evq s a).enabled = true) (hup : (evq s a).faulted = false)
    (hroom : evqRoom (evq s a) = true) :
    evq (warnOverflow q s) q = { evq s q with warned := true } ∧
    (evq (warnOverflow q s) a).tail = ((evq s a).tail + 1) % 2 ^ ((evq s a).log2 + 6) := by
  have hsame := evq_reported_other s hqa
  obtain ⟨r, hwarn⟩ := warnOverflow_of_admin (a := a) hwarned hadmin (by rwa [hsame]) (by rwa [hsame]) (by rwa [hsame])
  rw [hwarn]
  constructor
  · rw [evq_fireMsix_other _ _ _ hqa.symm]
    exact (evq_setEvq_other _ _ _ _ hqa.symm).trans ((evq_setEvq_other _ _ _ _ hqa.symm).trans (evq_reported_same q s))
  · rw [tail_fireMsix, tail_storeEvent, evq_setEvq_same, hsame]

/-! ## Posting (R555–R562, R568) -/

section

variable {src : Nat} {cls : EvClass} (payload : Nat) {s : State}

theorem post_of_notReady (h : s.boot.fwReady = false) : post src cls payload s = s := if_pos (by simp [h])

variable (hready : s.boot.fwReady = true)

include hready

theorem post_of_masked (hmasked : (route s src).masked = true) (hguarded : guarded cls = false) :
    post src cls payload s = countMasked src (countOccurrence src s) := by
  have hroute : route (countOccurrence src s) src = route s src := rfl
  exact (if_neg (by simp [hready])).trans (if_pos (by simp [hroute, hmasked, hguarded]))

theorem post_of_unrouted (hmasked : (route s src).masked = false) (hvalid : (route s src).valid = false)
    (hadmin : adminQueue s (defaultFn s) = none) : post src cls payload s = countUndelivered src (countOccurrence src s) := by
  have hroute : route (countOccurrence src s) src = route s src := rfl
  have hnone : adminQueue (countOccurrence src s) (defaultFn (countOccurrence src s)) = none := hadmin
  refine (if_neg (by simp [hready])).trans ((if_neg (by simp [hroute, hmasked])).trans ((if_pos (by simp [hroute, hvalid])).trans ?_))
  rw [hnone]
  rfl

end

theorem masked_countMasked (src : Nat) (s : State) :
    (source (countMasked src (countOccurrence src s)) src).masked = satur 32 ((source s src).masked + 1) := by
  rw [countMasked, source_setSource_same, countOccurrence, source_setSource_same]

theorem undelivered_countUndelivered (src : Nat) (s : State) :
    (source (countUndelivered src (countOccurrence src s)) src).undelivered = satur 32 ((source s src).undelivered + 1) := by
  rw [countUndelivered, source_setSource_same, countOccurrence, source_setSource_same]

/-- Settles O44: each clause is one of the rules above. -/
theorem eventsReachTheirQueues : Obligations.EventsReachTheirQueues := by
  refine ⟨?route, ?function, ?guarded, ?create, ?destroy, ?assign, ?coalesce, ?query, ?head, ?stranger, ?fault, ?faultAdmin, ?flush,
    ?later, ?early, ?staged, ?relayed, ?relayedOff, ?notRelayed, ?stored, ?dropped, ?warned, ?silent, ?masked, ?undelivered, ?frame⟩
  case route => exact fun h p e s hs hsource hown hmask hqueue => exec_eventRouteSet_of_owned hs hsource hown hmask hqueue
  case function => exact fun h p e s hs hsource => exec_eventRouteSet_of_function hs hsource
  case guarded =>
    exact fun h p e s hs hsource hown hmasked hguarded => exec_eventRouteSet_of_guarded hs hsource hown hmasked hguarded
  case create => exact fun h p e s hs hown hfree hwf howed => exec_eventQueueCreate_of_free hs hown hfree hwf howed
  case destroy => exact fun h q e s hs hown henabled hrings => exec_eventQueueDestroy_of_enabled hs hown henabled hrings
  case assign => exact fun h q vf e s hs hown hfree => exec_eventQueueAssign_of_free vf hs hown hfree
  case coalesce =>
    exact fun h q n us e s hs hown hn hn' hus hus' => exec_eventCoalesceSet_of_owned hs hown ⟨hn, hn'⟩ ⟨hus, hus'⟩
  case query => exact fun h i e s hs hpf => exec_eventSourceQuery_of_pf i hs hpf
  case head =>
    exact fun f q n s hready hown henabled =>
      ⟨congrArg _ (headWrite_of_owner hready hown henabled n), exec_evqArm_of_owner n hready hown henabled⟩
  case stranger => exact fun f q n s hready hown => congrArg _ (headWrite_of_stranger hready n false hown)
  case fault => exact fun q s henabled hup hwritten => exec_eventQueueFault_faults henabled hup hwritten
  case faultAdmin => exact fun q s henabled hup hwritten hadmin => exec_eventQueueFault_of_admin henabled hup hwritten hadmin
  case flush => exact fun q s hdue hpending => exec_coalesceTimeout_of_last hdue hpending
  case later => exact fun q s hdue hpending => exec_coalesceTimeout_of_pending hdue hpending
  case early => exact fun q s hdue => if_pos (by simp [hdue])
  case staged => exact fun q s _ => stage_flushStage q.val s
  case relayed =>
    exact fun q payload s hready henabled =>
      (exec_relayedEventRecord_of_queue q payload s).trans (if_pos (by simp [hready, henabled]))
  case relayedOff =>
    exact fun q payload s hdisabled => (exec_relayedEventRecord_of_queue q payload s).trans (if_neg (by simp [hdisabled]))
  case notRelayed => exact fun tag payload s hbit => if_neg (by simp [hbit])
  case stored =>
    intro q r s hup hroom
    rw [putRecord_of_room r hup hroom]
    have hstored : evq (storeEvent q r s) q = _ := evq_setEvq_same ..
    rw [hstored]
    exact ⟨rfl, rfl, rfl, rfl, fun k hk => evq_setEvq_other _ _ _ _ hk⟩
  case dropped =>
    intro q r s hup hfull hwarned
    have hdropped := evq_dropRecord q s
    rw [putRecord_of_full r hup hfull, warnOverflow_of_warned (by rw [hdropped]; exact hwarned), hdropped]
    exact ⟨rfl, rfl, rfl, rfl⟩
  case warned =>
    intro q a r s hup hfull hwarned hqa hadmin henabled haup hroom
    have hdropped := evq_dropRecord q s
    have hother : evq (dropRecord q s) a = evq s a := evq_setEvq_other _ _ _ _ hqa
    obtain ⟨hq, ha⟩ := warnOverflow_of_unwarned (q := q) (a := a) (s := dropRecord q s) (by rw [hdropped]; exact hwarned) hqa
      (by rw [hdropped]; exact hadmin) (by rwa [hother]) (by rwa [hother]) (by rwa [hother])
    rw [putRecord_of_full r hup hfull, hq, ha, hdropped, hother]
    exact ⟨rfl, rfl, rfl, rfl⟩
  case silent => exact fun src cls payload s h => post_of_notReady payload h
  case masked =>
    intro src cls payload s hready hmasked hguarded
    rw [post_of_masked payload hready hmasked hguarded]
    exact ⟨rfl, rfl, masked_countMasked src s⟩
  case undelivered =>
    intro src cls payload s hready hmasked hvalid hadmin
    rw [post_of_unrouted payload hready hmasked hvalid hadmin]
    exact ⟨rfl, undelivered_countUndelivered src s⟩
  case frame => exact fun src cls payload s => post_frame src cls payload s

end Sys2Proof.Machine
end

section
/-! PROOFS of the memory commands (R490, R501–R512). -/

namespace Sys2Proof.Machine

-- One proof at a time: elaborated side by side, the proofs of the joined text need more memory than its check has.
set_option Elab.async false

/-! ## The tables of board memory: what a read returns after a write of the same entry -/

@[simp] theorem channel_setChannel_same (s : State) (k : Nat) (v : Channel) : channel (setChannel s k v) k = v := tget_tset_same ..
@[simp] theorem mmuPage_setMmuPage_same (s : State) (k : Nat) (v : MmuPage) : mmuPage (setMmuPage s k v) k = v := tget_tset_same ..
@[simp] theorem dmaChannel_setDmaChannel_same (s : State) (k : Nat) (v : DmaChannel) : dmaChannel (setDmaChannel s k v) k = v :=
  tget_tset_same ..
@[simp] theorem bankOf_setBank_same (s : State) (c sub b : Nat) (v : MemBank) : bankOf (setBank s c sub b v) c sub b = v :=
  tget_tset_same ..

/-! ## What fences and wakes leave of board memory -/

theorem moveCup_mem (k : Nat) (dst : CupState) (reason : Nat) (s : State) : (moveCup k dst reason s).mem = s.mem := by
  have hdraw : (if cupCode dst < cupCode (cup s k).state then
      (match (cup s k).waking with | some t => (s.now - t, s) | none => draw s) else ((cup s k).lastWakeNs, s)).2.mem = s.mem := by
    split
    · split <;> rfl
    · rfl
  unfold moveCup
  dsimp only
  split
  · rfl
  · split
    · rw [post_mem, setCup_mem]
      split
      · exact hdraw
      · exact hdraw
    · rw [setCup_mem]
      split
      · exact hdraw
      · exact hdraw

theorem restoreChannel_mem (c : Nat) (s : State) : (restoreChannel c s).mem = s.mem := by
  unfold restoreChannel riseCup
  dsimp only
  split
  · split
    · exact moveCup_mem ..
    · split
      · rw [moveCup_mem, moveCup_mem]
      · exact moveCup_mem ..
  · rfl

theorem postChannel_mem (c kind lane bank requester : Nat) (s : State) : (postChannel c kind lane bank requester s).mem = s.mem := by
  unfold postChannel
  dsimp only
  split
  · rfl
  · exact (post_mem ..).trans rfl

theorem channel_of_mem {s u : State} (h : u.mem = s.mem) (c : Nat) : channel u c = channel s c := by rw [channel, channel, h]

section

variable {h : Caller} {e : Held} {s : State}

/-! ## Channels and the controller (R490, R501, R512) -/

theorem exec_memPartitionSet_of_range {g : Nat} (hs : startable 0x0D01 none h e s) (hown : ownsDevice h s = true)
    (hrange : 32 ≤ g ∧ g ≤ 112) :
    exec (.memPartitionSet h g) s = .next (
      if dramHeld s ≠ 0 then finish e stBusy 0 0 [] s
      else if s.mem.windows.any (fun w => !inGeneral g w.2.1 w.2.2) then finish e stRefused 0x0D00 0 [] s
      else finish e stOk 0 0 [] { s with mem := { s.mem with spillGib := g } }) := by
  have hout : ¬ (g < 32 ∨ 112 < g) := by omega
  split
  next hheld => exact perform_done hs ((if_neg (by simp [hown])).trans ((if_neg hout).trans (if_pos hheld)))
  next hheld =>
    split
    next hwindows =>
      exact perform_done hs ((if_neg (by simp [hown])).trans ((if_neg hout).trans ((if_neg hheld).trans (if_pos hwindows))))
    next hwindows =>
      exact perform_done hs ((if_neg (by simp [hown])).trans ((if_neg hout).trans ((if_neg hheld).trans (if_neg hwindows))))

theorem exec_memTrain_of_active {c : Fin 16} {full : Bool}
    (hs : startable 0x0D02 (if full then some { kind := 1, scope := c.val } else none) h e s) (hown : ownsDevice h s = true)
    (hactive : (cup s (76 + c.val)).state = .active) :
    exec (.memTrain h c full) s = .next (setPhase e (.running (c.val * 2 + (if full then 1 else 0)))
      (startMemTraining c.val full s)) := by
  refine perform_later_awake (k := channelCupola c.val) hs (if_pos ?_) hactive ((if_neg (by simp [hown])).trans ?_)
  · have hup : (cup s (channelCupola c.val)).state ≠ .fenced := by rw [channelCupola, hactive]; exact nofun
    simp [hown, hup]
  · cases full <;> rfl

theorem exec_memTrainingEnd_of_good {c : Fin 16} {full : Bool} (clean : Bool) (htraining : (channel s c.val).training = true)
    (hfull : (channel s c.val).trainFull = full) :
    ∃ m s', exec (.memTrainingEnd c full true clean) s = .next (nextTraining c.val (
        if full then endActivity { kind := 1, scope := c.val } (completeRunning 0x0D02 (c.val * 2 + 1) stOk 0 m [] s')
        else completeRunning 0x0D02 (c.val * 2) stOk 0 m [] s')) ∧ m < 256 ∧ (channel s' c.val).training = false ∧
      (full = true → clean = true → (channel s' c.val).marked = none) ∧
      (full = true → (channel s' c.val).fullTrains = satur 32 ((channel s c.val).fullTrains + 1)) := by
  have hcond : ¬ (!(channel s c.val).training || (channel s c.val).trainFull != full) = true := by simp [htraining, hfull]
  cases full with
  | true =>
    refine ⟨_, _, (if_neg hcond).trans rfl, Nat.mod_lt _ (by decide), ?_⟩
    rw [if_pos rfl, channel_of_mem (restoreChannel_mem ..), channel_setChannel_same]
    refine ⟨rfl, fun _ hclean => ?_, fun _ => rfl⟩
    rw [hclean]
    rfl
  | false =>
    refine ⟨_, _, (if_neg hcond).trans rfl, Nat.mod_lt _ (by decide), ?_, nofun, nofun⟩
    rw [if_neg Bool.false_ne_true, channel_setChannel_same]

theorem exec_memTrainingEnd_of_bad {c : Fin 16} (clean : Bool) (htraining : (channel s c.val).training = true)
    (hfull : (channel s c.val).trainFull = false) :
    ∃ s', exec (.memTrainingEnd c false false clean) s = .next (nextTraining c.val (failWaits (76 + c.val)
        (completeRunning 0x0D02 (c.val * 2) stFaulted 0x0D01 0 [] s'))) ∧ (channel s' c.val).training = false ∧
      (cup s' (76 + c.val)).state = .fenced := by
  have hcond : ¬ (!(channel s c.val).training || (channel s c.val).trainFull != false) = true := by simp [htraining, hfull]
  refine ⟨_, (if_neg hcond).trans rfl, ?_, (moveCup_fenced_frame ..).1⟩
  rw [channel_of_mem (moveCup_mem ..), channel_of_mem (postChannel_mem ..), channel_setChannel_same]

theorem memNow_of_later {u : State} {n : MemNext} (h : u.mem.next = some n) (hw : n.window < refreshWindow u) : memNow u = n := by
  simp only [memNow, h, if_pos hw]

theorem memNow_of_sooner {u : State} {n : MemNext} (h : u.mem.next = some n) (hw : ¬ n.window < refreshWindow u) :
    memNow u = { window := 0, hotC := u.mem.hotC, rhSample := u.mem.rhSample, rhLimit := u.mem.rhLimit, scrubHours := u.mem.scrubHours } := by
  simp only [memNow, h, if_neg hw]

theorem exec_memConfigure_of_owner {p : MemCfgP} (hs : startable 0x0D03 none h e s) (hown : ownsDevice h s = true)
    (hwf : p.wf = true) :
    ∃ s', exec (.memConfigure h p) s = .next (finish e stOk 0 0 [] s') ∧
      s'.mem.next = some { window := refreshWindow s, hotC := if p.hotC = 0 then 85 else p.hotC,
                           rhSample := if p.rhSample = 0 then 16 else p.rhSample,
                           rhLimit := if p.rhLimit = 0 then 32 else p.rhLimit,
                           scrubHours := if p.scrubHours = 0 then 24 else p.scrubHours } ∧
      (memNow s').hotC = (memNow s).hotC ∧ (memNow s').rhLimit = (memNow s).rhLimit ∧
      (memNow s').rhSample = (memNow s).rhSample ∧ (memNow s').scrubHours = (memNow s).scrubHours ∧
      (∀ u, u.mem.next = s'.mem.next → refreshWindow s < refreshWindow u → some (memNow u) = s'.mem.next) := by
  refine ⟨_, perform_done hs ((if_neg (by simp [hown])).trans ((if_neg (by simp [hwf])).trans rfl)), rfl, ?_⟩
  rw [memNow_of_sooner rfl (Nat.lt_irrefl _)]
  exact ⟨rfl, rfl, rfl, rfl, fun u hu hw => (congrArg some (memNow_of_later hu hw)).trans rfl⟩

/-! ## Contexts and windows (R503, R504, R507) -/

theorem exec_mmuContextSet_of_function {root : Nat} (hs : startable 0x0D04 none h e s) (hfn : fnKey h.id.fn < 128)
    (hroot : root % 65536 = 0 ∧ root < 2 ^ 48) :
    exec (.mmuContextSet h root) s = .next (setPhase e (.running (fnKey h.id.fn)) (setMmuPage s (fnKey h.id.fn)
      { mmuPage s (fnKey h.id.fn) with root := root, before := (mmuPage s (fnKey h.id.fn)).root, busy := 2,
                                          busySince := s.now, tlb := [] })) :=
  perform_later hs ((if_neg (by omega)).trans (if_neg (Nat.not_le.2 hfn)))

section

variable {p : WindowP} (hs : startable 0x0D0A none h e s) (hown : ownsDevice h s = true) (hwf : p.wf = true) (hsize : p.size ≠ 0)

include hs hown hwf hsize

theorem exec_memWindowSet_of_room (hgeneral : inGeneral s.mem.spillGib p.base p.size = true)
    (hapart : ∀ w ∈ s.mem.windows, w.1 / 4 ≠ pciKey p.fn → w.2.1 + w.2.2 ≤ p.base ∨ p.base + p.size ≤ w.2.1) :
    exec (.memWindowSet h p) s = .next (finish e stOk 0 0 [] { s with mem := { s.mem with
      windows := tset (0, 0) (pciKey p.fn * 4 + p.window.val) (p.base, p.size) s.mem.windows } }) := by
  refine perform_done hs ((if_neg (by simp [hown])).trans ((if_neg (by simp [hwf])).trans ((if_neg hsize).trans
    ((if_neg ?_).trans rfl))))
  simp only [hgeneral, Bool.not_true, Bool.false_or, List.any_eq_true, Bool.and_eq_true, decide_eq_true_eq, not_exists, not_and]
  rintro w hw ⟨hother, hlow⟩ hhigh
  rcases hapart w hw hother with hleft | hright
  · exact Nat.not_lt.2 hleft hlow
  · exact Nat.not_lt.2 hright hhigh

theorem exec_memWindowSet_of_outside (hgeneral : inGeneral s.mem.spillGib p.base p.size = false) :
    exec (.memWindowSet h p) s = .next (finish e stRefused 0x0D03 0 [] s) :=
  perform_done hs ((if_neg (by simp [hown])).trans ((if_neg (by simp [hwf])).trans ((if_neg hsize).trans
    (if_pos (by simp [hgeneral])))))

end

/-! ## DMA channels (R508, R510, R512) -/

theorem exec_dmaChannelConfigure_of_owned {p : DmaP} (hs : startable 0x0D05 none h e s)
    (hown : owns h kDma p.channel.val s = true) (hwf : p.wf = true) :
    exec (.dmaChannelConfigure h p) s = .next (
      if (dmaChannel s p.channel.val).state ≠ 0 then finish e stRefused 0x0D02 0 [] s
      else finish e stOk 0 0 [] (routeDma p.channel.val p.evq.val (fnKey h.id.fn) (setDmaChannel s p.channel.val
        { log2 := p.log2, priority := p.priority.val, evq := p.evq.val, ringBase := p.ringBase }))) := by
  split
  next hbusy => exact perform_done hs ((if_neg (by simp [hown])).trans ((if_neg (by simp [hwf])).trans (if_pos hbusy)))
  next hidle => exact perform_done hs ((if_neg (by simp [hown])).trans ((if_neg (by simp [hwf])).trans (if_neg hidle)))

variable {d : Fin 64}

theorem exec_dmaPost_of_owned {tail : Nat} (hs : startable 0x0D06 none h e s) (hown : owns h kDma d.val s = true)
    (htail : tail < ringSize (dmaChannel s d.val)) (hstate : (dmaChannel s d.val).state ≤ 1) :
    exec (.dmaPost h d tail) s = .next (finish e stOk 0 0 [] (setDmaChannel s d.val { dmaChannel s d.val with
      tail := tail, state := if (dmaChannel s d.val).head = tail then 0 else 1 })) :=
  perform_done hs ((if_neg (by simp [hown])).trans ((if_neg (Nat.not_le.2 htail)).trans
    (congrArg (fun v => okay (setDmaChannel s d.val v)) (if_pos hstate))))

theorem dmaChannel_postDma (d kind index : Nat) (s : State) (k : Nat) : dmaChannel (postDma d kind index s) k = dmaChannel s k := by
  rw [postDma, dmaChannel, post_mem, dmaChannel]

theorem exec_dmaResume_of_suspended (abandon : Bool) (hs : startable 0x0D07 none h e s) (hown : owns h kDma d.val s = true)
    (hstate : (dmaChannel s d.val).state = 2) :
    ∃ s', exec (.dmaResume h d abandon) s = .next (finish e stOk 0 0 [] s') ∧
      dmaChannel s' d.val = if abandon then nextDescriptor (dmaChannel s d.val) else { dmaChannel s d.val with state := 1 } := by
  refine ⟨_, perform_done hs ((if_neg (by simp [hown])).trans ((if_neg (not_not.2 hstate)).trans rfl)), ?_⟩
  rw [dmaChannel_postDma, dmaChannel_setDmaChannel_same]

theorem exec_dmaResume_of_other (abandon : Bool) (hs : startable 0x0D07 none h e s) (hown : owns h kDma d.val s = true)
    (hstate : (dmaChannel s d.val).state ≠ 2) : exec (.dmaResume h d abandon) s = .next (finish e stEmpty 0 0 [] s) :=
  perform_done hs ((if_neg (by simp [hown])).trans (if_pos hstate))

end

/-- Settles O41: each clause is one of the rules above. -/
theorem memoryCommandsComplete : Obligations.MemoryCommandsComplete := by
  refine ⟨?status, ?partition, ?train, ?start, ?good, ?bad, ?configure, ?context, ?invalidated, ?channel, ?post, ?resume, ?idle,
    ?dmaStatus, ?window, ?outside⟩
  case status => exact fun h c e s hs => ⟨_, perform_done hs rfl, length_fields (by simp), rfl⟩
  case partition => exact fun h g e s hs hown hlow hhigh => exec_memPartitionSet_of_range hs hown ⟨hlow, hhigh⟩
  case train => exact fun h c full e s hs hown hactive => exec_memTrain_of_active hs hown hactive
  case start =>
    intro c full s
    unfold startMemTraining
    dsimp only
    split <;> rfl
  case good => exact fun c full clean s htraining hfull => exec_memTrainingEnd_of_good clean htraining hfull
  case bad => exact fun c clean s htraining hfull => exec_memTrainingEnd_of_bad clean htraining hfull
  case configure => exact fun h p e s hs hown hwf => exec_memConfigure_of_owner hs hown hwf
  case context => exact fun h root e s hs hfn hroot hsize => exec_mmuContextSet_of_function hs hfn ⟨hroot, hsize⟩
  case invalidated => exact fun f s hbusy => if_neg hbusy
  case channel => exact fun h p e s hs hown hwf => exec_dmaChannelConfigure_of_owned hs hown hwf
  case post => exact fun h d tail e s hs hown htail hstate => exec_dmaPost_of_owned hs hown htail hstate
  case resume =>
    intro h d e s hs hown hstate
    obtain ⟨s', hexec, hnext⟩ := exec_dmaResume_of_suspended true hs hown hstate
    exact ⟨exec_dmaResume_of_suspended false hs hown hstate, s', hexec, by rw [hnext]; exact ⟨rfl, rfl⟩⟩
  case idle => exact fun h d a e s hs hown hstate => exec_dmaResume_of_other a hs hown hstate
  case dmaStatus =>
    exact fun h d e s hs hown => ⟨_, perform_done hs ((if_neg (by simp [hown])).trans rfl), length_fields (by simp), rfl⟩
  case window => exact fun h p e s hs hown hwf hsize hgeneral hapart => exec_memWindowSet_of_room hs hown hwf hsize hgeneral hapart
  case outside => exact fun h p e s hs hown hwf hsize hgeneral => exec_memWindowSet_of_outside hs hown hwf hsize hgeneral

end Sys2Proof.Machine
end

section
/-! PROOFS of the lane and fabric commands (R449–R460, R476, R481–R484). -/

namespace Sys2Proof.Machine

-- One proof at a time: elaborated side by side, the proofs of the joined text need more memory than its check has.
set_option Elab.async false

/-! ## A session disposed of by the end of an eye scan (R107, R458, R460) -/

/-- The caller of LANE_RETRAIN: session 1, of the PF of link A. -/
def retrainCaller : Caller := { id := { fn := .pci pfOfLinkA, ring := 0, tag := 1 }, session := 1, fence := false, notify := false,
                                slots := 1, respLen := 0 }

/-- A command of that identity held, with its running number, opcode, session, activity and phase. -/
def heldAs (num opcode session : Nat) (act : Option Activity) (phase : Phase) : Held :=
  { id := retrainCaller.id, num := num, opcode := opcode, session := session, fence := false, notify := false, respLen := 0,
    respAddr := 0, timeoutUs := 0, fetchedAt := 0, activity := act, reserved := false, deferredOnce := false, wakingOnce := false,
    discard := true, untimed := false, order := 0, phase := phase }

/-- LANE_RETRAIN of lane 0, held as a command of session 2. -/
def heldRetrain : Held := heldAs 0 0x0C04 2 (some { kind := 3, scope := 0 }) .released

/-- An eye scan of link 0 by session 1, running on. -/
def heldScan : Held := heldAs 1 0x0C05 1 (some { kind := 4, scope := 0 }) (.running 0)

/-- Session 1 owns lane group 0 and closes with QUIESCE; its last command is an eye scan of link 0, which is up. -/
def scanOfClosingSession : State :=
  { ses := { table := [(1, { closing := some true })], owners := [(kLaneGroup * 4096, { session := 1 })] }
    mbx := { held := [heldRetrain, heldScan] }
    pwr := { cupolas := [(92, { state := .active })] }
    fab := { links := [(0, { enabled := true, state := 3 })] } }

theorem startable_heldRetrain :
    startable 0x0C04 (some { kind := 3, scope := (0 : Fin 48).val }) retrainCaller heldRetrain scanOfClosingSession :=
  ⟨by decide, by decide, rfl⟩

/-- The retrain aborts the eye scan; with its last command done, session 1 is disposed of, and link 0 is disabled with it. -/
theorem exec_laneRetrain_scanOfClosingSession :
    ∃ t, exec (.laneRetrain retrainCaller 0 0) scanOfClosingSession = .next t ∧ (link t 0).state = 0 :=
  ⟨_, rfl, by decide⟩

/-- Refutes O38, by its clause of LANE_RETRAIN. In `scanOfClosingSession` the retrain aborts an eye scan that was the last command of
the session that owns the lane group and closes with QUIESCE: the session's end disables the link, which the clause says is in
state 4. The clause does not ask that the held command be one of the caller's session, nor that no session wait. -/
theorem not_laneAndFabricCommandsComplete : ¬ Obligations.LaneAndFabricCommandsComplete := by
  unfold Obligations.LaneAndFabricCommandsComplete
  rintro ⟨-, -, -, -, -, -, -, hretrain, -⟩
  obtain ⟨s', ht, hstate, -⟩ := hretrain retrainCaller 0 0 heldRetrain scanOfClosingSession startable_heldRetrain
    (by decide) (by decide) (by decide)
  obtain ⟨u, hu, hnew⟩ := exec_laneRetrain_scanOfClosingSession
  rw [hu] at ht
  obtain rfl : u = setPhase heldRetrain (.running (linkKey (0 : Fin 48).val (0 : Fin 2).val)) s' := by injection ht
  exact absurd (hnew.symm.trans hstate) (by decide)

end Sys2Proof.Machine
end

section
/-! PROOFS of link training and fabric messages (R455–R481). -/

namespace Sys2Proof.Machine

-- One proof at a time: elaborated side by side, the proofs of the joined text need more memory than its check has.
set_option Elab.async false

/-! ## A peer's request, and the session that only an eye scan kept (R107, R458, R460) -/

/-- `scanOfClosingSession` without the retrain: the eye scan is the only command held. -/
def lastScan : State := { scanOfClosingSession with mbx := { held := [heldScan] } }

/-- The retrain aborts the eye scan; with its last command done, session 1 is disposed of, and link 0 is disabled with it. -/
theorem exec_retrainRequest_lastScan : ∃ t, exec (.retrainRequest 0 0) lastScan = .next t ∧ (link t 0).state = 0 :=
  ⟨_, rfl, by decide⟩

/-- Refutes O39, by its clause of RETRAIN_REQUEST. In `lastScan` the request aborts an eye scan that was the last command of the
session that owns the lane group and closes with QUIESCE: the session's end disables the link, which the clause says is in state 4.
The clause does not ask that no session wait for its commands. -/
theorem not_linksTrainAndFabricMessagesAct : ¬ Obligations.LinksTrainAndFabricMessagesAct := by
  unfold Obligations.LinksTrainAndFabricMessagesAct
  rintro ⟨-, -, -, -, -, -, -, -, hretrain, -⟩
  obtain ⟨s', ht, hstate, -⟩ := hretrain 0 0 lastScan (by decide)
  obtain ⟨u, hu, hnew⟩ := exec_retrainRequest_lastScan
  rw [hu] at ht
  obtain rfl : u = s' := by injection ht
  exact absurd (hnew.symm.trans hstate) (by decide)

end Sys2Proof.Machine
end

section
/-! PROOFS of firmware update, attestation and the Keep port (R574–R584). -/

namespace Sys2Proof.Machine

-- One proof at a time: elaborated side by side, the proofs of the joined text need more memory than its check has.
set_option Elab.async false

/-! ## The images beside the running one (R569, R577) -/

theorem bankAt_setBankAt (b : Bool) (v : Bank) (s : State) : bankAt b (setBankAt b v s) = v := by cases b <;> rfl

theorem stagedState_setStagedState (st : BankState) (s : State) : stagedState (setStagedState st s) = st := by
  unfold setStagedState
  split
  next b hb =>
    have hsource : (markBank (!b) st s).boot.source = some b := by cases b <;> exact hb
    rw [stagedState, hsource]
    exact congrArg Bank.state (bankAt_setBankAt ..)
  next hnone => rw [stagedState, hnone]

theorem runningState_setRunningState (st : BankState) (s : State) : runningState (setRunningState st s) = st := by
  unfold setRunningState
  split
  next b hb =>
    have hsource : (markBank b st s).boot.source = some b := by cases b <;> exact hb
    rw [runningState, hsource]
    exact congrArg Bank.state (bankAt_setBankAt ..)
  next hnone => rw [runningState, hnone]

theorem stagedState_of_banks {s u : State} (hsource : u.boot.source = s.boot.source) (ha : u.boot.bankA = s.boot.bankA)
    (hb : u.boot.bankB = s.boot.bankB) (hstaged : u.boot.stagedState = s.boot.stagedState) : stagedState u = stagedState s := by
  simp only [stagedState, bankAt, hsource, ha, hb, hstaged]

theorem postRunning_boot (kind : Nat) (s : State) : (postRunning kind s).boot = s.boot := by
  unfold postRunning
  split
  · exact post_boot ..
  · rfl

theorem logAppend_fuses (kind : Nat) (i : ImageFacts) (s : State) : (logAppend kind i s).boot.fuses = s.boot.fuses :=
  (congrArg (fun t => t.boot.fuses) (logAppend_acrossBoot kind i s) :)

theorem burnMinimum_fuses (s : State) : (burnMinimum s).boot.fuses = { s.boot.fuses with minimum := runningSecurity s } := by
  unfold burnMinimum
  dsimp only
  rw [postRunning_boot]
  split
  · exact logAppend_fuses ..
  · rfl

theorem eraseOther_boot (n : Nat) (s : State) : (eraseOther n s).boot.update = some { length := n, pieces := [] } ∧
    (eraseOther n s).boot.staged = none ∧ (eraseOther n s).boot.running = s.boot.running := by
  unfold eraseOther
  dsimp only
  split
  next b _ => cases b <;> exact ⟨rfl, rfl, rfl⟩
  · exact ⟨rfl, rfl, rfl⟩

theorem setStagedState_staged (st : BankState) (s : State) : (setStagedState st s).boot.staged = s.boot.staged := by
  unfold setStagedState
  split
  next b _ => cases b <;> rfl
  · rfl

theorem stageImage_boot (i : ImageFacts) (s : State) :
    (stageImage i s).boot.staged = some i ∧ stagedState (stageImage i s) = .pending := by
  unfold stageImage
  dsimp only
  have hposted (src payload : Nat) (u : State) : stagedState (post src .info payload u) = stagedState u :=
    stagedState_of_banks (by rw [post_boot]) (by rw [post_boot]) (by rw [post_boot]) (by rw [post_boot])
  rw [post_boot, hposted, setStagedState_staged, stagedState_setStagedState]
  exact ⟨rfl, rfl⟩

theorem stagedState_closeUpdate (s : State) : stagedState (closeUpdate s) = stagedState s := stagedState_of_banks rfl rfl rfl rfl

section

variable {h : Caller} {e : Held} {s : State}

/-! ## Update (R575–R577) -/

theorem exec_fwUpdateBegin_of_idle {n : Nat} (hs : startable 0x0F00 (some actUpdate) h e s) (hown : ownsDevice h s = true)
    (hn : 1 ≤ n ∧ n ≤ 33554432) (hidle : s.boot.update = none) :
    exec (.fwUpdateBegin h n) s = .next (finish e stOk 0 0 [] (keepActivity actUpdate (eraseOther n s))) :=
  perform_done hs ((if_neg (by simp [hown])).trans ((if_neg (by omega)).trans ((if_neg (by simp [hidle])).trans rfl)))

theorem exec_fwUpdateBegin_of_open {n : Nat} {u : UpdateOpen} (hs : startable 0x0F00 (some actUpdate) h e s)
    (hown : ownsDevice h s = true) (hn : 1 ≤ n ∧ n ≤ 33554432) (hopen : s.boot.update = some u) :
    exec (.fwUpdateBegin h n) s = .next (finish e stBusy 0 0 [] s) :=
  perform_done hs ((if_neg (by simp [hown])).trans ((if_neg (by omega)).trans (if_pos (by simp [hopen]))))

theorem exec_fwUpdateData_of_room {o : Nat} {data : List Byte} {u : UpdateOpen} (hs : startable 0x0F01 (some actUpdate) h e s)
    (hlen : h.blockLen = 64 + data.length) (hmost : data.length ≤ 1048512) (hown : ownsDevice h s = true)
    (hopen : s.boot.update = some u) (hroom : o + data.length ≤ u.length) :
    exec (.fwUpdateData h o data) s = .next (finish e stOk 0 0 [] { s with boot := { s.boot with
      update := some { u with pieces := (o, data) :: u.pieces } } }) := by
  refine perform_done hs ((if_neg (by omega)).trans ((if_neg (by simp [hown])).trans ?_))
  rw [hopen]
  exact if_neg (Nat.not_lt.2 hroom)

section

variable {u : UpdateOpen} (hs : startable 0x0F02 (some actUpdate) h e s) (hown : ownsDevice h s = true)
  (hopen : s.boot.update = some u)

include hs hown hopen

theorem exec_fwUpdateEnd_of_good (hgood : stagedRefusal u (updateImage u) s = none) :
    exec (.fwUpdateEnd h) s = .next (finish e stOk 0 0 [] (closeUpdate (stageImage (updateImage u) s))) := by
  refine perform_done hs ((if_neg (by simp [hown])).trans ?_)
  rw [hopen]
  dsimp only
  rw [hgood]
  rfl

theorem exec_fwUpdateEnd_of_bad {d : Nat} (hbad : stagedRefusal u (updateImage u) s = some d) :
    exec (.fwUpdateEnd h) s = .next (finish e stRefused d 0 [] (closeUpdate s)) := by
  refine perform_done hs ((if_neg (by simp [hown])).trans ?_)
  rw [hopen]
  dsimp only
  rw [hbad]
  rfl

end

/-- FW_ACTIVATE once its held command may start. -/
theorem exec_fwActivate_of_startable {cls : Nat} {force : Bool} (hs : startable 0x0F03 (some actUpdate) h e s) :
    exec (.fwActivate h cls force) s = match activateRefusal h cls force s with
      | some d => .next (finish e stRefused d 0 [] s)
      | none =>
        if (cls ≠ 1 ∧ cls ≠ 2) ∨ (cls = 2 ∧ s.boot.source = none) then .next (runBody e (fun _ => .hostError [(kDevice, 0)]) s)
        else .next (postResetPending (finish e stOk 0 0 [] (acceptReset cls 1000
          (closeUpdate (if cls = 1 then setStagedState .trying s else s))))) := by
  change execFwActivate h cls force s = _
  unfold execFwActivate
  rw [takeIn_startable hs] <;> rfl

theorem exec_fwConfirm_of_running (hs : startable 0x0F04 (some actUpdate) h e s) (hown : ownsDevice h s = true)
    (hstate : runningState s ≠ .good) :
    ∃ s', exec (.fwConfirm h) s = .next (finish e stOk 0 0 [] s') ∧ runningState s' = .good := by
  refine ⟨_, perform_done hs ((if_neg (by simp [hown])).trans ((if_neg hstate).trans rfl)), ?_⟩
  simp only [runningState, bankAt, postRunning_boot]
  exact runningState_setRunningState ..

theorem exec_fwSecurityCommit_of_good (hs : startable 0x0F05 (some actUpdate) h e s) (hown : ownsDevice h s = true)
    (hstate : runningState s = .good) (hless : s.boot.fuses.minimum < runningSecurity s) :
    exec (.fwSecurityCommit h) s = .next (finish e stOk 0 (runningSecurity s) [] (burnMinimum s)) :=
  perform_done hs ((if_neg (by simp [hown])).trans ((if_neg (not_not.2 hstate)).trans ((if_neg (Nat.not_le.2 hless)).trans rfl)))

/-! ## Measurement and attestation (R578, R580, R581) -/

theorem exec_measurementLogRead_of_held {a n : Nat} (hs : startable 0x0F06 none h e s) (hn : 1 ≤ n) (hmost : n ≤ logLimit h.id.fn)
    (ha : a < s.boot.log.length) :
    exec (.measurementLogRead h a n) s = .next (finish e stOk 0 0 (((s.boot.log.drop a).take n).flatMap logBytes) s) :=
  perform_done hs ((if_neg (by omega)).trans ((if_neg (Nat.not_le.2 ha)).trans rfl))

theorem length_be (n v : Nat) : (be n v).length = n := by rw [be, List.length_reverse, length_le]

theorem length_quote (nonce : Nat) (s : State) : (quote nonce s).length = 192 := by
  rw [quote, List.length_append, length_be, quoteBody, length_fields (by simp)]

theorem length_serialAndKey : serialAndKey.length = 72 := by
  rw [serialAndKey, List.length_append, length_le, length_be]

theorem length_identityRead : identityRead.length = 192 := by
  simp only [identityRead, List.length_append, length_serialAndKey, length_be, List.length_replicate]

theorem exec_attestQuote_of_quota {n : Nat} (hs : startable 0x0F07 none h e s) (hquota : quotesNow s < 100) :
    ∃ s', exec (.attestQuote h n) s = .next (finish e stOk 0 0 (quote n s) s') ∧ quotesNow s' = quotesNow s + 1 :=
  ⟨_, perform_done hs ((if_neg (Nat.not_le.2 hquota)).trans rfl), if_pos rfl⟩

end

/-! ## The Keep port (R529, R532, R583–R585) -/

/-- A NACK for a missing or wrong PEC changes the port's registers only. -/
theorem portNack_of_pec (code : Nat) (s : State) : (portNack code true s).boot.port.nacks = satur 8 (s.boot.port.nacks + 1) ∧
    (portNack code true s).boot.port.pecErrors = satur 8 (s.boot.port.pecErrors + 1) ∧
    (portNack code true s).boot.port.lastResult = 2 ∧ (portNack code true s).ses = s.ses ∧ (portNack code true s).mbx = s.mbx ∧
    (portNack code true s).pwr = s.pwr := ⟨rfl, rfl, rfl, rfl, rfl, rfl⟩

theorem exec_keepPort_of_badPec {d : BitVec 8} {hdr : List Byte} {facts : BlockFacts} {s t : State}
    (h : exec (.keepPortWake false) s = .next t ∨ exec (.keepPortReset false d) s = .next t ∨
      exec (.keepPortBootSource false d) s = .next t ∨ exec (.keepPortCmd false hdr facts) s = .next t) :
    ∃ code, t = portNack code true s := by
  rcases h with h | h | h | h
  · exact ⟨2, by cases h; rfl⟩
  · exact ⟨3, by cases h; rfl⟩
  · exact ⟨6, by cases h; rfl⟩
  · exact ⟨0x10, by cases h; rfl⟩

/-- The BOOT_STAGE that STATUS shows: in Keep-only an open value (R584). -/
def shownStage (s : State) : Nat × State := if s.pwr.keep.asleep then ((draw s).1 % 16, (draw s).2) else (s.boot.stage % 16, s)

theorem shownStage_frame (s : State) : (shownStage s).2.out = s.out ∧ (shownStage s).2.boot = s.boot := by
  unfold shownStage
  split <;> exact ⟨rfl, rfl⟩

theorem exec_keepPortStatus_answers (s : State) : ∃ s' data, exec .keepPortStatus s = .next s' ∧ s'.out = .keepPort 1 data :: s.out ∧
    data.length = 8 ∧ s'.boot.port.transactions = satur 16 (s.boot.port.transactions + 1) := by
  obtain ⟨hout, hboot⟩ := shownStage_frame s
  have hexec : exec .keepPortStatus s = .next (portAnswer 1 (fields 8 [(4, keepStatus s), (1, (shownStage s).1 +
      bit s.boot.fwReady 4 + bit s.boot.fwFault 5 + bit (safeState s) 6 + bit s.pwr.keep.asleep 7)]) (shownStage s).2) := rfl
  refine ⟨_, _, hexec, congrArg _ hout, length_fields (by simp), ?_⟩
  rw [← hboot]
  rfl

theorem wake_of_asleep {s : State} (cause line : Nat) (hasleep : s.pwr.keep.asleep = true) :
    (wake cause line s).pwr.keep.asleep = false ∧ (wake cause line s).pwr.keep.wakeCause = cause ∧
    (wake cause line s).boot.stage = 6 ∧ (wake cause line s).pwr.keep.wakes = (s.pwr.keep.wakes + 1) % 2 ^ 32 := by
  unfold wake
  dsimp only
  rw [if_pos hasleep]
  exact ⟨rfl, rfl, rfl, rfl⟩

theorem exec_keepPortWake_of_asleep {s : State} (hentering : s.pwr.keep.entering = false) :
    exec (.keepPortWake true) s = .next (wake 1 0 (portTook 2 0 s)) :=
  congrArg Host.Outcome.next (if_neg (Bool.eq_false_iff.1 hentering))

section

variable {d : BitVec 8} {s : State} (hcls : 2 ≤ d.toNat % 4) (hzero : d.toNat / 4 % 32 = 0)

include hcls hzero

theorem exec_keepPortReset_of_class : exec (.keepPortReset true d) s =
    if holdsLease s && !d.getLsbD 7 then .next (portTook 3 1 s) else .next (acceptReset (d.toNat % 4) 1000 (portTook 3 0 s)) :=
  if_neg (by omega)

end

theorem exec_keepPortBootSource_of_known {d : BitVec 8} {s : State} (hd : d.toNat ≤ 3) :
    ∃ s', exec (.keepPortBootSource true d) s = .next s' ∧ s'.boot.port.bootSource = d.toNat :=
  ⟨_, if_neg (Nat.not_lt.2 hd), rfl⟩

/-- The port with a CMD taken: no result yet. -/
def cmdTaken (s : State) : State := setPort { (portTook 0x10 0 s).boot.port with cmdPending := true, result := none } (portTook 0x10 0 s)

theorem exec_keepPortCmd_of_free {hdr : List Byte} {facts : BlockFacts} {s : State} (hfree : s.boot.port.cmdPending = false) :
    exec (.keepPortCmd true hdr facts) s = if !s.boot.fwReady then
        .next (deliver (mkHeld (readHeader .keep 0 hdr { facts with activity := none }) .fetched (cmdTaken s)) stNotPresent true 0 0 []
          (cmdTaken s))
      else .next (intake (readHeader .keep 0 hdr { facts with activity := none }) (cmdTaken s)) :=
  if_neg (Bool.eq_false_iff.1 hfree)

theorem headerCheck_cmdTaken (d : FetchHeader) (s : State) : headerCheck d (cmdTaken s) = headerCheck d s := rfl

theorem portRefusal_of_keep {hdr : List Byte} {facts : BlockFacts} (s : State) (hallows : keepAllows (leNat (hdr.take 2)) = true) :
    portRefusal (readHeader .keep 0 hdr facts) s = none := if_pos hallows

/-- A command that passes its checks is held. -/
theorem intake_of_checked {d : FetchHeader} {s : State} (hport : portRefusal d s = none) (hheader : headerCheck d s = none) :
    ∃ x ∈ (intake d s).mbx.held, x.id = d.caller.id ∧ x.opcode = d.opcode := by
  unfold intake
  dsimp only
  rw [hport]
  dsimp only
  rw [hheader]
  exact ⟨_, List.mem_append_right _ (List.mem_singleton.2 rfl), rfl, rfl⟩

theorem intake_boot_of_checked {d : FetchHeader} {s : State} (hport : portRefusal d s = none) (hheader : headerCheck d s = none) :
    (intake d s).boot = s.boot := by
  have htouch (fn : Fn) (n : Nat) (u : State) : (touchSession fn n u).boot = u.boot := by
    unfold touchSession
    split <;> rfl
  unfold intake
  dsimp only
  rw [hport]
  dsimp only
  rw [hheader]
  change (ite _ _ _ : State).boot = _
  split <;> exact htouch ..

/-- Settles O49: each clause is one of the rules above. -/
theorem firmwareCommandsAndKeepPort : Obligations.FirmwareCommandsAndKeepPort := by
  refine ⟨?begin, ?busy, ?data, ?endUpdate, ?warm, ?bank, ?refused, ?confirm, ?confirmed, ?commit, ?early, ?log, ?quote, ?quota,
    ?identity, ?status, ?ledger, ?portIdentity, ?result, ?nack, ?wake, ?reset, ?leased, ?source, ?cmd, ?down⟩
  case begin =>
    exact fun h n e s hs hown hlow hhigh hidle =>
      ⟨_, exec_fwUpdateBegin_of_idle hs hown ⟨hlow, hhigh⟩ hidle, eraseOther_boot n s⟩
  case busy => exact fun h n u e s hs hown hlow hhigh hopen => exec_fwUpdateBegin_of_open hs hown ⟨hlow, hhigh⟩ hopen
  case data =>
    exact fun h o data u e s hs hlen hmost hown hopen hroom => exec_fwUpdateData_of_room hs hlen hmost hown hopen hroom
  case endUpdate =>
    intro h u e s hs hown hopen
    obtain ⟨hstaged, hstate⟩ := stageImage_boot (updateImage u) s
    exact ⟨fun hgood => ⟨_, exec_fwUpdateEnd_of_good hs hown hopen hgood, rfl, hstaged, (stagedState_closeUpdate _).trans hstate⟩,
      fun d hbad => ⟨_, exec_fwUpdateEnd_of_bad hs hown hopen hbad, rfl, rfl⟩⟩
  case warm =>
    intro h force e s hs hnone
    refine ⟨closeUpdate (setStagedState .trying s), ?_, (stagedState_closeUpdate _).trans (stagedState_setStagedState ..)⟩
    rw [exec_fwActivate_of_startable hs, hnone]
    exact if_neg (by simp)
  case bank =>
    intro h force e s b hs hnone hsource
    refine ⟨closeUpdate s, ?_⟩
    rw [exec_fwActivate_of_startable hs, hnone]
    exact if_neg (by simp [hsource])
  case refused =>
    intro h cls force d e s hs hrefused
    rw [exec_fwActivate_of_startable hs, hrefused]
  case confirm => exact fun h e s hs hown hstate => exec_fwConfirm_of_running hs hown hstate
  case confirmed => exact fun h e s hs hown hstate => perform_done hs ((if_neg (by simp [hown])).trans (if_pos hstate))
  case commit =>
    exact fun h e s hs hown hstate hless => ⟨_, exec_fwSecurityCommit_of_good hs hown hstate hless, burnMinimum_fuses s⟩
  case early => exact fun h e s hs hown hstate => perform_done hs ((if_neg (by simp [hown])).trans (if_pos hstate))
  case log => exact fun h a n e s hs hn hmost ha => exec_measurementLogRead_of_held hs hn hmost ha
  case quote =>
    intro h n e s hs hquota
    obtain ⟨s', hexec, hquotes⟩ := exec_attestQuote_of_quota (n := n) hs hquota
    exact ⟨s', hexec, length_quote n s, hquotes⟩
  case quota => exact fun h n e s hs hquota => perform_done hs (if_pos hquota)
  case identity => exact fun h e s hs => ⟨perform_done hs rfl, length_identityRead⟩
  case status => exact exec_keepPortStatus_answers
  case ledger => exact fun s => ⟨_, _, rfl, rfl, length_le ..⟩
  case portIdentity => exact fun s => ⟨_, _, rfl, rfl, length_serialAndKey⟩
  case result => exact fun s => ⟨_, rfl, rfl⟩
  case nack =>
    intro d hdr facts s t ht
    obtain ⟨code, rfl⟩ := exec_keepPort_of_badPec ht
    exact portNack_of_pec code s
  case wake =>
    exact fun s hasleep hentering => ⟨_, exec_keepPortWake_of_asleep hentering, wake_of_asleep (s := portTook 2 0 s) 1 0 hasleep⟩
  case reset =>
    intro d s hcls hzero hfree
    refine ⟨_, (exec_keepPortReset_of_class hcls hzero).trans (if_neg ?_), rfl⟩
    rcases hfree with hfree | hfree <;> simp [hfree]
  case leased =>
    exact fun d s hcls hzero hheld hbit =>
      ⟨_, (exec_keepPortReset_of_class hcls hzero).trans (if_pos (by rw [hheld, hbit]; rfl)), rfl, rfl⟩
  case source => exact fun d s hd => exec_keepPortBootSource_of_known hd
  case cmd =>
    intro hdr facts s hfree hready hallows hcheck
    have hport := portRefusal_of_keep (facts := { facts with activity := none }) (cmdTaken s) hallows
    have hheader := (headerCheck_cmdTaken _ s).trans hcheck
    obtain ⟨x, hx, hid, hop⟩ := intake_of_checked hport hheader
    refine ⟨_, x, (exec_keepPortCmd_of_free hfree).trans (if_neg (by simp [hready])), hx, by rw [hid]; rfl, hop, ?_⟩
    rw [intake_boot_of_checked hport hheader]
    rfl
  case down =>
    exact fun hdr facts s hfree hdown => ⟨_, (exec_keepPortCmd_of_free hfree).trans (if_pos (by simp [hdown])), rfl, rfl, rfl⟩

end Sys2Proof.Machine
end

section
/-! PROOFS of the memory controller and DMA (R492–R501, R507–R511). -/

namespace Sys2Proof.Machine

-- One proof at a time: elaborated side by side, the proofs of the joined text need more memory than its check has.
set_option Elab.async false

/-! ## Refresh and temperature (R496, R497) -/

theorem bankOf_setBank_other {c sub b i : Nat} (s : State) (v : MemBank) (h : i ≠ b) :
    bankOf (setBank s c sub b v) c sub i = bankOf s c sub i :=
  tget_tset_other _ _ _ _ _ fun heq => h (Nat.add_left_cancel heq)

theorem bankOf_refreshInterval (c : Fin 16) (sub : Fin 2) (b : Fin 16) (s : State) (hdebt : (bankOf s c.val sub.val b.val).debt ≤ 8) :
    ∃ s', exec (.refreshInterval c sub b) s = .next s' ∧ (bankOf s' c.val sub.val b.val).debt ≤ 8 ∧
      ((bankOf s c.val sub.val b.val).accrueAt ≤ s.now → channelCode c.val s ≠ 1 →
        (bankOf s' c.val sub.val b.val).debt = min 8 ((bankOf s c.val sub.val b.val).debt + 1) ∧
        (bankOf s' c.val sub.val b.val).accrueAt = (bankOf s c.val sub.val b.val).accrueAt + refreshNs (channel s c.val)) ∧
      (∀ i, i < 16 → i ≠ b.val → bankOf s' c.val sub.val i = bankOf s c.val sub.val i) ∧ s'.mem.cells = s.mem.cells := by
  by_cases hdue : s.now < (bankOf s c.val sub.val b.val).accrueAt
  · exact ⟨s, if_pos hdue, hdebt, fun hat => absurd hdue (Nat.not_lt.2 hat), fun _ _ _ => rfl, rfl⟩
  · refine ⟨_, if_neg hdue, ?_, fun _ hcode => ?_, fun i _ hi => bankOf_setBank_other s _ hi, rfl⟩ <;>
      rw [bankOf_setBank_same]
    · dsimp only
      split <;> omega
    · exact ⟨if_neg hcode, rfl⟩

theorem channel_setBank (s : State) (c sub b : Nat) (v : MemBank) (k : Nat) : channel (setBank s c sub b v) k = channel s k := rfl

theorem channel_shortenIntervals (c : Nat) (s : State) (k : Nat) : channel (shortenIntervals c s) k = channel s k :=
  foldl_keeps (fun t => channel t k) (fun st i => setBank st c (i / 16) (i % 16) { bankOf st c (i / 16) (i % 16) with
    accrueAt := min (bankOf st c (i / 16) (i % 16)).accrueAt (st.now + 1952) }) (fun _ _ => rfl) (List.range 32) s

theorem channel_postChannel (c kind lane bank requester : Nat) (s : State) (k : Nat) :
    channel (postChannel c kind lane bank requester s) k = channel s k := channel_of_mem (postChannel_mem ..) k

section

variable {c : Fin 16} {temp : Nat} {s : State} (hat : (channel s c.val).tempAt ≤ s.now)
include hat

theorem exec_temperatureRead_of_hotter (hcool : (channel s c.val).hot = false) (habove : (memNow s).hotC < temp) :
    ∃ s', exec (.memoryTemperatureRead c temp) s = .next s' ∧ (channel s' c.val).hot = true ∧
      (channel s' c.val).tempC = temp ∧ refreshNs (channel s' c.val) = 1952 := by
  refine ⟨_, (if_neg (Nat.not_lt.2 hat)).trans (if_pos (by simp [hcool, habove])), ?_⟩
  rw [channel_postChannel, channel_shortenIntervals, channel_setChannel_same]
  exact ⟨rfl, rfl, rfl⟩

theorem exec_temperatureRead_of_cooler (hhot : (channel s c.val).hot = true) (hbelow : temp + 3 ≤ (memNow s).hotC) :
    ∃ s', exec (.memoryTemperatureRead c temp) s = .next s' ∧ (channel s' c.val).hot = false := by
  refine ⟨_, (if_neg (Nat.not_lt.2 hat)).trans ((if_neg (by simp [hhot])).trans (if_pos (by simp [hhot, hbelow]))), ?_⟩
  rw [channel_postChannel, channel_setChannel_same]

theorem exec_temperatureRead_of_still_hot (hhot : (channel s c.val).hot = true) (habove : (memNow s).hotC < temp + 3) :
    exec (.memoryTemperatureRead c temp) s = .next (setChannel s c.val { channel s c.val with
      tempC := temp, tempAt := s.now + 4000000 }) :=
  (if_neg (Nat.not_lt.2 hat)).trans ((if_neg (by simp [hhot])).trans (if_neg (by simp [hhot, habove])))

end

/-! ## Row disturbance (R500) -/

theorem exec_rowDisturbance_of_disturbed {c : Fin 16} {sub : Fin 2} {b : Fin 16} {row requester : Nat} {s : State}
    (hhit : (sub.val, b.val, row, requester) ∈ (channel s c.val).disturbed) :
    ∃ s', exec (.rowDisturbance c sub b row requester) s = .next s' ∧
      (∃ x ∈ (channel s' c.val).throttled, x.requester = requester ∧ x.until_ = s.now + 1000000) ∧
      (sub.val, b.val, row) ∈ (channel s' c.val).directedDue ∧
      (channel s' c.val).directed = satur 32 ((channel s c.val).directed + 1) := by
  refine ⟨_, if_neg (by simpa using hhit), ?_⟩
  rw [channel_postChannel, channel_setBank, channel_setChannel_same]
  exact ⟨⟨_, List.mem_cons_self, rfl, rfl⟩, List.mem_append_right _ List.mem_cons_self, rfl⟩

theorem exec_rowDisturbance_of_calm {c : Fin 16} {sub : Fin 2} {b : Fin 16} {row requester : Nat} {s : State}
    (hcalm : (sub.val, b.val, row, requester) ∉ (channel s c.val).disturbed) :
    exec (.rowDisturbance c sub b row requester) s = .next s := if_pos (by simpa using hcalm)

/-! ## The outer code (R492) -/

/-- The errata that the decoder finds: none, or so many beside the erasures as its locator has roots, within the limit; the word
that they mend has no syndrome left. -/
theorem rsErrors_spec {marked : Option Nat} {word : List Byte} {errs : List (Nat × Nat)} (h : rsErrors marked word = some errs) :
    (∃ hits : List Nat, hits.length ≤ (if marked = none then 4 else 2) ∧
      (errs.map (fun e => e.1)).Sublist (erasures marked ++ hits)) ∧
    ∀ x ∈ rsSyndromes (errs.foldl (fun w e => w.set e.1 (w.getD e.1 0 ^^^ BitVec.ofNat 8 e.2)) word), x = 0 := by
  unfold rsErrors at h
  extract_lets syn er gamma forney k limit hits locator evaluator found fixed at h
  split at h
  next hclean =>
    cases h
    exact ⟨⟨[], Nat.zero_le _, List.nil_sublist _⟩, by simpa [List.all_eq_true] using hclean⟩
  split at h
  · cases h
  next hfit =>
    split at h
    next hfixed =>
      rw [← Option.some.inj h]
      refine ⟨⟨hits, ?_, ?_⟩, fun x hx => of_decide_eq_true (List.all_eq_true.1 hfixed x hx)⟩
      · have hlimit : limit = if marked = none then 4 else 2 := by cases marked <;> rfl
        rw [← hlimit]
        omega
      · have hmap : ((er ++ hits).map (fun b => (b, erratum locator evaluator b))).map (fun e => e.1) = er ++ hits := by
          rw [List.map_map]
          exact List.map_id _
        exact hmap ▸ List.filter_sublist.map _
    · cases h

theorem rsDecode_eq_some {marked : Option Nat} {word data : List Byte} {bad : List Nat} (h : rsDecode marked word = some (data, bad)) :
    ∃ errs, rsErrors marked word = some errs ∧ bad = errs.map (fun e => e.1) := by
  obtain ⟨errs, herrs, heq⟩ := Option.map_eq_some_iff.1 h
  exact ⟨errs, herrs, (congrArg Prod.snd heq).symm⟩

theorem length_of_rsDecode {marked : Option Nat} {word data : List Byte} {bad : List Nat} (h : rsDecode marked word = some (data, bad)) :
    bad.length ≤ (if marked = none then 4 else 5) ∧ (bad.filter (fun b => !(erasures marked).contains b)).length ≤
      (if marked = none then 4 else 2) := by
  obtain ⟨errs, herrs, rfl⟩ := rsDecode_eq_some h
  obtain ⟨⟨hits, hhits, hsub⟩, -⟩ := rsErrors_spec herrs
  refine ⟨?_, ?_⟩
  · have hlen := hsub.length_le
    rw [List.length_append] at hlen
    cases marked with
    | none => exact hlen.trans (by simpa [erasures] using hhits)
    | some q => exact hlen.trans (Nat.add_le_add_left (n := hits.length) (m := 2) hhits 3)
  · refine ((hsub.filter _).length_le.trans ?_).trans hhits
    rw [List.filter_append, List.filter_eq_nil_iff.2 (by simp), List.nil_append]
    exact List.length_filter_le ..

theorem corrected_noteLanes (c : Nat) (bytes : List Nat) (s : State) :
    (channel (noteLanes c bytes s) c).corrected = (channel s c).corrected := by
  unfold noteLanes
  dsimp only
  split
  · rw [channel_postChannel, channel_setChannel_same]
  · rw [channel_setChannel_same]

section

variable {c : Nat} {word : List Byte} {s : State}

theorem decodeAccess_of_uncorrectable (bank : Nat) (h : rsDecode (channel s c).marked word = none) :
    (decodeAccess c bank word s).2 = none ∧
    (channel (decodeAccess c bank word s).1 c).uncorrectable = satur 64 ((channel s c).uncorrectable + 1) := by
  simp only [decodeAccess, h, channel_postChannel, channel_setChannel_same, and_self]

theorem decodeAccess_of_corrected {data : List Byte} {b : Nat} {rest : List Nat} (bank : Nat)
    (h : rsDecode (channel s c).marked word = some (data, b :: rest)) :
    (decodeAccess c bank word s).2 = some data ∧
    (channel (decodeAccess c bank word s).1 c).corrected = satur 64 ((channel s c).corrected + 1) := by
  simp only [decodeAccess, h, channel_postChannel, corrected_noteLanes, channel_setChannel_same, and_self]

theorem decodeAccess_of_clean {data : List Byte} (bank : Nat) (h : rsDecode (channel s c).marked word = some (data, [])) :
    decodeAccess c bank word s = (s, some data) := by simp only [decodeAccess, h]

end

/-! ## Requests (R488, R495, R499) -/

theorem mem_queueRequest (r : MemRequest) (rs : List MemRequest) : r ∈ queueRequest r rs := by
  induction rs with
  | nil => exact List.mem_cons_self
  | cons x rest ih =>
    rw [queueRequest]
    split
    · exact List.mem_cons_self
    · exact List.mem_cons_of_mem _ ih

theorem enterRequest_read {client : MemClient} (line requester : Nat) (flips : DqFlips) (s : State) :
    (enterRequest line requester client none flips s).mem.cells = s.mem.cells ∧
    ∃ x ∈ (enterRequest line requester client none flips s).mem.waiting, x.num = s.mem.requestNum ∧ x.line = line ∧
      x.client = client ∧ x.flips = flips := by
  refine ⟨?_, _, mem_queueRequest _ _, rfl, rfl, rfl, rfl⟩
  unfold enterRequest
  dsimp only
  split <;> rfl

theorem exec_patrolScrub_of_due (flips : DqFlips) {s : State} (hdue : scrubAt s ≤ s.now) :
    ∃ s', exec (.patrolScrub flips) s = .next s' ∧ s'.mem.cells = s.mem.cells ∧
      s'.mem.scrubNext = (if s.mem.scrubNext + 1 = accesses then 0 else s.mem.scrubNext + 1) ∧
      ∃ x ∈ s'.mem.waiting, x.num = s.mem.requestNum ∧ x.line = s.mem.scrubNext ∧ x.client = .scrub ∧ x.flips = flips := by
  refine ⟨_, if_neg (Nat.not_lt.2 hdue), (enterRequest_read ..).1, ?_, (enterRequest_read ..).2⟩
  exact if_congr decide_eq_true_iff rfl rfl

/-! ## Training (R501) -/

theorem training_startMemTraining (c : Nat) (full : Bool) (s : State) : (channel (startMemTraining c full s) c).training = true := by
  unfold startMemTraining
  dsimp only
  split
  next h => rw [channel_setChannel_same]; exact h
  · rw [channel_setChannel_same]

section

variable {c : Fin 16} {drift : Nat} {s : State} (hat : (channel s c.val).dqsAt ≤ s.now) (hidle : (channel s c.val).training = false)
include hat hidle

theorem exec_dqsDriftCheck_of_small (hasked : fullDeferred c.val s = false) (hdrift : drift ≤ 20) :
    exec (.dqsDriftCheck c drift) s = .next (setChannel s c.val { channel s c.val with dqsAt := s.now + 100000000 }) :=
  (if_neg (Nat.not_lt.2 hat)).trans ((if_neg (Bool.eq_false_iff.1 hidle)).trans ((if_neg (Bool.eq_false_iff.1 hasked)).trans
    ((if_neg (by omega)).trans (if_neg (by omega)))))

theorem exec_dqsDriftCheck_of_large (hdrift : 20 < drift) (hfree : arbiterAwaits s = false) :
    ∃ s', exec (.dqsDriftCheck c drift) s = .next s' ∧ (channel s' c.val).training = true := by
  suffices hstart : ∃ full u, exec (.dqsDriftCheck c drift) s = .next (startMemTraining c.val full u) by
    obtain ⟨full, u, hexec⟩ := hstart
    exact ⟨_, hexec, training_startMemTraining ..⟩
  change ∃ full u, execDqsDriftCheck c drift s = .next (startMemTraining c.val full u)
  unfold execDqsDriftCheck
  dsimp only
  rw [if_neg (Nat.not_lt.2 hat), if_neg (Bool.eq_false_iff.1 hidle)]
  split
  · exact ⟨_, _, rfl⟩
  · split
    · rw [if_neg (Bool.eq_false_iff.1 hfree)]
      split <;> exact ⟨_, _, rfl⟩
    · exact ⟨_, _, rfl⟩

end

/-! ## What the accesses of a step leave (R507, R509) -/

/-- The DMA channels, the reads through BAR2, the cupolas and the output: what entering accesses and keeping translations leave. -/
def besideController (s : State) : Table DmaChannel × List BusRead × Power × List Output :=
  (s.mem.dma, s.mem.busReads, s.pwr, s.out)

theorem besideController_enterRequest (line requester : Nat) (client : MemClient) (word : Option (List Byte)) (flips : DqFlips)
    (s : State) : besideController (enterRequest line requester client word flips s) = besideController s := by
  unfold enterRequest
  dsimp only
  split <;> rfl

theorem besideController_enterAll (requester : Nat) (client : MemClient) (flips : List (Nat × DqFlips)) (lines : List Nat)
    (s : State) : besideController (enterAll requester client flips lines s) = besideController s :=
  foldl_keeps besideController (fun st l => enterRequest l requester client none
    (match flips.find? (fun e => decide (e.1 = l)) with | some e => e.2 | none => []) st)
    (fun _ _ => besideController_enterRequest ..) lines s

theorem besideController_keepPages (fn : Nat) (vas : List Nat) (s : State) :
    besideController (keepPages fn vas s) = besideController s := by
  refine foldl_keeps besideController _ (fun st va => ?_) vas s
  dsimp only
  split
  · split <;> rfl
  · rfl

theorem dmaChannel_of_beside {s u : State} (h : besideController u = besideController s) (c : Nat) :
    dmaChannel u c = dmaChannel s c := by
  have hdma : u.mem.dma = s.mem.dma := congrArg Prod.fst h
  rw [dmaChannel, hdma, dmaChannel]

theorem busReads_of_beside {s u : State} (h : besideController u = besideController s) : u.mem.busReads = s.mem.busReads :=
  congrArg (fun x => x.2.1) h

theorem fencedAt_of_beside {s u : State} (h : besideController u = besideController s) (pa : Nat) : fencedAt pa u = fencedAt pa s := by
  have hpwr : u.pwr = s.pwr := congrArg (fun x => x.2.2.1) h
  unfold fencedAt cup
  rw [hpwr]

theorem dmaChannel_writeBytes (pa : Nat) (data : List Byte) (s : State) (c : Nat) :
    dmaChannel (writeBytes pa data s) c = dmaChannel s c := by
  obtain ⟨cells, hcells⟩ := writeBytes_frame pa data s
  rw [hcells]
  rfl

theorem dmaChannel_count (ev inst n : Nat) (domain : Option Nat) (s : State) (c : Nat) :
    dmaChannel (count ev inst n domain s) c = dmaChannel s c := by rw [dmaChannel, count_mem, dmaChannel]

/-! ## Faults in a function's context (R506) -/

theorem mmuPage_mmuFault_valid (fn va kind : Nat) (write bar2 : Bool) (ch : Nat) (s : State) :
    (mmuPage (mmuFault fn va kind write bar2 ch s) fn).valid = true := by
  have hpost (u : State) (src : Nat) (cls : EvClass) (payload : Nat) : mmuPage (post src cls payload u) fn = mmuPage u fn := by
    rw [mmuPage, post_mem, mmuPage]
  unfold mmuFault
  dsimp only
  rw [hpost, mmuPage_setMmuPage_same]
  split
  next h => exact h
  · rfl

theorem dmaChannel_mmuFault (fn va kind : Nat) (write bar2 : Bool) (ch : Nat) (s : State) (c : Nat) :
    dmaChannel (mmuFault fn va kind write bar2 ch s) c = dmaChannel s c := by
  unfold mmuFault
  rw [dmaChannel, post_mem]
  rfl

theorem outGrows_mmuFault (fn va kind : Nat) (write bar2 : Bool) (ch : Nat) (s : State) :
    outGrows s (mmuFault fn va kind write bar2 ch s) := by
  unfold mmuFault
  exact outGrows_trans (t := setMmuPage s fn _) (outGrows_refl s) (outGrows_post ..)

section

variable {c fn : Nat} {d : Descriptor} {f : Nat × Nat × Bool} {s : State}

theorem dmaChannel_stepFaults_of_client (hc : c < 60) : dmaChannel (stepFaults c fn d f s) c =
    { dmaChannel s c with state := 2, tag := d.tag, faultVa := f.1 % 2 ^ 52, faultKind := f.2.1 } := by
  unfold stepFaults
  rw [if_neg (Nat.not_le.2 hc), dmaChannel_postDma, dmaChannel_mmuFault, dmaChannel_setDmaChannel_same]

theorem dmaHead_stepFaults_of_firmware (hc : 60 ≤ c) :
    (dmaChannel (stepFaults c fn d f s) c).head = ((dmaChannel s c).head + 1) % ringSize (dmaChannel s c) := by
  unfold stepFaults
  rw [if_pos hc, dmaChannel_mmuFault, dmaChannel_setDmaChannel_same]
  rfl

theorem mmuPage_stepFaults_valid : (mmuPage (stepFaults c fn d f s) fn).valid = true := by
  unfold stepFaults
  dsimp only
  split
  · exact mmuPage_mmuFault_valid ..
  · rw [postDma, mmuPage, post_mem]
    exact mmuPage_mmuFault_valid ..

end

/-! ## Steps of a DMA channel (R508–R511) -/

/-- Channel `c` when a step of it is taken: it is the one of the last step. -/
def steppingDma (c : Nat) (s : State) : State := { s with mem := { s.mem with lastDma := c } }

section

variable {c : Fin 64} {fn : Nat} {s : State} (hfn : dmaFn c.val s = some fn) (hstate : (dmaChannel s c.val).state = 1)
  (hmore : (dmaChannel s c.val).head ≠ (dmaChannel s c.val).tail) (hturn : dmaTurn c.val s = true)
  (bytes data : List Byte) (flips : List (Nat × DqFlips))
include hfn hstate hmore hturn

theorem exec_dmaStep_of_current {d : Descriptor} (hcurrent : (dmaChannel s c.val).current = some d) :
    exec (.dmaStep c bytes data flips) s = .next (takeStep c.val fn d data flips s) := by
  change execDmaStep c bytes data flips s = _
  simp only [execDmaStep, hfn, hstate, hmore, hturn, hcurrent, ne_eq, not_true_eq_false, or_self, reduceCtorEq, ite_false]

theorem exec_dmaStep_of_ring (hcurrent : (dmaChannel s c.val).current = none) (hlength : 64 ≤ bytes.length)
    (hok : descriptorOk (bytes.take 64) = true) :
    exec (.dmaStep c bytes data flips) s = .next (takeStep c.val fn (readDescriptor bytes) data flips
      (setDmaChannel s c.val { dmaChannel s c.val with
        current := some (readDescriptor bytes), tag := (readDescriptor bytes).tag })) := by
  change execDmaStep c bytes data flips s = _
  simp only [execDmaStep, hfn, hstate, hmore, hturn, hcurrent, hok, Nat.not_lt.2 hlength, ne_eq, not_true_eq_false, or_self,
    reduceCtorEq, Bool.not_true, Bool.false_eq_true, ite_false]

end

theorem takeStep_of_fault {c fn : Nat} {d : Descriptor} {data : List Byte} {flips : List (Nat × DqFlips)} {s : State}
    {f : Nat × Nat × Bool} (h : stepFault fn d (dmaChannel s c).offset s = some f) :
    takeStep c fn d data flips s = stepFaults c fn d f (steppingDma c s) := by simp only [takeStep, h]; rfl

/-- The bytes of a fill's step (R508). -/
def fillBytes (d : Descriptor) (offset : Nat) : List Byte :=
  (List.range (stepBytes d offset)).map (fun i => BitVec.ofNat 8 (d.src / 256 ^ ((offset + i) % 8)))

theorem length_fillBytes (d : Descriptor) (offset : Nat) : (fillBytes d offset).length = stepBytes d offset := by
  rw [fillBytes, List.length_map, List.length_range]

theorem takeStep_of_fill {c fn pa : Nat} {d : Descriptor} {data : List Byte} {flips : List (Nat × DqFlips)} {s : State}
    (hfill : d.fill = true) (hboard : d.dstHost = false)
    (hpa : translate fn (d.dst + (dmaChannel s c).offset) true s = .at pa) :
    takeStep c fn d data flips s = endStep c fn d (dmaChannel s c).offset (some pa) (fillBytes d (dmaChannel s c).offset)
      (keepPages fn [d.dst + (dmaChannel s c).offset] (steppingDma c s)) := by
  have hnone : stepFault fn d (dmaChannel s c).offset s = none := by
    simp [stepFault, stepAddress, hfill, hboard, hpa]
  simp only [takeStep, hnone, hfill, hboard, hpa, physical, Bool.true_or, Bool.false_eq_true, ite_true, ite_false]
  rfl

section

variable {c fn pa offset : Nat} {d : Descriptor} {data : List Byte} {s : State}

theorem readByte_endStep_inside {i : Nat} (hfree : fencedAt pa s = false) (hi : i < data.length) :
    readByte (pa + i) (endStep c fn d offset (some pa) data s) = data[i] := by
  unfold endStep stepWrite
  rw [readByte_of_sameContents (sameContents_stepDone ..), readByte_of_sameContents (sameContents_of_mem (count_mem ..))]
  dsimp only
  rw [if_neg (Bool.eq_false_iff.1 hfree), readByte_of_sameContents (sameContents_enterAll ..), readByte_writeBytes_inside _ _ _ _ hi]

theorem dmaChannel_stepWrite (dest : Option Nat) : dmaChannel (stepWrite c fn d offset dest data s) c = dmaChannel s c := by
  unfold stepWrite
  split
  · rfl
  · rw [dmaChannel_of_beside (besideController_enterAll ..)]
    split
    · rfl
    · exact dmaChannel_writeBytes ..

theorem dmaChannel_stepDone (n : Nat) :
    if (dmaChannel s c).offset + n < d.length then (dmaChannel (stepDone c d n s) c).offset = (dmaChannel s c).offset + n ∧
      (dmaChannel (stepDone c d n s) c).head = (dmaChannel s c).head
    else (dmaChannel (stepDone c d n s) c).offset = 0 ∧
      (dmaChannel (stepDone c d n s) c).head = ((dmaChannel s c).head + 1) % ringSize (dmaChannel s c) := by
  unfold stepDone
  dsimp only
  split
  · rw [dmaChannel_setDmaChannel_same]
    exact ⟨rfl, rfl⟩
  · split
    · rw [dmaChannel_postDma, dmaChannel_setDmaChannel_same]
      exact ⟨rfl, rfl⟩
    · rw [dmaChannel_setDmaChannel_same]
      exact ⟨rfl, rfl⟩

end

theorem stepBytes_pos (d : Descriptor) (offset : Nat) : 0 < stepBytes d offset ∨ d.length ≤ offset := by
  have hpos (a : Nat) : 0 < toBoundary a := by unfold toBoundary; omega
  have hsrc := hpos (d.src + offset)
  have hdst := hpos (d.dst + offset)
  unfold stepBytes
  dsimp only
  split <;> omega

theorem dmaArrives_of_poison {c line fn : Nat} {s : State} {m : DmaMove} {d : Descriptor} (hmove : (dmaChannel s c).move = some m)
    (hcurrent : (dmaChannel s c).current = some d) (hfn : dmaFn c s = some fn)
    (hall : (accessesOf ((List.range m.bytes).map (fun i => m.source + i))).all
      (fun l => (m.got ++ [(line, none)]).any (fun g => decide (g.1 = l))) = true)
    (hpoison : moveData { m with got := m.got ++ [(line, none)] } = none) :
    (dmaChannel (dmaArrives c line none s) c).state = 3 := by
  simp only [dmaArrives, hmove, hcurrent, hfn, hall, hpoison, Bool.not_true, Bool.false_eq_true, ite_false, dmaChannel_postDma,
    dmaChannel_setDmaChannel_same]

/-! ## BAR2 (R55, R56) -/

/-- Where the words of a read translate. -/
def busWords (fn va words : Nat) (s : State) : List (Option Nat) :=
  ((List.range words).map (fun i => va + 4 * i)).map (fun a => physical (translate fn a false s))

theorem not_all_got_nothing {ls : List Nat} (h : ls ≠ []) :
    ¬ ls.all (fun l => ([] : List (Nat × Option (List Byte))).any (fun g => decide (g.1 = l))) = true := by
  cases ls with
  | nil => exact absurd rfl h
  | cons l ls => simp

theorem accessesOf_ne_nil {pas : List Nat} (h : pas ≠ []) : accessesOf pas ≠ [] := by
  cases pas with
  | nil => exact absurd rfl h
  | cons a pas => rw [accessesOf, List.map_cons, List.eraseDups_cons]; exact List.cons_ne_nil _ _

section

variable {linkB : Bool} {va : Nat} {s : State}

/-- The read that a BAR2_READ begins. -/
def newBusRead (linkB : Bool) (va words : Nat) (s : State) : BusRead :=
  { num := s.mem.requestNum, linkB := linkB, va := va, words := busWords (if linkB then 64 else 0) va words s, got := [] }

/-- The read waits for its accesses, which have entered. -/
def beginBusRead (linkB : Bool) (va words : Nat) (flips : List (Nat × DqFlips)) (s : State) : State :=
  enterAll spineRequester (.bar2 s.mem.requestNum) flips (busAccesses (newBusRead linkB va words s).words)
    (keepPages (if linkB then 64 else 0) ((List.range words).map (fun i => va + 4 * i))
      { s with mem := { s.mem with busReads := s.mem.busReads ++ [newBusRead linkB va words s] } })

theorem exec_bar2Read_eq (words : Nat) (flips : List (Nat × DqFlips)) :
    exec (.bar2Read linkB va words flips) s =
      match firstFault (if linkB then 64 else 0) va (4 * words) false s with
      | some (a, k) => .next (mmuFault (if linkB then 64 else 0) a k false true 0
          (answerBusRead (newBusRead linkB va words s) (beginBusRead linkB va words flips s)))
      | none => .next (answerBusRead (newBusRead linkB va words s) (beginBusRead linkB va words flips s)) := rfl

theorem answerBusRead_of_got {r : BusRead}
    (h : (busAccesses r.words).all (fun l => r.got.any (fun g => decide (g.1 = l))) = true) :
    (answerBusRead r s).out = .busRead r.linkB r.va (r.words.flatMap (busWord r.got)) :: s.out :=
  congrArg State.out (if_pos h)

theorem exec_bar2Read_of_translated {words : Nat} (flips : List (Nat × DqFlips)) (hwords : words ≠ 0)
    (hfault : firstFault (if linkB then 64 else 0) va (4 * words) false s = none) :
    ∃ s' x, exec (.bar2Read linkB va words flips) s = .next s' ∧ x ∈ s'.mem.busReads ∧ x.num = s.mem.requestNum ∧
      x.linkB = linkB ∧ x.va = va ∧ x.words.length = words ∧ s'.mem.cells = s.mem.cells := by
  have haccesses : busAccesses (newBusRead linkB va words s).words ≠ [] := by
    obtain ⟨n, rfl⟩ := Nat.exists_eq_succ_of_ne_zero hwords
    have hfirst := List.findSome?_eq_none_iff.1 hfault 0 (List.mem_range.2 (by omega))
    split at hfirst
    · cases hfirst
    next pa hpa =>
      have hword : (newBusRead linkB va (n + 1) s).words = some pa :: (newBusRead linkB va (n + 1) s).words.tail := by
        simp only [newBusRead, busWords, List.range_succ_eq_map, List.map_cons, Nat.mul_zero, hpa, physical, List.tail_cons]
      rw [hword]
      exact accessesOf_ne_nil (List.cons_ne_nil _ _)
  have hexec := (exec_bar2Read_eq (linkB := linkB) (va := va) (s := s) words flips)
  rw [hfault] at hexec
  have hwaits : answerBusRead (newBusRead linkB va words s) (beginBusRead linkB va words flips s) = _ :=
    if_neg (not_all_got_nothing haccesses)
  refine ⟨_, newBusRead linkB va words s, hexec.trans (congrArg _ hwaits), ?_, rfl, rfl, rfl, ?_, ?_⟩
  · refine List.mem_map.2 ⟨newBusRead linkB va words s, ?_, if_pos rfl⟩
    rw [beginBusRead, busReads_of_beside ((besideController_enterAll ..).trans (besideController_keepPages ..))]
    exact List.mem_append_right _ List.mem_cons_self
  · simp [newBusRead, busWords]
  · exact (sameContents_trans (sameContents_keepPages ..) (sameContents_enterAll ..)).1

theorem exec_bar2Read_of_fault {k : Nat} (flips : List (Nat × DqFlips))
    (hfault : translate (if linkB then 64 else 0) va false s = .fault k) :
    ∃ s', exec (.bar2Read linkB va 1 flips) s = .next s' ∧ (mmuPage s' (if linkB then 64 else 0)).valid = true ∧
      Output.busRead linkB va [0xFF, 0xFF, 0xFF, 0xFF] ∈ s'.out := by
  have hfirst : firstFault (if linkB then 64 else 0) va (4 * 1) false s = some (va, k) := by
    rw [firstFault, List.range_succ_eq_map, List.findSome?_cons]
    simp [hfault]
  have hwords : (newBusRead linkB va 1 s).words = [none] := by simp [newBusRead, busWords, hfault, physical]
  have hexec := exec_bar2Read_eq (linkB := linkB) (va := va) (s := s) 1 flips
  rw [hfirst] at hexec
  refine ⟨_, hexec, mmuPage_mmuFault_valid .., (outGrows_mmuFault ..).subset ?_⟩
  rw [answerBusRead_of_got (by rw [hwords]; rfl), hwords]
  exact List.mem_cons_self

theorem exec_bar2Write_byte {b : Byte} {pa : Nat} (hpa : translate (if linkB then 64 else 0) va true s = .at pa)
    (hfree : fencedAt pa s = false) :
    ∃ s', exec (.bar2Write linkB va [b]) s = .next s' ∧ readByte pa s' = b ∧ ∀ a, a ≠ pa → readByte a s' = readByte a s := by
  have hfirst : firstFault (if linkB then 64 else 0) va 1 true s = none := by
    simp [firstFault, hpa]
  have hwrite : bar2Bytes (if linkB then 64 else 0) va [b] s = writeByte pa b s := by
    simp only [bar2Bytes, hpa, hfree, Bool.false_eq_true, ite_false]
  have hexec : exec (.bar2Write linkB va [b]) s = execBar2Write linkB va [b] s := rfl
  unfold execBar2Write at hexec
  dsimp only [List.length_cons, List.length_nil, Nat.zero_add] at hexec
  rw [hfirst, hwrite] at hexec
  have hsame (fn requester : Nat) (client : MemClient) (flips : List (Nat × DqFlips)) (vas lines : List Nat) :
      sameContents (writeByte pa b s) (enterAll requester client flips lines (keepPages fn vas (writeByte pa b s))) :=
    sameContents_trans (sameContents_keepPages ..) (sameContents_enterAll ..)
  refine ⟨_, hexec, ?_, fun a ha => ?_⟩
  · exact (readByte_of_sameContents (hsame ..) pa).trans (readByte_writeByte_same ..)
  · exact (readByte_of_sameContents (hsame ..) a).trans (readByte_writeByte_other _ _ _ _ ha)

end

theorem exec_mmuTlbInval_of_fwReady {f : PciFn} {s : State} (hready : s.boot.fwReady = true) {p : MmuPage}
    (hp : p = mmuPage s (pciKey f)) :
    exec (.mmuTlbInvalAll f) s = .next (setMmuPage s (pciKey f) { p with
      busy := max p.busy 2, busySince := (if p.busy = 0 then s.now else p.busySince), tlb := [] }) ∧
    exec (.mmuTlbInvalPage f) s = .next (setMmuPage s (pciKey f) { p with
      busy := max p.busy 1, busySince := (if p.busy = 0 then s.now else p.busySince),
      tlb := p.tlb.filter (fun e => decide (p.invalVa % 2 ^ 52 / 2 ^ e.size ≠ e.page)) }) := by
  subst hp
  exact ⟨congrArg Host.Outcome.next (if_neg (not_windowsDown_of_fwReady hready)),
    congrArg Host.Outcome.next (if_neg (not_windowsDown_of_fwReady hready))⟩

section

variable {c fn : Nat} {d : Descriptor} (data : List Byte) (flips : List (Nat × DqFlips)) {s : State}

theorem takeStep_suspends {a k : Nat} {w : Bool} (h : stepFault fn d (dmaChannel s c).offset s = some (a, k, w)) :
    (takeStep c fn d data flips s).mem.cells = s.mem.cells ∧
    (c < 60 → dmaChannel (takeStep c fn d data flips s) c = { dmaChannel s c with
      state := 2, tag := d.tag, faultVa := a % 2 ^ 52, faultKind := k }) ∧
    (60 ≤ c → (dmaChannel (takeStep c fn d data flips s) c).head =
      ((dmaChannel s c).head + 1) % ringSize (dmaChannel s c)) ∧
    (mmuPage (takeStep c fn d data flips s) fn).valid = true := by
  rw [takeStep_of_fault h]
  exact ⟨(sameContents_stepFaults ..).1, dmaChannel_stepFaults_of_client, dmaHead_stepFaults_of_firmware, mmuPage_stepFaults_valid⟩

theorem takeStep_fills {pa : Nat} {u : State} (hfill : d.fill = true) (hboard : d.dstHost = false)
    (hpa : translate fn (d.dst + (dmaChannel s c).offset) true s = .at pa) (hfree : fencedAt pa s = false)
    (hu : u = takeStep c fn d data flips s) :
    (∀ i, i < stepBytes d (dmaChannel s c).offset → readByte (pa + i) u =
      BitVec.ofNat 8 (d.src / 256 ^ (((dmaChannel s c).offset + i) % 8))) ∧
    (∀ a, (a < pa ∨ pa + stepBytes d (dmaChannel s c).offset ≤ a) → readByte a u = readByte a s) ∧
    (if (dmaChannel s c).offset + stepBytes d (dmaChannel s c).offset < d.length then
      (dmaChannel u c).offset = (dmaChannel s c).offset + stepBytes d (dmaChannel s c).offset ∧
        (dmaChannel u c).head = (dmaChannel s c).head
    else (dmaChannel u c).offset = 0 ∧ (dmaChannel u c).head = ((dmaChannel s c).head + 1) % ringSize (dmaChannel s c)) := by
  rw [hu, takeStep_of_fill hfill hboard hpa]
  have hbeside := besideController_keepPages fn [d.dst + (dmaChannel s c).offset] (steppingDma c s)
  refine ⟨fun i hi => ?_, fun a ha => ?_, ?_⟩
  · rw [readByte_endStep_inside ((fencedAt_of_beside hbeside pa).trans hfree) ((length_fillBytes ..).symm ▸ hi)]
    simp only [fillBytes, List.getElem_map, List.getElem_range]
  · rw [readByte_endStep_outside fun p hp => by cases hp; rw [length_fillBytes]; exact ha,
      readByte_of_sameContents (sameContents_keepPages ..)]
    rfl
  · have hdone := dmaChannel_stepDone (c := c) (d := d) (s := count 0x090 c (fillBytes d (dmaChannel s c).offset).length none
      (stepWrite c fn d (dmaChannel s c).offset (some pa) (fillBytes d (dmaChannel s c).offset)
        (keepPages fn [d.dst + (dmaChannel s c).offset] (steppingDma c s)))) (fillBytes d (dmaChannel s c).offset).length
    rw [dmaChannel_count, dmaChannel_stepWrite, dmaChannel_of_beside hbeside, length_fillBytes] at hdone
    unfold endStep
    rw [length_fillBytes]
    exact hdone

end

/-- Settles O42: refresh, disturbance, the outer code and the scrub by what each leaves of its channel; a DMA step by whether its
addresses translate. -/
theorem memoryControllerAndDmaAct : Obligations.MemoryControllerAndDmaAct := by
  unfold Obligations.MemoryControllerAndDmaAct
  exact ⟨bankOf_refreshInterval, fun c temp s => exec_temperatureRead_of_hotter, fun c temp s => exec_temperatureRead_of_cooler,
    fun c temp s => exec_temperatureRead_of_still_hot,
    fun c sub b row requester s => exec_rowDisturbance_of_disturbed, fun c sub b row requester s => exec_rowDisturbance_of_calm,
    fun marked word data bad => length_of_rsDecode, fun marked word errs h => (rsErrors_spec h).2,
    fun c bank word s => decodeAccess_of_uncorrectable bank, fun c bank word s data b rest => decodeAccess_of_corrected bank,
    fun c bank word s data => decodeAccess_of_clean bank,
    fun flips s => exec_patrolScrub_of_due flips, fun address flips who s => ⟨_, rfl, enterRequest_read ..⟩,
    fun c drift s => exec_dqsDriftCheck_of_small, fun c drift s => exec_dqsDriftCheck_of_large,
    fun f s p hready => exec_mmuTlbInval_of_fwReady hready,
    fun c bytes data flips s fn hfn hstate hmore hturn =>
      ⟨fun d => exec_dmaStep_of_current hfn hstate hmore hturn bytes data flips,
        exec_dmaStep_of_ring hfn hstate hmore hturn bytes data flips⟩,
    fun c fn d data flips s a k w => takeStep_suspends data flips, fun c fn d data flips s pa u => takeStep_fills data flips,
    stepBytes_pos, fun c line s m d fn hmove hcurrent hfn => dmaArrives_of_poison hmove hcurrent hfn,
    fun linkB va words flips s => exec_bar2Read_of_translated flips, fun r s => answerBusRead_of_got,
    fun linkB va flips s k => exec_bar2Read_of_fault flips, fun linkB va b s pa => exec_bar2Write_byte⟩

end Sys2Proof.Machine
end
